-- ==== Sys2Proof/Word.lean ====
section
/-!
DEFINITION. The word types of the block: bytes, and the keyed lists every table of the state is held in.
-/
namespace Sys2Proof

/-- One byte of memory, a register image or a message. -/
abbrev Byte := BitVec 8

/-- A 32-bit management register (R9). -/
abbrev Word := BitVec 32

/-- Sparse data by number: `(key, value)` pairs with strictly rising keys. -/
abbrev KMap (α : Type) := List (Nat × α)

/-- `2 ^ n`, the bound of an `n`-bit field. -/
abbrev pow2 (n : Nat) : Nat := 2 ^ n

end Sys2Proof
end

