-- ==== Sys2Proof/Syntax.lean ====
section
/-!
DEFINITION. The commands of the block: one constructor per row of spec/opcode_table.json, with the operands the spec's
rule for that row gives it, and the operand records they carry.
-/
namespace Sys2Proof

/-- Who makes a register access or a control command (R456, R506). `smbus` carries the MCTP endpoint ID, `remote` the
package; `boot` is the MC acting for the boot commands of R439. -/
inductive Originator where
  | host
  | smbus (eid : Nat)
  | boot
  | jtag
  | remote (pkg : Nat)
  deriving DecidableEq, Repr

/-- Where an engine command came from: an entry of submission queue `sq` with its tag (R482), or the boot list (R439). -/
inductive CmdOrigin where
  | queue (sq tag : Nat)
  | boot
  deriving DecidableEq, Repr

/-- Who asks for a facet's context command: an originator's write of FCT_CTX_CMD or the facet sequencer (R108). -/
inductive CtxSource where
  | reg (org : Originator)
  | sequencer
  deriving DecidableEq, Repr

/-- The three networks of a facet's switch grid (R90). -/
inductive Net where
  | vector | scalar | control
  deriving DecidableEq, Repr

/-- What an entry hop moves (R92, R93): an entry at input `port` of a switch, or the head of the switch output buffer
`port` into the unit queue or FIF port it faces. -/
inductive HopPlace where
  | input (sw port : Nat)
  | output (sw port : Nat)
  deriving DecidableEq, Repr

/-- What the hardware met while a tile ran, beside what the state decides: residue mismatches (0, 1 or 2 executions
failed, R63) with the CU that met the last one, and a corrected and an uncorrected SRAM error (R86) with the unit of the
corrected one. -/
structure TileMeet where
  residue : Nat
  cu : Nat
  sramCe : Option Nat
  sramUe : Bool
  deriving DecidableEq, Repr

/-- A candidate packet of a facet to its home Prism (R168): `pairs` are (key, expert). -/
structure CandPacket where
  die : Nat
  ctx : Nat
  step : Nat
  layer : Nat
  facet : Nat
  token : Nat
  list : Nat
  lists : Nat
  pairs : List (Nat × Nat)
  deriving DecidableEq, Repr

/-- One choice of a dispatch record (R172). -/
structure Choice where
  expert : Nat
  loc : Nat
  slot : Nat
  deriving DecidableEq, Repr

/-- The record modes of R172 and R176. -/
inductive DropMode where
  | drop | spill | none
  deriving DecidableEq, Repr

/-- A DISPATCH or SPILL record (R172) with its row data and exponent bytes. -/
structure DispRec where
  ctx : Nat
  mode : DropMode
  fmt : Nat
  layer : Nat
  generation : Nat
  step : Nat
  home : Nat
  base : Nat
  c : Nat
  token : Nat
  nblk : Nat
  cap : Nat
  choices : List Choice
  data : List Byte
  exps : List Byte
  rsv : Bool
  deriving DecidableEq, Repr

/-- An END record (R172): the home package's count of DISPATCH and SPILL records for the layer. -/
structure EndRec where
  ctx : Nat
  layer : Nat
  generation : Nat
  step : Nat
  home : Nat
  count : Nat
  deriving DecidableEq, Repr

/-- An ACK record (R173); `outcomes` holds two bits per slot. -/
structure AckRec where
  ctx : Nat
  layer : Nat
  generation : Nat
  step : Nat
  owner : Nat
  token : Nat
  status : Nat
  slots : List Nat
  outcomes : Nat
  deriving DecidableEq, Repr

/-- A RETURN record (R185). -/
structure ReturnRec where
  ctx : Nat
  layer : Nat
  generation : Nat
  step : Nat
  owner : Nat
  token : Nat
  slot : Nat
  expert : Nat
  nblk : Nat
  poison : Bool
  data : List Byte
  exps : List Byte
  deriving DecidableEq, Repr

/-- A KVM command record (R222); `rsv` says that a reserved bit, or a field the op does not use, is not zero. -/
structure KvmRec where
  sharedAll : Bool
  ctx : Nat
  slot : Nat
  slot2 : Nat
  ttl : Nat
  handle : Nat
  tenant : Nat
  rsv : Bool
  deriving DecidableEq, Repr

/-- A SUBMIT record (R238). -/
structure SubmitRec where
  spec : Bool
  greedy : Bool
  pin : Bool
  new : Bool
  ctx : Nat
  draftCtx : Nat
  draftD : Nat
  slot : Nat
  draftSlot : Nat
  promptLen : Nat
  maxNew : Nat
  stop0 : Nat
  stop1 : Nat
  tenant : Nat
  notifyEvery : Nat
  promptAddr : Nat
  outAddr : Nat
  seed : Nat
  reqTag : Nat
  rsv : Bool
  deriving DecidableEq, Repr

/-- A TRAIN_LAUNCH record (R253). -/
structure TrainRec where
  pool : Nat
  ctx : Nat
  nslots : Nat
  prog : Nat
  xregs : Nat
  slots : Nat
  rsv : Bool
  deriving DecidableEq, Repr

/-- A generation command (R264), and LOAD_CTX with its home (R289). -/
structure GenRec where
  home : Nat
  ctx : Nat
  generation : Nat
  routeTbl : Nat
  decodeProg : Nat
  prefillProg : Nat
  maxPositions : Nat
  rsv : Bool
  deriving DecidableEq, Repr

/-- A manifest entry's binding as the device reads it (R305). -/
structure ShardBind where
  format : Nat
  kind : Nat
  modelId : Nat
  shardId : Nat
  offset : Nat
  length : Nat
  digest : Nat
  rsv : Bool
  deriving DecidableEq, Repr

/-- Where shard and fetch payloads come from (R307). -/
inductive LoadSource where
  | storage (port qp rkey : Nat)
  | hostMem
  | fabric
  | reserved
  deriving DecidableEq, Repr

/-- A LOAD_SHARD record (R307). -/
structure ShardRec where
  tier : Nat
  source : LoadSource
  ctx : Nat
  entryAddr : Nat
  srcAddr : Nat
  rsv : Bool
  deriving DecidableEq, Repr

/-- A FETCH record (R314). -/
structure FetchRec where
  source : LoadSource
  dst : Nat
  srcAddr : Nat
  length : Nat
  digestAddr : Nat
  rsv : Bool
  deriving DecidableEq, Repr

/-- A frame tag of the link layer (R331), with what the receiver found: `fec` says that the codeword was clean or
corrected, `good` that the CRC matched. -/
structure FrameTag where
  fpos : Nat
  ack : Nat
  nak : Bool
  ctl : Bool
  vc : Nat
  phase : Nat
  first : Bool
  last : Bool
  poison : Bool
  trunc : Bool
  crVc : Nat
  crPhase : Nat
  crCount : Nat
  fec : Bool
  good : Bool
  deriving DecidableEq, Repr

/-- The fields of the transport header (R346) that the device acts on. -/
structure PktHdr where
  dst : Nat
  src : Nat
  ptype : Nat
  vc : Nat
  rerouted : Bool
  seq : Nat
  job : Nat
  epoch : Nat
  rtag : Nat
  via : Nat
  hops : Nat
  flits : Nat
  trunc : Bool
  deriving DecidableEq, Repr

/-- A LOAD, STORE or ATOMIC request body (R351); `poison` is the mark of its data flit (R331). -/
structure MemReq where
  addr : Nat
  len : Nat
  aop : Nat
  noReturn : Bool
  opnd0 : Nat
  opnd1 : Nat
  data : List Byte
  rsv : Bool
  poison : Bool
  deriving DecidableEq, Repr

/-- A bulk request body (R362); `off` is the offset that a BULK_DATA names, `poison` the data flits of 256 bytes that are
marked poisoned. -/
structure BulkReq where
  addr : Nat
  len : Nat
  retAddr : Nat
  off : Nat
  data : List Byte
  poison : List Nat
  deriving DecidableEq, Repr

/-- A RESPONSE body (R352). -/
structure RespBody where
  status : Nat
  kind : Nat
  addr : Nat
  old : Nat
  data : List Byte
  poison : Bool
  deriving DecidableEq, Repr

/-- One entry of a GW_BATCH (R360); `noReturn` carries the ATOMIC's flag of R351, `poison` its data's mark. -/
structure GwEntry where
  op : Nat
  aux : Nat
  src : Nat
  dst : Nat
  rtag : Nat
  addr : Nat
  len : Nat
  job : Nat
  seq : Nat
  opnd0 : Nat
  opnd1 : Nat
  noReturn : Bool
  data : List Byte
  poison : Bool
  deriving DecidableEq, Repr

/-- A teardown vector (R365): `dead` is the 144-bit map of packages. -/
structure TdVector where
  nonce : Nat
  job : Nat
  reason : Nat
  dead : Nat
  rsv : Bool
  deriving DecidableEq, Repr

/-- A HEARTBEAT (R377). -/
structure HbMsg where
  count : Nat
  state : Nat
  appliance : Nat
  lost : Nat
  deriving DecidableEq, Repr

/-- A mirror entry (R384) with its payload. -/
structure MirEntry where
  kind : Nat
  seed : Bool
  ctx : Nat
  slot : Nat
  page : Nat
  first : Nat
  n : Nat
  group : Nat
  payload : List Byte
  deriving DecidableEq, Repr

/-- A RECOVER record (R388). -/
structure RecoverRec where
  ctx : Nat
  nextDecode : Nat
  nextPrefill : Nat
  dead : Nat
  rsv : Bool
  deriving DecidableEq, Repr

/-- What the estimator reads over one 2 µs sample (R406): the event counts of the nine dynamic weights in CD0, in CD1 and
in the IOD. -/
structure PowerSample where
  counts0 : List Nat
  counts1 : List Nat
  countsIod : List Nat
  deriving DecidableEq, Repr

/-- A session request (R458): `status` byte 1, `args` bytes 8 to 15 and `body` bytes 16 to 127 as one number each. -/
structure SessMsg where
  status : Nat
  session : Nat
  tag : Nat
  args : Nat
  body : Nat
  deriving DecidableEq, Repr

/-- The resets of R428 that the PCIe side can take. -/
inductive PcieResetKind where
  | perst | hotReset | linkDown | flr | d3hotReturn
  deriving DecidableEq, Repr

/-- What a device read of host memory served (R479, R269 of the table): the operation that needed the data. -/
inductive HostReadUse where
  | sqEntry (sq : Nat)
  | prompt (slot : Nat)
  | manifest (load : Nat)
  | payload (load : Nat)
  | other
  deriving DecidableEq, Repr

/-- A memory access of BAR4 (R478). -/
structure Bar4Access where
  write : Bool
  off : Nat
  len : Nat
  data : List Byte
  deriving DecidableEq, Repr

/-- A control or PLDM request's header as R494 uses it: the destination EID and the PEC check. -/
structure MctpReq where
  eid : Nat
  dest : Nat
  pecOk : Bool
  deriving DecidableEq, Repr

/-- The unserved requests that R494 to R496 answer or discard. -/
inductive MctpOther where
  | control (cmd : Nat)
  | pldm (type cmd : Nat)
  | vendorKind (kind : Nat)
  | foreignVendor
  | messageType (type : Nat)
  deriving DecidableEq, Repr

/-- A facet fence request's cause (R396, FCT_FENCE_STATUS.reason). -/
inductive FenceCause where
  | auto (reason : Nat)
  | command (org : Originator)
  deriving DecidableEq, Repr

/-- Who asks a sequencer to stand down (R150). -/
inductive StandDownBy where
  | shutter | focus
  deriving DecidableEq, Repr

/-- How a teardown vector arrived (R365): on port `p`, or by the BAR0 window. -/
inductive TdArrival where
  | port (p : Nat)
  | window (org : Originator)
  deriving DecidableEq, Repr

/-- A flit of the on-die network (R24): its channel, where it entered, its destination router with the local port there,
and, for another die, the edge routers at which the path leaves and enters; `tag` tells flits apart. -/
structure NocFlit where
  vc : Nat
  srcDie : Nat
  srcRouter : Nat
  dstDie : Nat
  dstRouter : Nat
  dstLocal : Nat
  exit : Nat
  entry : Nat
  tag : Nat
  deriving DecidableEq, Repr

/-- One move of the on-die network: a grant at a router output of one plane, a crossing of the die-to-die module at an
edge router, or an injection by the source at a router's local port; `since` counts the NCLK cycles since that source's
last VC5 injection. -/
inductive NocPlace where
  | mesh (die router out plane : Nat)
  | d2d (die router plane : Nat)
  | inject (die router loc since : Nat) (flit : Option NocFlit)
  deriving DecidableEq, Repr

/-- The outcome of a Reticle sample's comparison (R65, R66): whether the recomputed outputs agree (exact) or lie within
the tolerance given by the element differences (fidelity). `diffs` are |wide − recomputed| and `refs` |recomputed| in
units of the output, from which the state decides. -/
structure SampleResult where
  equal : Bool
  diffSum : Nat
  refSum : Nat
  residueOk : Bool
  deriving DecidableEq, Repr

/-- An RDMA READ response packet of a loader queue pair, or a NAK (R311). -/
structure RdmaResp where
  port : Nat
  qp : Nat
  nak : Bool
  icrcOk : Bool
  ecnCe : Bool
  data : List Byte
  deriving DecidableEq, Repr

/-- An IDENT control frame (R329). -/
structure IdentFrame where
  package : Nat
  port : Nat
  appliance : Nat
  ready : Bool
  deriving DecidableEq, Repr

/-- An ADOPT_ALL record (R389). -/
structure AdoptRec where
  ctx : Nat
  source : Nat
  resultAddr : Nat
  rsv : Bool
  deriving DecidableEq, Repr

/-- The commands of the block. The comment at each constructor gives its row of the table and the rule that governs it. -/
inductive Instr where
  /-- REGISTER_WRITE (R10). -/
  | registerWrite (org : Originator) (off width enables value : Nat)
  /-- IRREGULAR_REGISTER_READ (R9). -/
  | irregularRegisterRead (org : Originator) (off width enables : Nat)
  /-- COUNTER_LO_READ (R523). -/
  | counterLoRead (org : Originator) (off : Nat)
  /-- COUNTER_CLEAR (R524). -/
  | counterClear (org : Originator) (mask : Nat)
  /-- DC_PROBE (R20). -/
  | dcProbe (dc0 dc1 dci : Bool)
  /-- UNIT_FIRE (R96). -/
  | unitFire (f unit : Nat)
  /-- CU_RESULT (R82). -/
  | cuResult (f unit : Nat)
  /-- AG_FIRE (R128). -/
  | agFire (f mu ag : Nat)
  /-- ENTRY_HOP (R93). -/
  | entryHop (f : Nat) (net : Net) (place : HopPlace)
  /-- STEER_PAIR (R100). -/
  | steerPair (f sw : Nat)
  /-- DEADLOCK_DETECT (R109). -/
  | deadlockDetect (f region : Nat)
  /-- SPILL_COMPLETE (R110). -/
  | spillComplete (f : Nat)
  /-- SPILL_REFILL (R111). -/
  | spillRefill (f queue : Nat)
  /-- CONTEXT_LOAD (R108). -/
  | contextLoad (src : CtxSource) (f slot : Nat)
  /-- CONTEXT_LOAD_DONE (R105). -/
  | contextLoadDone (f : Nat)
  /-- CONTEXT_SWITCH (R108). -/
  | contextSwitch (src : CtxSource) (f slot : Nat)
  /-- CONTEXT_SWITCH_EFFECT (R106). -/
  | contextSwitchEffect (f : Nat)
  /-- CONTEXT_INVALIDATE (R108). -/
  | contextInvalidate (src : CtxSource) (f slot : Nat)
  /-- CONTEXT_WINDOW_WRITE (R122). -/
  | contextWindowWrite (org : Originator) (f slot off data : Nat)
  /-- FCT_SPILL_WRITE (R113). -/
  | fctSpillWrite (org : Originator) (f value : Nat)
  /-- SCAN_OUT (R115). -/
  | scanOut (org : Originator) (f : Nat) (storage : Bool)
  /-- SCAN_IN (R117). -/
  | scanIn (org : Originator) (f : Nat)
  /-- SCAN_RELEASE (R115). -/
  | scanRelease (org : Originator) (f : Nat)
  /-- SCAN_TRANSFER_DONE (R115). -/
  | scanTransferDone (f : Nat)
  /-- DESCRIPTOR_WINDOW_WRITE (R132). -/
  | descriptorWindowWrite (org : Originator) (f mu off data : Nat)
  /-- LAUNCH_START (R251). -/
  | launchStart (pool : Nat)
  /-- MATMUL (R135). -/
  | matmul (f : Nat)
  /-- GATED_FFN (R135). -/
  | gatedFfn (f : Nat)
  /-- ATTENTION (R204). -/
  | attention (f : Nat)
  /-- GATE_CAND (R164). -/
  | gateCand (f : Nat)
  /-- COPY (R135). -/
  | copyTile (f : Nat)
  /-- SETX (R135). -/
  | setx (f : Nat)
  /-- LOADX (R135). -/
  | loadx (f : Nat)
  /-- BARRIER (R149). -/
  | barrier (f : Nat)
  /-- END (R149). -/
  | endInstr (f : Nat)
  /-- BARRIER_RELEASE (R149). -/
  | barrierRelease (f : Nat)
  /-- TILE_CLAIM (R146). -/
  | tileClaim (f : Nat)
  /-- TILE_FINISH (R147). -/
  | tileFinish (f : Nat) (meet : TileMeet)
  /-- TILE_REPORT (R147). -/
  | tileReport (f : Nat)
  /-- TILE_RETURN (R148). -/
  | tileReturn (f : Nat)
  /-- TILE_COUNTER_RESET (R156). -/
  | tileCounterReset (org : Originator) (c : Nat)
  /-- STAND_DOWN_REQUEST (R150). -/
  | standDownRequest (f : Nat) (who : StandDownBy)
  /-- FACET_JOIN_POOL (R151). -/
  | facetJoinPool (f : Nat)
  /-- RETICLE_SAMPLE_DONE (R65). -/
  | reticleSampleDone (die : Nat) (r : SampleResult)
  /-- FALLBACK_WINDOW_AGE (R70). -/
  | fallbackWindowAge
  /-- FORCE_FALLBACK (R76). -/
  | forceFallback (org : Originator) (ctx layer : Nat)
  /-- RESTORE (R76). -/
  | restoreLayer (org : Originator) (ctx layer : Nat)
  /-- CLEAR (R76). -/
  | clearLayer (org : Originator) (ctx layer : Nat)
  /-- CANDIDATE_PACKET (R168). -/
  | candidatePacket (p : CandPacket)
  /-- DISPATCH (R176). -/
  | dispatchRec (r : DispRec)
  /-- SPILL (R182). -/
  | spillRec (r : DispRec)
  /-- ACK (R180). -/
  | ackRec (r : AckRec)
  /-- LAYER_END_SEND (R184). -/
  | layerEndSend (ctx step layer : Nat)
  /-- END_RECORD (R178). -/
  | endRecord (r : EndRec)
  /-- RETURN_ROW_WRITTEN (R185). -/
  | returnRowWritten (ctx step layer generation loc row : Nat)
  /-- RETURN (R185). -/
  | returnRec (r : ReturnRec)
  /-- CLOSE_TIMEOUT (R189). -/
  | closeTimeout (ctx step layer : Nat)
  /-- RETURN_TIMEOUT (R189). -/
  | returnTimeout (ctx step layer token : Nat)
  /-- PUBLISH (R223). -/
  | publish (from_ : CmdOrigin) (r : KvmRec)
  /-- TAKE_UP (R223). -/
  | takeUp (from_ : CmdOrigin) (r : KvmRec)
  /-- RETIRE (R223). -/
  | retire (from_ : CmdOrigin) (r : KvmRec)
  /-- FORK (R223). -/
  | fork (from_ : CmdOrigin) (r : KvmRec)
  /-- FREE_SEQ (R225). -/
  | freeSeq (from_ : CmdOrigin) (r : KvmRec)
  /-- PAUSE (R227). -/
  | pause (from_ : CmdOrigin) (r : KvmRec)
  /-- PAUSE_MOVE_DONE (R227). -/
  | pauseMoveDone (slot : Nat)
  /-- RESUME (R227). -/
  | resume (from_ : CmdOrigin) (r : KvmRec)
  /-- RESUME_MOVE_DONE (R227). -/
  | resumeMoveDone (slot : Nat)
  /-- TOUCH (R223). -/
  | touch (from_ : CmdOrigin) (r : KvmRec)
  /-- TTL_CHECK (R228). -/
  | ttlCheck
  /-- KVM_EXPIRED_READ (R231). -/
  | kvmExpiredRead (org : Originator)
  /-- PFT_INIT (R216). -/
  | pftInit
  /-- EPOCH_ADVANCE (R218). -/
  | epochAdvance
  /-- RECLAIM (R219). -/
  | reclaim
  /-- INVALIDATE_ALL (R232). -/
  | invalidateAll (org : Originator)
  /-- INVALIDATE_CONTEXT (R232). -/
  | invalidateContext (org : Originator) (ctx : Nat)
  /-- INVALIDATE_RANGE (R232). -/
  | invalidateRange (org : Originator) (pages : Nat)
  /-- MMU_INV_DONE (R232). -/
  | mmuInvDone
  /-- SUBMIT (R241). -/
  | submit (from_ : CmdOrigin) (r : SubmitRec)
  /-- CANCEL (R245). -/
  | cancel (from_ : CmdOrigin) (r : SubmitRec)
  /-- BUDGET_TICK (R240). -/
  | budgetTick
  /-- ADMISSION_INTERVAL_TICK (R243). -/
  | admissionIntervalTick
  /-- ADMISSION_WAIT_EXPIRE (R242). -/
  | admissionWaitExpire
  /-- STEP_BUILD (R248). -/
  | stepBuild (ctx series : Nat)
  /-- STEP_CENSUS (R247). -/
  | stepCensus (src step ctx tokens pmax : Nat)
  /-- CENSUS_TIMEOUT (R247). -/
  | censusTimeout (ctx series : Nat)
  /-- STEP_LAUNCH_WRITE (R249). -/
  | stepLaunchWrite (ctx series : Nat)
  /-- IDLE_WAIT_EXPIRE (R247). -/
  | idleWaitExpire (ctx series : Nat)
  /-- DRAFT_PASS_NEXT (R258). -/
  | draftPassNext (ctx : Nat)
  /-- STEP_COMMIT (R255). -/
  | stepCommit (ctx series : Nat)
  /-- TRAIN_LAUNCH (R253). -/
  | trainLaunch (from_ : CmdOrigin) (r : TrainRec)
  /-- TRAIN_LAUNCH_END (R253). -/
  | trainLaunchEnd (ctx : Nat)
  /-- FOCUS_PERIOD (R262). -/
  | focusPeriod
  /-- STAGE_GEN (R264). -/
  | stageGen (from_ : CmdOrigin) (r : GenRec)
  /-- ACTIVATE_GEN (R264). -/
  | activateGen (from_ : CmdOrigin) (r : GenRec)
  /-- RETIRE_GEN (R264). -/
  | retireGen (from_ : CmdOrigin) (r : GenRec)
  /-- TIER2_TRAINING_DONE (R275). -/
  | tier2TrainingDone (modules : Nat) (channelsOk : Bool)
  /-- TIER_SCRUB_READ (R279). -/
  | tierScrubRead (tier line symbols : Nat)
  /-- CONDENSER_FILL_START (R284). -/
  | condenserFillStart (ring : Nat)
  /-- UNIT_FILL_DONE (R284). -/
  | unitFillDone (ring : Nat)
  /-- LOAD_CTX (R289). -/
  | loadCtx (from_ : CmdOrigin) (r : GenRec)
  /-- UNLOAD_CTX (R292). -/
  | unloadCtx (from_ : CmdOrigin) (ctx : Nat) (rsv : Bool)
  /-- PROMOTE (R290). -/
  | promote (from_ : CmdOrigin) (ctx : Nat) (rsv : Bool)
  /-- PROMOTE_COPY_DONE (R290). -/
  | promoteCopyDone (ctx : Nat)
  /-- DEMOTE (R291). -/
  | demote (from_ : CmdOrigin) (ctx : Nat) (rsv : Bool)
  /-- DEMOTE_COMPLETE (R291). -/
  | demoteComplete (ctx : Nat)
  /-- PREEMPT (R294). -/
  | preempt (from_ : CmdOrigin) (ctx : Nat) (rsv : Bool)
  /-- PREEMPT_COMPLETE (R294). -/
  | preemptComplete (ctx : Nat)
  /-- CREDIT_RESERVATION_RETURN (R295). -/
  | creditReservationReturn (ctx : Nat)
  /-- ACQUIRE (R296). -/
  | acquire (from_ : CmdOrigin) (ctx sem : Nat) (wait rsv : Bool)
  /-- RELEASE (R296). -/
  | release (from_ : CmdOrigin) (ctx sem : Nat) (rsv : Bool)
  /-- SEM_HORIZON_EXPIRE (R297). -/
  | semHorizonExpire (sem : Nat)
  /-- INTERFERENCE_WINDOW (R298). -/
  | interferenceWindow
  /-- LOAD_SHARD (R309). -/
  | loadShard (from_ : CmdOrigin) (r : ShardRec)
  /-- RDMA_READ_RESPONSE (R311). -/
  | rdmaReadResponse (r : RdmaResp)
  /-- CHUNK_HASH_DONE (R306). -/
  | chunkHashDone (load : Nat)
  /-- SHARD_LOAD_COMPLETE (R310). -/
  | shardLoadComplete (load : Nat)
  /-- FETCH (R314). -/
  | fetch (from_ : CmdOrigin) (r : FetchRec)
  /-- FETCH_COMPLETE (R314). -/
  | fetchComplete (load : Nat)
  /-- SHARD_SCRUB_PASS (R315). -/
  | shardScrubPass
  /-- SHARD_SCRUB_CHECK (R316). -/
  | shardScrubCheck
  /-- SHD_BAD_READ (R323). -/
  | shdBadRead (org : Originator)
  /-- LINK_DETECT (R328). -/
  | linkDetect (port lanes : Nat)
  /-- LINK_EQUALISE_DONE (R328). -/
  | linkEqualiseDone (port : Nat)
  /-- LINK_LOCK_DONE (R328). -/
  | linkLockDone (port : Nat)
  /-- LINK_TRAIN_FAIL (R328). -/
  | linkTrainFail (port : Nat)
  /-- IDENT_SEND_TICK (R329). -/
  | identSendTick (port : Nat)
  /-- IDENT (R329). -/
  | ident (port : Nat) (r : IdentFrame)
  /-- DATA_FLIT_RECEIVE (R332). -/
  | dataFlitReceive (port : Nat) (t : FrameTag) (hdr : PktHdr)
  /-- RETRAIN_REQ (R395). -/
  | retrainReq (port width : Nat)
  /-- LOCK_LOSS (R334). -/
  | lockLoss (port : Nat)
  /-- PORT_RETRAIN (R334). -/
  | portRetrain (org : Originator) (port : Nat)
  /-- RETRAIN_LIMIT_EXPIRE (R334). -/
  | retrainLimitExpire (port : Nat)
  /-- LANE_ERROR_WINDOW (R394). -/
  | laneErrorWindow (port : Nat) (corrected : List Nat) (unlocked : Nat)
  /-- PACKET_FORWARD (R341). -/
  | packetForward (inPort : Nat) (h : PktHdr)
  /-- LOAD (R354). -/
  | fabLoad (h : PktHdr) (r : MemReq)
  /-- STORE (R354). -/
  | fabStore (h : PktHdr) (r : MemReq)
  /-- ATOMIC (R353). -/
  | fabAtomic (h : PktHdr) (r : MemReq)
  /-- RESPONSE (R352). -/
  | fabResponse (h : PktHdr) (r : RespBody)
  /-- BULK_WRITE (R362). -/
  | bulkWrite (h : PktHdr) (r : BulkReq)
  /-- BULK_READ (R362). -/
  | bulkRead (h : PktHdr) (r : BulkReq)
  /-- BULK_DATA (R362). -/
  | bulkData (h : PktHdr) (r : BulkReq)
  /-- GW_BATCH (R360). -/
  | gwBatch (h : PktHdr) (entries : List GwEntry)
  /-- GW_BATCH_CLOSE (R360). -/
  | gwBatchClose (pkg dir : Nat)
  /-- HOME_AGENT_PERFORM (R355). -/
  | homeAgentPerform (input : Nat)
  /-- E2E_ACK (R350). -/
  | e2eAck (src about : Nat) (bases : List Nat)
  /-- E2E_ACK_DELAY_EXPIRE (R350). -/
  | e2eAckDelayExpire (src : Nat)
  /-- FAB_FENCE (R357). -/
  | fabFence (org : Originator) (dst : Nat)
  /-- FENCE_COMPLETE (R357). -/
  | fenceComplete
  /-- FENCE_TIMEOUT (R357). -/
  | fenceTimeout (facet : Option Nat)
  /-- FABRIC_REQUEST_TIMEOUT (R364). -/
  | fabricRequestTimeout (rtag : Nat)
  /-- RETRY_BACKOFF_EXPIRE (R363). -/
  | retryBackoffExpire (rtag : Nat)
  /-- ROUTE_EPOCH_SWITCH (R345). -/
  | routeEpochSwitch (pkg : Nat)
  /-- LINK_STATE_TICK (R341). -/
  | linkStateTick
  /-- LINK_STATE (R341). -/
  | linkState (src gmap : Nat)
  /-- TEARDOWN_VECTOR (R365). -/
  | teardownVector (arr : TdArrival) (v : TdVector)
  /-- HEARTBEAT_TICK (R377). -/
  | heartbeatTick
  /-- HEARTBEAT (R378). -/
  | heartbeat (src : Nat) (m : HbMsg)
  /-- PEER_SUSPECT_TIMEOUT (R378). -/
  | peerSuspectTimeout (peer : Nat)
  /-- PEER_LOST_TIMEOUT (R378). -/
  | peerLostTimeout (peer : Nat)
  /-- HB_CLEAR (R378). -/
  | hbClear (org : Originator) (pkg : Nat)
  /-- ISOLATE_CLEAR (R381). -/
  | isolateClear (org : Originator)
  /-- FATAL_STOP (R376). -/
  | fatalStop
  /-- MIRROR_ENTRY_APPLY (R385). -/
  | mirrorEntryApply (ring : Nat) (e : MirEntry)
  /-- MIRROR_TIMEOUT (R386). -/
  | mirrorTimeout (peer : Nat)
  /-- RECOVER (R388). -/
  | recover (from_ : CmdOrigin) (r : RecoverRec)
  /-- ADOPT_ALL (R389). -/
  | adoptAll (from_ : CmdOrigin) (r : AdoptRec)
  /-- DROP_MIRROR (R390). -/
  | dropMirror (from_ : CmdOrigin) (source : Nat) (rsv : Bool)
  /-- RESYNC (R390). -/
  | resync (from_ : CmdOrigin) (ctx : Nat) (rsv : Bool)
  /-- FENCE (R397). -/
  | fenceFacet (f : Nat) (cause : FenceCause)
  /-- UNFENCE (R399). -/
  | unfenceFacet (org : Originator) (f : Nat)
  /-- POWER_SAMPLE (R409). -/
  | powerSample (p : PowerSample)
  /-- SHUTTER_GATE (R412). -/
  | shutterGate (f : Nat)
  /-- SHUTTER_UNGATE_START (R412). -/
  | shutterUngateStart (f : Nat)
  /-- SHUTTER_UNGATE_DONE (R412). -/
  | shutterUngateDone (f : Nat)
  /-- OPP_EVALUATE (R415). -/
  | oppEvaluate (die : Nat)
  /-- OPP_CHANGE_COMPLETE (R415). -/
  | oppChangeComplete (die : Nat)
  /-- IDLE_ENTRY (R417). -/
  | idleEntry
  /-- WAKE (R418). -/
  | wake
  /-- THERMAL_SENSOR_UPDATE (R420). -/
  | thermalSensorUpdate (sensor temp : Nat)
  /-- THROTTLE_STEP (R420). -/
  | throttleStep (die : Nat)
  /-- THERMAL_TRIP (R421). -/
  | thermalTrip (sensor : Nat)
  /-- POWER_ON_RESET (R428). -/
  | powerOnReset
  /-- START_UP (R426). -/
  | startUp (smbAddr : Nat)
  /-- SYS_RST_PULSE (R426). -/
  | sysRstPulse
  /-- PWR_OK_LOSS (R427). -/
  | pwrOkLoss
  /-- PACKAGE_RESET_CMD (R449). -/
  | packageResetCmd (org : Originator) (value : Nat)
  /-- PCIE_RESET (R429). -/
  | pcieReset (kind : PcieResetKind)
  /-- PCIE_LINK_UP (R476). -/
  | pcieLinkUp (speed width : Nat) (msix : Bool)
  /-- IMAGE_SLOT_CHECK (R434). -/
  | imageSlotCheck (readOk : Bool)
  /-- CONFIGURATION_READY (R437). -/
  | configurationReady
  /-- FABRIC_READY (R437). -/
  | fabricReady
  /-- BOOT_COMMAND_ISSUE (R439). -/
  | bootCommandIssue
  /-- BEGIN (R442). -/
  | beginTxn (org : Originator)
  /-- COMMIT (R443). -/
  | commitTxn (org : Originator)
  /-- ABORT (R442). -/
  | abortTxn (org : Originator)
  /-- TRANSACTION_TIMEOUT (R444). -/
  | transactionTimeout
  /-- EXPERT_DROP (R446). -/
  | expertDrop (org : Originator)
  /-- OPEN (R461). -/
  | openSession (org : Originator) (m : SessMsg)
  /-- AUTH (R461). -/
  | authSession (org : Originator) (m : SessMsg)
  /-- CLOSE (R462). -/
  | closeSession (org : Originator) (m : SessMsg)
  /-- SET_DEBUG (R466). -/
  | setDebug (org : Originator) (m : SessMsg)
  /-- SET_EXPERT (R446). -/
  | setExpert (org : Originator) (m : SessMsg)
  /-- KEY_WRITE (R453). -/
  | keyWrite (org : Originator) (m : SessMsg)
  /-- KEY_REVOKE (R453). -/
  | keyRevoke (org : Originator) (m : SessMsg)
  /-- IMGKEY_WRITE (R454). -/
  | imgkeyWrite (org : Originator) (m : SessMsg)
  /-- IMGKEY_REVOKE (R454). -/
  | imgkeyRevoke (org : Originator) (m : SessMsg)
  /-- SVN_ADVANCE (R460). -/
  | svnAdvance (org : Originator) (m : SessMsg)
  /-- LIFECYCLE_ADVANCE (R452). -/
  | lifecycleAdvance (org : Originator) (m : SessMsg)
  /-- FUSE_WRITE_DONE (R455). -/
  | fuseWriteDone
  /-- CHALLENGE_EXPIRE (R461). -/
  | challengeExpire (entry : Nat)
  /-- SESSION_IDLE_TIMEOUT (R462). -/
  | sessionIdleTimeout (entry : Nat)
  /-- SESSION_LOCKOUT_EXPIRE (R463). -/
  | sessionLockoutExpire (slot : Nat)
  /-- TRST (R462). -/
  | trst
  /-- JTAG_INSTRUCTION (R470). -/
  | jtagInstruction (code : Nat)
  /-- DBG_BUS (R470). -/
  | dbgBus (write : Bool) (off value : Nat)
  /-- TEST_MODE (R471). -/
  | testMode
  /-- LOUPE_SELECT (R468). -/
  | loupeSelect (org : Originator) (value : Nat)
  /-- LOUPE_FRAME (R467). -/
  | loupeFrame
  /-- SQ_DOORBELL (R485). -/
  | sqDoorbell (n value : Nat)
  /-- CQ_DOORBELL (R485). -/
  | cqDoorbell (n value : Nat)
  /-- BAR2_IRREGULAR_ACCESS (R485). -/
  | bar2IrregularAccess (write : Bool) (off width value : Nat)
  /-- SQ_FETCH (R484). -/
  | sqFetch (n : Nat) (ok : Bool)
  /-- SQ_ENABLE (R481). -/
  | sqEnable (org : Originator) (n value : Nat)
  /-- CQ_ENABLE (R481). -/
  | cqEnable (org : Originator) (n value : Nat)
  /-- CQ_COAL_TIMEOUT (R489). -/
  | cqCoalTimeout (n : Nat)
  /-- BAR4_ACCESS (R478). -/
  | bar4Access (a : Bar4Access)
  /-- HOST_READ_TIMEOUT (R479). -/
  | hostReadTimeout (use : HostReadUse)
  /-- ETH_LINK_UP (R490). -/
  | ethLinkUp (port : Nat)
  /-- QP_TO_RTS (R491). -/
  | qpToRts (org : Originator) (port qp : Nat)
  /-- QP_TO_RESET (R491). -/
  | qpToReset (org : Originator) (port qp : Nat)
  /-- QP_RATE_TIMER (R492). -/
  | qpRateTimer (port qp : Nat)
  /-- SET_ENDPOINT_ID (R494). -/
  | setEndpointId (q : MctpReq) (eid : Nat)
  /-- GET_ENDPOINT_ID (R494). -/
  | getEndpointId (q : MctpReq)
  /-- GET_MCTP_VERSION_SUPPORT (R494). -/
  | getMctpVersionSupport (q : MctpReq) (type : Nat)
  /-- GET_MESSAGE_TYPE_SUPPORT (R494). -/
  | getMessageTypeSupport (q : MctpReq)
  /-- GET_VENDOR_DEFINED_MESSAGE_SUPPORT (R494). -/
  | getVendorDefinedMessageSupport (q : MctpReq) (selector : Nat)
  /-- GETTID (R495). -/
  | gettid (q : MctpReq)
  /-- GETPLDMVERSION (R495). -/
  | getpldmversion (q : MctpReq) (type : Nat)
  /-- GETPLDMTYPES (R495). -/
  | getpldmtypes (q : MctpReq)
  /-- GETPLDMCOMMANDS (R495). -/
  | getpldmcommands (q : MctpReq) (type : Nat)
  /-- GETPDRREPOSITORYINFO (R495). -/
  | getpdrrepositoryinfo (q : MctpReq)
  /-- GETPDR (R495). -/
  | getpdr (q : MctpReq) (handle : Nat)
  /-- GETSENSORREADING (R495). -/
  | getsensorreading (q : MctpReq) (sensor : Nat)
  /-- GETSTATESENSORREADINGS (R495). -/
  | getstatesensorreadings (q : MctpReq) (sensor : Nat)
  /-- VENDOR_REGISTER_READ (R496). -/
  | vendorRegisterRead (q : MctpReq) (off : Nat)
  /-- VENDOR_REGISTER_WRITE (R496). -/
  | vendorRegisterWrite (q : MctpReq) (off value mask : Nat)
  /-- SPI_READ (R498). -/
  | spiRead (org : Originator) (len : Nat)
  /-- SPI_PROGRAM (R498). -/
  | spiProgram (org : Originator) (len : Nat)
  /-- SPI_ERASE_4K (R498). -/
  | spiErase4k (org : Originator)
  /-- SPI_ERASE_64K (R498). -/
  | spiErase64k (org : Originator)
  /-- SPI_COMMAND_DONE (R498). -/
  | spiCommandDone (ok : Bool)
  /-- EVENT_ACCEPT (R512). -/
  | eventAccept
  /-- EVENT_RATE_WINDOW (R514). -/
  | eventRateWindow
  /-- EVENT_RING_DRAIN (R515). -/
  | eventRingDrain
  /-- EVT_RING_HEAD_WRITE (R519). -/
  | evtRingHeadWrite (org : Originator) (value : Nat)
  /-- MSIX_PENDING_SEND (R516). -/
  | msixPendingSend (vector : Nat)
  /-- NOC_FLIT_HOP (R26). -/
  | nocFlitHop (p : NocPlace)
  /-- FRAME_SEND (R335). -/
  | frameSend (port : Nat)
  /-- PROMOTE_FRONT_ADVANCE (R290). -/
  | promoteFrontAdvance (ctx pages : Nat)
  /-- MC_UP (R437). -/
  | mcUp
  /-- SMBUS_RESPONDER_READY (R437). -/
  | smbusResponderReady
  /-- VDD_AON_REMOVAL (R421). -/
  | vddAonRemoval
  /-- ETH_LINK_DOWN (R490). -/
  | ethLinkDown (port : Nat)
  /-- CNP_RECEIVE (R492). -/
  | cnpReceive (port qp : Nat)
  /-- RDMA_ACK_TIMEOUT (R311). -/
  | rdmaAckTimeout (port qp : Nat)
  /-- INCOMING_RDMA_REQUEST (R311). -/
  | incomingRdmaRequest (port qp : Nat)
  /-- ETH_FRAME_DISCARD (R490). -/
  | ethFrameDiscard (port : Nat)
  /-- PFC_PAUSE_FRAME (R490). -/
  | pfcPauseFrame (port prio : Nat) (pause : Bool)
  /-- HOST_READ_COMPLETION (R479). -/
  | hostReadCompletion (use : HostReadUse) (data : List Byte)
  /-- D3HOT_ENTRY (R476). -/
  | d3hotEntry
  /-- MCTP_UNSUPPORTED_COMMAND (R494). -/
  | mctpUnsupportedCommand (q : MctpReq) (what : MctpOther)
  deriving DecidableEq, Repr

end Sys2Proof
end

