-- ==== Sys2Proof/Decode.lean ====
section
/-! DEFINITION. The commands that words spell: the table gives no row any bits, so none. -/
namespace Sys2Proof

/-- The command a word of `nbits` bits spells by the table's bits. No row of the table has bits. (DESIGN CHOICE: log entry 1) -/
def decodeTableWord (_nbits _w : Nat) : Option Instr := none

end Sys2Proof
end

