-- ==== Sys2Proof/Config.lean ====
section
/-!
DEFINITION. What the spec fixes for no part: the free values. Each is a constant without a body, so that no proof can
see what it is; each has its entry in the assumption log.
-/
namespace Sys2Proof.Config

/-- A fresh open value: applied to the free-value counter of the state. -/
opaque freshNat : Nat → Nat

/-- The result a CU operation leaves open: by op, modifier and the operand words (R81, R103). (DEDUCED: log entry 31) -/
opaque cuResult : Nat → Nat → List Nat → Nat

/-- The LFSR of R64, whose polynomial the spec does not give: the next register value from the present one. -/
opaque lfsrNext : Nat → Nat

/-- The SHA-384 digest of a message as a 384-bit number (R306): no length or value of it is used but equality. (DESIGN CHOICE: log entry 12) -/
opaque sha384 : List (BitVec 8) → Nat

/-- HMAC-SHA-384 of R461: from the key and the message, a 384-bit number. (DESIGN CHOICE: log entry 12) -/
opaque hmac384 : Nat → Nat → Nat

/-- The row of outputs of a GATED_FFN tile (R138), whose intermediate rounding the spec leaves open. (DESIGN CHOICE: log entry 41) -/
opaque ffnRow : List Nat → List Nat

/-- How many combine elements of a tile saturate at the window of R50: open as the values of R138 are. (DESIGN CHOICE: log entry 41) -/
opaque combineClamps : List Nat → Nat

/-- R406's f_die × 2^((T − 85) ÷ 20) in millionths, from the die and the temperature in 1/16 °C: f_die is fused at test. -/
opaque leakFactor : Nat → Nat → Nat

/-- The voltage trim fused for a die (R414), in steps of 5 mV. -/
opaque voltageTrim : Nat → Nat

/-- What another package's memory holds, as a facet reads it through a translation (R34): by free-value counter and
global address. (DESIGN CHOICE: log entry 33) -/
opaque remoteByte : Nat → Nat → BitVec 8

/-- The storage order of a weight tensor, which the compiler chooses (R39): from the blocks per column, the columns, the
column and the block along the reduction, the block's index in the streams. -/
opaque blockOrder : Nat → Nat → Nat → Nat → Nat

/-- Where a mirror peer keeps the ring of this source (R385), which the source has no register for: base and bytes. (DESIGN CHOICE: log entry 59) -/
opaque peerRing : Nat → Nat × Nat

/-- Where a mirror's source keeps the acknowledgement word of this peer (R385), which the peer has no register for. (DESIGN CHOICE: log entry 59) -/
opaque ackWord : Nat → Nat

/-- ECDSA P-384 verification of R433: from the 96-byte public key, the digest, r and s. (DESIGN CHOICE: log entry 12) -/
opaque ecdsaVerify : Nat → Nat → Nat → Nat → Bool

end Sys2Proof.Config
end

