-- ==== Sys2Proof/Machine/Registers.lean ====
section
/-!
DEFINITION. The register map of BAR0 (R505): every register the spec's tables lay out, its fields with their access
types (R10), resets, ranges and levels (R445), the counters' places (R78), and the events of R511 with their classes.
The tables' rows stand here in the chapters' order; an instance array is its strides and counts.
-/
namespace Sys2Proof.Machine

/-- The access types of R10. -/
inductive AccType where
  | ro | rw | rwl | w1c | w1s | wo | rc | sat
  deriving DecidableEq, Repr

/-- One field of a register: bits `[hi:lo]`, access type, reset value, the range a write must lie in, and its level. -/
structure FieldDef where
  hi : Nat
  lo : Nat
  ty : AccType
  rst : Nat
  min : Nat
  max : Nat
  expert : Bool
  deriving DecidableEq, Repr

/-- A register, or an array of registers: `dims` holds (stride, count) from the widest stride down; `rsts` the reset of
each instance where it differs from one to the next. -/
structure RegDef where
  off : Nat
  dims : List (Nat × Nat)
  rsts : List Nat
  fields : List FieldDef
  deriving DecidableEq, Repr

/-- A field by name: the BAR0 offset of instance 0 and its bits. -/
structure FieldRef where
  off : Nat
  hi : Nat
  lo : Nat
  deriving DecidableEq, Repr

/-- A field of full range. -/
abbrev fd (hi lo : Nat) (ty : AccType) (rst : Nat) (expert : Bool := false) : FieldDef :=
  ⟨hi, lo, ty, rst, 0, 2 ^ (hi - lo + 1) - 1, expert⟩

/-- Block GLB (0): GLB_ID, GLB_STATUS, GLB_SCRATCH, GLB_US_LO, GLB_US_HI, GLB_MS, GLB_ACCESS, GLB_CNT_CLEAR. -/
def regsGlb : List RegDef :=
  [ ⟨0, [], [], [fd 15 0 .ro 0x4896, fd 23 16 .ro 0xB0]⟩
  , ⟨8, [], [], [fd 0 0 .ro 0, fd 1 1 .ro 0, fd 2 2 .ro 0, fd 3 3 .ro 0, fd 4 4 .ro 0, fd 7 5 .ro 0, fd 9 8 .ro 0, fd 11 10 .ro 0, fd 12 12 .ro 0]⟩
  , ⟨0xC, [], [], [fd 31 0 .rw 0]⟩
  , ⟨0x10, [], [], [fd 31 0 .ro 0]⟩
  , ⟨0x14, [], [], [fd 31 0 .ro 0]⟩
  , ⟨0x18, [], [], [fd 31 0 .ro 0]⟩
  , ⟨0x20, [], [], [fd 25 0 .ro 0, fd 28 26 .ro 0, fd 30 29 .ro 0, fd 31 31 .w1c 0]⟩
  , ⟨0x24, [], [], [fd 23 0 .wo 0]⟩ ]

/-- Block CFG (1): CFG_TXN_CMD, CFG_TXN_STATUS, CFG_TXN_OWNER, CFG_TXN_FAIL, CFG_TXN_TMO, CFG_LEVEL, CFG_BOOT, CFG_BOOT_TIME, CFG_IMG_STATUS, CFG_IMG_ID_LO, CFG_IMG_ID_HI, CFG_IMG_SVN. -/
def regsCfg : List RegDef :=
  [ ⟨0x100000, [], [], [fd 1 0 .wo 0]⟩
  , ⟨0x100004, [], [], [fd 1 0 .ro 0, fd 3 2 .ro 0, fd 15 8 .ro 0, fd 29 16 .ro 0, fd 30 30 .ro 0]⟩
  , ⟨0x100008, [], [], [fd 7 0 .ro 0]⟩
  , ⟨0x10000C, [], [], [fd 25 0 .ro 0]⟩
  , ⟨0x100010, [], [], [⟨15, 0, .rw, 0x3E8, 1, 0xFFFF, false⟩]⟩
  , ⟨0x100014, [], [], [fd 0 0 .ro 0, fd 1 1 .w1s 0, fd 15 8 .ro 0]⟩
  , ⟨0x100020, [], [], [fd 3 0 .ro 0, fd 4 4 .ro 0, fd 5 5 .ro 0, fd 6 6 .ro 0, fd 17 8 .ro 0, fd 31 24 .ro 0]⟩
  , ⟨0x100024, [], [], [fd 15 0 .ro 0, fd 31 16 .ro 0]⟩
  , ⟨0x100028, [], [], [fd 0 0 .ro 0, fd 1 1 .ro 0, fd 2 2 .ro 0, fd 15 8 .ro 0, fd 23 16 .ro 0]⟩
  , ⟨0x10002C, [], [], [fd 31 0 .ro 0]⟩
  , ⟨0x100030, [], [], [fd 31 0 .ro 0]⟩
  , ⟨0x100034, [], [], [fd 31 0 .ro 0]⟩ ]

/-- Block SEC (2): SEC_LIFECYCLE, SEC_PART_ID_LO, SEC_PART_ID_HI, SEC_KEY_n, SEC_IMGKEY_n, SEC_LOCK_n, SEC_SESS_n, SEC_SESS_IDLE_n, SEC_REMOTE_RD, SEC_REMOTE_WR, SEC_MBOX_CMD, SEC_MBOX_STATUS, SEC_MBOX_REQ, SEC_MBOX_RSP. -/
def regsSec : List RegDef :=
  [ ⟨0x200000, [], [], [fd 1 0 .ro 0, fd 14 8 .ro 0]⟩
  , ⟨0x200004, [], [], [fd 31 0 .ro 0]⟩
  , ⟨0x200008, [], [], [fd 31 0 .ro 0]⟩
  , ⟨0x200010, [(4, 8)], [], [fd 1 0 .ro 0, fd 15 8 .ro 0, fd 20 16 .ro 0]⟩
  , ⟨0x200030, [(4, 5)], [], [fd 1 0 .ro 0]⟩
  , ⟨0x200050, [(4, 8)], [], [fd 16 0 .ro 0]⟩
  , ⟨0x200080, [(8, 4)], [], [fd 7 0 .ro 0, fd 9 8 .ro 0, fd 23 16 .ro 0, fd 26 24 .ro 0, fd 27 27 .ro 0]⟩
  , ⟨0x200084, [(8, 4)], [], [fd 9 0 .ro 0]⟩
  , ⟨0x2000A0, [], [], [fd 23 0 .rw 0x7FFFBB]⟩
  , ⟨0x2000A4, [], [], [fd 23 0 .rw 0]⟩
  , ⟨0x2000C0, [], [], [fd 0 0 .w1s 0]⟩
  , ⟨0x2000C4, [], [], [fd 0 0 .ro 0]⟩
  , ⟨0x200100, [(4, 32)], [], [fd 31 0 .rw 0]⟩
  , ⟨0x200180, [(4, 32)], [], [fd 31 0 .ro 0]⟩ ]

/-- Block PWR (3): PWR_CTRL, PWR_CAP, PWR_CAP2, PWR_EST, PWR_SHUT, PWR_SHUT_STATUS, PWR_GATEDn, PWR_OPP_ph, PWR_OPP_STATUS, PWR_TRAIN, PWR_STATE, PWR_LTR, PWR_THERM, PWR_TEMP_MAX, PWR_TEMP_n, PWR_W_k. -/
def regsPwr : List RegDef :=
  [ ⟨0x300000, [], [], [fd 0 0 .rw 1]⟩
  , ⟨0x300004, [], [], [⟨10, 0, .rw, 0x415, 0x12C, 0x415, false⟩, ⟨26, 16, .rw, 0x564, 0x12C, 0x564, true⟩]⟩
  , ⟨0x300008, [], [], [⟨7, 0, .rw, 0xA, 1, 0xFF, true⟩, fd 15 8 .rw 0x28 true]⟩
  , ⟨0x30000C, [], [], [fd 10 0 .ro 0, fd 26 16 .ro 0]⟩
  , ⟨0x300010, [], [], [⟨6, 0, .rw, 0x10, 2, 0x40, false⟩, ⟨11, 8, .rw, 4, 1, 0xF, true⟩, ⟨19, 16, .rw, 8, 1, 8, true⟩]⟩
  , ⟨0x300014, [], [], [fd 6 0 .ro 0, fd 14 8 .ro 0, fd 19 16 .ro 0, fd 23 20 .ro 0]⟩
  , ⟨0x300018, [(4, 3)], [], [fd 31 0 .ro 0]⟩
  , ⟨0x300040, [(4, 6)], [3, 5, 3, 4, 1, 0], [fd 2 0 .rw 0]⟩
  , ⟨0x300058, [], [], [fd 2 0 .ro 0, fd 6 4 .ro 0, fd 10 8 .ro 5, fd 14 12 .ro 5]⟩
  , ⟨0x30005C, [], [], [fd 15 0 .rw 0]⟩
  , ⟨0x300060, [], [], [⟨2, 0, .rw, 4, 0, 4, false⟩, fd 6 4 .ro 0, ⟨23, 8, .rw, 0x64, 1, 0xFFFF, false⟩]⟩
  , ⟨0x300064, [], [], [fd 19 0 .rw 0]⟩
  , ⟨0x300070, [], [], [⟨7, 0, .rw, 0x5F, 0x3C, 0x68, false⟩, ⟨15, 8, .rw, 0x69, 0x3D, 0x6E, false⟩, ⟨23, 16, .rw, 0x5A, 0x3C, 0x64, false⟩]⟩
  , ⟨0x300074, [], [], [fd 7 0 .ro 0, fd 15 8 .ro 0, fd 23 16 .ro 0, fd 31 24 .ro 0]⟩
  , ⟨0x300100, [(4, 48)], [], [fd 15 0 .ro 0]⟩
  , ⟨0x300200, [(4, 14)], [0x1C2, 0x3C, 0x28, 6, 0x12C, 0x19, 4, 0x1D6, 0x384, 0x4B0, 0x4650, 0xA28, 0x2710, 0x15F90], [fd 15 0 .rw 0 true]⟩ ]

/-- Block CLK (4): CLK_RST_CMD, CLK_RST_CAUSE, CLK_STATUS. -/
def regsClk : List RegDef :=
  [ ⟨0x400000, [], [], [fd 1 0 .wo 0 true, fd 31 24 .wo 0]⟩
  , ⟨0x400004, [], [], [fd 0 0 .w1c 1, fd 1 1 .w1c 0, fd 2 2 .w1c 0, fd 3 3 .w1c 0, fd 4 4 .w1c 0]⟩
  , ⟨0x400008, [], [], [fd 7 0 .ro 0, fd 15 8 .ro 0]⟩ ]

/-- Block EVT (5): EVT_CTRL, EVT_RING_LO, EVT_RING_HI, EVT_RING_SIZE, EVT_RING_HEAD, EVT_RING_TAIL, EVT_STATUS, EVT_ALERT, EVT_LAST. -/
def regsEvt : List RegDef :=
  [ ⟨0x500000, [], [], [fd 0 0 .rw 0, ⟨15, 8, .rw, 0x10, 1, 0xFF, false⟩]⟩
  , ⟨0x500004, [], [], [fd 31 6 .rw 0]⟩
  , ⟨0x500008, [], [], [fd 31 0 .rw 0]⟩
  , ⟨0x50000C, [], [], [⟨4, 0, .rw, 0xC, 6, 0x10, false⟩]⟩
  , ⟨0x500010, [], [], [fd 15 0 .rw 0]⟩
  , ⟨0x500014, [], [], [fd 15 0 .ro 0]⟩
  , ⟨0x500018, [], [], [fd 8 0 .ro 0, fd 9 9 .w1c 0, fd 10 10 .ro 0]⟩
  , ⟨0x50001C, [], [], [fd 0 0 .w1c 0, fd 4 1 .w1c 0]⟩
  , ⟨0x500040, [(4, 16)], [], [fd 31 0 .ro 0]⟩ ]

/-- Block DBG (6): DBG_LEVEL, DBG_CTRL, DBG_LOUPE, DBG_LOUPE_STATUS, DBG_JTAG_STATUS. -/
def regsDbg : List RegDef :=
  [ ⟨0x600000, [], [], [fd 1 0 .ro 0, fd 15 8 .ro 0]⟩
  , ⟨0x600004, [], [], [fd 0 0 .rw 0]⟩
  , ⟨0x600008, [], [], [fd 7 0 .rw 0, fd 15 8 .rw 0, ⟨23, 16, .rw, 4, 4, 0xFF, false⟩, fd 24 24 .rw 0]⟩
  , ⟨0x60000C, [], [], [fd 7 0 .ro 0, fd 11 8 .ro 0]⟩
  , ⟨0x600010, [], [], [fd 0 0 .w1c 0, fd 15 8 .ro 1]⟩ ]

/-- Block HQ (7): HQ_CTRL, HQ_SQ_BASE_LO, HQ_SQ_BASE_HI, HQ_SQ_CFG, HQ_SQ_STATUS, HQ_CQ_BASE_LO, HQ_CQ_BASE_HI, HQ_CQ_CFG, HQ_CQ_COAL, HQ_CQ_STATUS, HQ_MSIX_ADDR_LO, HQ_MSIX_ADDR_HI, HQ_MSIX_DATA, HQ_MSIX_CTRL, HQ_MSIX_PBA. -/
def regsHq : List RegDef :=
  [ ⟨0x800000, [], [], [fd 0 0 .rw 1, ⟨15, 8, .rw, 8, 1, 0xFF, true⟩]⟩
  , ⟨0x810000, [(0x20, 1024)], [], [fd 31 12 .rw 0]⟩
  , ⟨0x810004, [(0x20, 1024)], [], [fd 30 0 .rw 0]⟩
  , ⟨0x810008, [(0x20, 1024)], [], [⟨15, 0, .rw, 0, 1, 0xFFFF, false⟩, fd 25 16 .rw 0, fd 26 26 .rw 0]⟩
  , ⟨0x81000C, [(0x20, 1024)], [], [fd 15 0 .ro 0, fd 16 16 .ro 0]⟩
  , ⟨0x830000, [(0x20, 1024)], [], [fd 31 12 .rw 0]⟩
  , ⟨0x830004, [(0x20, 1024)], [], [fd 30 0 .rw 0]⟩
  , ⟨0x830008, [(0x20, 1024)], [], [⟨15, 0, .rw, 0, 1, 0xFFFF, false⟩, fd 26 16 .rw 0, fd 27 27 .rw 0, fd 28 28 .rw 0]⟩
  , ⟨0x83000C, [(0x20, 1024)], [], [fd 7 0 .rw 0, fd 23 8 .rw 0]⟩
  , ⟨0x830010, [(0x20, 1024)], [], [fd 15 0 .ro 0, fd 16 16 .ro 1, fd 17 17 .ro 0]⟩
  , ⟨0x880000, [(0x10, 2048)], [], [fd 31 2 .rw 0]⟩
  , ⟨0x880004, [(0x10, 2048)], [], [fd 31 0 .rw 0]⟩
  , ⟨0x880008, [(0x10, 2048)], [], [fd 31 0 .rw 0]⟩
  , ⟨0x88000C, [(0x10, 2048)], [], [fd 0 0 .rw 1]⟩
  , ⟨0x890000, [(4, 64)], [], [fd 31 0 .ro 0]⟩ ]

/-- Block SEQ (8): SEQ_TABLE_LO, SEQ_TABLE_HI, SEQ_STEP_CFG, SEQ_FOCUS_CTRL, SEQ_FOCUS_LIM, SEQ_FOCUS_TGT, SEQ_FOCUS_STATUS, SEQ_POOLn, SEQ_CTX_CTRL, SEQ_CTX_LIMITS, SEQ_CTX_PREFILL, SEQ_CTX_CKPT, SEQ_CTX_SHAPE, SEQ_CTX_AREA_LO, SEQ_CTX_AREA_HI, SEQ_CTX_AREA_SIZE, SEQ_CTX_TMPL_LO, SEQ_CTX_TMPL_HI, SEQ_CTX_GEN, SEQ_CTX_GEN_STATUS, SEQ_CTX_STEP_DEC, SEQ_CTX_STEP_PRE, SEQ_CTX_ACTIVE. -/
def regsSeq : List RegDef :=
  [ ⟨0x1000000, [], [], [fd 31 12 .rwl 0]⟩
  , ⟨0x1000004, [], [], [fd 15 0 .rwl 0]⟩
  , ⟨0x1000008, [], [], [⟨15, 0, .rw, 0xC8, 0xA, 0xFFFF, true⟩, ⟨31, 16, .rw, 0x32, 1, 0xFFFF, true⟩]⟩
  , ⟨0x1000010, [], [], [fd 0 0 .rw 1, ⟨15, 8, .rw, 5, 1, 0xFF, true⟩, fd 19 16 .rw 2 true, ⟨30, 24, .rw, 0xA, 0, 0x64, true⟩]⟩
  , ⟨0x1000014, [], [], [⟨6, 0, .rw, 4, 4, 0x40, false⟩, ⟨14, 8, .rw, 8, 4, 0x40, false⟩, ⟨22, 16, .rw, 8, 4, 0x44, false⟩]⟩
  , ⟨0x1000018, [], [], [⟨15, 0, .rw, 0x1388, 0x64, 0xFFFF, false⟩, ⟨31, 16, .rw, 0x40, 1, 0xFFFF, false⟩]⟩
  , ⟨0x100001C, [], [], [fd 6 0 .ro 8, fd 7 7 .ro 0, fd 14 8 .ro 0x40, fd 17 16 .ro 0, fd 27 24 .ro 0]⟩
  , ⟨0x1000020, [(4, 3)], [], [fd 31 0 .ro 0]⟩
  , ⟨0x1000100, [(0x40, 16)], [], [fd 0 0 .rw 0, fd 1 1 .rwl 0, fd 7 4 .rwl 0]⟩
  , ⟨0x1000104, [(0x40, 16)], [], [⟨15, 0, .rwl, 0x100, 1, 0xFFFF, false⟩, ⟨31, 16, .rw, 0x100, 1, 0xFFFF, false⟩]⟩
  , ⟨0x1000108, [(0x40, 16)], [], [⟨15, 0, .rw, 0x800, 1, 0xFFFF, false⟩, ⟨31, 16, .rwl, 0x4000, 1, 0xFFFF, false⟩]⟩
  , ⟨0x100010C, [(0x40, 16)], [], [fd 15 0 .rwl 0 true, ⟨23, 16, .rwl, 0, 1, 0xFF, true⟩, fd 31 24 .rwl 0 true]⟩
  , ⟨0x1000110, [(0x40, 16)], [], [⟨8, 0, .rwl, 0, 0, 0x100, true⟩, ⟨23, 16, .rwl, 0, 1, 0x80, true⟩]⟩
  , ⟨0x1000114, [(0x40, 16)], [], [fd 31 6 .rwl 0 true]⟩
  , ⟨0x1000118, [(0x40, 16)], [], [fd 15 0 .rwl 0 true]⟩
  , ⟨0x100011C, [(0x40, 16)], [], [fd 31 0 .rwl 0 true]⟩
  , ⟨0x1000120, [(0x40, 16)], [], [fd 31 6 .rwl 0 true]⟩
  , ⟨0x1000124, [(0x40, 16)], [], [fd 15 0 .rwl 0 true]⟩
  , ⟨0x1000128, [(0x40, 16)], [], [fd 15 0 .ro 0, fd 31 16 .ro 0]⟩
  , ⟨0x100012C, [(0x40, 16)], [], [fd 0 0 .ro 0, fd 2 1 .ro 0, fd 31 8 .ro 0]⟩
  , ⟨0x1000130, [(0x40, 16)], [], [fd 31 0 .ro 0]⟩
  , ⟨0x1000134, [(0x40, 16)], [], [fd 31 0 .ro 0x80000000]⟩
  , ⟨0x1000138, [(0x40, 16)], [], [fd 18 0 .ro 0]⟩ ]

/-- Block ADM (9): ADM_CTRL, ADM_QCFG, ADM_MAXWAIT, ADM_STATUS, ADM_INTERVAL, ADM_T_RATE, ADM_T_CAP, ADM_T_BAL, ADM_T_CTL. -/
def regsAdm : List RegDef :=
  [ ⟨0x1100000, [], [], [fd 0 0 .rw 1]⟩
  , ⟨0x1100004, [], [], [⟨12, 0, .rw, 0x100, 1, 0x1000, false⟩, fd 28 16 .rw 0x40]⟩
  , ⟨0x1100008, [], [], [⟨15, 0, .rw, 0x1388, 1, 0xFFFF, false⟩]⟩
  , ⟨0x110000C, [], [], [fd 12 0 .ro 0, fd 28 16 .ro 0]⟩
  , ⟨0x1100010, [], [], [fd 31 0 .ro 0x186A0]⟩
  , ⟨0x1110000, [(0x10, 4096)], [], [fd 31 0 .rw 0]⟩
  , ⟨0x1110004, [(0x10, 4096)], [], [fd 30 0 .rw 0]⟩
  , ⟨0x1110008, [(0x10, 4096)], [], [fd 31 0 .ro 0]⟩
  , ⟨0x111000C, [(0x10, 4096)], [], [fd 0 0 .rw 0, fd 1 1 .rw 1]⟩ ]

/-- Block PRS (10): PRS_CTRL, PRS_TIMEOUT, PRS_STATUS, PRS_GEN, PRS_TBL_LO, PRS_TBL_HI, PRS_POLICY_n. -/
def regsPrs : List RegDef :=
  [ ⟨0x1200000, [], [], [fd 0 0 .rw 1, ⟨2, 1, .rw, 0, 0, 2, false⟩, fd 3 3 .rw 0, fd 7 4 .rw 0, ⟨15, 8, .rw, 0x20, 0x10, 0xFF, false⟩]⟩
  , ⟨0x1200010, [], [], [⟨15, 0, .rw, 0x3E8, 0xA, 0xFFFF, true⟩, ⟨31, 16, .rw, 0x3E8, 0xA, 0xFFFF, true⟩]⟩
  , ⟨0x1200014, [], [], [fd 6 0 .ro 0, fd 15 8 .ro 0, fd 31 16 .ro 0]⟩
  , ⟨0x1200100, [(0x20, 16), (0x10, 2)], [], [fd 15 0 .ro 0, fd 16 16 .ro 0]⟩
  , ⟨0x1200108, [(0x20, 16), (0x10, 2)], [], [fd 31 0 .ro 0]⟩
  , ⟨0x120010C, [(0x20, 16), (0x10, 2)], [], [fd 31 0 .ro 0]⟩
  , ⟨0x1200040, [(4, 16)], [], [fd 0 0 .rw 0, ⟨2, 1, .rw, 0, 0, 2, false⟩, fd 3 3 .rw 0, fd 7 4 .rw 0, ⟨15, 8, .rw, 0x20, 0x10, 0xFF, false⟩, fd 31 16 .rw 0 true]⟩ ]

/-- Block KVM (11) part 1: KVM_POOL1_BASE_LO, KVM_POOL1_BASE_HI, KVM_POOL1_COUNT, KVM_POOL2_BASE_LO, KVM_POOL2_BASE_HI, KVM_POOL2_COUNT, KVM_PFT_BASE_LO, KVM_PFT_BASE_HI, KVM_DIR_BASE_LO, KVM_DIR_BASE_HI, KVM_LOWATER, KVM_FREE1, KVM_FREE2, KVM_QUAR, KVM_EPOCH, KVM_OLDEST, KVM_DIR_USED, KVM_EXPIRED, KVM_MIR_CTRL, KVM_MIR_PEERS, KVM_MIR_TMO, KVM_MIR_IN_LO, KVM_MIR_IN_HI, KVM_MIR_IN_SIZE. -/
def regsKvmA : List RegDef :=
  [ ⟨0x1300000, [], [], [fd 31 16 .rwl 0 true]⟩
  , ⟨0x1300004, [], [], [fd 15 0 .rwl 0 true]⟩
  , ⟨0x1300008, [], [], [⟨22, 0, .rwl, 0, 0, 0x600000, false⟩]⟩
  , ⟨0x1300010, [], [], [fd 31 16 .rwl 0 true]⟩
  , ⟨0x1300014, [], [], [fd 15 0 .rwl 0 true]⟩
  , ⟨0x1300018, [], [], [⟨25, 0, .rwl, 0, 0, 0x2000000, false⟩]⟩
  , ⟨0x1300020, [], [], [fd 31 12 .rwl 0 true]⟩
  , ⟨0x1300024, [], [], [fd 15 0 .rwl 0 true]⟩
  , ⟨0x1300028, [], [], [fd 31 12 .rwl 0 true]⟩
  , ⟨0x130002C, [], [], [fd 15 0 .rwl 0 true]⟩
  , ⟨0x1300030, [], [], [fd 22 0 .rw 0x10000]⟩
  , ⟨0x1300034, [], [], [fd 22 0 .ro 0]⟩
  , ⟨0x1300038, [], [], [fd 25 0 .ro 0]⟩
  , ⟨0x130003C, [], [], [fd 25 0 .ro 0]⟩
  , ⟨0x1300040, [], [], [fd 31 0 .ro 0]⟩
  , ⟨0x1300044, [], [], [fd 31 0 .ro 0]⟩
  , ⟨0x1300048, [], [], [fd 16 0 .ro 0]⟩
  , ⟨0x130004C, [], [], [fd 17 0 .rc 0, fd 31 31 .rc 0]⟩
  , ⟨0x1300200, [], [], [fd 0 0 .rw 0, ⟨3, 1, .rw, 2, 1, 7, false⟩, fd 23 8 .rw 0]⟩
  , ⟨0x1300204, [], [], [fd 31 0 .rwl 0xFFFFFFFF]⟩
  , ⟨0x1300208, [], [], [⟨15, 0, .rw, 0x2710, 0x64, 0xFFFF, true⟩]⟩
  , ⟨0x1300210, [(0x10, 4)], [], [fd 31 16 .rwl 0]⟩
  , ⟨0x1300214, [(0x10, 4)], [], [fd 15 0 .rwl 0]⟩
  , ⟨0x1300218, [(0x10, 4)], [], [fd 15 0 .rwl 0]⟩ ]

/-- Block KVM (11) part 2: KVM_MIR_IN_SRC, KVM_MIR_TABLE_LO, KVM_MIR_TABLE_HI, KVM_MIR_ACKW_LO, KVM_MIR_ACKW_HI, KVM_MIR_STATUS, KVM_MIR_SAFE_n, KVM_MIR_SAFE_PRE. -/
def regsKvmB : List RegDef :=
  [ ⟨0x130021C, [(0x10, 4)], [], [fd 7 0 .rwl 0, fd 8 8 .rwl 0]⟩
  , ⟨0x1300250, [], [], [fd 31 12 .rwl 0]⟩
  , ⟨0x1300254, [], [], [fd 15 0 .rwl 0]⟩
  , ⟨0x1300258, [], [], [fd 31 5 .rwl 0]⟩
  , ⟨0x130025C, [], [], [fd 15 0 .rwl 0]⟩
  , ⟨0x1300260, [], [], [fd 3 0 .ro 0]⟩
  , ⟨0x1300280, [(8, 16)], [], [fd 31 0 .ro 0]⟩
  , ⟨0x1300284, [(8, 16)], [], [fd 31 0 .ro 0x80000000]⟩ ]

/-- Block TIER (12): TIER_T1_STATUS, TIER_T2_CFG, TIER_T2_STATUS, TIER_SCRUB, TIER_COND. -/
def regsTier : List RegDef :=
  [ ⟨0x1400000, [], [], [fd 7 0 .ro 0]⟩
  , ⟨0x1400004, [], [], [fd 1 0 .rwl 0]⟩
  , ⟨0x1400008, [], [], [fd 15 0 .ro 0, fd 16 16 .ro 0]⟩
  , ⟨0x140000C, [], [], [⟨7, 0, .rw, 0x18, 1, 0xFF, false⟩, fd 8 8 .rw 1]⟩
  , ⟨0x1400010, [], [], [fd 0 0 .rw 1, fd 1 1 .rw 1 true]⟩ ]

/-- Block SHD (13): SHD_CTRL, SHD_SCRUB, SHD_TABLE_LO, SHD_TABLE_HI, SHD_STATUS, SHD_BAD, SHD_CTX_MODEL_LO, SHD_CTX_MODEL_HI, SHD_CTX_ADP_LO, SHD_CTX_ADP_HI, SHD_CTX_FUSE_LO, SHD_CTX_FUSE_HI, SHD_CTX_FUSE_N, SHD_CTX_ADP_N. -/
def regsShd : List RegDef :=
  [ ⟨0x1500000, [], [], [fd 0 0 .rw 0]⟩
  , ⟨0x1500004, [], [], [⟨10, 0, .rw, 0x1E, 1, 0x5A0, false⟩, fd 11 11 .rw 1]⟩
  , ⟨0x1500008, [], [], [fd 31 12 .rwl 0]⟩
  , ⟨0x150000C, [], [], [fd 15 0 .rwl 0]⟩
  , ⟨0x1500010, [], [], [fd 5 0 .ro 0, fd 6 6 .ro 0, fd 7 7 .w1c 0, fd 22 8 .ro 0]⟩
  , ⟨0x1500014, [], [], [fd 13 0 .rc 0, fd 31 31 .rc 0]⟩
  , ⟨0x1500100, [(0x20, 16)], [], [fd 31 0 .rwl 0]⟩
  , ⟨0x1500104, [(0x20, 16)], [], [fd 31 0 .rwl 0]⟩
  , ⟨0x1500108, [(0x20, 16)], [], [fd 31 4 .rwl 0]⟩
  , ⟨0x150010C, [(0x20, 16)], [], [fd 19 0 .rwl 0]⟩
  , ⟨0x1500110, [(0x20, 16)], [], [fd 31 4 .rwl 0 true]⟩
  , ⟨0x1500114, [(0x20, 16)], [], [fd 15 0 .rwl 0 true]⟩
  , ⟨0x1500118, [(0x20, 16)], [], [⟨10, 0, .rwl, 0, 0, 0x400, true⟩]⟩
  , ⟨0x150011C, [(0x20, 16)], [], [fd 12 0 .ro 0]⟩ ]

/-- Block RES (14): RES_CTRL, RES_STATUS, RES_CTX_STATE, RES_CTX_T0, RES_CTX_T1FIX, RES_CTX_T1FIX_SIZE, RES_CTX_T1W, RES_CTX_WSIZE, RES_CTX_T2, RES_CTX_STREAM, RES_CTX_STREAM_N, RES_CTX_CARRY, RES_CTX_SERVEn, RES_CTX_FRONT, RES_CTX_SLOW, RES_SEM_n. -/
def regsRes : List RegDef :=
  [ ⟨0x1600000, [], [], [⟨15, 0, .rw, 0xC8, 1, 0xFFFF, false⟩, ⟨23, 16, .rw, 0x64, 1, 0xFF, false⟩]⟩
  , ⟨0x1600004, [], [], [fd 4 0 .ro 0, fd 28 16 .ro 0]⟩
  , ⟨0x1601000, [(0x80, 16)], [], [fd 1 0 .ro 0, fd 3 2 .ro 0]⟩
  , ⟨0x1601004, [(0x80, 16)], [], [fd 10 0 .rwl 0, fd 26 16 .rwl 0]⟩
  , ⟨0x1601008, [(0x80, 16)], [], [fd 22 0 .rwl 0]⟩
  , ⟨0x160100C, [(0x80, 16)], [], [fd 22 0 .rwl 0]⟩
  , ⟨0x1601010, [(0x80, 16)], [], [fd 22 0 .rwl 0]⟩
  , ⟨0x1601014, [(0x80, 16)], [], [fd 25 0 .rwl 0]⟩
  , ⟨0x1601018, [(0x80, 16)], [], [fd 25 0 .rwl 0]⟩
  , ⟨0x160101C, [(0x80, 16)], [], [fd 22 0 .rwl 0 true]⟩
  , ⟨0x1601020, [(0x80, 16)], [], [⟨10, 0, .rwl, 0, 0, 0x400, true⟩]⟩
  , ⟨0x1601024, [(0x80, 16)], [], [fd 17 0 .rwl 0 true]⟩
  , ⟨0x1601028, [(0x80, 16), (4, 5)], [], [fd 31 0 .rwl 0]⟩
  , ⟨0x160103C, [(0x80, 16)], [], [fd 25 0 .ro 0]⟩
  , ⟨0x1601040, [(0x80, 16)], [], [fd 15 0 .ro 0x100, fd 31 16 .rw 0]⟩
  , ⟨0x1608000, [(4, 4096)], [], [fd 0 0 .ro 0, fd 7 4 .ro 0, fd 11 8 .ro 0, fd 12 12 .ro 0, fd 20 16 .ro 0]⟩ ]

/-- Block FAB (15) part 1: FAB_ID, FAB_APPL_LO, FAB_APPL_HI, FAB_CTRL, FAB_TMO, FAB_ACKCFG, FAB_CRED0, FAB_CRED1, FAB_CRED2, FAB_HOT, FAB_HOT_LINE_LO, FAB_HOT_LINE_HI, FAB_HOT_DEPTH, FAB_FENCE, FAB_FENCE_STATUS, FAB_TD_STATUS, FAB_TD_INFO, FAB_TEARDOWN, FAB_GRT_LO_g, FAB_GRT_HI_g, FAB_GMAP_m, FAB_EPOCH_p, FAB_CTX_JOB, FAB_CTX_RSV. -/
def regsFabA : List RegDef :=
  [ ⟨0x1800000, [], [], [fd 7 0 .ro 0, fd 11 8 .ro 0, fd 15 12 .ro 0, fd 20 16 .ro 0]⟩
  , ⟨0x1800004, [], [], [fd 31 0 .ro 0]⟩
  , ⟨0x1800008, [], [], [fd 31 0 .ro 0]⟩
  , ⟨0x180000C, [], [], [fd 0 0 .rw 1, fd 1 1 .rw 1, fd 15 8 .rw 0x40 true, ⟨23, 16, .rw, 0x14, 1, 0xFF, true⟩]⟩
  , ⟨0x1800010, [], [], [⟨15, 0, .rw, 0x1F4, 0xA, 0xFFFF, false⟩, ⟨31, 16, .rw, 0x1388, 0xA, 0xFFFF, false⟩]⟩
  , ⟨0x1800014, [], [], [⟨6, 0, .rw, 0x40, 1, 0x7F, true⟩, ⟨19, 8, .rw, 0x1F4, 0x32, 0xFFF, true⟩]⟩
  , ⟨0x1800018, [], [], [fd 11 0 .rwl 0xA0 true, fd 23 12 .rwl 0xA0 true]⟩
  , ⟨0x180001C, [], [], [fd 11 0 .rwl 0xA0 true, fd 23 12 .rwl 0xA0 true]⟩
  , ⟨0x1800020, [], [], [fd 11 0 .rwl 0xA0 true, fd 23 12 .rwl 8 true]⟩
  , ⟨0x1800024, [], [], [⟨15, 0, .rw, 0x40, 1, 0xFFFF, false⟩]⟩
  , ⟨0x1800028, [], [], [fd 31 6 .ro 0]⟩
  , ⟨0x180002C, [], [], [fd 19 0 .ro 0, fd 23 20 .ro 0, fd 31 31 .w1c 0]⟩
  , ⟨0x1800030, [], [], [fd 15 0 .ro 0]⟩
  , ⟨0x1800034, [], [], [fd 7 0 .wo 0, fd 8 8 .wo 0]⟩
  , ⟨0x1800038, [], [], [fd 7 0 .ro 0, fd 8 8 .ro 0]⟩
  , ⟨0x1800040, [], [], [fd 31 0 .ro 0]⟩
  , ⟨0x1800044, [], [], [fd 15 0 .ro 0, fd 16 16 .ro 0, fd 31 24 .ro 0]⟩
  , ⟨0x1800080, [(4, 16)], [], [fd 31 0 .wo 0]⟩
  , ⟨0x1800100, [(8, 16)], [], [fd 31 0 .rwl 0]⟩
  , ⟨0x1800104, [(8, 16)], [], [fd 3 0 .rwl 0]⟩
  , ⟨0x1800200, [(4, 9)], [], [fd 7 0 .ro 0, fd 11 8 .ro 0]⟩
  , ⟨0x1800400, [(4, 144)], [], [fd 15 0 .ro 0, fd 16 16 .ro 0]⟩
  , ⟨0x1800800, [(8, 16)], [], [fd 15 0 .rw 0, fd 16 16 .ro 0]⟩
  , ⟨0x1800804, [(8, 16)], [], [fd 7 0 .rwl 0, fd 15 8 .rwl 0, fd 16 16 .ro 0]⟩ ]

/-- Block FAB (15) part 2: FAB_P_CTRL, FAB_P_PEER, FAB_P_STATUS, FAB_P_REPLAY, FAB_HB, FAB_HB_STATE_p, FAB_LOSTn, FAB_HB_CMD, FAB_HB_STATUS, FAB_P_LANE. -/
def regsFabB : List RegDef :=
  [ ⟨0x1810000, [(0x10000, 12)], [], [fd 0 0 .rw 1, fd 1 1 .w1s 0, fd 3 2 .rw 0, ⟨23, 8, .rw, 0x7D0, 0xA, 0xFFFF, true⟩]⟩
  , ⟨0x1810004, [(0x10000, 12)], [], [fd 7 0 .rwl 0, fd 11 8 .rwl 0, fd 12 12 .rwl 0]⟩
  , ⟨0x1810008, [(0x10000, 12)], [], [fd 3 0 .ro 0, fd 5 4 .ro 0, fd 13 6 .ro 0, fd 17 14 .ro 0, fd 18 18 .ro 0, fd 19 19 .ro 0]⟩
  , ⟨0x181000C, [(0x10000, 12)], [], [fd 9 0 .ro 0]⟩
  , ⟨0x1802000, [], [], [fd 0 0 .rw 1, ⟨15, 8, .rw, 0x64, 0xA, 0xFF, true⟩, ⟨23, 16, .rw, 3, 1, 0xFE, true⟩, ⟨31, 24, .rw, 0x32, 2, 0xFF, true⟩]⟩
  , ⟨0x1802100, [(4, 144)], [], [fd 1 0 .ro 0, fd 15 8 .ro 0, fd 31 16 .ro 0]⟩
  , ⟨0x1802400, [(4, 5)], [], [fd 31 0 .ro 0]⟩
  , ⟨0x1802420, [], [], [fd 7 0 .wo 0, fd 8 8 .wo 0, fd 9 9 .wo 0]⟩
  , ⟨0x1802424, [], [], [fd 1 0 .ro 0]⟩
  , ⟨0x1810010, [(0x10000, 12)], [], [fd 7 0 .ro 0, ⟨23, 16, .rw, 0x10, 1, 0xFF, true⟩, fd 24 24 .rw 1]⟩ ]

/-- Block FCT (17) part 1: FCT_CTRL, FCT_STATUS, FCT_CTX_CMD, FCT_CTX_STATUS, FCT_DLK, FCT_SPILL, FCT_SCAN_CMD, FCT_SCAN_STATUS, FCT_TC_STATE, FCT_TC_TOTAL, FCT_TC_NEXT, FCT_TC_DONE, FCT_TC_RET, FCT_TC_CMD, FCT_FENCE, FCT_FENCE_STATUS, FCT_FENCE_CFG, FCT_SEQ_STATUS, FCT_CTX_ADDR_LO, FCT_CTX_ADDR_HI, FCT_SCAN_ADDR_LO, FCT_SCAN_ADDR_HI, FCT_SEQ_PROG_LO, FCT_SEQ_PROG_HI. -/
def regsFctA : List RegDef :=
  [ ⟨0x2000000, [(0x40000, 72)], [], [fd 0 0 .rw 1]⟩
  , ⟨0x2000004, [(0x40000, 72)], [], [fd 1 0 .ro 0, fd 2 2 .ro 0, fd 4 3 .ro 0, fd 5 5 .ro 1, fd 6 6 .ro 0, fd 7 7 .ro 0, fd 8 8 .ro 0, fd 12 9 .ro 0, fd 19 16 .ro 0]⟩
  , ⟨0x2000008, [(0x40000, 72)], [], [fd 1 0 .wo 0 true, fd 3 2 .wo 0]⟩
  , ⟨0x200000C, [(0x40000, 72)], [], [fd 7 0 .ro 0]⟩
  , ⟨0x2000018, [(0x40000, 72)], [], [⟨15, 0, .rw, 0x1000, 0x100, 0xFFFF, true⟩, fd 16 16 .rw 1]⟩
  , ⟨0x200001C, [(0x40000, 72)], [0x80000, 0x80008, 0x80010, 0x80018, 0x80020, 0x80028, 0x80030, 0x80038, 0x80040, 0x80048, 0x80050, 0x80058, 0x80060, 0x80068, 0x80070, 0x80078, 0x80080, 0x80088, 0x80090, 0x80098, 0x800A0, 0x800A8, 0x800B0, 0x800B8, 0x800C0, 0x800C8, 0x800D0, 0x800D8, 0x800E0, 0x800E8, 0x800F0, 0x800F8, 0x80100, 0x80108, 0x80110, 0x80118, 0x80000, 0x80008, 0x80010, 0x80018, 0x80020, 0x80028, 0x80030, 0x80038, 0x80040, 0x80048, 0x80050, 0x80058, 0x80060, 0x80068, 0x80070, 0x80078, 0x80080, 0x80088, 0x80090, 0x80098, 0x800A0, 0x800A8, 0x800B0, 0x800B8, 0x800C0, 0x800C8, 0x800D0, 0x800D8, 0x800E0, 0x800E8, 0x800F0, 0x800F8, 0x80100, 0x80108, 0x80110, 0x80118], [fd 10 0 .rw 0, ⟨21, 16, .rw, 8, 0, 0x20, false⟩]⟩
  , ⟨0x2000020, [(0x40000, 72)], [], [fd 1 0 .wo 0, fd 2 2 .wo 0]⟩
  , ⟨0x2000024, [(0x40000, 72)], [], [fd 7 0 .ro 0, fd 8 8 .ro 0]⟩
  , ⟨0x3300000, [(0x40, 64)], [], [fd 1 0 .ro 0, fd 15 8 .ro 0, fd 31 16 .ro 0]⟩
  , ⟨0x3300004, [(0x40, 64)], [], [fd 23 0 .ro 0]⟩
  , ⟨0x3300008, [(0x40, 64)], [], [fd 23 0 .ro 0]⟩
  , ⟨0x330000C, [(0x40, 64)], [], [fd 23 0 .ro 0]⟩
  , ⟨0x3300010, [(0x40, 64)], [], [fd 7 0 .ro 0]⟩
  , ⟨0x3300014, [(0x40, 64)], [], [fd 0 0 .wo 0 true]⟩
  , ⟨0x2000040, [(0x40000, 72)], [], [fd 1 0 .wo 0]⟩
  , ⟨0x2000044, [(0x40000, 72)], [], [fd 7 0 .ro 0, fd 11 8 .ro 0]⟩
  , ⟨0x2000048, [(0x40000, 72)], [], [fd 0 0 .rw 1, ⟨15, 8, .rw, 0x10, 1, 0xFF, true⟩, ⟨23, 16, .rw, 2, 1, 0xFF, true⟩]⟩
  , ⟨0x2000030, [(0x40000, 72)], [], [fd 0 0 .ro 0, fd 1 1 .ro 0, fd 2 2 .ro 0, fd 15 8 .ro 0, fd 31 16 .ro 0]⟩
  , ⟨0x2000010, [(0x40000, 72)], [], [fd 31 6 .rw 0 true]⟩
  , ⟨0x2000014, [(0x40000, 72)], [], [fd 31 0 .rw 0 true]⟩
  , ⟨0x2000028, [(0x40000, 72)], [], [fd 31 6 .rw 0]⟩
  , ⟨0x200002C, [(0x40000, 72)], [], [fd 31 0 .rw 0]⟩
  , ⟨0x2000038, [(0x40000, 72)], [], [fd 31 0 .ro 0]⟩
  , ⟨0x200003C, [(0x40000, 72)], [], [fd 31 0 .ro 0]⟩ ]

/-- Block FCT (17) part 2: FCT_SEQ_X, FCT_CTX_WIN, FCT_DESC_WIN. -/
def regsFctB : List RegDef :=
  [ ⟨0x2000200, [(0x40000, 72), (4, 32)], [], [fd 31 0 .ro 0]⟩
  , ⟨0x2010000, [(0x40000, 72), (4, 4096)], [], [fd 31 0 .rw 0]⟩
  , ⟨0x2020000, [(0x40000, 72), (4, 4096)], [], [fd 31 0 .rw 0 true]⟩ ]

/-- Block RTC (18): RTC_SEED, RTC_TOL, RTC_PERSIST, RTC_STATUS, RTC_CMD, RTC_CMD_STATUS, RTC_CTRL, RTC_LAYER. -/
def regsRtc : List RegDef :=
  [ ⟨0x3400004, [], [], [fd 31 0 .rw 1 true]⟩
  , ⟨0x3400008, [], [], [fd 15 0 .rw 0x800 true]⟩
  , ⟨0x340000C, [], [], [⟨3, 0, .rw, 8, 1, 8, true⟩, ⟨7, 4, .rw, 3, 1, 8, true⟩, ⟨11, 8, .rw, 8, 1, 0xF, true⟩]⟩
  , ⟨0x3400010, [], [], [fd 7 0 .ro 0, fd 8 8 .ro 0, fd 20 16 .ro 0]⟩
  , ⟨0x3400014, [], [], [fd 3 0 .wo 0 true, fd 15 8 .wo 0 true, fd 17 16 .wo 0]⟩
  , ⟨0x3400018, [], [], [fd 7 0 .ro 0]⟩
  , ⟨0x3400000, [], [], [fd 0 0 .rw 1, fd 1 1 .rw 1, ⟨7, 4, .rw, 0xC, 8, 0xF, true⟩, fd 15 8 .rw 4]⟩
  , ⟨0x3410000, [(4, 4096)], [], [fd 2 0 .ro 0, fd 3 3 .ro 0, fd 15 8 .ro 0, fd 31 16 .rw 0 true]⟩ ]

/-- Block MMU (19): MMU_ROOT_LO, MMU_ROOT_HI, MMU_INV, MMU_INV_STATUS, MMU_INV_VA_LO, MMU_INV_VA_HI, MMU_FAULT_VA_LO, MMU_FAULT_VA_HI, MMU_FAULT_INFO. -/
def regsMmu : List RegDef :=
  [ ⟨0x3600000, [], [], [fd 31 13 .rwl 0]⟩
  , ⟨0x3600004, [], [], [fd 15 0 .rwl 0, ⟨19, 16, .rwl, 1, 1, 2, false⟩]⟩
  , ⟨0x3600008, [], [], [fd 1 0 .wo 0, fd 5 2 .wo 0, fd 21 6 .wo 0]⟩
  , ⟨0x360000C, [], [], [fd 7 0 .ro 0, fd 8 8 .ro 0]⟩
  , ⟨0x3600010, [], [], [fd 31 16 .rw 0]⟩
  , ⟨0x3600014, [], [], [fd 19 0 .rw 0]⟩
  , ⟨0x3600018, [], [], [fd 31 0 .ro 0]⟩
  , ⟨0x360001C, [], [], [fd 19 0 .ro 0]⟩
  , ⟨0x3600020, [], [], [fd 1 0 .ro 0, fd 4 2 .ro 0, fd 11 5 .ro 0, fd 31 31 .w1c 0]⟩ ]

/-- Block HST (20): HST_ID, HST_LINK, HST_WIN_LO, HST_WIN_HI. -/
def regsHst : List RegDef :=
  [ ⟨0x3800000, [], [], [fd 15 0 .ro 0, fd 31 16 .ro 0x4896]⟩
  , ⟨0x3800004, [], [], [fd 3 0 .ro 0, fd 8 4 .ro 0, fd 9 9 .ro 0]⟩
  , ⟨0x3800010, [], [], []⟩
  , ⟨0x3800014, [], [], [fd 19 0 .rw 0]⟩ ]

/-- Block ETH (21): ETH_P_CTRL, ETH_P_STATUS, ETH_P_MAC_LO, ETH_P_MAC_HI, ETH_P_IPn, ETH_QP_CTX. -/
def regsEth : List RegDef :=
  [ ⟨0x3900000, [(0x10000, 2)], [], [fd 0 0 .rw 0, fd 1 1 .rw 0, fd 4 2 .rw 3, fd 5 5 .rw 0]⟩
  , ⟨0x3900004, [(0x10000, 2)], [], [fd 0 0 .ro 0]⟩
  , ⟨0x3900008, [(0x10000, 2)], [], [fd 31 0 .rw 0]⟩
  , ⟨0x390000C, [(0x10000, 2)], [], [fd 15 0 .rw 0]⟩
  , ⟨0x3900010, [(0x10000, 2), (4, 4)], [], [fd 31 0 .rw 0]⟩
  , ⟨0x3901000, [(0x10000, 2), (0x40, 64), (4, 16)], [], [fd 31 0 .rw 0]⟩ ]

/-- Block SMB (22): SMB_STATUS. -/
def regsSmb : List RegDef :=
  [ ⟨0x3A00000, [], [0x58], [fd 6 0 .ro 0, fd 15 8 .ro 0]⟩ ]

/-- Block SPI (23): SPI_CMD, SPI_ADDR, SPI_STATUS, SPI_INFO, SPI_BUF. -/
def regsSpi : List RegDef :=
  [ ⟨0x3B00000, [], [], [fd 2 0 .wo 0, fd 12 4 .wo 0]⟩
  , ⟨0x3B00004, [], [], [fd 31 0 .rw 0]⟩
  , ⟨0x3B00008, [], [], [fd 7 0 .ro 0, fd 8 8 .ro 0]⟩
  , ⟨0x3B0000C, [], [], [fd 23 0 .ro 0]⟩
  , ⟨0x3B00100, [(4, 64)], [], [fd 31 0 .rw 0]⟩ ]

/-- The block a BAR0 offset lies in (R505); `none` outside every listed range. -/
def blockOf (off : Nat) : Option Nat :=
  if off < 0x700000 then some (off / 0x100000)
  else if off < 0x800000 then none
  else if off < 0x1000000 then some 7
  else if off < 0x1700000 then some (8 + (off - 0x1000000) / 0x100000)
  else if off < 0x1800000 then none
  else if off < 0x1A00000 then some 15
  else if off < 0x2000000 then some 16
  else if off < 0x3400000 then some 17
  else if off < 0x3600000 then some 18
  else if off < 0x3800000 then some 19
  else if off < 0x3C00000 then some (20 + (off - 0x3800000) / 0x100000)
  else none

/-- The register table of each block. -/
def regsOfBlock : Nat → List RegDef
  | 0 => regsGlb
  | 1 => regsCfg
  | 2 => regsSec
  | 3 => regsPwr
  | 4 => regsClk
  | 5 => regsEvt
  | 6 => regsDbg
  | 7 => regsHq
  | 8 => regsSeq
  | 9 => regsAdm
  | 10 => regsPrs
  | 11 => regsKvmA ++ regsKvmB
  | 12 => regsTier
  | 13 => regsShd
  | 14 => regsRes
  | 15 => regsFabA ++ regsFabB
  | 17 => regsFctA ++ regsFctB
  | 18 => regsRtc
  | 19 => regsMmu
  | 20 => regsHst
  | 21 => regsEth
  | 22 => regsSmb
  | 23 => regsSpi
  | _ => []

/-- The counters of R78: the offset of each `_LO` register with its instances, by block. -/
def countersOfBlock : Nat → List (Nat × List (Nat × Nat))
  | 1 => [(0x100100, []), (0x100108, []), (0x100110, []), (0x100118, [])]
  | 2 => [(0x200300, []), (0x200308, []), (0x200310, []), (0x200318, [])]
  | 3 => [(0x300300, []), (0x300308, []), (0x300310, []), (0x300318, []), (0x300320, []), (0x300328, []), (0x300330, [])]
  | 5 => [(0x500100, []), (0x500108, []), (0x500110, []), (0x500118, []), (0x500120, []), (0x500128, []), (0x500130, []), (0x500138, [])]
  | 6 => [(0x600300, [])]
  | 7 => [(0x800100, []), (0x800108, []), (0x800110, []), (0x800118, [])]
  | 8 => [(0x1000800, []), (0x1000808, []), (0x1000810, []), (0x1000818, []), (0x1000820, []), (0x1000828, []), (0x1000830, []), (0x1000838, [])]
  | 9 => [(0x1100100, []), (0x1100108, []), (0x1100110, []), (0x1100118, []), (0x1100120, [])]
  | 10 => [(0x1200300, []), (0x1200308, []), (0x1200310, []), (0x1200318, []), (0x1200320, []), (0x1200328, []), (0x1200330, []), (0x1200338, []), (0x1200340, []), (0x1200348, []), (0x1200350, []), (0x1200358, [])]
  | 11 => [(0x1300100, []), (0x1300108, []), (0x1300110, []), (0x1300118, []), (0x1300120, []), (0x1300128, []), (0x1300130, []), (0x1300138, []), (0x1300140, []), (0x1300148, []), (0x1300150, []), (0x1300158, []), (0x1300160, []), (0x1300168, [])]
  | 12 => [(0x1400100, []), (0x1400108, []), (0x1400110, []), (0x1400118, []), (0x1400120, []), (0x1400128, []), (0x1400130, []), (0x1400138, []), (0x1400140, []), (0x1400148, []), (0x1400150, []), (0x1400158, [])]
  | 13 => [(0x1500300, []), (0x1500308, []), (0x1500310, []), (0x1500318, []), (0x1500320, []), (0x1500328, []), (0x1500330, []), (0x1500338, []), (0x1500340, [])]
  | 14 => [(0x1600100, []), (0x1600108, []), (0x1600110, []), (0x1601048, [(0x80, 16)]), (0x1601050, [(0x80, 16)]), (0x1601058, [(0x80, 16)])]
  | 15 => [(0x1801000, []), (0x1801008, []), (0x1801010, []), (0x1801018, []), (0x1801020, []), (0x1801028, []), (0x1801030, []), (0x1801038, []), (0x1801040, []), (0x1801048, []), (0x1810100, [(0x10000, 12)]), (0x1810108, [(0x10000, 12)]), (0x1810110, [(0x10000, 12)]), (0x1810118, [(0x10000, 12)]), (0x1810120, [(0x10000, 12)]), (0x1810128, [(0x10000, 12)]), (0x1810130, [(0x10000, 12)]), (0x1810138, [(0x10000, 12)]), (0x1801050, []), (0x1801058, []), (0x1801060, []), (0x1810140, [(0x10000, 12)])]
  | 16 => [(0x1A00100, []), (0x1A00108, []), (0x1A00110, []), (0x1A00118, []), (0x1A00120, []), (0x1A00128, []), (0x1A00130, [])]
  | 17 => [(0x2000100, [(0x40000, 72)]), (0x2000108, [(0x40000, 72)]), (0x2000110, [(0x40000, 72)]), (0x2000118, [(0x40000, 72)]), (0x2000120, [(0x40000, 72)]), (0x2000128, [(0x40000, 72)]), (0x2000130, [(0x40000, 72)]), (0x2000138, [(0x40000, 72)]), (0x2000140, [(0x40000, 72)]), (0x2000148, [(0x40000, 72)]), (0x2000150, [(0x40000, 72)]), (0x2000158, [(0x40000, 72)]), (0x2000160, [(0x40000, 72)]), (0x2000168, [(0x40000, 72)]), (0x3300020, [(0x40, 64)]), (0x3300028, [(0x40, 64)])]
  | 18 => [(0x3400020, []), (0x3400028, []), (0x3400030, []), (0x3400038, []), (0x3400040, []), (0x3400048, []), (0x3400050, []), (0x3400058, []), (0x3400060, [])]
  | 19 => [(0x3600100, []), (0x3600108, []), (0x3600110, [])]
  | 20 => [(0x3800100, []), (0x3800108, [])]
  | 21 => [(0x3900100, [(0x10000, 2)]), (0x3900108, [(0x10000, 2)]), (0x3900110, [(0x10000, 2)])]
  | 22 => [(0x3A00100, [])]
  | _ => []

/-- The event codes of R511, each with its class: 0 CE, 1 DE, 2 UE, 3 FE. -/
def eventTable : List (Nat × Nat) :=
  [ (0x0001, 1), (0x0002, 1), (0x0003, 2), (0x0004, 3), (0x0005, 3), (0x0101, 1)
  , (0x0102, 2), (0x0103, 1), (0x0104, 1), (0x0201, 1), (0x0202, 1), (0x0301, 1)
  , (0x0302, 3), (0x0501, 1), (0x0601, 1), (0x0701, 1), (0x0801, 1), (0x0802, 2)
  , (0x0A01, 1), (0x0A02, 1), (0x0A03, 1), (0x0A04, 2), (0x0A05, 2), (0x0A06, 1)
  , (0x0B01, 2), (0x0B02, 2), (0x0B03, 1), (0x0B04, 1), (0x0B05, 1), (0x0C01, 1)
  , (0x0C02, 0), (0x0C03, 2), (0x0D01, 2), (0x0D02, 2), (0x0D03, 1), (0x0D04, 2)
  , (0x0D05, 1), (0x0D06, 2), (0x0E01, 1), (0x0F01, 1), (0x0F02, 1), (0x0F03, 1)
  , (0x0F04, 1), (0x0F05, 2), (0x0F06, 1), (0x0F07, 2), (0x0F08, 1), (0x0F09, 2)
  , (0x0F0A, 1), (0x0F0B, 2), (0x0F0C, 1), (0x0F0D, 2), (0x0F0E, 2), (0x0F0F, 2)
  , (0x0F10, 1), (0x1101, 0), (0x1102, 2), (0x1103, 0), (0x1104, 2), (0x1105, 2)
  , (0x1106, 2), (0x1107, 2), (0x1108, 1), (0x1109, 2), (0x1201, 1), (0x1202, 1)
  , (0x1203, 2), (0x1204, 0), (0x1205, 1), (0x1206, 1), (0x1301, 1) ]

end Sys2Proof.Machine

namespace Sys2Proof.Machine.F

/-- RTC_SEED.seed (R74). -/
def RTC_SEED_seed : FieldRef := ⟨0x3400004, 31, 0⟩
/-- RTC_TOL.tolerance (R74). -/
def RTC_TOL_tolerance : FieldRef := ⟨0x3400008, 15, 0⟩
/-- RTC_PERSIST.window_n (R74). -/
def RTC_PERSIST_window_n : FieldRef := ⟨0x340000C, 3, 0⟩
/-- RTC_PERSIST.fail_m (R74). -/
def RTC_PERSIST_fail_m : FieldRef := ⟨0x340000C, 7, 4⟩
/-- RTC_PERSIST.clear_run (R74). -/
def RTC_PERSIST_clear_run : FieldRef := ⟨0x340000C, 11, 8⟩
/-- RTC_STATUS.fallbacks_in_window (R75). -/
def RTC_STATUS_fallbacks_in_window : FieldRef := ⟨0x3400010, 7, 0⟩
/-- RTC_STATUS.limit_reached (R75). -/
def RTC_STATUS_limit_reached : FieldRef := ⟨0x3400010, 8, 8⟩
/-- RTC_STATUS.queue_depth (R75). -/
def RTC_STATUS_queue_depth : FieldRef := ⟨0x3400010, 20, 16⟩
/-- RTC_CMD.ctx (R75). -/
def RTC_CMD_ctx : FieldRef := ⟨0x3400014, 3, 0⟩
/-- RTC_CMD.layer (R75). -/
def RTC_CMD_layer : FieldRef := ⟨0x3400014, 15, 8⟩
/-- RTC_CMD.cmd (R75). -/
def RTC_CMD_cmd : FieldRef := ⟨0x3400014, 17, 16⟩
/-- RTC_CMD_STATUS.status (R75). -/
def RTC_CMD_STATUS_status : FieldRef := ⟨0x3400018, 7, 0⟩
/-- FCT_CTRL.enable (R119). -/
def FCT_CTRL_enable : FieldRef := ⟨0x2000000, 0, 0⟩
/-- FCT_STATUS.active_slot (R119). -/
def FCT_STATUS_active_slot : FieldRef := ⟨0x2000004, 1, 0⟩
/-- FCT_STATUS.switch_pending (R119). -/
def FCT_STATUS_switch_pending : FieldRef := ⟨0x2000004, 2, 2⟩
/-- FCT_STATUS.pending_slot (R119). -/
def FCT_STATUS_pending_slot : FieldRef := ⟨0x2000004, 4, 3⟩
/-- FCT_STATUS.quiescent (R119). -/
def FCT_STATUS_quiescent : FieldRef := ⟨0x2000004, 5, 5⟩
/-- FCT_STATUS.frozen (R119). -/
def FCT_STATUS_frozen : FieldRef := ⟨0x2000004, 6, 6⟩
/-- FCT_STATUS.gated (R119). -/
def FCT_STATUS_gated : FieldRef := ⟨0x2000004, 7, 7⟩
/-- FCT_STATUS.fenced (R119). -/
def FCT_STATUS_fenced : FieldRef := ⟨0x2000004, 8, 8⟩
/-- FCT_STATUS.valid_slots (R119). -/
def FCT_STATUS_valid_slots : FieldRef := ⟨0x2000004, 12, 9⟩
/-- FCT_STATUS.extended (R119). -/
def FCT_STATUS_extended : FieldRef := ⟨0x2000004, 19, 16⟩
/-- FCT_CTX_CMD.slot (R120). -/
def FCT_CTX_CMD_slot : FieldRef := ⟨0x2000008, 1, 0⟩
/-- FCT_CTX_CMD.cmd (R120). -/
def FCT_CTX_CMD_cmd : FieldRef := ⟨0x2000008, 3, 2⟩
/-- FCT_CTX_STATUS.status (R120). -/
def FCT_CTX_STATUS_status : FieldRef := ⟨0x200000C, 7, 0⟩
/-- FCT_DLK.threshold (R120). -/
def FCT_DLK_threshold : FieldRef := ⟨0x2000018, 15, 0⟩
/-- FCT_DLK.enable (R120). -/
def FCT_DLK_enable : FieldRef := ⟨0x2000018, 16, 16⟩
/-- FCT_SPILL.base (R120). -/
def FCT_SPILL_base : FieldRef := ⟨0x200001C, 10, 0⟩
/-- FCT_SPILL.size (R120). -/
def FCT_SPILL_size : FieldRef := ⟨0x200001C, 21, 16⟩
/-- FCT_SCAN_CMD.cmd (R121). -/
def FCT_SCAN_CMD_cmd : FieldRef := ⟨0x2000020, 1, 0⟩
/-- FCT_SCAN_CMD.include_storage (R121). -/
def FCT_SCAN_CMD_include_storage : FieldRef := ⟨0x2000020, 2, 2⟩
/-- FCT_SCAN_STATUS.status (R121). -/
def FCT_SCAN_STATUS_status : FieldRef := ⟨0x2000024, 7, 0⟩
/-- FCT_SCAN_STATUS.busy (R121). -/
def FCT_SCAN_STATUS_busy : FieldRef := ⟨0x2000024, 8, 8⟩
/-- FCT_TC_STATE.state (R156). -/
def FCT_TC_STATE_state : FieldRef := ⟨0x3300000, 1, 0⟩
/-- FCT_TC_STATE.status (R156). -/
def FCT_TC_STATE_status : FieldRef := ⟨0x3300000, 15, 8⟩
/-- FCT_TC_STATE.index (R156). -/
def FCT_TC_STATE_index : FieldRef := ⟨0x3300000, 31, 16⟩
/-- FCT_TC_TOTAL.total (R156). -/
def FCT_TC_TOTAL_total : FieldRef := ⟨0x3300004, 23, 0⟩
/-- FCT_TC_NEXT.next (R156). -/
def FCT_TC_NEXT_next : FieldRef := ⟨0x3300008, 23, 0⟩
/-- FCT_TC_DONE.done (R156). -/
def FCT_TC_DONE_done : FieldRef := ⟨0x330000C, 23, 0⟩
/-- FCT_TC_RET.returned (R156). -/
def FCT_TC_RET_returned : FieldRef := ⟨0x3300010, 7, 0⟩
/-- FCT_TC_CMD.reset (R156). -/
def FCT_TC_CMD_reset : FieldRef := ⟨0x3300014, 0, 0⟩
/-- PRS_CTRL.enable (R192). -/
def PRS_CTRL_enable : FieldRef := ⟨0x1200000, 0, 0⟩
/-- PRS_CTRL.drop_mode (R192). -/
def PRS_CTRL_drop_mode : FieldRef := ⟨0x1200000, 2, 1⟩
/-- PRS_CTRL.renorm (R192). -/
def PRS_CTRL_renorm : FieldRef := ⟨0x1200000, 3, 3⟩
/-- PRS_CTRL.spill_depth (R192). -/
def PRS_CTRL_spill_depth : FieldRef := ⟨0x1200000, 7, 4⟩
/-- PRS_CTRL.cap_factor (R192). -/
def PRS_CTRL_cap_factor : FieldRef := ⟨0x1200000, 15, 8⟩
/-- PRS_TIMEOUT.close_timeout (R192). -/
def PRS_TIMEOUT_close_timeout : FieldRef := ⟨0x1200010, 15, 0⟩
/-- PRS_TIMEOUT.return_timeout (R192). -/
def PRS_TIMEOUT_return_timeout : FieldRef := ⟨0x1200010, 31, 16⟩
/-- PRS_STATUS.open_layers (R192). -/
def PRS_STATUS_open_layers : FieldRef := ⟨0x1200014, 6, 0⟩
/-- PRS_STATUS.open_combine (R192). -/
def PRS_STATUS_open_combine : FieldRef := ⟨0x1200014, 15, 8⟩
/-- PRS_STATUS.fw_version (R192). -/
def PRS_STATUS_fw_version : FieldRef := ⟨0x1200014, 31, 16⟩
/-- PRS_GEN.generation (R194). -/
def PRS_GEN_generation : FieldRef := ⟨0x1200100, 15, 0⟩
/-- PRS_GEN.valid (R194). -/
def PRS_GEN_valid : FieldRef := ⟨0x1200100, 16, 16⟩
/-- PRS_TBL_LO.base_lo (R194). -/
def PRS_TBL_LO_base_lo : FieldRef := ⟨0x1200108, 31, 0⟩
/-- PRS_TBL_HI.base_hi (R194). -/
def PRS_TBL_HI_base_hi : FieldRef := ⟨0x120010C, 31, 0⟩
/-- KVM_POOL1_BASE_LO.base (R231). -/
def KVM_POOL1_BASE_LO_base : FieldRef := ⟨0x1300000, 31, 16⟩
/-- KVM_POOL1_BASE_HI.base (R231). -/
def KVM_POOL1_BASE_HI_base : FieldRef := ⟨0x1300004, 15, 0⟩
/-- KVM_POOL1_COUNT.count (R231). -/
def KVM_POOL1_COUNT_count : FieldRef := ⟨0x1300008, 22, 0⟩
/-- KVM_POOL2_BASE_LO.base (R231). -/
def KVM_POOL2_BASE_LO_base : FieldRef := ⟨0x1300010, 31, 16⟩
/-- KVM_POOL2_BASE_HI.base (R231). -/
def KVM_POOL2_BASE_HI_base : FieldRef := ⟨0x1300014, 15, 0⟩
/-- KVM_POOL2_COUNT.count (R231). -/
def KVM_POOL2_COUNT_count : FieldRef := ⟨0x1300018, 25, 0⟩
/-- KVM_PFT_BASE_LO.base (R231). -/
def KVM_PFT_BASE_LO_base : FieldRef := ⟨0x1300020, 31, 12⟩
/-- KVM_PFT_BASE_HI.base (R231). -/
def KVM_PFT_BASE_HI_base : FieldRef := ⟨0x1300024, 15, 0⟩
/-- KVM_DIR_BASE_LO.base (R231). -/
def KVM_DIR_BASE_LO_base : FieldRef := ⟨0x1300028, 31, 12⟩
/-- KVM_DIR_BASE_HI.base (R231). -/
def KVM_DIR_BASE_HI_base : FieldRef := ⟨0x130002C, 15, 0⟩
/-- KVM_LOWATER.frames (R231). -/
def KVM_LOWATER_frames : FieldRef := ⟨0x1300030, 22, 0⟩
/-- KVM_FREE1.free (R231). -/
def KVM_FREE1_free : FieldRef := ⟨0x1300034, 22, 0⟩
/-- KVM_FREE2.free (R231). -/
def KVM_FREE2_free : FieldRef := ⟨0x1300038, 25, 0⟩
/-- KVM_QUAR.quarantined (R231). -/
def KVM_QUAR_quarantined : FieldRef := ⟨0x130003C, 25, 0⟩
/-- KVM_EPOCH.epoch (R231). -/
def KVM_EPOCH_epoch : FieldRef := ⟨0x1300040, 31, 0⟩
/-- KVM_OLDEST.oldest (R231). -/
def KVM_OLDEST_oldest : FieldRef := ⟨0x1300044, 31, 0⟩
/-- KVM_DIR_USED.used (R231). -/
def KVM_DIR_USED_used : FieldRef := ⟨0x1300048, 16, 0⟩
/-- KVM_EXPIRED.slot (R231). -/
def KVM_EXPIRED_slot : FieldRef := ⟨0x130004C, 17, 0⟩
/-- KVM_EXPIRED.valid (R231). -/
def KVM_EXPIRED_valid : FieldRef := ⟨0x130004C, 31, 31⟩
/-- MMU_ROOT_LO.root (R232). -/
def MMU_ROOT_LO_root : FieldRef := ⟨0x3600000, 31, 13⟩
/-- MMU_ROOT_HI.root (R232). -/
def MMU_ROOT_HI_root : FieldRef := ⟨0x3600004, 15, 0⟩
/-- MMU_ROOT_HI.space (R232). -/
def MMU_ROOT_HI_space : FieldRef := ⟨0x3600004, 19, 16⟩
/-- MMU_INV.cmd (R232). -/
def MMU_INV_cmd : FieldRef := ⟨0x3600008, 1, 0⟩
/-- MMU_INV.ctx (R232). -/
def MMU_INV_ctx : FieldRef := ⟨0x3600008, 5, 2⟩
/-- MMU_INV.pages (R232). -/
def MMU_INV_pages : FieldRef := ⟨0x3600008, 21, 6⟩
/-- MMU_INV_STATUS.status (R232). -/
def MMU_INV_STATUS_status : FieldRef := ⟨0x360000C, 7, 0⟩
/-- MMU_INV_STATUS.busy (R232). -/
def MMU_INV_STATUS_busy : FieldRef := ⟨0x360000C, 8, 8⟩
/-- MMU_INV_VA_LO.va (R232). -/
def MMU_INV_VA_LO_va : FieldRef := ⟨0x3600010, 31, 16⟩
/-- MMU_INV_VA_HI.va (R232). -/
def MMU_INV_VA_HI_va : FieldRef := ⟨0x3600014, 19, 0⟩
/-- MMU_FAULT_VA_LO.va (R232). -/
def MMU_FAULT_VA_LO_va : FieldRef := ⟨0x3600018, 31, 0⟩
/-- MMU_FAULT_VA_HI.va (R232). -/
def MMU_FAULT_VA_HI_va : FieldRef := ⟨0x360001C, 19, 0⟩
/-- MMU_FAULT_INFO.level (R232). -/
def MMU_FAULT_INFO_level : FieldRef := ⟨0x3600020, 1, 0⟩
/-- MMU_FAULT_INFO.reason (R232). -/
def MMU_FAULT_INFO_reason : FieldRef := ⟨0x3600020, 4, 2⟩
/-- MMU_FAULT_INFO.facet (R232). -/
def MMU_FAULT_INFO_facet : FieldRef := ⟨0x3600020, 11, 5⟩
/-- MMU_FAULT_INFO.valid (R232). -/
def MMU_FAULT_INFO_valid : FieldRef := ⟨0x3600020, 31, 31⟩
/-- SEQ_TABLE_LO.base (R268). -/
def SEQ_TABLE_LO_base : FieldRef := ⟨0x1000000, 31, 12⟩
/-- SEQ_TABLE_HI.base (R268). -/
def SEQ_TABLE_HI_base : FieldRef := ⟨0x1000004, 15, 0⟩
/-- SEQ_STEP_CFG.census_timeout (R268). -/
def SEQ_STEP_CFG_census_timeout : FieldRef := ⟨0x1000008, 15, 0⟩
/-- SEQ_STEP_CFG.idle_wait (R268). -/
def SEQ_STEP_CFG_idle_wait : FieldRef := ⟨0x1000008, 31, 16⟩
/-- SEQ_FOCUS_CTRL.enable (R268). -/
def SEQ_FOCUS_CTRL_enable : FieldRef := ⟨0x1000010, 0, 0⟩
/-- SEQ_FOCUS_CTRL.period (R268). -/
def SEQ_FOCUS_CTRL_period : FieldRef := ⟨0x1000010, 15, 8⟩
/-- SEQ_FOCUS_CTRL.hold_periods (R268). -/
def SEQ_FOCUS_CTRL_hold_periods : FieldRef := ⟨0x1000010, 19, 16⟩
/-- SEQ_FOCUS_CTRL.band (R268). -/
def SEQ_FOCUS_CTRL_band : FieldRef := ⟨0x1000010, 30, 24⟩
/-- SEQ_FOCUS_LIM.np_min (R268). -/
def SEQ_FOCUS_LIM_np_min : FieldRef := ⟨0x1000014, 6, 0⟩
/-- SEQ_FOCUS_LIM.nd_min (R268). -/
def SEQ_FOCUS_LIM_nd_min : FieldRef := ⟨0x1000014, 14, 8⟩
/-- SEQ_FOCUS_LIM.np_fixed (R268). -/
def SEQ_FOCUS_LIM_np_fixed : FieldRef := ⟨0x1000014, 22, 16⟩
/-- SEQ_FOCUS_TGT.target (R268). -/
def SEQ_FOCUS_TGT_target : FieldRef := ⟨0x1000018, 15, 0⟩
/-- SEQ_FOCUS_TGT.q_hi (R268). -/
def SEQ_FOCUS_TGT_q_hi : FieldRef := ⟨0x1000018, 31, 16⟩
/-- SEQ_FOCUS_STATUS.np (R268). -/
def SEQ_FOCUS_STATUS_np : FieldRef := ⟨0x100001C, 6, 0⟩
/-- SEQ_FOCUS_STATUS.moving (R268). -/
def SEQ_FOCUS_STATUS_moving : FieldRef := ⟨0x100001C, 7, 7⟩
/-- SEQ_FOCUS_STATUS.nd (R268). -/
def SEQ_FOCUS_STATUS_nd : FieldRef := ⟨0x100001C, 14, 8⟩
/-- SEQ_FOCUS_STATUS.last (R268). -/
def SEQ_FOCUS_STATUS_last : FieldRef := ⟨0x100001C, 17, 16⟩
/-- SEQ_FOCUS_STATUS.hold (R268). -/
def SEQ_FOCUS_STATUS_hold : FieldRef := ⟨0x100001C, 27, 24⟩
/-- SEQ_POOLn.prefill_map (R268). -/
def SEQ_POOLn_prefill_map : FieldRef := ⟨0x1000020, 31, 0⟩
/-- SEQ_CTX_CTRL.run (R269). -/
def SEQ_CTX_CTRL_run : FieldRef := ⟨0x1000100, 0, 0⟩
/-- SEQ_CTX_CTRL.is_draft (R269). -/
def SEQ_CTX_CTRL_is_draft : FieldRef := ⟨0x1000100, 1, 1⟩
/-- SEQ_CTX_CTRL.draft_of (R269). -/
def SEQ_CTX_CTRL_draft_of : FieldRef := ⟨0x1000100, 7, 4⟩
/-- SEQ_CTX_LIMITS.decode_max (R269). -/
def SEQ_CTX_LIMITS_decode_max : FieldRef := ⟨0x1000104, 15, 0⟩
/-- SEQ_CTX_LIMITS.active_max (R269). -/
def SEQ_CTX_LIMITS_active_max : FieldRef := ⟨0x1000104, 31, 16⟩
/-- SEQ_CTX_PREFILL.chunk (R269). -/
def SEQ_CTX_PREFILL_chunk : FieldRef := ⟨0x1000108, 15, 0⟩
/-- SEQ_CTX_PREFILL.prefill_max (R269). -/
def SEQ_CTX_PREFILL_prefill_max : FieldRef := ⟨0x1000108, 31, 16⟩
/-- SEQ_CTX_CKPT.page (R269). -/
def SEQ_CTX_CKPT_page : FieldRef := ⟨0x100010C, 15, 0⟩
/-- SEQ_CTX_CKPT.stride (R269). -/
def SEQ_CTX_CKPT_stride : FieldRef := ⟨0x100010C, 23, 16⟩
/-- SEQ_CTX_CKPT.layers_m1 (R269). -/
def SEQ_CTX_CKPT_layers_m1 : FieldRef := ⟨0x100010C, 31, 24⟩
/-- SEQ_CTX_SHAPE.exp_layers (R269). -/
def SEQ_CTX_SHAPE_exp_layers : FieldRef := ⟨0x1000110, 8, 0⟩
/-- SEQ_CTX_SHAPE.nblk (R269). -/
def SEQ_CTX_SHAPE_nblk : FieldRef := ⟨0x1000110, 23, 16⟩
/-- SEQ_CTX_AREA_LO.base (R269). -/
def SEQ_CTX_AREA_LO_base : FieldRef := ⟨0x1000114, 31, 6⟩
/-- SEQ_CTX_AREA_HI.base (R269). -/
def SEQ_CTX_AREA_HI_base : FieldRef := ⟨0x1000118, 15, 0⟩
/-- SEQ_CTX_AREA_SIZE.size (R269). -/
def SEQ_CTX_AREA_SIZE_size : FieldRef := ⟨0x100011C, 31, 0⟩
/-- SEQ_CTX_TMPL_LO.base (R269). -/
def SEQ_CTX_TMPL_LO_base : FieldRef := ⟨0x1000120, 31, 6⟩
/-- SEQ_CTX_TMPL_HI.base (R269). -/
def SEQ_CTX_TMPL_HI_base : FieldRef := ⟨0x1000124, 15, 0⟩
/-- SEQ_CTX_GEN.current (R269). -/
def SEQ_CTX_GEN_current : FieldRef := ⟨0x1000128, 15, 0⟩
/-- SEQ_CTX_GEN.other (R269). -/
def SEQ_CTX_GEN_other : FieldRef := ⟨0x1000128, 31, 16⟩
/-- SEQ_CTX_GEN_STATUS.current_valid (R269). -/
def SEQ_CTX_GEN_STATUS_current_valid : FieldRef := ⟨0x100012C, 0, 0⟩
/-- SEQ_CTX_GEN_STATUS.other (R269). -/
def SEQ_CTX_GEN_STATUS_other : FieldRef := ⟨0x100012C, 2, 1⟩
/-- SEQ_CTX_GEN_STATUS.pinned (R269). -/
def SEQ_CTX_GEN_STATUS_pinned : FieldRef := ⟨0x100012C, 31, 8⟩
/-- SEQ_CTX_STEP_DEC.step (R269). -/
def SEQ_CTX_STEP_DEC_step : FieldRef := ⟨0x1000130, 31, 0⟩
/-- SEQ_CTX_STEP_PRE.step (R269). -/
def SEQ_CTX_STEP_PRE_step : FieldRef := ⟨0x1000134, 31, 0⟩
/-- SEQ_CTX_ACTIVE.active (R269). -/
def SEQ_CTX_ACTIVE_active : FieldRef := ⟨0x1000138, 18, 0⟩
/-- ADM_CTRL.enable (R270). -/
def ADM_CTRL_enable : FieldRef := ⟨0x1100000, 0, 0⟩
/-- ADM_QCFG.qmax (R270). -/
def ADM_QCFG_qmax : FieldRef := ⟨0x1100004, 12, 0⟩
/-- ADM_QCFG.reserve (R270). -/
def ADM_QCFG_reserve : FieldRef := ⟨0x1100004, 28, 16⟩
/-- ADM_MAXWAIT.maxwait (R270). -/
def ADM_MAXWAIT_maxwait : FieldRef := ⟨0x1100008, 15, 0⟩
/-- ADM_STATUS.depth (R270). -/
def ADM_STATUS_depth : FieldRef := ⟨0x110000C, 12, 0⟩
/-- ADM_STATUS.borrowed (R270). -/
def ADM_STATUS_borrowed : FieldRef := ⟨0x110000C, 28, 16⟩
/-- ADM_INTERVAL.interval (R270). -/
def ADM_INTERVAL_interval : FieldRef := ⟨0x1100010, 31, 0⟩
/-- ADM_T_RATE.rate (R270). -/
def ADM_T_RATE_rate : FieldRef := ⟨0x1110000, 31, 0⟩
/-- ADM_T_CAP.cap (R270). -/
def ADM_T_CAP_cap : FieldRef := ⟨0x1110004, 30, 0⟩
/-- ADM_T_BAL.balance (R270). -/
def ADM_T_BAL_balance : FieldRef := ⟨0x1110008, 31, 0⟩
/-- ADM_T_CTL.enable (R270). -/
def ADM_T_CTL_enable : FieldRef := ⟨0x111000C, 0, 0⟩
/-- ADM_T_CTL.borrow (R270). -/
def ADM_T_CTL_borrow : FieldRef := ⟨0x111000C, 1, 1⟩
/-- TIER_T1_STATUS.trained (R300). -/
def TIER_T1_STATUS_trained : FieldRef := ⟨0x1400000, 7, 0⟩
/-- TIER_T2_CFG.population (R300). -/
def TIER_T2_CFG_population : FieldRef := ⟨0x1400004, 1, 0⟩
/-- TIER_T2_STATUS.modules (R300). -/
def TIER_T2_STATUS_modules : FieldRef := ⟨0x1400008, 15, 0⟩
/-- TIER_T2_STATUS.enabled (R300). -/
def TIER_T2_STATUS_enabled : FieldRef := ⟨0x1400008, 16, 16⟩
/-- TIER_SCRUB.period (R300). -/
def TIER_SCRUB_period : FieldRef := ⟨0x140000C, 7, 0⟩
/-- TIER_SCRUB.enable (R300). -/
def TIER_SCRUB_enable : FieldRef := ⟨0x140000C, 8, 8⟩
/-- TIER_COND.stage_en (R300). -/
def TIER_COND_stage_en : FieldRef := ⟨0x1400010, 0, 0⟩
/-- TIER_COND.ring_en (R300). -/
def TIER_COND_ring_en : FieldRef := ⟨0x1400010, 1, 1⟩
/-- RES_CTRL.sem_horizon (R301). -/
def RES_CTRL_sem_horizon : FieldRef := ⟨0x1600000, 15, 0⟩
/-- RES_CTRL.window (R301). -/
def RES_CTRL_window : FieldRef := ⟨0x1600000, 23, 16⟩
/-- RES_STATUS.resident (R301). -/
def RES_STATUS_resident : FieldRef := ⟨0x1600004, 4, 0⟩
/-- RES_STATUS.held (R301). -/
def RES_STATUS_held : FieldRef := ⟨0x1600004, 28, 16⟩
/-- RES_CTX_STATE.state (R301). -/
def RES_CTX_STATE_state : FieldRef := ⟨0x1601000, 1, 0⟩
/-- RES_CTX_STATE.home (R301). -/
def RES_CTX_STATE_home : FieldRef := ⟨0x1601000, 3, 2⟩
/-- RES_CTX_T0.base (R301). -/
def RES_CTX_T0_base : FieldRef := ⟨0x1601004, 10, 0⟩
/-- RES_CTX_T0.size (R301). -/
def RES_CTX_T0_size : FieldRef := ⟨0x1601004, 26, 16⟩
/-- RES_CTX_T1FIX.base (R301). -/
def RES_CTX_T1FIX_base : FieldRef := ⟨0x1601008, 22, 0⟩
/-- RES_CTX_T1FIX_SIZE.size (R301). -/
def RES_CTX_T1FIX_SIZE_size : FieldRef := ⟨0x160100C, 22, 0⟩
/-- RES_CTX_T1W.base (R301). -/
def RES_CTX_T1W_base : FieldRef := ⟨0x1601010, 22, 0⟩
/-- RES_CTX_WSIZE.pages (R301). -/
def RES_CTX_WSIZE_pages : FieldRef := ⟨0x1601014, 25, 0⟩
/-- RES_CTX_T2.base (R301). -/
def RES_CTX_T2_base : FieldRef := ⟨0x1601018, 25, 0⟩
/-- RES_CTX_STREAM.base (R301). -/
def RES_CTX_STREAM_base : FieldRef := ⟨0x160101C, 22, 0⟩
/-- RES_CTX_STREAM_N.entries (R301). -/
def RES_CTX_STREAM_N_entries : FieldRef := ⟨0x1601020, 10, 0⟩
/-- RES_CTX_CARRY.offset (R301). -/
def RES_CTX_CARRY_offset : FieldRef := ⟨0x1601024, 17, 0⟩
/-- RES_CTX_SERVEn.serve (R301). -/
def RES_CTX_SERVEn_serve : FieldRef := ⟨0x1601028, 31, 0⟩
/-- RES_CTX_FRONT.pages (R301). -/
def RES_CTX_FRONT_pages : FieldRef := ⟨0x160103C, 25, 0⟩
/-- RES_CTX_SLOW.slowdown (R301). -/
def RES_CTX_SLOW_slowdown : FieldRef := ⟨0x1601040, 15, 0⟩
/-- RES_CTX_SLOW.threshold (R301). -/
def RES_CTX_SLOW_threshold : FieldRef := ⟨0x1601040, 31, 16⟩
/-- SHD_CTRL.compat_en (R323). -/
def SHD_CTRL_compat_en : FieldRef := ⟨0x1500000, 0, 0⟩
/-- SHD_SCRUB.period (R323). -/
def SHD_SCRUB_period : FieldRef := ⟨0x1500004, 10, 0⟩
/-- SHD_SCRUB.enable (R323). -/
def SHD_SCRUB_enable : FieldRef := ⟨0x1500004, 11, 11⟩
/-- SHD_TABLE_LO.base (R323). -/
def SHD_TABLE_LO_base : FieldRef := ⟨0x1500008, 31, 12⟩
/-- SHD_TABLE_HI.base (R323). -/
def SHD_TABLE_HI_base : FieldRef := ⟨0x150000C, 15, 0⟩
/-- SHD_STATUS.loads (R323). -/
def SHD_STATUS_loads : FieldRef := ⟨0x1500010, 5, 0⟩
/-- SHD_STATUS.scrubbing (R323). -/
def SHD_STATUS_scrubbing : FieldRef := ⟨0x1500010, 6, 6⟩
/-- SHD_STATUS.overrun (R323). -/
def SHD_STATUS_overrun : FieldRef := ⟨0x1500010, 7, 7⟩
/-- SHD_STATUS.used (R323). -/
def SHD_STATUS_used : FieldRef := ⟨0x1500010, 22, 8⟩
/-- SHD_BAD.entry (R323). -/
def SHD_BAD_entry : FieldRef := ⟨0x1500014, 13, 0⟩
/-- SHD_BAD.valid (R323). -/
def SHD_BAD_valid : FieldRef := ⟨0x1500014, 31, 31⟩
/-- SHD_CTX_MODEL_LO.model (R324). -/
def SHD_CTX_MODEL_LO_model : FieldRef := ⟨0x1500100, 31, 0⟩
/-- SHD_CTX_MODEL_HI.model (R324). -/
def SHD_CTX_MODEL_HI_model : FieldRef := ⟨0x1500104, 31, 0⟩
/-- SHD_CTX_ADP_LO.base (R324). -/
def SHD_CTX_ADP_LO_base : FieldRef := ⟨0x1500108, 31, 4⟩
/-- SHD_CTX_ADP_HI.base (R324). -/
def SHD_CTX_ADP_HI_base : FieldRef := ⟨0x150010C, 19, 0⟩
/-- SHD_CTX_FUSE_LO.base (R324). -/
def SHD_CTX_FUSE_LO_base : FieldRef := ⟨0x1500110, 31, 4⟩
/-- SHD_CTX_FUSE_HI.base (R324). -/
def SHD_CTX_FUSE_HI_base : FieldRef := ⟨0x1500114, 15, 0⟩
/-- SHD_CTX_FUSE_N.entries (R324). -/
def SHD_CTX_FUSE_N_entries : FieldRef := ⟨0x1500118, 10, 0⟩
/-- SHD_CTX_ADP_N.valid (R324). -/
def SHD_CTX_ADP_N_valid : FieldRef := ⟨0x150011C, 12, 0⟩
/-- FAB_ID.package (R370). -/
def FAB_ID_package : FieldRef := ⟨0x1800000, 7, 0⟩
/-- FAB_ID.member (R370). -/
def FAB_ID_member : FieldRef := ⟨0x1800000, 11, 8⟩
/-- FAB_ID.group (R370). -/
def FAB_ID_group : FieldRef := ⟨0x1800000, 15, 12⟩
/-- FAB_ID.groups (R370). -/
def FAB_ID_groups : FieldRef := ⟨0x1800000, 20, 16⟩
/-- FAB_APPL_LO.appliance (R370). -/
def FAB_APPL_LO_appliance : FieldRef := ⟨0x1800004, 31, 0⟩
/-- FAB_APPL_HI.appliance (R370). -/
def FAB_APPL_HI_appliance : FieldRef := ⟨0x1800008, 31, 0⟩
/-- FAB_CTRL.adaptive (R370). -/
def FAB_CTRL_adaptive : FieldRef := ⟨0x180000C, 0, 0⟩
/-- FAB_CTRL.gateway (R370). -/
def FAB_CTRL_gateway : FieldRef := ⟨0x180000C, 1, 1⟩
/-- FAB_CTRL.nm_bias (R370). -/
def FAB_CTRL_nm_bias : FieldRef := ⟨0x180000C, 15, 8⟩
/-- FAB_CTRL.batch_wait (R370). -/
def FAB_CTRL_batch_wait : FieldRef := ⟨0x180000C, 23, 16⟩
/-- FAB_TMO.req (R370). -/
def FAB_TMO_req : FieldRef := ⟨0x1800010, 15, 0⟩
/-- FAB_TMO.fence (R370). -/
def FAB_TMO_fence : FieldRef := ⟨0x1800010, 31, 16⟩
/-- FAB_ACKCFG.ack_count (R370). -/
def FAB_ACKCFG_ack_count : FieldRef := ⟨0x1800014, 6, 0⟩
/-- FAB_ACKCFG.ack_delay (R370). -/
def FAB_ACKCFG_ack_delay : FieldRef := ⟨0x1800014, 19, 8⟩
/-- FAB_CRED0.c0 (R370). -/
def FAB_CRED0_c0 : FieldRef := ⟨0x1800018, 11, 0⟩
/-- FAB_CRED0.c1 (R370). -/
def FAB_CRED0_c1 : FieldRef := ⟨0x1800018, 23, 12⟩
/-- FAB_CRED1.c2 (R370). -/
def FAB_CRED1_c2 : FieldRef := ⟨0x180001C, 11, 0⟩
/-- FAB_CRED1.c3 (R370). -/
def FAB_CRED1_c3 : FieldRef := ⟨0x180001C, 23, 12⟩
/-- FAB_CRED2.c4 (R370). -/
def FAB_CRED2_c4 : FieldRef := ⟨0x1800020, 11, 0⟩
/-- FAB_CRED2.c5 (R370). -/
def FAB_CRED2_c5 : FieldRef := ⟨0x1800020, 23, 12⟩
/-- FAB_HOT.threshold (R370). -/
def FAB_HOT_threshold : FieldRef := ⟨0x1800024, 15, 0⟩
/-- FAB_HOT_LINE_LO.line (R370). -/
def FAB_HOT_LINE_LO_line : FieldRef := ⟨0x1800028, 31, 6⟩
/-- FAB_HOT_LINE_HI.line (R370). -/
def FAB_HOT_LINE_HI_line : FieldRef := ⟨0x180002C, 19, 0⟩
/-- FAB_HOT_LINE_HI.space (R370). -/
def FAB_HOT_LINE_HI_space : FieldRef := ⟨0x180002C, 23, 20⟩
/-- FAB_HOT_LINE_HI.valid (R370). -/
def FAB_HOT_LINE_HI_valid : FieldRef := ⟨0x180002C, 31, 31⟩
/-- FAB_HOT_DEPTH.peak (R370). -/
def FAB_HOT_DEPTH_peak : FieldRef := ⟨0x1800030, 15, 0⟩
/-- FAB_FENCE.dst (R370). -/
def FAB_FENCE_dst : FieldRef := ⟨0x1800034, 7, 0⟩
/-- FAB_FENCE.go (R370). -/
def FAB_FENCE_go : FieldRef := ⟨0x1800034, 8, 8⟩
/-- FAB_FENCE_STATUS.status (R370). -/
def FAB_FENCE_STATUS_status : FieldRef := ⟨0x1800038, 7, 0⟩
/-- FAB_FENCE_STATUS.busy (R370). -/
def FAB_FENCE_STATUS_busy : FieldRef := ⟨0x1800038, 8, 8⟩
/-- FAB_TD_STATUS.nonce (R370). -/
def FAB_TD_STATUS_nonce : FieldRef := ⟨0x1800040, 31, 0⟩
/-- FAB_TD_INFO.job (R370). -/
def FAB_TD_INFO_job : FieldRef := ⟨0x1800044, 15, 0⟩
/-- FAB_TD_INFO.done (R370). -/
def FAB_TD_INFO_done : FieldRef := ⟨0x1800044, 16, 16⟩
/-- FAB_TD_INFO.reason (R370). -/
def FAB_TD_INFO_reason : FieldRef := ⟨0x1800044, 31, 24⟩
/-- FAB_TEARDOWN.vector (R370). -/
def FAB_TEARDOWN_vector : FieldRef := ⟨0x1800080, 31, 0⟩
/-- FAB_GRT_LO_g.links (R370). -/
def FAB_GRT_LO_g_links : FieldRef := ⟨0x1800100, 31, 0⟩
/-- FAB_GRT_HI_g.links (R370). -/
def FAB_GRT_HI_g_links : FieldRef := ⟨0x1800104, 3, 0⟩
/-- FAB_GMAP_m.group (R370). -/
def FAB_GMAP_m_group : FieldRef := ⟨0x1800200, 7, 0⟩
/-- FAB_GMAP_m.global (R370). -/
def FAB_GMAP_m_global : FieldRef := ⟨0x1800200, 11, 8⟩
/-- FAB_EPOCH_p.epoch (R370). -/
def FAB_EPOCH_p_epoch : FieldRef := ⟨0x1800400, 15, 0⟩
/-- FAB_EPOCH_p.draining (R370). -/
def FAB_EPOCH_p_draining : FieldRef := ⟨0x1800400, 16, 16⟩
/-- FAB_CTX_JOB.job (R371). -/
def FAB_CTX_JOB_job : FieldRef := ⟨0x1800800, 15, 0⟩
/-- FAB_CTX_JOB.torn (R371). -/
def FAB_CTX_JOB_torn : FieldRef := ⟨0x1800800, 16, 16⟩
/-- FAB_CTX_RSV.r2 (R371). -/
def FAB_CTX_RSV_r2 : FieldRef := ⟨0x1800804, 7, 0⟩
/-- FAB_CTX_RSV.r3 (R371). -/
def FAB_CTX_RSV_r3 : FieldRef := ⟨0x1800804, 15, 8⟩
/-- FAB_CTX_RSV.held (R371). -/
def FAB_CTX_RSV_held : FieldRef := ⟨0x1800804, 16, 16⟩
/-- FAB_P_CTRL.enable (R372). -/
def FAB_P_CTRL_enable : FieldRef := ⟨0x1810000, 0, 0⟩
/-- FAB_P_CTRL.retrain (R372). -/
def FAB_P_CTRL_retrain : FieldRef := ⟨0x1810000, 1, 1⟩
/-- FAB_P_CTRL.width (R372). -/
def FAB_P_CTRL_width : FieldRef := ⟨0x1810000, 3, 2⟩
/-- FAB_P_CTRL.retrain_limit (R372). -/
def FAB_P_CTRL_retrain_limit : FieldRef := ⟨0x1810000, 23, 8⟩
/-- FAB_P_PEER.package (R372). -/
def FAB_P_PEER_package : FieldRef := ⟨0x1810004, 7, 0⟩
/-- FAB_P_PEER.port (R372). -/
def FAB_P_PEER_port : FieldRef := ⟨0x1810004, 11, 8⟩
/-- FAB_P_PEER.connected (R372). -/
def FAB_P_PEER_connected : FieldRef := ⟨0x1810004, 12, 12⟩
/-- FAB_P_STATUS.state (R372). -/
def FAB_P_STATUS_state : FieldRef := ⟨0x1810008, 3, 0⟩
/-- FAB_P_STATUS.width (R372). -/
def FAB_P_STATUS_width : FieldRef := ⟨0x1810008, 5, 4⟩
/-- FAB_P_STATUS.seen_package (R372). -/
def FAB_P_STATUS_seen_package : FieldRef := ⟨0x1810008, 13, 6⟩
/-- FAB_P_STATUS.seen_port (R372). -/
def FAB_P_STATUS_seen_port : FieldRef := ⟨0x1810008, 17, 14⟩
/-- FAB_P_STATUS.peer_ready (R372). -/
def FAB_P_STATUS_peer_ready : FieldRef := ⟨0x1810008, 18, 18⟩
/-- FAB_P_STATUS.mismatch (R372). -/
def FAB_P_STATUS_mismatch : FieldRef := ⟨0x1810008, 19, 19⟩
/-- FAB_P_REPLAY.unacked (R372). -/
def FAB_P_REPLAY_unacked : FieldRef := ⟨0x181000C, 9, 0⟩
/-- FAB_HB.enable (R401). -/
def FAB_HB_enable : FieldRef := ⟨0x1802000, 0, 0⟩
/-- FAB_HB.period (R401). -/
def FAB_HB_period : FieldRef := ⟨0x1802000, 15, 8⟩
/-- FAB_HB.suspect_n (R401). -/
def FAB_HB_suspect_n : FieldRef := ⟨0x1802000, 23, 16⟩
/-- FAB_HB.lost_n (R401). -/
def FAB_HB_lost_n : FieldRef := ⟨0x1802000, 31, 24⟩
/-- FAB_HB_STATE_p.state (R401). -/
def FAB_HB_STATE_p_state : FieldRef := ⟨0x1802100, 1, 0⟩
/-- FAB_HB_STATE_p.missed (R401). -/
def FAB_HB_STATE_p_missed : FieldRef := ⟨0x1802100, 15, 8⟩
/-- FAB_HB_STATE_p.count (R401). -/
def FAB_HB_STATE_p_count : FieldRef := ⟨0x1802100, 31, 16⟩
/-- FAB_LOSTn.lost (R401). -/
def FAB_LOSTn_lost : FieldRef := ⟨0x1802400, 31, 0⟩
/-- FAB_HB_CMD.package (R401). -/
def FAB_HB_CMD_package : FieldRef := ⟨0x1802420, 7, 0⟩
/-- FAB_HB_CMD.clear (R401). -/
def FAB_HB_CMD_clear : FieldRef := ⟨0x1802420, 8, 8⟩
/-- FAB_HB_CMD.isolate_clear (R401). -/
def FAB_HB_CMD_isolate_clear : FieldRef := ⟨0x1802420, 9, 9⟩
/-- FAB_HB_STATUS.self (R401). -/
def FAB_HB_STATUS_self : FieldRef := ⟨0x1802424, 1, 0⟩
/-- KVM_MIR_CTRL.enable (R403). -/
def KVM_MIR_CTRL_enable : FieldRef := ⟨0x1300200, 0, 0⟩
/-- KVM_MIR_CTRL.max_lag (R403). -/
def KVM_MIR_CTRL_max_lag : FieldRef := ⟨0x1300200, 3, 1⟩
/-- KVM_MIR_CTRL.ctx_mask (R403). -/
def KVM_MIR_CTRL_ctx_mask : FieldRef := ⟨0x1300200, 23, 8⟩
/-- KVM_MIR_PEERS.peers (R403). -/
def KVM_MIR_PEERS_peers : FieldRef := ⟨0x1300204, 31, 0⟩
/-- KVM_MIR_TMO.timeout (R403). -/
def KVM_MIR_TMO_timeout : FieldRef := ⟨0x1300208, 15, 0⟩
/-- KVM_MIR_IN_LO.base (R403). -/
def KVM_MIR_IN_LO_base : FieldRef := ⟨0x1300210, 31, 16⟩
/-- KVM_MIR_IN_HI.base (R403). -/
def KVM_MIR_IN_HI_base : FieldRef := ⟨0x1300214, 15, 0⟩
/-- KVM_MIR_IN_SIZE.size (R403). -/
def KVM_MIR_IN_SIZE_size : FieldRef := ⟨0x1300218, 15, 0⟩
/-- KVM_MIR_IN_SRC.source (R403). -/
def KVM_MIR_IN_SRC_source : FieldRef := ⟨0x130021C, 7, 0⟩
/-- KVM_MIR_IN_SRC.valid (R403). -/
def KVM_MIR_IN_SRC_valid : FieldRef := ⟨0x130021C, 8, 8⟩
/-- KVM_MIR_TABLE_LO.base (R403). -/
def KVM_MIR_TABLE_LO_base : FieldRef := ⟨0x1300250, 31, 12⟩
/-- KVM_MIR_TABLE_HI.base (R403). -/
def KVM_MIR_TABLE_HI_base : FieldRef := ⟨0x1300254, 15, 0⟩
/-- KVM_MIR_ACKW_LO.base (R403). -/
def KVM_MIR_ACKW_LO_base : FieldRef := ⟨0x1300258, 31, 5⟩
/-- KVM_MIR_ACKW_HI.base (R403). -/
def KVM_MIR_ACKW_HI_base : FieldRef := ⟨0x130025C, 15, 0⟩
/-- KVM_MIR_STATUS.suspended (R403). -/
def KVM_MIR_STATUS_suspended : FieldRef := ⟨0x1300260, 3, 0⟩
/-- KVM_MIR_SAFE_n.decode (R403). -/
def KVM_MIR_SAFE_n_decode : FieldRef := ⟨0x1300280, 31, 0⟩
/-- KVM_MIR_SAFE_PRE.prefill (R403). -/
def KVM_MIR_SAFE_PRE_prefill : FieldRef := ⟨0x1300284, 31, 0⟩
/-- FCT_FENCE.cmd (R404). -/
def FCT_FENCE_cmd : FieldRef := ⟨0x2000040, 1, 0⟩
/-- FCT_FENCE_STATUS.status (R404). -/
def FCT_FENCE_STATUS_status : FieldRef := ⟨0x2000044, 7, 0⟩
/-- FCT_FENCE_STATUS.reason (R404). -/
def FCT_FENCE_STATUS_reason : FieldRef := ⟨0x2000044, 11, 8⟩
/-- FCT_FENCE_CFG.auto (R404). -/
def FCT_FENCE_CFG_auto : FieldRef := ⟨0x2000048, 0, 0⟩
/-- FCT_FENCE_CFG.ce_limit (R404). -/
def FCT_FENCE_CFG_ce_limit : FieldRef := ⟨0x2000048, 15, 8⟩
/-- FCT_FENCE_CFG.ue_limit (R404). -/
def FCT_FENCE_CFG_ue_limit : FieldRef := ⟨0x2000048, 23, 16⟩
/-- PWR_CTRL.cap_en (R423). -/
def PWR_CTRL_cap_en : FieldRef := ⟨0x300000, 0, 0⟩
/-- PWR_CAP.cap_set (R423). -/
def PWR_CAP_cap_set : FieldRef := ⟨0x300004, 10, 0⟩
/-- PWR_CAP.peak_limit (R423). -/
def PWR_CAP_peak_limit : FieldRef := ⟨0x300004, 26, 16⟩
/-- PWR_CAP2.tau (R423). -/
def PWR_CAP2_tau : FieldRef := ⟨0x300008, 7, 0⟩
/-- PWR_CAP2.ungate_margin (R423). -/
def PWR_CAP2_ungate_margin : FieldRef := ⟨0x300008, 15, 8⟩
/-- PWR_EST.sample (R423). -/
def PWR_EST_sample : FieldRef := ⟨0x30000C, 10, 0⟩
/-- PWR_EST.average (R423). -/
def PWR_EST_average : FieldRef := ⟨0x30000C, 26, 16⟩
/-- PWR_SHUT.dec_floor (R423). -/
def PWR_SHUT_dec_floor : FieldRef := ⟨0x300010, 6, 0⟩
/-- PWR_SHUT.gate_max (R423). -/
def PWR_SHUT_gate_max : FieldRef := ⟨0x300010, 11, 8⟩
/-- PWR_SHUT.ungate_inflight (R423). -/
def PWR_SHUT_ungate_inflight : FieldRef := ⟨0x300010, 19, 16⟩
/-- PWR_SHUT_STATUS.gated (R423). -/
def PWR_SHUT_STATUS_gated : FieldRef := ⟨0x300014, 6, 0⟩
/-- PWR_SHUT_STATUS.pending (R423). -/
def PWR_SHUT_STATUS_pending : FieldRef := ⟨0x300014, 14, 8⟩
/-- PWR_SHUT_STATUS.skip0 (R423). -/
def PWR_SHUT_STATUS_skip0 : FieldRef := ⟨0x300014, 19, 16⟩
/-- PWR_SHUT_STATUS.skip1 (R423). -/
def PWR_SHUT_STATUS_skip1 : FieldRef := ⟨0x300014, 23, 20⟩
/-- PWR_GATEDn.gated_map (R423). -/
def PWR_GATEDn_gated_map : FieldRef := ⟨0x300018, 31, 0⟩
/-- PWR_OPP_ph.point (R423). -/
def PWR_OPP_ph_point : FieldRef := ⟨0x300040, 2, 0⟩
/-- PWR_OPP_STATUS.point0 (R423). -/
def PWR_OPP_STATUS_point0 : FieldRef := ⟨0x300058, 2, 0⟩
/-- PWR_OPP_STATUS.point1 (R423). -/
def PWR_OPP_STATUS_point1 : FieldRef := ⟨0x300058, 6, 4⟩
/-- PWR_OPP_STATUS.phase0 (R423). -/
def PWR_OPP_STATUS_phase0 : FieldRef := ⟨0x300058, 10, 8⟩
/-- PWR_OPP_STATUS.phase1 (R423). -/
def PWR_OPP_STATUS_phase1 : FieldRef := ⟨0x300058, 14, 12⟩
/-- PWR_TRAIN.ctx_mask (R423). -/
def PWR_TRAIN_ctx_mask : FieldRef := ⟨0x30005C, 15, 0⟩
/-- PWR_STATE.max_state (R423). -/
def PWR_STATE_max_state : FieldRef := ⟨0x300060, 2, 0⟩
/-- PWR_STATE.state (R423). -/
def PWR_STATE_state : FieldRef := ⟨0x300060, 6, 4⟩
/-- PWR_STATE.entry_delay (R423). -/
def PWR_STATE_entry_delay : FieldRef := ⟨0x300060, 23, 8⟩
/-- PWR_LTR.tolerance (R423). -/
def PWR_LTR_tolerance : FieldRef := ⟨0x300064, 19, 0⟩
/-- PWR_THERM.throttle (R423). -/
def PWR_THERM_throttle : FieldRef := ⟨0x300070, 7, 0⟩
/-- PWR_THERM.crit (R423). -/
def PWR_THERM_crit : FieldRef := ⟨0x300070, 15, 8⟩
/-- PWR_THERM.stack_throttle (R423). -/
def PWR_THERM_stack_throttle : FieldRef := ⟨0x300070, 23, 16⟩
/-- PWR_TEMP_MAX.cd0 (R423). -/
def PWR_TEMP_MAX_cd0 : FieldRef := ⟨0x300074, 7, 0⟩
/-- PWR_TEMP_MAX.cd1 (R423). -/
def PWR_TEMP_MAX_cd1 : FieldRef := ⟨0x300074, 15, 8⟩
/-- PWR_TEMP_MAX.iod (R423). -/
def PWR_TEMP_MAX_iod : FieldRef := ⟨0x300074, 23, 16⟩
/-- PWR_TEMP_MAX.stacks (R423). -/
def PWR_TEMP_MAX_stacks : FieldRef := ⟨0x300074, 31, 24⟩
/-- PWR_TEMP_n.temp (R423). -/
def PWR_TEMP_n_temp : FieldRef := ⟨0x300100, 15, 0⟩
/-- CFG_TXN_CMD.cmd (R448). -/
def CFG_TXN_CMD_cmd : FieldRef := ⟨0x100000, 1, 0⟩
/-- CFG_TXN_STATUS.state (R448). -/
def CFG_TXN_STATUS_state : FieldRef := ⟨0x100004, 1, 0⟩
/-- CFG_TXN_STATUS.owner (R448). -/
def CFG_TXN_STATUS_owner : FieldRef := ⟨0x100004, 3, 2⟩
/-- CFG_TXN_STATUS.status (R448). -/
def CFG_TXN_STATUS_status : FieldRef := ⟨0x100004, 15, 8⟩
/-- CFG_TXN_STATUS.staged (R448). -/
def CFG_TXN_STATUS_staged : FieldRef := ⟨0x100004, 29, 16⟩
/-- CFG_TXN_STATUS.overflow (R448). -/
def CFG_TXN_STATUS_overflow : FieldRef := ⟨0x100004, 30, 30⟩
/-- CFG_TXN_OWNER.id (R448). -/
def CFG_TXN_OWNER_id : FieldRef := ⟨0x100008, 7, 0⟩
/-- CFG_TXN_FAIL.offset (R448). -/
def CFG_TXN_FAIL_offset : FieldRef := ⟨0x10000C, 25, 0⟩
/-- CFG_TXN_TMO.timeout (R448). -/
def CFG_TXN_TMO_timeout : FieldRef := ⟨0x100010, 15, 0⟩
/-- CFG_LEVEL.expert_en (R448). -/
def CFG_LEVEL_expert_en : FieldRef := ⟨0x100014, 0, 0⟩
/-- CFG_LEVEL.drop (R448). -/
def CFG_LEVEL_drop : FieldRef := ⟨0x100014, 1, 1⟩
/-- CFG_LEVEL.session (R448). -/
def CFG_LEVEL_session : FieldRef := ⟨0x100014, 15, 8⟩
/-- CFG_BOOT.phase (R448). -/
def CFG_BOOT_phase : FieldRef := ⟨0x100020, 3, 0⟩
/-- CFG_BOOT.done (R448). -/
def CFG_BOOT_done : FieldRef := ⟨0x100020, 4, 4⟩
/-- CFG_BOOT.cmds_done (R448). -/
def CFG_BOOT_cmds_done : FieldRef := ⟨0x100020, 5, 5⟩
/-- CFG_BOOT.cmds_failed (R448). -/
def CFG_BOOT_cmds_failed : FieldRef := ⟨0x100020, 6, 6⟩
/-- CFG_BOOT.cmd_index (R448). -/
def CFG_BOOT_cmd_index : FieldRef := ⟨0x100020, 17, 8⟩
/-- CFG_BOOT.cmd_status (R448). -/
def CFG_BOOT_cmd_status : FieldRef := ⟨0x100020, 31, 24⟩
/-- CFG_BOOT_TIME.config_ready (R448). -/
def CFG_BOOT_TIME_config_ready : FieldRef := ⟨0x100024, 15, 0⟩
/-- CFG_BOOT_TIME.fabric_ready (R448). -/
def CFG_BOOT_TIME_fabric_ready : FieldRef := ⟨0x100024, 31, 16⟩
/-- CFG_IMG_STATUS.slot (R448). -/
def CFG_IMG_STATUS_slot : FieldRef := ⟨0x100028, 0, 0⟩
/-- CFG_IMG_STATUS.fallback (R448). -/
def CFG_IMG_STATUS_fallback : FieldRef := ⟨0x100028, 1, 1⟩
/-- CFG_IMG_STATUS.failed (R448). -/
def CFG_IMG_STATUS_failed : FieldRef := ⟨0x100028, 2, 2⟩
/-- CFG_IMG_STATUS.status_a (R448). -/
def CFG_IMG_STATUS_status_a : FieldRef := ⟨0x100028, 15, 8⟩
/-- CFG_IMG_STATUS.status_b (R448). -/
def CFG_IMG_STATUS_status_b : FieldRef := ⟨0x100028, 23, 16⟩
/-- CFG_IMG_ID_LO.image_id (R448). -/
def CFG_IMG_ID_LO_image_id : FieldRef := ⟨0x10002C, 31, 0⟩
/-- CFG_IMG_ID_HI.image_id (R448). -/
def CFG_IMG_ID_HI_image_id : FieldRef := ⟨0x100030, 31, 0⟩
/-- CFG_IMG_SVN.svn (R448). -/
def CFG_IMG_SVN_svn : FieldRef := ⟨0x100034, 31, 0⟩
/-- CLK_RST_CMD.cmd (R449). -/
def CLK_RST_CMD_cmd : FieldRef := ⟨0x400000, 1, 0⟩
/-- CLK_RST_CMD.key (R449). -/
def CLK_RST_CMD_key : FieldRef := ⟨0x400000, 31, 24⟩
/-- CLK_RST_CAUSE.power_on (R449). -/
def CLK_RST_CAUSE_power_on : FieldRef := ⟨0x400004, 0, 0⟩
/-- CLK_RST_CAUSE.sys_rst (R449). -/
def CLK_RST_CAUSE_sys_rst : FieldRef := ⟨0x400004, 1, 1⟩
/-- CLK_RST_CAUSE.software (R449). -/
def CLK_RST_CAUSE_software : FieldRef := ⟨0x400004, 2, 2⟩
/-- CLK_RST_CAUSE.pwr_ok_loss (R449). -/
def CLK_RST_CAUSE_pwr_ok_loss : FieldRef := ⟨0x400004, 3, 3⟩
/-- CLK_RST_CAUSE.perst (R449). -/
def CLK_RST_CAUSE_perst : FieldRef := ⟨0x400004, 4, 4⟩
/-- CLK_STATUS.locked (R449). -/
def CLK_STATUS_locked : FieldRef := ⟨0x400008, 7, 0⟩
/-- CLK_STATUS.mclk_locked (R449). -/
def CLK_STATUS_mclk_locked : FieldRef := ⟨0x400008, 15, 8⟩
/-- SEC_LIFECYCLE.state (R473). -/
def SEC_LIFECYCLE_state : FieldRef := ⟨0x200000, 1, 0⟩
/-- SEC_LIFECYCLE.svn_fused (R473). -/
def SEC_LIFECYCLE_svn_fused : FieldRef := ⟨0x200000, 14, 8⟩
/-- SEC_PART_ID_LO.part_id (R473). -/
def SEC_PART_ID_LO_part_id : FieldRef := ⟨0x200004, 31, 0⟩
/-- SEC_PART_ID_HI.part_id (R473). -/
def SEC_PART_ID_HI_part_id : FieldRef := ⟨0x200008, 31, 0⟩
/-- SEC_KEY_n.state (R473). -/
def SEC_KEY_n_state : FieldRef := ⟨0x200010, 1, 0⟩
/-- SEC_KEY_n.roles (R473). -/
def SEC_KEY_n_roles : FieldRef := ⟨0x200010, 15, 8⟩
/-- SEC_KEY_n.failures (R473). -/
def SEC_KEY_n_failures : FieldRef := ⟨0x200010, 20, 16⟩
/-- SEC_IMGKEY_n.state (R473). -/
def SEC_IMGKEY_n_state : FieldRef := ⟨0x200030, 1, 0⟩
/-- SEC_LOCK_n.remaining (R473). -/
def SEC_LOCK_n_remaining : FieldRef := ⟨0x200050, 16, 0⟩
/-- SEC_SESS_n.number (R473). -/
def SEC_SESS_n_number : FieldRef := ⟨0x200080, 7, 0⟩
/-- SEC_SESS_n.origin (R473). -/
def SEC_SESS_n_origin : FieldRef := ⟨0x200080, 9, 8⟩
/-- SEC_SESS_n.roles (R473). -/
def SEC_SESS_n_roles : FieldRef := ⟨0x200080, 23, 16⟩
/-- SEC_SESS_n.slot (R473). -/
def SEC_SESS_n_slot : FieldRef := ⟨0x200080, 26, 24⟩
/-- SEC_SESS_n.open (R473). -/
def SEC_SESS_n_open : FieldRef := ⟨0x200080, 27, 27⟩
/-- SEC_SESS_IDLE_n.idle (R473). -/
def SEC_SESS_IDLE_n_idle : FieldRef := ⟨0x200084, 9, 0⟩
/-- SEC_REMOTE_RD.blocks (R473). -/
def SEC_REMOTE_RD_blocks : FieldRef := ⟨0x2000A0, 23, 0⟩
/-- SEC_REMOTE_WR.blocks (R473). -/
def SEC_REMOTE_WR_blocks : FieldRef := ⟨0x2000A4, 23, 0⟩
/-- SEC_MBOX_CMD.go (R473). -/
def SEC_MBOX_CMD_go : FieldRef := ⟨0x2000C0, 0, 0⟩
/-- SEC_MBOX_STATUS.busy (R473). -/
def SEC_MBOX_STATUS_busy : FieldRef := ⟨0x2000C4, 0, 0⟩
/-- SEC_MBOX_REQ.request (R473). -/
def SEC_MBOX_REQ_request : FieldRef := ⟨0x200100, 31, 0⟩
/-- SEC_MBOX_RSP.response (R473). -/
def SEC_MBOX_RSP_response : FieldRef := ⟨0x200180, 31, 0⟩
/-- DBG_LEVEL.level (R474). -/
def DBG_LEVEL_level : FieldRef := ⟨0x600000, 1, 0⟩
/-- DBG_LEVEL.session (R474). -/
def DBG_LEVEL_session : FieldRef := ⟨0x600000, 15, 8⟩
/-- DBG_CTRL.keep_awake (R474). -/
def DBG_CTRL_keep_awake : FieldRef := ⟨0x600004, 0, 0⟩
/-- DBG_LOUPE.select (R474). -/
def DBG_LOUPE_select : FieldRef := ⟨0x600008, 7, 0⟩
/-- DBG_LOUPE.unit (R474). -/
def DBG_LOUPE_unit : FieldRef := ⟨0x600008, 15, 8⟩
/-- DBG_LOUPE.div (R474). -/
def DBG_LOUPE_div : FieldRef := ⟨0x600008, 23, 16⟩
/-- DBG_LOUPE.enable (R474). -/
def DBG_LOUPE_enable : FieldRef := ⟨0x600008, 24, 24⟩
/-- DBG_LOUPE_STATUS.status (R474). -/
def DBG_LOUPE_STATUS_status : FieldRef := ⟨0x60000C, 7, 0⟩
/-- DBG_LOUPE_STATUS.frame (R474). -/
def DBG_LOUPE_STATUS_frame : FieldRef := ⟨0x60000C, 11, 8⟩
/-- DBG_JTAG_STATUS.refused (R474). -/
def DBG_JTAG_STATUS_refused : FieldRef := ⟨0x600010, 0, 0⟩
/-- DBG_JTAG_STATUS.instruction (R474). -/
def DBG_JTAG_STATUS_instruction : FieldRef := ⟨0x600010, 15, 8⟩
/-- HQ_CTRL.enable (R501). -/
def HQ_CTRL_enable : FieldRef := ⟨0x800000, 0, 0⟩
/-- HQ_CTRL.burst (R501). -/
def HQ_CTRL_burst : FieldRef := ⟨0x800000, 15, 8⟩
/-- HQ_SQ_BASE_LO.base (R501). -/
def HQ_SQ_BASE_LO_base : FieldRef := ⟨0x810000, 31, 12⟩
/-- HQ_SQ_BASE_HI.base (R501). -/
def HQ_SQ_BASE_HI_base : FieldRef := ⟨0x810004, 30, 0⟩
/-- HQ_SQ_CFG.size_m1 (R501). -/
def HQ_SQ_CFG_size_m1 : FieldRef := ⟨0x810008, 15, 0⟩
/-- HQ_SQ_CFG.cq (R501). -/
def HQ_SQ_CFG_cq : FieldRef := ⟨0x810008, 25, 16⟩
/-- HQ_SQ_CFG.enable (R501). -/
def HQ_SQ_CFG_enable : FieldRef := ⟨0x810008, 26, 26⟩
/-- HQ_SQ_STATUS.head (R501). -/
def HQ_SQ_STATUS_head : FieldRef := ⟨0x81000C, 15, 0⟩
/-- HQ_SQ_STATUS.error (R501). -/
def HQ_SQ_STATUS_error : FieldRef := ⟨0x81000C, 16, 16⟩
/-- HQ_CQ_BASE_LO.base (R501). -/
def HQ_CQ_BASE_LO_base : FieldRef := ⟨0x830000, 31, 12⟩
/-- HQ_CQ_BASE_HI.base (R501). -/
def HQ_CQ_BASE_HI_base : FieldRef := ⟨0x830004, 30, 0⟩
/-- HQ_CQ_CFG.size_m1 (R501). -/
def HQ_CQ_CFG_size_m1 : FieldRef := ⟨0x830008, 15, 0⟩
/-- HQ_CQ_CFG.vector (R501). -/
def HQ_CQ_CFG_vector : FieldRef := ⟨0x830008, 26, 16⟩
/-- HQ_CQ_CFG.enable (R501). -/
def HQ_CQ_CFG_enable : FieldRef := ⟨0x830008, 27, 27⟩
/-- HQ_CQ_CFG.irq_en (R501). -/
def HQ_CQ_CFG_irq_en : FieldRef := ⟨0x830008, 28, 28⟩
/-- HQ_CQ_COAL.coal_count (R501). -/
def HQ_CQ_COAL_coal_count : FieldRef := ⟨0x83000C, 7, 0⟩
/-- HQ_CQ_COAL.coal_time (R501). -/
def HQ_CQ_COAL_coal_time : FieldRef := ⟨0x83000C, 23, 8⟩
/-- HQ_CQ_STATUS.tail (R501). -/
def HQ_CQ_STATUS_tail : FieldRef := ⟨0x830010, 15, 0⟩
/-- HQ_CQ_STATUS.phase (R501). -/
def HQ_CQ_STATUS_phase : FieldRef := ⟨0x830010, 16, 16⟩
/-- HQ_CQ_STATUS.error (R501). -/
def HQ_CQ_STATUS_error : FieldRef := ⟨0x830010, 17, 17⟩
/-- HST_ID.vendor (R502). -/
def HST_ID_vendor : FieldRef := ⟨0x3800000, 15, 0⟩
/-- HST_ID.device (R502). -/
def HST_ID_device : FieldRef := ⟨0x3800000, 31, 16⟩
/-- HST_LINK.speed (R502). -/
def HST_LINK_speed : FieldRef := ⟨0x3800004, 3, 0⟩
/-- HST_LINK.width (R502). -/
def HST_LINK_width : FieldRef := ⟨0x3800004, 8, 4⟩
/-- HST_LINK.up (R502). -/
def HST_LINK_up : FieldRef := ⟨0x3800004, 9, 9⟩
/-- HST_WIN_HI.base (R502). -/
def HST_WIN_HI_base : FieldRef := ⟨0x3800014, 19, 0⟩
/-- SMB_STATUS.address (R502). -/
def SMB_STATUS_address : FieldRef := ⟨0x3A00000, 6, 0⟩
/-- SMB_STATUS.eid (R502). -/
def SMB_STATUS_eid : FieldRef := ⟨0x3A00000, 15, 8⟩
/-- ETH_P_CTRL.enable (R503). -/
def ETH_P_CTRL_enable : FieldRef := ⟨0x3900000, 0, 0⟩
/-- ETH_P_CTRL.kr (R503). -/
def ETH_P_CTRL_kr : FieldRef := ⟨0x3900000, 1, 1⟩
/-- ETH_P_CTRL.pfc_prio (R503). -/
def ETH_P_CTRL_pfc_prio : FieldRef := ⟨0x3900000, 4, 2⟩
/-- ETH_P_CTRL.pfc_en (R503). -/
def ETH_P_CTRL_pfc_en : FieldRef := ⟨0x3900000, 5, 5⟩
/-- ETH_P_STATUS.up (R503). -/
def ETH_P_STATUS_up : FieldRef := ⟨0x3900004, 0, 0⟩
/-- ETH_P_MAC_LO.mac (R503). -/
def ETH_P_MAC_LO_mac : FieldRef := ⟨0x3900008, 31, 0⟩
/-- ETH_P_MAC_HI.mac (R503). -/
def ETH_P_MAC_HI_mac : FieldRef := ⟨0x390000C, 15, 0⟩
/-- ETH_P_IPn.ip (R503). -/
def ETH_P_IPn_ip : FieldRef := ⟨0x3900010, 31, 0⟩
/-- ETH_QP_CTX.context (R503). -/
def ETH_QP_CTX_context : FieldRef := ⟨0x3901000, 31, 0⟩
/-- SPI_CMD.op (R503). -/
def SPI_CMD_op : FieldRef := ⟨0x3B00000, 2, 0⟩
/-- SPI_CMD.len (R503). -/
def SPI_CMD_len : FieldRef := ⟨0x3B00000, 12, 4⟩
/-- SPI_ADDR.addr (R503). -/
def SPI_ADDR_addr : FieldRef := ⟨0x3B00004, 31, 0⟩
/-- SPI_STATUS.status (R503). -/
def SPI_STATUS_status : FieldRef := ⟨0x3B00008, 7, 0⟩
/-- SPI_STATUS.busy (R503). -/
def SPI_STATUS_busy : FieldRef := ⟨0x3B00008, 8, 8⟩
/-- SPI_INFO.jedec_id (R503). -/
def SPI_INFO_jedec_id : FieldRef := ⟨0x3B0000C, 23, 0⟩
/-- SPI_BUF.data (R503). -/
def SPI_BUF_data : FieldRef := ⟨0x3B00100, 31, 0⟩
/-- GLB_ID.part (R508). -/
def GLB_ID_part : FieldRef := ⟨0, 15, 0⟩
/-- GLB_ID.stepping (R508). -/
def GLB_ID_stepping : FieldRef := ⟨0, 23, 16⟩
/-- GLB_STATUS.config_ready (R508). -/
def GLB_STATUS_config_ready : FieldRef := ⟨8, 0, 0⟩
/-- GLB_STATUS.fabric_ready (R508). -/
def GLB_STATUS_fabric_ready : FieldRef := ⟨8, 1, 1⟩
/-- GLB_STATUS.config_failed (R508). -/
def GLB_STATUS_config_failed : FieldRef := ⟨8, 2, 2⟩
/-- GLB_STATUS.fatal (R508). -/
def GLB_STATUS_fatal : FieldRef := ⟨8, 3, 3⟩
/-- GLB_STATUS.alert (R508). -/
def GLB_STATUS_alert : FieldRef := ⟨8, 4, 4⟩
/-- GLB_STATUS.power_state (R508). -/
def GLB_STATUS_power_state : FieldRef := ⟨8, 7, 5⟩
/-- GLB_STATUS.lifecycle (R508). -/
def GLB_STATUS_lifecycle : FieldRef := ⟨8, 9, 8⟩
/-- GLB_STATUS.debug (R508). -/
def GLB_STATUS_debug : FieldRef := ⟨8, 11, 10⟩
/-- GLB_STATUS.expert_en (R508). -/
def GLB_STATUS_expert_en : FieldRef := ⟨8, 12, 12⟩
/-- GLB_SCRATCH.scratch (R508). -/
def GLB_SCRATCH_scratch : FieldRef := ⟨0xC, 31, 0⟩
/-- GLB_US_LO.us (R508). -/
def GLB_US_LO_us : FieldRef := ⟨0x10, 31, 0⟩
/-- GLB_US_HI.us (R508). -/
def GLB_US_HI_us : FieldRef := ⟨0x14, 31, 0⟩
/-- GLB_MS.ms (R508). -/
def GLB_MS_ms : FieldRef := ⟨0x18, 31, 0⟩
/-- GLB_ACCESS.offset (R508). -/
def GLB_ACCESS_offset : FieldRef := ⟨0x20, 25, 0⟩
/-- GLB_ACCESS.reason (R508). -/
def GLB_ACCESS_reason : FieldRef := ⟨0x20, 28, 26⟩
/-- GLB_ACCESS.originator (R508). -/
def GLB_ACCESS_originator : FieldRef := ⟨0x20, 30, 29⟩
/-- GLB_ACCESS.valid (R508). -/
def GLB_ACCESS_valid : FieldRef := ⟨0x20, 31, 31⟩
/-- GLB_CNT_CLEAR.blocks (R508). -/
def GLB_CNT_CLEAR_blocks : FieldRef := ⟨0x24, 23, 0⟩
/-- EVT_CTRL.log_en (R520). -/
def EVT_CTRL_log_en : FieldRef := ⟨0x500000, 0, 0⟩
/-- EVT_CTRL.rate_max (R520). -/
def EVT_CTRL_rate_max : FieldRef := ⟨0x500000, 15, 8⟩
/-- EVT_RING_LO.base (R520). -/
def EVT_RING_LO_base : FieldRef := ⟨0x500004, 31, 6⟩
/-- EVT_RING_HI.base (R520). -/
def EVT_RING_HI_base : FieldRef := ⟨0x500008, 31, 0⟩
/-- EVT_RING_SIZE.log2 (R520). -/
def EVT_RING_SIZE_log2 : FieldRef := ⟨0x50000C, 4, 0⟩
/-- EVT_RING_HEAD.head (R520). -/
def EVT_RING_HEAD_head : FieldRef := ⟨0x500010, 15, 0⟩
/-- EVT_RING_TAIL.tail (R520). -/
def EVT_RING_TAIL_tail : FieldRef := ⟨0x500014, 15, 0⟩
/-- EVT_STATUS.early (R520). -/
def EVT_STATUS_early : FieldRef := ⟨0x500018, 8, 0⟩
/-- EVT_STATUS.overflow (R520). -/
def EVT_STATUS_overflow : FieldRef := ⟨0x500018, 9, 9⟩
/-- EVT_STATUS.active (R520). -/
def EVT_STATUS_active : FieldRef := ⟨0x500018, 10, 10⟩
/-- EVT_ALERT.pending (R520). -/
def EVT_ALERT_pending : FieldRef := ⟨0x50001C, 0, 0⟩
/-- EVT_ALERT.classes (R520). -/
def EVT_ALERT_classes : FieldRef := ⟨0x50001C, 4, 1⟩
/-- EVT_LAST.record (R520). -/
def EVT_LAST_record : FieldRef := ⟨0x500040, 31, 0⟩
/-- RTC_CTRL.enable (R73). -/
def RTC_CTRL_enable : FieldRef := ⟨0x3400000, 0, 0⟩
/-- RTC_CTRL.auto_fallback (R73). -/
def RTC_CTRL_auto_fallback : FieldRef := ⟨0x3400000, 1, 1⟩
/-- RTC_CTRL.sample_log2 (R73). -/
def RTC_CTRL_sample_log2 : FieldRef := ⟨0x3400000, 7, 4⟩
/-- RTC_CTRL.fallback_max (R73). -/
def RTC_CTRL_fallback_max : FieldRef := ⟨0x3400000, 15, 8⟩
/-- RTC_LAYER.state (R77). -/
def RTC_LAYER_state : FieldRef := ⟨0x3410000, 2, 0⟩
/-- RTC_LAYER.has_reserve (R77). -/
def RTC_LAYER_has_reserve : FieldRef := ⟨0x3410000, 3, 3⟩
/-- RTC_LAYER.history (R77). -/
def RTC_LAYER_history : FieldRef := ⟨0x3410000, 15, 8⟩
/-- RTC_LAYER.tol_override (R77). -/
def RTC_LAYER_tol_override : FieldRef := ⟨0x3410000, 31, 16⟩
/-- FCT_SEQ_STATUS.running (R154). -/
def FCT_SEQ_STATUS_running : FieldRef := ⟨0x2000030, 0, 0⟩
/-- FCT_SEQ_STATUS.waiting (R154). -/
def FCT_SEQ_STATUS_waiting : FieldRef := ⟨0x2000030, 1, 1⟩
/-- FCT_SEQ_STATUS.standing_down (R154). -/
def FCT_SEQ_STATUS_standing_down : FieldRef := ⟨0x2000030, 2, 2⟩
/-- FCT_SEQ_STATUS.status (R154). -/
def FCT_SEQ_STATUS_status : FieldRef := ⟨0x2000030, 15, 8⟩
/-- FCT_SEQ_STATUS.index (R154). -/
def FCT_SEQ_STATUS_index : FieldRef := ⟨0x2000030, 31, 16⟩
/-- PRS_POLICY_n.override (R193). -/
def PRS_POLICY_n_override : FieldRef := ⟨0x1200040, 0, 0⟩
/-- PRS_POLICY_n.drop_mode (R193). -/
def PRS_POLICY_n_drop_mode : FieldRef := ⟨0x1200040, 2, 1⟩
/-- PRS_POLICY_n.renorm (R193). -/
def PRS_POLICY_n_renorm : FieldRef := ⟨0x1200040, 3, 3⟩
/-- PRS_POLICY_n.spill_depth (R193). -/
def PRS_POLICY_n_spill_depth : FieldRef := ⟨0x1200040, 7, 4⟩
/-- PRS_POLICY_n.cap_factor (R193). -/
def PRS_POLICY_n_cap_factor : FieldRef := ⟨0x1200040, 15, 8⟩
/-- PRS_POLICY_n.cap_abs (R193). -/
def PRS_POLICY_n_cap_abs : FieldRef := ⟨0x1200040, 31, 16⟩
/-- RES_SEM_n.held (R302). -/
def RES_SEM_n_held : FieldRef := ⟨0x1608000, 0, 0⟩
/-- RES_SEM_n.holder (R302). -/
def RES_SEM_n_holder : FieldRef := ⟨0x1608000, 7, 4⟩
/-- RES_SEM_n.broken_for (R302). -/
def RES_SEM_n_broken_for : FieldRef := ⟨0x1608000, 11, 8⟩
/-- RES_SEM_n.broken (R302). -/
def RES_SEM_n_broken : FieldRef := ⟨0x1608000, 12, 12⟩
/-- RES_SEM_n.waiters (R302). -/
def RES_SEM_n_waiters : FieldRef := ⟨0x1608000, 20, 16⟩
/-- FAB_P_LANE.failed (R402). -/
def FAB_P_LANE_failed : FieldRef := ⟨0x1810010, 7, 0⟩
/-- FAB_P_LANE.lane_limit (R402). -/
def FAB_P_LANE_lane_limit : FieldRef := ⟨0x1810010, 23, 16⟩
/-- FAB_P_LANE.spare_en (R402). -/
def FAB_P_LANE_spare_en : FieldRef := ⟨0x1810010, 24, 24⟩
/-- FCT_CTX_ADDR_LO.addr (R120). -/
def FCT_CTX_ADDR_LO_addr : FieldRef := ⟨0x2000010, 31, 6⟩
/-- FCT_CTX_ADDR_HI.addr (R120). -/
def FCT_CTX_ADDR_HI_addr : FieldRef := ⟨0x2000014, 31, 0⟩
/-- FCT_SCAN_ADDR_LO.addr (R121). -/
def FCT_SCAN_ADDR_LO_addr : FieldRef := ⟨0x2000028, 31, 6⟩
/-- FCT_SCAN_ADDR_HI.addr (R121). -/
def FCT_SCAN_ADDR_HI_addr : FieldRef := ⟨0x200002C, 31, 0⟩
/-- FCT_SEQ_PROG_LO.prog (R154). -/
def FCT_SEQ_PROG_LO_prog : FieldRef := ⟨0x2000038, 31, 0⟩
/-- FCT_SEQ_PROG_HI.prog (R154). -/
def FCT_SEQ_PROG_HI_prog : FieldRef := ⟨0x200003C, 31, 0⟩
/-- FCT_SEQ_X.x (R154). -/
def FCT_SEQ_X_x : FieldRef := ⟨0x2000200, 31, 0⟩
/-- FCT_CTX_WIN.data (R122). -/
def FCT_CTX_WIN_data : FieldRef := ⟨0x2010000, 31, 0⟩
/-- FCT_DESC_WIN.data (R155). -/
def FCT_DESC_WIN_data : FieldRef := ⟨0x2020000, 31, 0⟩
/-- PWR_W_k.weight (R423). -/
def PWR_W_k_weight : FieldRef := ⟨0x300200, 15, 0⟩
/-- HQ_MSIX_ADDR_LO.addr (R501). -/
def HQ_MSIX_ADDR_LO_addr : FieldRef := ⟨0x880000, 31, 2⟩
/-- HQ_MSIX_ADDR_HI.addr (R501). -/
def HQ_MSIX_ADDR_HI_addr : FieldRef := ⟨0x880004, 31, 0⟩
/-- HQ_MSIX_DATA.data (R501). -/
def HQ_MSIX_DATA_data : FieldRef := ⟨0x880008, 31, 0⟩
/-- HQ_MSIX_CTRL.mask (R501). -/
def HQ_MSIX_CTRL_mask : FieldRef := ⟨0x88000C, 0, 0⟩
/-- HQ_MSIX_PBA.pending (R501). -/
def HQ_MSIX_PBA_pending : FieldRef := ⟨0x890000, 31, 0⟩

end Sys2Proof.Machine.F

namespace Sys2Proof.Machine.C

/-- RTC_SAMPLES (R78): Samples compared. -/
def RTC_SAMPLES : Nat := 0x3400020
/-- RTC_FIDELITY_FAIL (R78): Failed fidelity samples. -/
def RTC_FIDELITY_FAIL : Nat := 0x3400028
/-- RTC_EXACT_MISMATCH (R78): Failed exact samples. -/
def RTC_EXACT_MISMATCH : Nat := 0x3400030
/-- RTC_SKIPPED (R78): Samples skipped under R64. -/
def RTC_SKIPPED : Nat := 0x3400038
/-- RTC_CARRY_CLAMP (R78): Carry clamps under R57, both streams. -/
def RTC_CARRY_CLAMP : Nat := 0x3400040
/-- RTC_COMBINE_CLAMP (R78): Saturated combine blocks under R50. -/
def RTC_COMBINE_CLAMP : Nat := 0x3400048
/-- RTC_NONFINITE (R78): Non-finite and NaN input elements under R46. -/
def RTC_NONFINITE : Nat := 0x3400050
/-- RTC_RESIDUE (R78): Residue mismatches under R63. -/
def RTC_RESIDUE : Nat := 0x3400058
/-- RTC_OUT_SAT (R78): Output saturations under R55 and R56. -/
def RTC_OUT_SAT : Nat := 0x3400060
/-- FCT_FIRES (R123): Firings of all units and address generators. -/
def FCT_FIRES : Nat := 0x2000100
/-- FCT_STALL_IN (R123): Unit-cycles enabled but failing condition 2 of R96. -/
def FCT_STALL_IN : Nat := 0x2000108
/-- FCT_STALL_OUT (R123): Unit-cycles failing condition 3 only. -/
def FCT_STALL_OUT : Nat := 0x2000110
/-- FCT_DLK_SPILLS (R123): Spills under R110. -/
def FCT_DLK_SPILLS : Nat := 0x2000118
/-- FCT_DLK_UNRESOLVED (R123): Unresolved deadlocks under R112. -/
def FCT_DLK_UNRESOLVED : Nat := 0x2000120
/-- FCT_CTX_SWITCHES (R123): Switches that took effect. -/
def FCT_CTX_SWITCHES : Nat := 0x2000128
/-- FCT_STEER_DISCARD (R123): Entries discarded by GATE nodes. -/
def FCT_STEER_DISCARD : Nat := 0x2000130
/-- FCT_SRAM_CE (R123): Corrected SECDED errors in the facet. -/
def FCT_SRAM_CE : Nat := 0x2000138
/-- FCT_SRAM_UE (R123): Uncorrected SECDED errors in the facet. -/
def FCT_SRAM_UE : Nat := 0x2000140
/-- FCT_MAC_USEFUL (R157): Multiply-accumulates on valid operands. -/
def FCT_MAC_USEFUL : Nat := 0x2000148
/-- FCT_MAC_PADDED (R157): Multiply-accumulates on padded operands. -/
def FCT_MAC_PADDED : Nat := 0x2000150
/-- FCT_TILES (R157): Tiles finished. -/
def FCT_TILES : Nat := 0x2000158
/-- FCT_TILES_RETURNED (R157): Tiles returned under R148. -/
def FCT_TILES_RETURNED : Nat := 0x2000160
/-- PRS_TOKENS (R195): Tokens merged. -/
def PRS_TOKENS : Nat := 0x1200300
/-- PRS_TIES (R195): Ties at the choice boundary under R169. -/
def PRS_TIES : Nat := 0x1200308
/-- PRS_RECORDS (R195): DISPATCH and SPILL records sent. -/
def PRS_RECORDS : Nat := 0x1200310
/-- PRS_ADMITTED (R195): Choices admitted here. -/
def PRS_ADMITTED : Nat := 0x1200318
/-- PRS_DROPPED (R195): Choices dropped here. -/
def PRS_DROPPED : Nat := 0x1200320
/-- PRS_SPILLS (R195): SPILL records sent. -/
def PRS_SPILLS : Nat := 0x1200328
/-- PRS_FORCED_DROP (R195): Forced drops in NONE mode. -/
def PRS_FORCED_DROP : Nat := 0x1200330
/-- PRS_REFUSED (R195): Choices refused here. -/
def PRS_REFUSED : Nat := 0x1200338
/-- PRS_ALL_DROPPED (R195): Tokens with no admitted routed choice. -/
def PRS_ALL_DROPPED : Nat := 0x1200340
/-- PRS_RETURNS (R195): RETURN records received. -/
def PRS_RETURNS : Nat := 0x1200348
/-- PRS_HELD_READS (R195): Reads held under R188. -/
def PRS_HELD_READS : Nat := 0x1200350
/-- PRS_TIMEOUTS (R195): Close and return timeouts. -/
def PRS_TIMEOUTS : Nat := 0x1200358
/-- KVM_LENS_WIDEN (R233): Pages widened under R210. -/
def KVM_LENS_WIDEN : Nat := 0x1300100
/-- KVM_LENS_NARROW (R233): Pages narrowed under R210. -/
def KVM_LENS_NARROW : Nat := 0x1300108
/-- KVM_ALLOC (R233): Frames allocated. -/
def KVM_ALLOC : Nat := 0x1300110
/-- KVM_FREED (R233): Frames freed under R219. -/
def KVM_FREED : Nat := 0x1300118
/-- KVM_COW (R233): Copies under R221. -/
def KVM_COW : Nat := 0x1300120
/-- KVM_ALLOC_FAIL (R233): Failed allocations. -/
def KVM_ALLOC_FAIL : Nat := 0x1300128
/-- KVM_PINNED (R233): Frames that became pinned. -/
def KVM_PINNED : Nat := 0x1300130
/-- KVM_EXPIRIES (R233): Paused slots expired. -/
def KVM_EXPIRIES : Nat := 0x1300138
/-- KVM_TAKE_UPS (R233): TAKE_UP commands completed. -/
def KVM_TAKE_UPS : Nat := 0x1300140
/-- KVM_PAGES_MOVED (R233): Pages moved by PAUSE or RESUME. -/
def KVM_PAGES_MOVED : Nat := 0x1300148
/-- MMU_WALKS (R233): Walks started. -/
def MMU_WALKS : Nat := 0x3600100
/-- MMU_FAULTS (R233): Walks failed under R214. -/
def MMU_FAULTS : Nat := 0x3600108
/-- MMU_INVALIDATIONS (R233): Cache entries invalidated. -/
def MMU_INVALIDATIONS : Nat := 0x3600110
/-- ADM_ADMITTED (R271): Requests admitted. -/
def ADM_ADMITTED : Nat := 0x1100100
/-- ADM_BORROWED (R271): Requests admitted as borrowed. -/
def ADM_BORROWED : Nat := 0x1100108
/-- ADM_REFUSED (R271): SUBMITs refused with REJ_BUSY. -/
def ADM_REFUSED : Nat := 0x1100110
/-- ADM_DISPLACED (R271): Requests displaced. -/
def ADM_DISPLACED : Nat := 0x1100118
/-- ADM_EXPIRED (R271): Requests expired in the queue. -/
def ADM_EXPIRED : Nat := 0x1100120
/-- SEQ_STEPS (R271): Steps committed, all series and contexts. -/
def SEQ_STEPS : Nat := 0x1000800
/-- SEQ_POSITIONS (R271): Positions committed. -/
def SEQ_POSITIONS : Nat := 0x1000808
/-- SEQ_NOT_STEPPED (R271): Entries committed with h = 0 under R256. -/
def SEQ_NOT_STEPPED : Nat := 0x1000810
/-- SEQ_DRAFTED (R271): Draft tokens verified. -/
def SEQ_DRAFTED : Nat := 0x1000818
/-- SEQ_ACCEPTED (R271): Draft tokens accepted. -/
def SEQ_ACCEPTED : Nat := 0x1000820
/-- SEQ_CENSUS_TIMEOUT (R271): Censuses missing under R247. -/
def SEQ_CENSUS_TIMEOUT : Nat := 0x1000828
/-- SEQ_FOCUS_MOVES (R271): Focus moves completed. -/
def SEQ_FOCUS_MOVES : Nat := 0x1000830
/-- SEQ_REQUESTS (R271): Final completions of admitted requests. -/
def SEQ_REQUESTS : Nat := 0x1000838
/-- TIER_T1_READ (R303): Tier-1 bytes read, in units of 64 bytes. -/
def TIER_T1_READ : Nat := 0x1400100
/-- TIER_T1_WRITE (R303): Tier-1 bytes written, in units of 64 bytes. -/
def TIER_T1_WRITE : Nat := 0x1400108
/-- TIER_T2_READ (R303): Tier-2 bytes read, in units of 64 bytes. -/
def TIER_T2_READ : Nat := 0x1400110
/-- TIER_T2_WRITE (R303): Tier-2 bytes written, in units of 64 bytes. -/
def TIER_T2_WRITE : Nat := 0x1400118
/-- TIER_T1_CE (R303): Corrected tier-1 accesses under R278. -/
def TIER_T1_CE : Nat := 0x1400120
/-- TIER_T1_UE (R303): Uncorrected tier-1 accesses. -/
def TIER_T1_UE : Nat := 0x1400128
/-- TIER_T2_CE (R303): Corrected tier-2 accesses. -/
def TIER_T2_CE : Nat := 0x1400130
/-- TIER_T2_UE (R303): Uncorrected tier-2 accesses. -/
def TIER_T2_UE : Nat := 0x1400138
/-- TIER_UNITS (R303): Units filled into landing rings. -/
def TIER_UNITS : Nat := 0x1400140
/-- TIER_STAGED_HITS (R303): Units filled from staged copies. -/
def TIER_STAGED_HITS : Nat := 0x1400148
/-- TIER_STAGED_UNUSED (R303): Staged units freed unused. -/
def TIER_STAGED_UNUSED : Nat := 0x1400150
/-- TIER_RING_WAIT (R303): Facet-cycles of bound generators waiting on fills. -/
def TIER_RING_WAIT : Nat := 0x1400158
/-- RES_PREEMPTS (R303): PREEMPT commands completed. -/
def RES_PREEMPTS : Nat := 0x1600100
/-- RES_PROMOTIONS (R303): PROMOTE commands completed. -/
def RES_PROMOTIONS : Nat := 0x1600108
/-- RES_REVOKED (R303): Semaphores revoked under R297. -/
def RES_REVOKED : Nat := 0x1600110
/-- RES_CTX_WALL (R303): W of R298, in ns. -/
def RES_CTX_WALL : Nat := 0x1601048
/-- RES_CTX_INTERF (R303): Q + A of R298, in ns. -/
def RES_CTX_INTERF : Nat := 0x1601050
/-- RES_CTX_ABANDONED (R303): Tiles discarded under R294. -/
def RES_CTX_ABANDONED : Nat := 0x1601058
/-- SHD_LOADS (R325): Loads completed with DONE or DONE_DEGRADED. -/
def SHD_LOADS : Nat := 0x1500300
/-- SHD_LOAD_BYTES (R325): Payload bytes landed, in units of 256 bytes. -/
def SHD_LOAD_BYTES : Nat := 0x1500308
/-- SHD_DIGEST_FAIL (R325): Loads completed with ERR_INTEGRITY. -/
def SHD_DIGEST_FAIL : Nat := 0x1500310
/-- SHD_TRANSPORT_FAIL (R325): Loads completed with ERR_UNCORRECTED. -/
def SHD_TRANSPORT_FAIL : Nat := 0x1500318
/-- SHD_UNVERIFIED (R325): Format-1 loads. -/
def SHD_UNVERIFIED : Nat := 0x1500320
/-- SHD_SCRUB_BYTES (R325): Bytes scrubbed, in units of 256 bytes. -/
def SHD_SCRUB_BYTES : Nat := 0x1500328
/-- SHD_SCRUB_FAIL (R325): Entries set BAD by scrub. -/
def SHD_SCRUB_FAIL : Nat := 0x1500330
/-- SHD_HELD_READS (R325): Reads held under R309. -/
def SHD_HELD_READS : Nat := 0x1500338
/-- SHD_ADAPTED_ROWS (R325): Rows that took an adapter delta under R320. -/
def SHD_ADAPTED_ROWS : Nat := 0x1500340
/-- FAB_DUPLICATES (R373): Packets discarded under R349 as duplicates. -/
def FAB_DUPLICATES : Nat := 0x1801000
/-- FAB_REROUTED (R373): Packets re-injected under R344. -/
def FAB_REROUTED : Nat := 0x1801008
/-- FAB_TIMEOUTS (R373): Poison responses under R364. -/
def FAB_TIMEOUTS : Nat := 0x1801010
/-- FAB_LATE (R373): Late responses discarded. -/
def FAB_LATE : Nat := 0x1801018
/-- FAB_ABSORBED (R373): Packets absorbed under R366. -/
def FAB_ABSORBED : Nat := 0x1801020
/-- FAB_TEARDOWNS (R373): Vectors acted on. -/
def FAB_TEARDOWNS : Nat := 0x1801028
/-- FAB_HOT_EVENTS (R373): Hot-spot events. -/
def FAB_HOT_EVENTS : Nat := 0x1801030
/-- FAB_GW_BATCHES (R373): GW_BATCH packets sent. -/
def FAB_GW_BATCHES : Nat := 0x1801038
/-- FAB_NOT_READY (R373): Retries under R363. -/
def FAB_NOT_READY : Nat := 0x1801040
/-- FAB_ROUTE_CHANGES (R373): Route epochs advanced. -/
def FAB_ROUTE_CHANGES : Nat := 0x1801048
/-- FAB_P_TX_FLITS (R373): Data flits sent, replays included. -/
def FAB_P_TX_FLITS : Nat := 0x1810100
/-- FAB_P_RX_FLITS (R373): Data flits accepted. -/
def FAB_P_RX_FLITS : Nat := 0x1810108
/-- FAB_P_FEC_SYMBOLS (R373): Symbols corrected. -/
def FAB_P_FEC_SYMBOLS : Nat := 0x1810110
/-- FAB_P_FEC_UNCORR (R373): Uncorrectable codeword pairs. -/
def FAB_P_FEC_UNCORR : Nat := 0x1810118
/-- FAB_P_CRC (R373): Frames failing the CRC. -/
def FAB_P_CRC : Nat := 0x1810120
/-- FAB_P_REPLAYS (R373): Naks sent. -/
def FAB_P_REPLAYS : Nat := 0x1810128
/-- FAB_P_PROTOCOL (R373): Link protocol errors. -/
def FAB_P_PROTOCOL : Nat := 0x1810130
/-- FAB_P_RETRAINS (R373): Entries to RETRAIN. -/
def FAB_P_RETRAINS : Nat := 0x1810138
/-- FAB_HB_SUSPECT (R405): Entries to SUSPECT. -/
def FAB_HB_SUSPECT : Nat := 0x1801050
/-- FAB_HB_LOST (R405): Entries to LOST. -/
def FAB_HB_LOST : Nat := 0x1801058
/-- FAB_HB_FENCED (R405): Packets discarded under R379. -/
def FAB_HB_FENCED : Nat := 0x1801060
/-- FAB_P_SPARES (R405): Retrains to ×4 under R395. -/
def FAB_P_SPARES : Nat := 0x1810140
/-- KVM_MIR_BYTES (R405): Mirror bytes sent, in units of 256 bytes. -/
def KVM_MIR_BYTES : Nat := 0x1300150
/-- KVM_MIR_APPLIED (R405): Entries applied as a peer. -/
def KVM_MIR_APPLIED : Nat := 0x1300158
/-- KVM_MIR_BROKEN (R405): Slots made BROKEN, or skipped by ADOPT_ALL. -/
def KVM_MIR_BROKEN : Nat := 0x1300160
/-- KVM_ADOPTED (R405): Slots adopted. -/
def KVM_ADOPTED : Nat := 0x1300168
/-- FCT_FENCES (R405): Fences of the facet. -/
def FCT_FENCES : Nat := 0x2000168
/-- PWR_ENERGY (R424): Σ P̂ × 2 µs, in mJ. -/
def PWR_ENERGY : Nat := 0x300300
/-- PWR_GATES (R424): Facets gated by the Shutter. -/
def PWR_GATES : Nat := 0x300308
/-- PWR_UNGATES (R424): Facets ungated. -/
def PWR_UNGATES : Nat := 0x300310
/-- PWR_SKIP_SAMPLES (R424): Die-samples with a non-zero cycle skip. -/
def PWR_SKIP_SAMPLES : Nat := 0x300318
/-- PWR_OPP_CHANGES (R424): Operating-point changes. -/
def PWR_OPP_CHANGES : Nat := 0x300320
/-- PWR_STATE_ENTRIES (R424): Entries to P1 to P4. -/
def PWR_STATE_ENTRIES : Nat := 0x300328
/-- PWR_THROTTLE_MS (R424): Die-milliseconds under thermal throttle or crit. -/
def PWR_THROTTLE_MS : Nat := 0x300330
/-- CFG_COMMITS (R450): Commits completed with DONE, the boot commit included. -/
def CFG_COMMITS : Nat := 0x100100
/-- CFG_COMMIT_FAIL (R450): Commits refused under R443. -/
def CFG_COMMIT_FAIL : Nat := 0x100108
/-- CFG_ABORTS (R450): Transactions aborted by command or under R444. -/
def CFG_ABORTS : Nat := 0x100110
/-- CFG_BOOT_CMDS (R450): Boot commands completed. -/
def CFG_BOOT_CMDS : Nat := 0x100118
/-- SEC_AUTH_OK (R475): Successful AUTHs. -/
def SEC_AUTH_OK : Nat := 0x200300
/-- SEC_AUTH_FAIL (R475): Failed AUTHs. -/
def SEC_AUTH_FAIL : Nat := 0x200308
/-- SEC_LOCKOUTS (R475): Lockouts started under R463. -/
def SEC_LOCKOUTS : Nat := 0x200310
/-- SEC_REMOTE_REFUSED (R475): Remote MMIO accesses refused under R457. -/
def SEC_REMOTE_REFUSED : Nat := 0x200318
/-- DBG_LEVEL_CHANGES (R475): Debug-level changes under R466. -/
def DBG_LEVEL_CHANGES : Nat := 0x600300
/-- HQ_FETCHED (R504): SQ entries fetched. -/
def HQ_FETCHED : Nat := 0x800100
/-- HQ_COMPLETIONS (R504): CQ entries written. -/
def HQ_COMPLETIONS : Nat := 0x800108
/-- HQ_SKIPPED_PROGRESS (R504): Progress completions skipped under R487. -/
def HQ_SKIPPED_PROGRESS : Nat := 0x800110
/-- HQ_LOST_CPL (R504): Completions discarded under R481. -/
def HQ_LOST_CPL : Nat := 0x800118
/-- HST_CPL_TIMEOUT (R504): Read failures under R479. -/
def HST_CPL_TIMEOUT : Nat := 0x3800100
/-- HST_DROPPED_WR (R504): Writes discarded under R479. -/
def HST_DROPPED_WR : Nat := 0x3800108
/-- ETH_P_RX_PAYLOAD (R504): Read payload bytes, in units of 256 bytes. -/
def ETH_P_RX_PAYLOAD : Nat := 0x3900100
/-- ETH_P_CNP (R504): CNPs received. -/
def ETH_P_CNP : Nat := 0x3900108
/-- ETH_P_DISCARDED (R504): Frames discarded under R490. -/
def ETH_P_DISCARDED : Nat := 0x3900110
/-- SMB_PEC_ERR (R504): Packets with a bad PEC. -/
def SMB_PEC_ERR : Nat := 0x3A00100
/-- NOC_CD0_HOPS (R509): Flit-hops on the CD0 mesh. -/
def NOC_CD0_HOPS : Nat := 0x1A00100
/-- NOC_CD1_HOPS (R509): Flit-hops on the CD1 mesh. -/
def NOC_CD1_HOPS : Nat := 0x1A00108
/-- NOC_IOD_HOPS (R509): Flit-hops on the IOD mesh. -/
def NOC_IOD_HOPS : Nat := 0x1A00110
/-- NOC_D2D_CD0 (R509): Flits crossing the CD0–IOD module, both directions. -/
def NOC_D2D_CD0 : Nat := 0x1A00118
/-- NOC_D2D_CD1 (R509): Flits crossing the CD1–IOD module. -/
def NOC_D2D_CD1 : Nat := 0x1A00120
/-- NOC_BRIDGE (R509): Flits crossing the CD0–CD1 bridge. -/
def NOC_BRIDGE : Nat := 0x1A00128
/-- NOC_VC5_HELD (R509): VC5 flits held under R25. -/
def NOC_VC5_HELD : Nat := 0x1A00130
/-- EVT_CE (R521): CE events raised. -/
def EVT_CE : Nat := 0x500100
/-- EVT_DE (R521): DE events raised. -/
def EVT_DE : Nat := 0x500108
/-- EVT_UE (R521): UE events raised. -/
def EVT_UE : Nat := 0x500110
/-- EVT_FE (R521): FE events raised. -/
def EVT_FE : Nat := 0x500118
/-- EVT_LOGGED (R521): Records written to the ring. -/
def EVT_LOGGED : Nat := 0x500120
/-- EVT_LOST (R521): Records lost under R515. -/
def EVT_LOST : Nat := 0x500128
/-- EVT_THROTTLED (R521): Raises suppressed under R514. -/
def EVT_THROTTLED : Nat := 0x500130
/-- EVT_DROPPED (R521): Events dropped at an agent under R513. -/
def EVT_DROPPED : Nat := 0x500138
/-- FCT_TC_USEFUL (R156): Useful rows of the instruction last initialised. -/
def FCT_TC_USEFUL : Nat := 0x3300020
/-- FCT_TC_PADDED (R156): Padded rows of the instruction last initialised. -/
def FCT_TC_PADDED : Nat := 0x3300028

end Sys2Proof.Machine.C

namespace Sys2Proof.Machine.E

/-- Event register-access, class DE (R511). -/
def registerAccess : Nat := 0x0001
/-- Event counter-saturated, class DE (R511). -/
def counterSaturated : Nat := 0x0002
/-- Event internal-error, class UE (R511). -/
def internalError : Nat := 0x0003
/-- Event internal-fatal, class FE (R511). -/
def internalFatal : Nat := 0x0004
/-- Event controller-lost, class FE (R511). -/
def controllerLost : Nat := 0x0005
/-- Event image-fallback, class DE (R511). -/
def imageFallback : Nat := 0x0101
/-- Event configuration-failed, class UE (R511). -/
def configurationFailed : Nat := 0x0102
/-- Event boot-command, class DE (R511). -/
def bootCommand : Nat := 0x0103
/-- Event transaction-timeout, class DE (R511). -/
def transactionTimeout : Nat := 0x0104
/-- Event key-store, class DE (R511). -/
def keyStore : Nat := 0x0201
/-- Event session-lockout, class DE (R511). -/
def sessionLockout : Nat := 0x0202
/-- Event thermal, class DE (R511). -/
def thermal : Nat := 0x0301
/-- Event thermal-trip, class FE (R511). -/
def thermalTrip : Nat := 0x0302
/-- Event log-lost, class DE (R511). -/
def logLost : Nat := 0x0501
/-- Event debug-level, class DE (R511). -/
def debugLevel : Nat := 0x0601
/-- Event queue-error, class DE (R511). -/
def queueError : Nat := 0x0701
/-- Event census-timeout, class DE (R511). -/
def censusTimeout : Nat := 0x0801
/-- Event launch-stopped, class UE (R511). -/
def launchStopped : Nat := 0x0802
/-- Event bias-invalid, class DE (R511). -/
def biasInvalid : Nat := 0x0A01
/-- Event routing-refused, class DE (R511). -/
def routingRefused : Nat := 0x0A02
/-- Event forced-drop, class DE (R511). -/
def forcedDrop : Nat := 0x0A03
/-- Event merge-invalid, class UE (R511). -/
def mergeInvalid : Nat := 0x0A04
/-- Event close-timeout, class UE (R511). -/
def closeTimeout : Nat := 0x0A05
/-- Event return-timeout, class DE (R511). -/
def returnTimeout : Nat := 0x0A06
/-- Event lens-check, class UE (R511). -/
def lensCheck : Nat := 0x0B01
/-- Event lost-page, class UE (R511). -/
def lostPage : Nat := 0x0B02
/-- Event pool-low, class DE (R511). -/
def poolLow : Nat := 0x0B03
/-- Event mirror-suspended, class DE (R511). -/
def mirrorSuspended : Nat := 0x0B04
/-- Event mirror-broken, class DE (R511). -/
def mirrorBroken : Nat := 0x0B05
/-- Event tier2-disabled, class DE (R511). -/
def tier2Disabled : Nat := 0x0C01
/-- Event memory-corrected, class CE (R511). -/
def memoryCorrected : Nat := 0x0C02
/-- Event memory-uncorrected, class UE (R511). -/
def memoryUncorrected : Nat := 0x0C03
/-- Event shard-digest, class UE (R511). (DESIGN CHOICE: log entry 12) -/
def shardDigest : Nat := 0x0D01
/-- Event shard-transport, class UE (R511). -/
def shardTransport : Nat := 0x0D02
/-- Event scrub-overrun, class DE (R511). -/
def scrubOverrun : Nat := 0x0D03
/-- Event scrub-bad, class UE (R511). -/
def scrubBad : Nat := 0x0D04
/-- Event unverified-shard, class DE (R511). -/
def unverifiedShard : Nat := 0x0D05
/-- Event fetch-failed, class UE (R511). -/
def fetchFailed : Nat := 0x0D06
/-- Event interference, class DE (R511). -/
def interference : Nat := 0x0E01
/-- Event port-down, class DE (R511). -/
def portDown : Nat := 0x0F01
/-- Event peer-mismatch, class DE (R511). -/
def peerMismatch : Nat := 0x0F02
/-- Event link-protocol, class DE (R511). -/
def linkProtocol : Nat := 0x0F03
/-- Event no-route, class DE (R511). -/
def noRoute : Nat := 0x0F04
/-- Event route-exhausted, class UE (R511). -/
def routeExhausted : Nat := 0x0F05
/-- Event fabric-protocol, class DE (R511). -/
def fabricProtocol : Nat := 0x0F06
/-- Event sequence-gap, class UE (R511). -/
def sequenceGap : Nat := 0x0F07
/-- Event remote-store-refused, class DE (R511). -/
def remoteStoreRefused : Nat := 0x0F08
/-- Event fence-timeout, class UE (R511). -/
def fenceTimeout : Nat := 0x0F09
/-- Event hot-spot, class DE (R511). -/
def hotSpot : Nat := 0x0F0A
/-- Event fabric-timeout, class UE (R511). -/
def fabricTimeout : Nat := 0x0F0B
/-- Event peer-suspect, class DE (R511). -/
def peerSuspect : Nat := 0x0F0C
/-- Event peer-lost, class UE (R511). -/
def peerLost : Nat := 0x0F0D
/-- Event isolated, class UE (R511). -/
def isolated : Nat := 0x0F0E
/-- Event expert-lost, class UE (R511). -/
def expertLost : Nat := 0x0F0F
/-- Event lane-failed, class DE (R511). -/
def laneFailed : Nat := 0x0F10
/-- Event sram-corrected, class CE (R511). -/
def sramCorrected : Nat := 0x1101
/-- Event sram-uncorrected, class UE (R511). -/
def sramUncorrected : Nat := 0x1102
/-- Event residue-corrected, class CE (R511). -/
def residueCorrected : Nat := 0x1103
/-- Event residue-failed, class UE (R511). -/
def residueFailed : Nat := 0x1104
/-- Event credit-overflow, class UE (R511). -/
def creditOverflow : Nat := 0x1105
/-- Event deadlock-unresolved, class UE (R511). -/
def deadlockUnresolved : Nat := 0x1106
/-- Event late-counter-report, class UE (R511). -/
def lateCounterReport : Nat := 0x1107
/-- Event facet-fenced, class DE (R511). -/
def facetFenced : Nat := 0x1108
/-- Event fence-refused, class UE (R511). -/
def fenceRefused : Nat := 0x1109
/-- Event input-non-finite, class DE (R511). -/
def inputNonFinite : Nat := 0x1201
/-- Event combine-clamp, class DE (R511). -/
def combineClamp : Nat := 0x1202
/-- Event bad-block, class UE (R511). -/
def badBlock : Nat := 0x1203
/-- Event reticle-corrected, class CE (R511). -/
def reticleCorrected : Nat := 0x1204
/-- Event precision-degraded, class DE (R511). -/
def precisionDegraded : Nat := 0x1205
/-- Event fall-back, class DE (R511). -/
def fallBack : Nat := 0x1206
/-- Event translation-fault, class DE (R511). -/
def translationFault : Nat := 0x1301

end Sys2Proof.Machine.E
end

