-- ==== Sys2Proof/Machine/State.lean ====
section
/-!
DEFINITION. The state of the block: everything the spec gives the machine, as plain data, and the state after reset.
-/
namespace Sys2Proof.Machine

/-- Why a step can stop with a fault. No rule of the spec stops the part: every refusal and error is a completion
status, an event or a poisoned line, which the state holds. Nobody raises one; that is safe. -/
inductive Fault where
  deriving DecidableEq, Repr

/-- Why a command is refused. `notModelled`: raised only by an arm of the dispatch whose meaning is still missing; safe. -/
inductive Refusal where
  | notModelled (mnemonic : String)
  deriving DecidableEq, Repr

/-- An event as it is held and recorded (R510). -/
structure EventRec where
  code : Nat
  cls : Nat
  status : Nat
  unit : Nat
  ctx : Nat
  rep : Nat
  time : Nat
  d0 : Nat
  d1 : Nat
  deriving DecidableEq, Repr

/-- An event held at a block agent (R513). -/
structure HeldEvent where
  agent : Nat
  ev : EventRec
  deriving DecidableEq, Repr

/-- The event collector (R512 to R517): held events in the order raised, the next record number, the last record with
its number, the early buffer, the records lost since the last log-lost record, the rate in effect, the records written
and the raises suppressed per code in this window, the ring's tail, whether base or size changed while off, and
the health of sensor 6 (R495). -/
structure Evt where
  held : List HeldEvent
  seq : Nat
  last : Option (Nat × EventRec)
  early : List (Nat × EventRec)
  lost : Nat
  rate : Nat
  used : KMap Nat
  suppressed : KMap Nat
  tail : Nat
  dirty : Bool
  health : Nat
  deriving DecidableEq, Repr

/-- The memories, each in canonical form, and the poisoned 64-byte lines of the three tiers (R550). -/
structure Mem where
  t0 : List Host.Cell
  t1 : List Host.Cell
  t2 : List Host.Cell
  host : List Host.Cell
  flash : List Host.Cell
  p0 : List Nat
  p1 : List Nat
  p2 : List Nat
  deriving DecidableEq, Repr

/-- The power and reset condition of the package (R426 to R428). -/
inductive Power where
  | unpowered | inReset | running
  deriving DecidableEq, Repr

/-- Pins and conditions of the surroundings: PWR_OK, SYS_RST_N, PERST_N, TRST_N as driven, VDD_AON present, the
outputs ALERT_N, FAULT_N and THERM_TRIP_N (as R517, R375, R421 drive them), the SMB_ADDR straps sampled at t0 (R493),
whether VID_EN is asserted and the two VID codes (R530, R537). -/
structure Pins where
  vddAon : Bool
  pwrOk : Bool
  sysRstN : Bool
  perstN : Bool
  alertN : Bool
  faultN : Bool
  thermTripN : Bool
  smbAddr : Nat
  vidEn : Bool
  vid0 : Nat
  vid1 : Nat
  deriving DecidableEq, Repr

/-- A Prism record sent to another package (R172, R173, R185). -/
inductive PrismOut where
  | dispatch (spill : Bool) (r : DispRec)
  | ack (r : AckRec)
  | fin (r : EndRec)
  | ret (r : ReturnRec)
  deriving DecidableEq, Repr

/-- What a packet carries (R351, R352, R360, R362, R365; the records of R172, R173, R185; the words of R347, R350, R377). -/
inductive PktBody where
  | mem (r : MemReq)
  | resp (r : RespBody)
  | bulk (r : BulkReq)
  | gw (dir : Nat) (l : List GwEntry)
  | prism (r : PrismOut)
  | vector (v : TdVector)
  | words (l : List Nat)
  deriving DecidableEq, Repr

/-- What the block has sent to its surroundings that no later step reads back: answers to register reads, MSI-X
messages, messages on SMBus, frames and packets of the fabric, and the frames of the Loupe. Oldest first. -/
inductive Output where
  | readData (org : Originator) (off value : Nat)
  | msix (addr data : Nat)
  | smbus (eid : Nat) (bytes : List Nat)
  | smbusNack
  | ctl (port kind : Nat) (t : FrameTag) (args : List Nat)
  | flit (port : Nat) (t : FrameTag) (hdr : PktHdr)
  | packet (h : PktHdr) (body : PktBody)
  | bar4 (ok : Bool) (data : List Byte)
  | bar2 (value : Nat)
  | rdma (port qp kind : Nat) (args : List Nat)
  | jtag (args : List Nat)
  | loupe (bytes : List Nat)
  | crs
  | cand (p : CandPacket)
  | noc (die router loc tag : Nat)
  deriving DecidableEq, Repr

/-- The paired-read latch of one originator (R523): the offset of its previous BAR0 read and what a `_LO` read latched. -/
structure ReadLatch where
  org : Originator
  prev : Nat
  hi : Nat
  deriving DecidableEq, Repr

/-- A submission queue beside its registers (R481, R484): its tail, the tag of the entry its fence flag holds, and the
configuration in effect since its enable (R500). -/
structure SqState where
  tail : Nat
  hold : Option Nat
  base : Nat
  size : Nat
  cq : Nat
  deriving DecidableEq, Repr

/-- A completion queue beside its registers (R485, R489): its head, the entries written since its last message, and the
configuration in effect since its enable (R500). -/
structure CqState where
  head : Nat
  unsignalled : Nat
  base : Nat
  size : Nat
  vector : Nat
  irqEn : Bool
  deriving DecidableEq, Repr

/-- A command fetched from a queue whose final completion is not yet written (R483, R487). -/
structure Inflight where
  sq : Nat
  tag : Nat
  op : Nat
  settled : Bool
  deriving DecidableEq, Repr

/-- The host queue engine: queue states, commands in flight, and the SQ whose turn runs with the entries it took. -/
structure Hq where
  sqs : KMap SqState
  cqs : KMap CqState
  inflight : List Inflight
  turn : Nat
  taken : Nat
  deriving DecidableEq, Repr

/-- The host port (R476, R489): MSI-X enable, D3hot, the pending-bit array. -/
structure Hst where
  msixEn : Bool
  d3hot : Bool
  pba : List Nat
  deriving DecidableEq, Repr

/-- The on-die network (R23 to R28): flits waiting in each router input by channel, the round-robin pointer of each
router output, the VC5 flits each source holds under R25. Keys are the numbers of `Noc.lean`. -/
structure Noc where
  bufs : KMap (List NocFlit)
  rr : KMap Nat
  held : KMap (List NocFlit)
  deriving DecidableEq, Repr

/-- A session key slot (R453): state 0 EMPTY, 1 ACTIVE, 2 REVOKED, 3 BROKEN. -/
structure KeySlot where
  key : Nat
  roles : Nat
  state : Nat
  deriving DecidableEq, Repr

/-- A session entry (R461, R462): opening while `isOpen` is false; `stamp` is GLB_US at its last request. -/
structure Sess where
  number : Nat
  org : Originator
  slot : Nat
  roles : Nat
  nonce : Nat
  isOpen : Bool
  stamp : Nat
  deriving DecidableEq, Repr

/-- A fuse write in progress (R455). -/
inductive FuseOp where
  | key (slot key roles : Nat)
  | keyRevoke (slot : Nat)
  | imgKey (slot key : Nat)
  | imgRevoke (slot : Nat)
  | svn (v : Nat)
  | lifecycle (code : Nat)
  deriving DecidableEq, Repr

/-- Security and debug (R451 to R471). `fails` and `locks` are per session slot (AON); a lock holds its seconds with
the time it began. `imgSlot` is the image key that verified the image in use. `levelBy`, `expertBy` are the session
numbers that hold the debug level and EXPERT_EN. `jtag` is the instruction in effect, `jtagRsp` the last response. -/
structure Sec where
  lifecycle : Nat
  svn : Nat
  partId : Nat
  keys : List KeySlot
  imgKeys : List KeySlot
  sess : List (Option Sess)
  fails : List Nat
  locks : List (Nat × Nat)
  fuse : Option (FuseOp × Originator × SessMsg × Nat)
  imgSlot : Option Nat
  level : Nat
  levelBy : Nat
  expertBy : Nat
  jtag : Nat
  jtagRsp : List Byte
  dbgBus : Nat
  testMode : Bool
  loupeOn : Bool
  loupeFrame : Nat
  deriving DecidableEq, Repr

/-- A configuration transaction (R441 to R444): open or idle, its owner, the staged registers with the value and the
mask of the bits staged, and whether a staged write was dropped. -/
structure Txn where
  isOpen : Bool
  owner : Originator
  staged : KMap (Nat × Nat)
  overflow : Bool
  deriving DecidableEq, Repr

/-- Start-up (R426 to R439): t0, the milestones reached, whether slot A failed, the boot-command records with the index
of the next, and whether a record is being carried out; `preload` waits for tier 1 (R432). `t2Code` is the tier-2 population trained for (R275). `configured` lists the
registers placed by a committed transaction (R548); `since` is GLB_US at the present record's first issue. -/
structure Boot where
  t0 : Nat
  smbusUp : Bool
  mcUp : Bool
  failedA : Bool
  image : Option Nat
  list : List (List Byte)
  index : Nat
  busy : Bool
  preload : List (Nat × List Byte)
  t2Done : Bool
  t2Code : Nat
  fallbackDue : Bool
  configured : List Nat
  since : Option Nat
  deriving DecidableEq, Repr

/-- A queue pair beside its context registers (R491, R492): the response rate in Mb/s, and GLB_US at the last CNP it
sent and at the last rate cut. -/
structure Qp where
  rate : Nat
  cnpSent : Option Nat
  cut : Option Nat
  deriving DecidableEq, Repr

/-- A storage port (R490): whether its transmission on pfc_prio is paused, and its queue pairs. -/
structure EthPort where
  paused : Bool
  qps : KMap Qp
  deriving DecidableEq, Repr

/-- A SPI command in progress (R498). -/
inductive SpiOp where
  | read (addr len : Nat)
  | program (addr : Nat) (data : List Byte)
  | erase (addr len : Nat)
  deriving DecidableEq, Repr

/-- The source code of a macro-instruction dimension (R136). -/
structure DimSrc where
  src : Nat
  field : Nat
  deriving DecidableEq, Repr

/-- A macro-instruction (R134) as its fields; `rsv` says that some reserved bit or byte is set. -/
structure Macro where
  op : Nat
  grouped : Bool
  actFmt : Nat
  outFmt : Nat
  rnd : Nat
  sat : Bool
  carry : Bool
  tileM : Nat
  tileN : Nat
  counter : Nat
  x : Nat
  m : DimSrc
  n : DimSrc
  k : DimSrc
  ctxAddr : Nat
  descAddr : Nat
  a : Nat
  b : Nat
  c : Nat
  rsv : Bool
  deriving DecidableEq, Repr

/-- An entry of a facet's networks (R90): kind 0 vector, 1 scalar, 2 control; its lanes (32, or one value or token) with
their residues, the lane-valid mask, and the poison flag. -/
structure QEnt where
  kind : Nat
  lanes : List Nat
  res : List Nat
  valid : Nat
  poison : Bool
  deriving DecidableEq, Repr

/-- A firing whose result has not yet entered its output slots (R82): the unit, the entries it popped, and whether it
produces (R97). -/
structure Firing where
  unit : Nat
  ops : List QEnt
  produce : Bool
  deriving DecidableEq, Repr

/-- A steering node (R100): the token and the data entries it holds. -/
structure Steer where
  tok : Option QEnt
  a : Option QEnt
  b : Option QEnt
  deriving DecidableEq, Repr

/-- An address generator in a run (R128): the trips done and whether its descriptor is complete. -/
structure Ag where
  trip : Nat
  done : Bool
  deriving DecidableEq, Repr

/-- A context load in progress (R105, R108): target slot, source, whether the sequencer asked, the status already found
while reading, and the staging buffer's image. -/
structure CtxLoad where
  slot : Nat
  addr : Nat
  bySeq : Bool
  status : Option Nat
  image : List Byte
  deriving DecidableEq, Repr

/-- A claimed tile (R147): counter with its incarnation (R151), instruction index, tile number. -/
structure Tile where
  ctr : Nat
  inc : Nat
  index : Nat
  tile : Nat
  deriving DecidableEq, Repr

/-- The operands of the instruction in hand with its dimensions resolved (R136) and its tile count; the (operand, target)
pairs that adapt it, the step area whose rows it takes (R319), and its context. -/
structure Issued where
  i : Macro
  m : Nat
  n : Nat
  k : Nat
  t : Nat
  layer : Option Nat
  wide : Bool
  fuse : List (Nat × Nat)
  area : Nat
  ctx : Nat
  deriving DecidableEq, Repr

/-- A facet sequencer (R133 to R151): the launch it runs by number, context, pool; program, instruction index, X
registers; worst status of its own instructions; the instruction in hand; whether a claim waits for its answer; the
running tile with its epoch ticket, the tile claimed ahead, tiles finished and not reported, tiles to return; the
counters named with the latest index; whether the counter answered EXHAUSTED; the tile ordinal. -/
structure Sqr where
  running : Bool
  waiting : Bool
  standing : Bool
  launch : Nat
  ctx : Nat
  pool : Nat
  prog : Nat
  index : Nat
  xs : List Nat
  status : Nat
  own : Nat
  cur : Option Issued
  claiming : Bool
  run : Option (Tile × Option Nat)
  ahead : Option Tile
  fin : List (Tile × Nat)
  ret : List Tile
  named : KMap Nat
  exhausted : Bool
  ordinal : Nat
  deriving DecidableEq, Repr

/-- A landing ring of a facet (R282 to R284): where it lies, the next slot, the units of held tiles in stream order as
(tile, unit, slot, 0 filling, 1 filled, 2 freed), and by held tile the lengths of the units of its stream. -/
structure Ring where
  mu : Nat
  ag : Nat
  first : Nat
  slots : Nat
  next : Nat
  units : List (Nat × Nat × Nat × Nat)
  lens : KMap (List Nat)
  deriving DecidableEq, Repr

/-- A facet (R79 to R123): context slots as bytes `4096 × slot + offset` with their validity, source address and last
activity; active and pending slot; a load in progress; queues, head buffers, credits, output and switch buffers,
steering nodes and FIF ports by number; firings in flight; FIFO pairs; descriptor tables with their staging copies and
generators; CU registers; the region being spilled, the extended queues' slots, and the spill area in effect (FCT_SPILL); scan (0 none, 1 frozen, 2 out,
3 out with operand storage, 4 in); gated (0 no, 1 gating asked, 2 gated, 3 ungating, 4 gated and asked to ungate), fenced; the
sequencer; the pool (0 decode, 1 prefill, 2 none, 3 moving to decode, 4 moving to prefill); the landing ring. -/
structure Facet where
  slots : List Host.Cell
  valid : List Bool
  source : List Nat
  recent : List Nat
  active : Nat
  pend : Option (Nat × Bool)
  load : Option CtxLoad
  inq : KMap (List QEnt)
  head : KMap (List QEnt)
  cred : KMap Nat
  outq : KMap (List QEnt)
  swb : KMap (List QEnt)
  steer : KMap Steer
  fifIn : KMap (List QEnt)
  fifOut : KMap (List QEnt)
  fly : List Firing
  fifo : KMap (List QEnt)
  desc : KMap (List Byte)
  dstage : KMap (List Byte)
  ags : KMap Ag
  lregs : KMap Nat
  accs : KMap Nat
  rows : KMap (List (Nat × Nat))
  opnd : List Host.Cell
  spill : Option Nat
  ext : KMap Nat
  area : Nat
  scan : Nat
  gated : Nat
  fenced : Bool
  sq : Sqr
  pool : Nat
  ring : Option Ring
  deriving DecidableEq, Repr

/-- A tile counter (R145 to R152): state 0 FREE, 1 RUNNING, 2 DRAINED; its incarnation; the shape and T it serves;
whether its instruction met an invalid bias (R165). -/
structure Tctr where
  state : Nat
  inc : Nat
  index : Nat
  m : Nat
  n : Nat
  k : Nat
  t : Nat
  next : Nat
  done : Nat
  ret : List Nat
  status : Nat
  waiters : List Nat
  biased : Bool
  deriving DecidableEq, Repr

/-- Bytes of a facet's context to be written to a space at an offset, or at a global address of another package, with
their poison. -/
structure WrRec where
  facet : Nat
  ctx : Nat
  pkg : Nat
  sp : Nat
  off : Nat
  bytes : List Byte
  poison : Bool
  deriving DecidableEq, Repr

/-- A sample waiting for the Reticle (R64 to R66): context, generation slot, layer, facet, tile and its status, exact or
fidelity, and the outputs an exact sample holds. -/
structure Sample where
  ctx : Nat
  gslot : Nat
  layer : Nat
  facet : Nat
  tile : Tile
  status : Nat
  exact : Bool
  held : List WrRec
  cands : List CandPacket
  deriving DecidableEq, Repr

/-- A layer's numerics state (R68, R69): state code, history with its length, has_reserve, whether a descriptor without a
reserve was met, a RESTORE waiting for the next step, and the samples numbered so far. -/
structure RLayer where
  state : Nat
  hist : Nat
  seen : Nat
  reserve : Bool
  noReserve : Bool
  restoring : Bool
  samples : Nat
  deriving DecidableEq, Repr

/-- The Reticle (R64 to R77): per die the shift register and the queue; the layers by (context, generation slot, layer);
the automatic fall-backs in the window. -/
structure Rtc where
  lfsr : List Nat
  queue : List (List Sample)
  layers : KMap RLayer
  window : Nat
  deriving DecidableEq, Repr

/-- A slot of a token at its home Prism (R169 to R186): key, expert, gate weight, outcome (none while open). -/
structure HomeSlot where
  key : Nat
  expert : Nat
  g : Nat
  out : Option Nat
  deriving DecidableEq, Repr

/-- A token at its home Prism: the lists arrived, how many there are, their pairs, whether merged, the choices, the
spares left, and whether its weights are settled. -/
structure HomeTok where
  lists : List Nat
  total : Nat
  pairs : List (Nat × Nat)
  merged : Bool
  slots : List HomeSlot
  spares : List (Nat × Nat × Nat)
  settled : Bool
  deriving DecidableEq, Repr

/-- An expert layer at its home Prism (R168 to R189): context, step, layer; generation and its record; tokens of the
GATE_CAND instruction; T of R175; records sent by owner; acknowledgements awaited; END sent; combine rows read. -/
structure HomeLayer where
  ctx : Nat
  step : Nat
  layer : Nat
  gen : Nat
  recAddr : Nat
  m : Nat
  cap : Nat
  toks : KMap HomeTok
  sent : KMap Nat
  waitAcks : Nat
  ended : Bool
  deriving DecidableEq, Repr

/-- An open layer of an owning Prism (R174 to R179): counters by generation × 8,192 + local index, non-admitted choices
the same way, END counts and records by home, the generations' record addresses, whether it closed, and whether it
sends no returns (R189). -/
structure OwnLayer where
  ctx : Nat
  step : Nat
  layer : Nat
  count : KMap Nat
  non : KMap Nat
  ends : KMap Nat
  recv : KMap Nat
  gens : KMap Nat
  closed : Bool
  silent : Bool
  deriving DecidableEq, Repr

/-- The Prism arrays: home layers, owned layers, and records waiting for a fifth open layer (R174). -/
structure Prs where
  home : List HomeLayer
  own : List OwnLayer
  inbox : List DispRec
  deriving DecidableEq, Repr

/-- A list of frames linked through the page-frame table (R216): first, last, length. -/
structure FrameList where
  head : Nat
  tail : Nat
  n : Nat
  deriving DecidableEq, Repr

/-- A PAUSE or RESUME move in progress (R227): the command, its op, its time-to-live, whether a poisoned page moved. -/
structure Move where
  org : CmdOrigin
  op : Nat
  ttl : Nat
  poison : Bool
  deriving DecidableEq, Repr

/-- The KVM frame engine and the MMU's commands (R215 to R232): the free lists of both pools and the quarantine list,
epoch, ticket counts by epoch, advances asked for, pool-low, table initialisation running and done, moves by slot,
commands waiting for a commit, expiry time by paused slot (GLB_US), the expiry FIFO, and the MMU_INV in progress. -/
structure Kvm where
  f1 : FrameList
  f2 : FrameList
  q : FrameList
  epoch : Nat
  active : KMap Nat
  wanted : Nat
  low : Bool
  init : Bool
  ready : Bool
  moves : KMap Move
  waiting : List (CmdOrigin × Nat × KvmRec)
  ttl : KMap Nat
  fifo : List Nat
  inv : Bool
  deriving DecidableEq, Repr

/-- An admitted request beside its descriptor (R236, R244): the command that brought it, the slot's state before, and
whether it has started. -/
structure Req where
  org : CmdOrigin
  before : Nat
  started : Bool
  deriving DecidableEq, Repr

/-- An entry of a built step (R248, R258): slot, first position, positions; for a speculating entry its draft slot with
its length and the drafts made as (token, p); `over` once no further draft is made, `dead`
once its request ended during the step. -/
structure StepEnt where
  slot : Nat
  first : Nat
  k : Nat
  draft : Option Nat
  dfirst : Nat
  dwritten : Nat
  drafts : List (Nat × Nat)
  isOver : Bool
  dead : Bool
  deriving DecidableEq, Repr

/-- A built step (R247 to R258): number, generation and its slot, entries, tokens, T, P, censuses seen as
(package, tokens, pmax), phase (0 census, 1 draft passes, 2 launched), the context it is paired with (a target's usable
draft context, a pass's target), the layers whose wide reserve it uses (R71), when it was built, the
draft pass now, launches outstanding, the worst status that stopped a launch, and for a draft pass the target context. -/
structure Step where
  num : Nat
  gen : Nat
  gslot : Nat
  ents : List StepEnt
  tokens : Nat
  total : Nat
  pmax : Nat
  census : List (Nat × Nat × Nat)
  phase : Nat
  pair : Option Nat
  wide : List Nat
  at_ : Nat
  pass : Nat
  left : Nat
  stopped : Option (Nat × Nat × Nat)
  deriving DecidableEq, Repr

/-- A step series of a context (R246 to R248): the step built and not committed, the rotating pointer, censuses held for
later steps as (package, step, tokens, pmax), whether the last latched generation was the current one, whether a step
was ever committed, whether the builder waits idle, the steps given up whose later records are refused (R294),
and the next step's number where RECOVER set it (R388). -/
structure Series where
  built : Option Step
  ptr : Nat
  later : List (Nat × Nat × Nat × Nat)
  lastCur : Bool
  first : Bool
  idle : Bool
  gone : List Nat
  next : Option Nat
  deriving DecidableEq, Repr

/-- A live weight generation of a context (R264): number, record table, programs, limit of positions, smallest max_tok. -/
structure Gen where
  num : Nat
  table : Nat
  decode : Nat
  prefill : Nat
  maxPos : Nat
  minTok : Nat
  deriving DecidableEq, Repr

/-- A training launch (R253): the command, its slots. -/
structure Train where
  org : CmdOrigin
  slots : List Nat
  deriving DecidableEq, Repr

/-- A launch (R251, R253): its number, context, series (0 decode, 1 prefill, 2 training), pass, generation slot, program,
X registers, training part, the facets running it, the worst status, the worst stop of R143 as (status, facet,
instruction index), when it was enqueued and when it began (R298), the layers whose wide reserve it uses (R71), by slot × 256 + layer the position after the last write
entry finished, the instructions staged under R285, and whether a fence left it
without facets so that it waits for facets to join (R397). -/
structure Launch where
  id : Nat
  ctx : Nat
  series : Nat
  pass : Nat
  gslot : Nat
  prog : Nat
  xs : List Nat
  train : Option Train
  facets : List Nat
  status : Nat
  stop : Option (Nat × Nat × Nat)
  at_ : Nat
  began : Nat
  wide : List Nat
  wrote : KMap Nat
  staged : List Nat
  bare : Bool
  deriving DecidableEq, Repr

/-- A pool (R251): launches queued and the one running. -/
structure Pool where
  queue : List Launch
  run : Option Launch
  deriving DecidableEq, Repr

/-- The serving pipeline (R234 to R266): requests by slot, the admission queue as slots in admission order, tenants'
accumulators and balances, request starts in the last 100 ms (GLB_US), the series by 2 × context + series, generations
by 2 × context + slot with the staged or old one's slot, pools, launches numbered, the Focus controller's milliseconds,
longest decode step, hold and last direction. -/
structure Srv where
  reqs : KMap Req
  queue : List Nat
  acc : KMap Nat
  bal : KMap Int
  starts : List Nat
  series : KMap Series
  gens : KMap Gen
  pools : List Pool
  nextLaunch : Nat
  tdec : Nat
  hold : Nat
  toward : Nat
  deriving DecidableEq, Repr

/-- A resident context's commands in progress (R289 to R294): PROMOTE with whether a poisoned line was copied, DEMOTE,
PREEMPT, and when it was last pre-empted (R297). -/
structure ResCtx where
  promote : Option CmdOrigin
  copyPoison : Bool
  demote : Option CmdOrigin
  preempt : Option CmdOrigin
  preemptAt : Option Nat
  deriving DecidableEq, Repr

/-- A semaphore (R296, R297): holder, broken mark, and the waiting ACQUIREs as (context, command, arrival). -/
structure Sem where
  holder : Option Nat
  broken : Option Nat
  wait : List (Nat × CmdOrigin × Nat)
  deriving DecidableEq, Repr

/-- A staged copy of R285: context, launch, instruction index, FFN record, unit, the die and the byte of the tier-0 share
where it begins, length. -/
structure Staged where
  ctx : Nat
  launch : Nat
  index : Nat
  ffn : Nat
  unit : Nat
  die : Nat
  at_ : Nat
  len : Nat
  deriving DecidableEq, Repr

/-- A RES command (R289) that waits for the MC, which handles them one at a time (R287). -/
inductive ResCmd where
  | load (r : GenRec)
  | unload (ctx : Nat) (rsv : Bool)
  | promote (ctx : Nat) (rsv : Bool)
  | demote (ctx : Nat) (rsv : Bool)
  | preempt (ctx : Nat) (rsv : Bool)
  | acquire (ctx sem : Nat) (wait rsv : Bool)
  | release (ctx sem : Nat) (rsv : Bool)
  deriving DecidableEq, Repr

/-- Residency (R287 to R298): commands waiting, contexts, semaphores, staged copies, and the window sums W and Q + A by context in ns with
GLB_US at the window's start. -/
structure Res where
  queue : List (CmdOrigin × ResCmd)
  ctxs : KMap ResCtx
  sems : KMap Sem
  staged : List Staged
  wall : KMap Nat
  interf : KMap Nat
  since : Nat
  deriving DecidableEq, Repr

/-- An idle sequencer. -/
def Sqr.idle : Sqr :=
  ⟨false, false, false, 0, 0, 0, 0, 0, List.replicate 16 0, 0, 0, none, false, none, none, [], [], [], false, 0⟩

/-- Facet `f` after reset (R113, R261). (DESIGN CHOICE: log entry 2) -/
def Facet.init (f : Nat) : Facet :=
  ⟨[], List.replicate 4 false, List.replicate 4 0, [], 0, none, none, [], [], [], [], [], [], [], [], [], [], [], [], [], [], [],
    [], [], none, [], 8 * (f % 36) + 8 * 2 ^ 16, 0, 0, false, Sqr.idle, if 32 ≤ f % 36 then 1 else 0, none⟩

/-- What a mirror source has still to send (R385): an entry of a group; the publish word of a group with, once the source
has fenced, the number its class 4 packets went up to. -/
inductive MirItem where
  | entry (bytes : List Byte)
  | publish (group : Nat) (upTo : Option Nat)
  deriving DecidableEq, Repr

/-- A mirror peer at its source (R383 to R386): the next group, where the next entry goes, the slots seeded, the offset
last published, and what waits for room in the ring or for the fence. -/
structure MirPeer where
  group : Nat
  off : Nat
  seeded : List Nat
  pub : Nat
  queue : List MirItem
  deriving DecidableEq, Repr

/-- Mirrors (R383 to R387): the peers by index; steps not yet safe as (2 × context + series, step, groups by peer); the
incoming rings' consume offsets and last applied groups. -/
structure Mir where
  peers : List MirPeer
  unsafe_ : List (Nat × Nat × List (Nat × Nat))
  took : List (Nat × Nat)
  deriving DecidableEq, Repr

/-- A load or fetch in progress (R309, R311, R314): number, command, op (0x40 LOAD_SHARD, 0x42 FETCH), context, tier and
offset of the destination, length, shard-table index, where FETCH's digest lies, source and source address, whether the
entry is native (R317); bytes asked for and landed; bytes landed and not hashed; chunk digests formed; whether its
transport or a source line failed; retries since the last response. -/
structure Load where
  id : Nat
  org : CmdOrigin
  op : Nat
  ctx : Nat
  tier : Nat
  dst : Nat
  len : Nat
  entry : Nat
  digestAt : Nat
  src : LoadSource
  addr : Nat
  native : Bool
  asked : Nat
  landed : Nat
  buf : List Byte
  sums : List Nat
  failed : Bool
  retry : Nat
  deriving DecidableEq, Repr

/-- Weight shards (R307 to R316): the next load's number, LOAD_SHARD commands whose manifest entry is being read from
host memory, loads and fetches in progress in order of acceptance, the entry a scrub pass has reached, whether another
pass is due, and the BAD FIFO, oldest first. -/
structure Shd where
  next : Nat
  asks : KMap (CmdOrigin × ShardRec)
  loads : List Load
  scrub : Option Nat
  due : Bool
  bad : List Nat
  deriving DecidableEq, Repr

/-- A packet in an output queue (R335) with the flits of it already granted. -/
structure OutPkt where
  hdr : PktHdr
  sent : Nat
  deriving DecidableEq, Repr

/-- A data flit kept until an ack covers it (R332). -/
structure KeptFlit where
  fpos : Nat
  hdr : PktHdr
  first : Bool
  last : Bool
  deriving DecidableEq, Repr

/-- A packet in a port's input buffer (R333): its channel and phase, the flits held, whether all have come, and whether a
trunc flit closed it (R344). -/
structure InPkt where
  hdr : PktHdr
  vc : Nat
  phase : Nat
  flits : Nat
  whole : Bool
  trunc : Bool
  deriving DecidableEq, Repr

/-- A port (R328 to R335, R394) beside its registers: training failures in succession; the appliance in the peer's last
IDENT, if one came; the width a retrain will take; next fpos to send, next expected; whether it naks; the fpos the
peer naks and how often in succession; flits kept, flits to be resent; credits by 8 × channel + phase, reserved ones by
(2 × context + channel − 2) × 8 + phase, credits to return; the input buffer; output queues by 16 × channel + input,
round-robin pointers and the input whose packet is being sent, by channel. -/
structure FabPort where
  fails : Nat
  seen : Option Nat
  width : Nat
  next : Nat
  expect : Nat
  naking : Bool
  nakAt : Nat
  naks : Nat
  kept : List KeptFlit
  again : List KeptFlit
  cred : KMap Nat
  rsv : KMap Nat
  owed : KMap Nat
  inb : List InPkt
  outq : KMap (List OutPkt)
  rr : KMap Nat
  cur : KMap Nat
  deriving DecidableEq, Repr

/-- A send stream (R348): the next number, packets not acknowledged as (number, ptype, this package's tag), packets that wait for the
window (R348) or a route change (R345). -/
structure SendStream where
  next : Nat
  unacked : List (Nat × Nat × Nat)
  wait : List (PktHdr × PktBody)
  deriving DecidableEq, Repr

/-- A receive stream (R349, R350): the next number with the accepted ones beyond it; the same for performed ones; whether
a gap closed it. -/
structure RecvStream where
  base : Nat
  marks : List Nat
  done : Nat
  doneMarks : List Nat
  gapped : Bool
  deriving DecidableEq, Repr

/-- What a request of this package serves: the piece of a load or fetch that begins at an offset (R307, R314), or an
entry forwarded for the near gateway of another package (R359). -/
inductive ReqUse where
  | load (id off : Nat)
  | gateway (near : Nat) (e : GwEntry)
  deriving DecidableEq, Repr

/-- A request that awaits its answer (R351, R362 to R364): ptype, destination, address, length, return address, job, when
first issued, retries, whether it backs off, the worst status, whether the RESPONSE came, and the data landed by
offset. -/
structure FabReq where
  kind : Nat
  dst : Nat
  addr : Nat
  len : Nat
  ret : Nat
  job : Nat
  use : ReqUse
  at_ : Nat
  tries : Nat
  backing : Bool
  status : Nat
  ended : Bool
  parts : KMap (List Byte)
  deriving DecidableEq, Repr

/-- An operation waiting at the home agent (R355). -/
inductive HomeOp where
  | mem (h : PktHdr) (r : MemReq)
  | bulk (h : PktHdr) (r : BulkReq)
  deriving DecidableEq, Repr

/-- A fence in progress (R357): (destination, class, number before which all must be acknowledged), with the status its
torn-down part gave (R366). -/
structure Fence where
  open_ : List (Nat × Nat × Nat)
  status : Nat
  deriving DecidableEq, Repr

/-- The fabric (R326 to R368) and the group's liveness (R377 to R381): ports; streams out by 8 × destination + class and
in by (256 × source + about) × 8 + class; packets performed and not acknowledged by source; requests by rtag with the
next rtag; packets taken for another group's
package (R359); open batches by 2 × gateway + direction (0 forward, 1 return); the home agent's queues by input and the
BULK_READs held (R362); the fence; the nonces remembered; the teardown window; when a hot-spot event was last raised (ms);
routes in use by destination (R345); HEARTBEAT periods since reset; the lost fields of peers' HEARTBEATs by peer; periods
for which every watched peer has been SUSPECT or LOST. -/
structure Fab where
  ports : List FabPort
  sends : KMap SendStream
  recvs : KMap RecvStream
  pend : KMap Nat
  reqs : KMap FabReq
  tag : Nat
  near : List (PktHdr)
  batches : KMap (List GwEntry)
  home : KMap (List HomeOp)
  bulks : List (PktHdr × BulkReq)
  fence : Option Fence
  nonces : List Nat
  window : List Byte
  hotAt : Option Nat
  routes : KMap Nat
  periods : Nat
  named : KMap Nat
  alone : Nat
  deriving DecidableEq, Repr

/-- A port after reset. -/
def FabPort.init : FabPort := ⟨0, none, 0, 0, 0, false, 0, 0, [], [], [], [], [], [], [], [], []⟩

/-- What fences a facet (R396): GLB_US at each CE event and at each UE event of a facet within the last second, and the
facets that met a second residue mismatch. -/
structure Fences where
  ce : KMap (List Nat)
  ue : KMap (List Nat)
  mis : List Nat
  deriving DecidableEq, Repr

/-- Power (R406 to R421) beside its registers: the average A in µW as (numerator, denominator), the energy not yet counted
in PWR_ENERGY, by die the phase chosen last (R415), the point it is changing to, the thermal limit of its point and the
releasing milliseconds; the sensors past throttle, crit and stack throttle (R420). -/
structure Pwr where
  avg : Nat × Nat
  energy : Nat
  chosen : List (Option Nat)
  target : List (Option Nat)
  limit : List Nat
  release : List Nat
  hot : List Nat
  crit : List Nat
  stackHot : List Nat
  deriving DecidableEq, Repr

/-- What the Loupe's probe words show beside the other state (R468): the code of the last event raised, each port's nak
count at the last frame, and the last tier-1 offset read on each stack. -/
structure Tap where
  raised : Nat
  naks : List Nat
  t1 : KMap Nat
  deriving DecidableEq, Repr


/-- The state of the whole package. `free` counts the free values drawn (the model's own field). -/
structure State where
  pending : List Instr
  free : Nat
  us : Nat
  power : Power
  pins : Pins
  regs : KMap Nat
  cnts : KMap Nat
  latches : List ReadLatch
  out : List Output
  mem : Mem
  evt : Evt
  hq : Hq
  hst : Hst
  bootReply : Option Nat
  noc : Noc
  dcMissed : List Nat
  sec : Sec
  txn : Txn
  boot : Boot
  eth : List EthPort
  spi : Option SpiOp
  facets : List Facet
  tctrs : List Tctr
  rtc : Rtc
  prs : Prs
  kvm : Kvm
  srv : Srv
  res : Res
  mir : Mir
  shd : Shd
  fab : Fab
  fences : Fences
  pwr : Pwr
  tap : Tap
  deriving DecidableEq, Repr

/-- The machine right after power-on reset (R428): every field at the spec's value, or at the value the log names. (DESIGN CHOICE: log entry 2) -/
def State.reset : State where
  pending := []
  free := 0
  us := 0
  power := .inReset
  pins := ⟨true, false, false, false, true, true, true, 0, false, 0, 0⟩
  regs := []
  cnts := []
  latches := []
  out := []
  mem := ⟨[], [], [], [], [], [], [], []⟩
  evt := ⟨[], 0, none, [], 0, 16, [], [], 0, false, 1⟩
  hq := ⟨[], [], [], 0, 0⟩
  hst := ⟨false, false, []⟩
  bootReply := none
  noc := ⟨[], [], []⟩
  dcMissed := [0, 0, 0]
  sec := ⟨0, 0, 0, ⟨0, 0x1F, 1⟩ :: List.replicate 7 ⟨0, 0, 0⟩, ⟨0, 0, 1⟩ :: List.replicate 4 ⟨0, 0, 0⟩,
    List.replicate 4 none, List.replicate 8 0, List.replicate 8 (0, 0), none, none, 0, 0, 0, 0x01, [], 0, false, false, 0⟩
  txn := ⟨false, .host, [], false⟩
  boot := ⟨0, false, false, false, none, [], 0, false, [], false, 0, false, [], none⟩
  eth := [⟨false, []⟩, ⟨false, []⟩]
  spi := none
  facets := (List.range 72).map Facet.init
  tctrs := List.replicate 64 ⟨0, 0, 0, 0, 0, 0, 0, 0, 0, [], 0, [], false⟩
  rtc := ⟨[1, 1], [[], []], [], 0⟩
  prs := ⟨[], [], []⟩
  kvm := ⟨⟨0, 0, 0⟩, ⟨0, 0, 0⟩, ⟨0, 0, 0⟩, 0, [], 0, false, false, false, [], [], [], [], false⟩
  srv := ⟨[], [], [], [], [], [], [], [⟨[], none⟩, ⟨[], none⟩], 0, 0, 0, 0⟩
  res := ⟨[], [], [], [], [], [], 0⟩
  mir := ⟨List.replicate 4 ⟨0, 256, [], 256, []⟩, [], List.replicate 4 (256, 0)⟩
  shd := ⟨0, [], [], none, false, []⟩
  fab := ⟨List.replicate 12 FabPort.init, [], [], [], [], 0x1000, [], [], [], [], none, [], [], none, [], 0, [], 0⟩
  fences := ⟨[], [], []⟩
  pwr := ⟨(0, 1), 0, [none, none], [none, none], [7, 7], [0, 0], [], [], []⟩
  tap := ⟨0, List.replicate 12 0, []⟩

end Sys2Proof.Machine
end

