-- ==== Sys2Proof/Machine/Ops.lean ====
section
/-!
DEFINITION. The named operations every meaning is written over: keyed tables, registers and counters (R10, R78, R522),
memory and poison (R550), little-endian fields (R6), events (R510 to R513) and the refusals of R13.
-/
namespace Sys2Proof.Machine

/-- What a meaning answers. -/
abbrev Out := Host.Outcome State Fault Refusal

/-! ### Keyed tables -/

/-- The entry of key `k`. -/
def kget {α : Type} : KMap α → Nat → Option α
  | [], _ => none
  | (j, v) :: m, k => if j = k then some v else kget m k

/-- The entry of key `k`, or `d` where there is none. -/
def kgetD {α : Type} (m : KMap α) (k : Nat) (d : α) : α := (kget m k).getD d

/-- Sets key `k`, keeping the keys rising. -/
def kset {α : Type} : KMap α → Nat → α → KMap α
  | [], k, v => [(k, v)]
  | (j, w) :: m, k, v =>
    if k < j then (k, v) :: (j, w) :: m
    else if k = j then (k, v) :: m
    else (j, w) :: kset m k v

/-- Removes key `k`. -/
def kdel {α : Type} (m : KMap α) (k : Nat) : KMap α := m.filter fun e => e.1 != k

/-- Changes the entry of key `k`, taking `d` where there is none. -/
def kmod {α : Type} (m : KMap α) (k : Nat) (d : α) (g : α → α) : KMap α := kset m k (g (kgetD m k d))

/-- Element `i` of a list, or `d`. -/
def nth {α : Type} (l : List α) (i : Nat) (d : α) : α := (l[i]?).getD d

/-- Inserts into a rising list of numbers, once. -/
def insertNat : List Nat → Nat → List Nat
  | [], k => [k]
  | j :: l, k => if k < j then k :: j :: l else if k = j then j :: l else j :: insertNat l k

/-- A condition as a bit. -/
def bit (b : Bool) : Nat := if b then 1 else 0

/-- Bits `[hi:lo]` of a number. -/
def bits (v hi lo : Nat) : Nat := v / 2 ^ lo % 2 ^ (hi - lo + 1)

/-- `v` with bits `[hi:lo]` replaced by `x`. -/
def setBits (v hi lo x : Nat) : Nat :=
  v / 2 ^ (hi + 1) * 2 ^ (hi + 1) + x % 2 ^ (hi - lo + 1) * 2 ^ lo + v % 2 ^ lo

/-- Bit `i` of a number. -/
def tbit (v i : Nat) : Bool := v / 2 ^ i % 2 = 1

/-- `v` saturated at the largest `n`-bit number (R525). -/
def satBits (n v : Nat) : Nat := if v < 2 ^ n then v else 2 ^ n - 1

/-- Whether `a` serially precedes `b` in an `n`-bit series (R525). -/
def precedes (n a b : Nat) : Bool :=
  let d := (b % 2 ^ n + 2 ^ n - a % 2 ^ n) % 2 ^ n
  1 ≤ d && d < 2 ^ (n - 1)

/-- `⌈a / b⌉`. -/
def ceilDiv (a b : Nat) : Nat := (a + b - 1) / b

/-- The first refusal of a list of (condition, status) rows, which stand in the order of R13. -/
def firstOf : List (Bool × Nat) → Option Nat
  | [] => none
  | (c, st) :: l => if c then some st else firstOf l

/-! ### Completion status codes (R11) -/

namespace St
def done : Nat := 0x00
def degraded : Nat := 0x01
def format : Nat := 0x10
def range : Nat := 0x11
def state : Nat := 0x12
def auth : Nat := 0x13
def busy : Nat := 0x14
def notReady : Nat := 0x15
def teardown : Nat := 0x20
def preempt : Nat := 0x21
def integrity : Nat := 0x30
def uncorrected : Nat := 0x31
def internal : Nat := 0x3F
end St

/-- R13's place of a refusal in the order the device reports them: a smaller rank is reported first. (DEDUCED: log entry 54) -/
def refusalRank (st : Nat) : Nat :=
  if st = St.notReady then 0 else if st = St.auth then 1 else if st = St.format then 2
  else if st = St.range then 3 else if st = St.state then 4 else 5

/-- R14: the status an accepted operation reports when two outcomes apply. -/
def worse (a b : Nat) : Nat := if a < b then b else a

/-! ### Registers -/

/-- The index of an offset in an instance array: `d` bytes past instance 0. -/
def dimIndex : List (Nat × Nat) → Nat → Option (List Nat)
  | [], d => if d = 0 then some [] else none
  | (st, n) :: ds, d => if d / st < n then (dimIndex ds (d % st)).map (d / st :: ·) else none

/-- The register at a BAR0 offset, with its instance. -/
def findIn : List RegDef → Nat → Option (RegDef × List Nat)
  | [], _ => none
  | r :: rs, off =>
    if r.off ≤ off then
      match dimIndex r.dims (off - r.off) with
      | some ix => some (r, ix)
      | none => findIn rs off
    else findIn rs off

/-- The register at a BAR0 offset (R505). -/
def findReg (off : Nat) : Option (RegDef × List Nat) :=
  match blockOf off with
  | some b => findIn (regsOfBlock b) off
  | none => none

/-- Whether an offset holds the `_LO` register of a counter of block `b`. -/
def isCounterIn : List (Nat × List (Nat × Nat)) → Nat → Bool
  | [], _ => false
  | (o, ds) :: cs, off => (decide (o ≤ off) && (dimIndex ds (off - o)).isSome) || isCounterIn cs off

/-- Whether a BAR0 offset is a counter's `_LO` register (R78). -/
def isCounterLo (off : Nat) : Bool :=
  match blockOf off with
  | some b => isCounterIn (countersOfBlock b) off
  | none => false

/-- The class of an event code (R511): 0 CE, 1 DE, 2 UE, 3 FE. -/
def eventClass (code : Nat) : Nat := kgetD eventTable code 0

/-- Whether the table of R511 holds a code. -/
def isEvent (code : Nat) : Bool := (kget eventTable code).isSome

/-- The offset of the mask entry of code `c` (R520). -/
def maskOff (c : Nat) : Nat := 0x510000 + 4 * c

/-- The reset value of the mask entry of a code (R520): the log bit, the MSI-X bit for DE, UE and FE, the alert bit for
UE and FE, and vector 2,044 + class. -/
def maskReset (c : Nat) : Nat :=
  let k := eventClass c
  1 + 2 * bit (1 ≤ k) + 4 * bit (2 ≤ k) + 16 * (2044 + k)

/-- The fields' reset values put together. -/
def fieldsReset : List FieldDef → Nat
  | [] => 0
  | f :: fs => f.rst * 2 ^ f.lo + fieldsReset fs

/-- The reset value of the register at a BAR0 offset. (DESIGN CHOICE: log entry 2) -/
def regReset (off : Nat) : Nat :=
  if 0x510000 ≤ off ∧ off < 0x550000 then
    if isEvent ((off - 0x510000) / 4) then maskReset ((off - 0x510000) / 4) else 0
  else
    match findReg off with
    | some (r, ix) => if r.rsts = [] then fieldsReset r.fields else nth r.rsts (nth ix 0 0) 0
    | none => 0

/-- The value the register file holds at a BAR0 offset. -/
def State.rd (s : State) (off : Nat) : Nat :=
  match kget s.regs off with
  | some v => v
  | none => regReset off

/-- Writes the register file at a BAR0 offset. -/
def State.wr (s : State) (off v : Nat) : State := { s with regs := kset s.regs off (v % 2 ^ 32) }

/-- The value of a field, `di` bytes past instance 0. -/
def State.fld (s : State) (r : FieldRef) (di : Nat := 0) : Nat := bits (s.rd (r.off + di)) r.hi r.lo

/-- Whether a one-bit field is set. -/
def State.flag (s : State) (r : FieldRef) (di : Nat := 0) : Bool := s.fld r di ≠ 0

/-- The device sets a field. -/
def State.setFld (s : State) (r : FieldRef) (v : Nat) (di : Nat := 0) : State :=
  s.wr (r.off + di) (setBits (s.rd (r.off + di)) r.hi r.lo v)

/-- A 64-bit value held in a low and a high field. -/
def State.fld64 (s : State) (lo hi : FieldRef) (di : Nat := 0) : Nat :=
  s.fld lo di * 2 ^ lo.lo + s.fld hi di * 2 ^ 32

/-! ### Events (R510 to R513) -/

/-- The block agent that raises an event: one for each block, and one for each facet in block FCT (R17). (DESIGN CHOICE: log entry 4) -/
def agentOf (code unit : Nat) : Nat := code / 256 * 256 + (if code / 256 = 17 ∧ unit < 72 then unit + 1 else 0)

/-- How many held events of agent `a` have class `k`. -/
def heldCount (l : List HeldEvent) (a k : Nat) : Nat := (l.filter fun h => h.agent = a && h.ev.cls = k).length

/-- Adds to the repeat field of the first held event meeting `p`; the field saturates (R510). -/
def bumpRep (p : HeldEvent → Bool) : List HeldEvent → List HeldEvent
  | [] => []
  | h :: l => if p h then { h with ev := { h.ev with rep := satBits 32 (h.ev.rep + 1) } } :: l else h :: bumpRep p l

/-- Adds to the repeat field of the last held event meeting `p`. -/
def bumpRepLast (p : HeldEvent → Bool) (l : List HeldEvent) : List HeldEvent := (bumpRep p l.reverse).reverse

/-- Removes the last held event meeting `p`. -/
def dropLast (p : HeldEvent → Bool) (l : List HeldEvent) : List HeldEvent := (l.reverse.eraseP p).reverse

/-- Places of R513: with `nl` CE and DE events, `nu` UE and `nf` FE events held, whether a new event of class `k` has a
place among six unreserved ones, one for UE and FE and one for FE. FE events take the FE place first, then the UE and FE
place, then an unreserved one; UE events an unreserved place first. -/
def hasPlace (nl nu nf k : Nat) : Bool :=
  let feOut := nf - 1
  if k = 3 then decide (nf = 0) || decide (nl + nu + feOut < 7)
  else if k = 2 then decide (nl + nu + feOut < 7)
  else decide (nl + (nu + feOut - 1) < 6) && decide (nl < 6)

/-- R513: how an agent holds a raised event; the second answer says that a CE or DE event was dropped. A UE event that
finds FE events alone in all eight places is not held. (DESIGN CHOICE: log entry 4; DESIGN CHOICE: log entry 19) -/
def holdEvent (l : List HeldEvent) (e : EventRec) : List HeldEvent × Bool :=
  let a := agentOf e.code e.unit
  let same := fun h : HeldEvent => h.agent = a && h.ev.code = e.code && h.ev.unit = e.unit
  if l.any same then (bumpRep same l, false)
  else if hasPlace (heldCount l a 0 + heldCount l a 1) (heldCount l a 2) (heldCount l a 3) e.cls then
    (l ++ [⟨a, e⟩], false)
  else if e.cls = 3 then (bumpRepLast (fun h => h.agent = a && h.ev.cls = 3) l, false)
  else if e.cls = 2 then
    if heldCount l a 2 ≠ 0 then (bumpRepLast (fun h => h.agent = a && h.ev.cls = 2) l, false)
    else if heldCount l a 0 + heldCount l a 1 = 0 then (l, false)
    else (dropLast (fun h => h.agent = a && h.ev.cls < 2) l ++ [⟨a, e⟩], true)
  else (l, true)

/-- The largest value of a SAT counter (R522). -/
def satMax : Nat := 2 ^ 48 - 1

/-- Adds to a counter without looking at saturation events. -/
def State.bumpRaw (s : State) (c n : Nat) : State :=
  let v := kgetD s.cnts c 0
  { s with cnts := kset s.cnts c (if v + n < satMax then v + n else satMax) }

/-- Whether adding `n` takes a counter to its limit for the first time (R522). -/
def State.saturates (s : State) (c n : Nat) : Bool :=
  decide (kgetD s.cnts c 0 < satMax) && decide (satMax ≤ kgetD s.cnts c 0 + n)

/-- The counter of a class of events (R521). -/
def classCounter (k : Nat) : Nat := C.EVT_CE + 8 * k

/-- An event is raised and held; an FE event asserts FAULT_N, drives ALERT_N low and sets the
fatal condition (R375, R508, R537). (DEDUCED: log entry 37) -/
def State.holdRaw (s : State) (e : EventRec) : State :=
  let (l, dropped) := holdEvent s.evt.held e
  let s := { s with evt := { s.evt with held := l }, tap := { s.tap with raised := e.code } }
  let s := if dropped then s.bumpRaw C.EVT_DROPPED 1 else s
  if e.cls = 3 then
    ({ s with pins := { s.pins with faultN := false, alertN := false } }).setFld F.GLB_STATUS_fatal 1
  else s

/-- The counter-saturated event of the counter at `c` (R522). -/
def satEvent (s : State) (c : Nat) : EventRec := ⟨E.counterSaturated, 1, 0, 0xFFFF, 0xFF, 0, s.us, c, 0⟩

/-- Raises the counter-saturated event of `c`, counting it; `EVT_DE` reaching its limit by it raises its own. (DEDUCED: log entry 95) -/
def State.raiseSat (s : State) (c : Nat) : State :=
  let again := s.saturates C.EVT_DE 1
  let s := (s.bumpRaw C.EVT_DE 1).holdRaw (satEvent s c)
  if again then s.holdRaw (satEvent s C.EVT_DE) else s

/-- Adds `n` to the counter at `c` (R522). (DEDUCED: log entry 95) -/
def State.bump (s : State) (c : Nat) (n : Nat := 1) : State :=
  let hit := s.saturates c n
  let s := s.bumpRaw c n
  if hit then s.raiseSat c else s

/-- Raises an event record: its class counter counts it, its agent holds it, and sensor 6 shows it (R495). -/
def State.raiseRec (s : State) (e : EventRec) : State :=
  let s := (s.bump (classCounter e.cls) 1).holdRaw e
  if e.cls = 0 then s else { s with evt := { s.evt with health := max s.evt.health (e.cls + 1) } }

/-- Raises the event `code` of R511 with its unit, context, details and status. (DESIGN CHOICE: log entry 4) -/
def State.raise (s : State) (code : Nat) (unit : Nat := 0xFFFF) (ctx : Nat := 0xFF) (d0 : Nat := 0) (d1 : Nat := 0)
    (status : Nat := 0) : State :=
  s.raiseRec ⟨code, eventClass code, status, unit, ctx, 0, s.us, d0, d1⟩

/-- The code of an originator in GLB_ACCESS and the event's unit (R508). -/
def orgCode : Originator → Nat
  | .host => 0
  | .smbus _ => 1
  | .boot => 1
  | .jtag => 2
  | .remote _ => 3

/-- The package of a remote originator. -/
def orgPkg : Originator → Nat
  | .remote p => p
  | _ => 0

/-- The register-access event (R9, R506): GLB_ACCESS keeps the first since `valid` was cleared. (DEDUCED: log entry 21) -/
def State.accessEvent (s : State) (org : Originator) (off reason : Nat) : State :=
  let s := if s.flag F.GLB_ACCESS_valid then s
    else s.wr F.GLB_ACCESS_valid.off (off % 2 ^ 26 + reason * 2 ^ 26 + (orgCode org) * 2 ^ 29 + 2 ^ 31)
  s.raise E.registerAccess (orgCode org) (d0 := off) (d1 := reason + 8 * (orgPkg org))

/-- What only a running package does: every domain but AON is held in reset before t0 (R426), so that nothing happens. (DESIGN CHOICE: log entry 7) -/
def State.on (s : State) (k : State → State) : State := if s.power = .running then k s else s

/-- What needs VDD_AON alone: the TAP (R469), the thermal comparators (R419), the lockout timers (R463). (DESIGN CHOICE: log entry 7) -/
def State.aon (s : State) (k : State → State) : State := if s.power = .unpowered then s else k s

/-- A session message: from the host and SMBus it reaches a running package only; from JTAG also one held in reset,
which answers NOT_READY (R465). (DESIGN CHOICE: log entry 7) -/
def State.reach (s : State) (org : Originator) (k : State → State) : State :=
  if org = .jtag then s.aon k else s.on k

/-- A step of a facet, a Prism array, the Condenser or a step series: it stands still in the fatal condition (R376). (DESIGN CHOICE: log entry 7; DESIGN CHOICE: log entry 92) -/
def State.alive (s : State) (k : State → State) : State :=
  s.on fun s => if s.flag F.GLB_STATUS_fatal then s else k s

/-! ### Bytes and memory (R6, R550) -/

/-- The little-endian bytes of a number. -/
def toBytes : Nat → Nat → List Byte
  | 0, _ => []
  | n + 1, v => BitVec.ofNat 8 v :: toBytes n (v / 256)

/-- The number a little-endian byte list spells. -/
def ofBytes : List Byte → Nat
  | [] => 0
  | b :: l => b.toNat + 256 * ofBytes l

/-- `len` bytes from byte `i` of a list. -/
def slice (l : List Byte) (i len : Nat) : List Byte := (l.drop i).take len

/-- A little-endian field of a byte list; bytes past its end read as zero. -/
def leAt (l : List Byte) (i len : Nat) : Nat := ofBytes (slice l i len)

/-- A byte list padded with zeros to `n` bytes. -/
def padTo (n : Nat) (l : List Byte) : List Byte := l ++ List.replicate (n - l.length) 0

/-- Reads one byte of a memory whose unlisted bytes read as `d`. -/
def cellGet (d : Byte) : List Host.Cell → Nat → Byte
  | [], _ => d
  | (j, b) :: m, a => if j = a then b else if a < j then d else cellGet d m a

/-- Writes one byte of a memory, keeping the canonical form: addresses rising, no entry equal to `d`. -/
def cellSet (d : Byte) : List Host.Cell → Nat → Byte → List Host.Cell
  | [], a, b => if b = d then [] else [(a, b)]
  | (j, c) :: m, a, b =>
    if a < j then (if b = d then (j, c) :: m else (a, b) :: (j, c) :: m)
    else if a = j then (if b = d then m else (a, b) :: m)
    else (j, c) :: cellSet d m a b

/-- The canonical form of a memory whose unlisted bytes read as `d`, its next address at least `lo`. -/
def cellsWf (d : Byte) : Nat → List Host.Cell → Bool
  | _, [] => true
  | lo, (a, b) :: m => decide (lo ≤ a) && decide (b ≠ d) && cellsWf d (a + 1) m

/-- Reads `n` bytes from `a`. -/
def cellsRead (d : Byte) (m : List Host.Cell) : Nat → Nat → List Byte
  | _, 0 => []
  | a, n + 1 => cellGet d m a :: cellsRead d m (a + 1) n

/-- Writes a byte list at `a`. -/
def cellsWrite (d : Byte) (m : List Host.Cell) : Nat → List Byte → List Host.Cell
  | _, [] => m
  | a, b :: l => cellsWrite d (cellSet d m a b) (a + 1) l

/-- What an unlisted byte of the flash reads as: the erased value of NOR flash. (DESIGN CHOICE: log entry 3; PRESUMED: log entry 14) -/
def flashErased : Byte := 0xFF

/-- The canonical form of all memories. (DESIGN CHOICE: log entry 3) -/
def Mem.wf (m : Mem) : Bool :=
  cellsWf 0 0 m.t0 && cellsWf 0 0 m.t1 && cellsWf 0 0 m.t2 && cellsWf 0 0 m.host && cellsWf flashErased 0 m.flash

/-- The cells of a space of R35 (0 tier 0, 1 tier 1, 2 tier 2). -/
def Mem.cells (m : Mem) : Nat → List Host.Cell
  | 0 => m.t0
  | 1 => m.t1
  | _ => m.t2

/-- The poisoned lines of a space. -/
def Mem.poison (m : Mem) : Nat → List Nat
  | 0 => m.p0
  | 1 => m.p1
  | _ => m.p2

/-- Replaces the cells of a space. -/
def Mem.setCells (m : Mem) (sp : Nat) (c : List Host.Cell) : Mem :=
  match sp with
  | 0 => { m with t0 := c }
  | 1 => { m with t1 := c }
  | _ => { m with t2 := c }

/-- Replaces the poisoned lines of a space. -/
def Mem.setPoison (m : Mem) (sp : Nat) (p : List Nat) : Mem :=
  match sp with
  | 0 => { m with p0 := p }
  | 1 => { m with p1 := p }
  | _ => { m with p2 := p }

/-- Reads `n` bytes of a space. (DESIGN CHOICE: log entry 3) -/
def Mem.read (m : Mem) (sp off n : Nat) : List Byte := cellsRead 0 (m.cells sp) off n

/-- A little-endian field of a space. -/
def Mem.le (m : Mem) (sp off n : Nat) : Nat := ofBytes (m.read sp off n)

/-- Whether any of the `n` bytes from `off` lies in a poisoned line. -/
def Mem.poisoned (m : Mem) (sp off n : Nat) : Bool :=
  n ≠ 0 && (m.poison sp).any fun l => off / 64 ≤ l && l ≤ (off + n - 1) / 64

/-- R550 for the lines a write of good data touches: a line covered whole loses its mark, any other keeps it. -/
def clearLines (p : List Nat) (off n : Nat) : List Nat := p.filter fun l => !(decide (off ≤ 64 * l) && decide (64 * l + 64 ≤ off + n))

/-- Marks lines `a` to `a + k − 1` poisoned. -/
def markLines : List Nat → Nat → Nat → List Nat
  | p, _, 0 => p
  | p, a, k + 1 => markLines (insertNat p a) (a + 1) k

/-- Writes bytes into a space: good data under R550, or poisoned data that leaves every line it touches poisoned. -/
def Mem.write (m : Mem) (sp off : Nat) (bs : List Byte) (poison : Bool := false) : Mem :=
  if bs = [] then m
  else
    let m' := m.setCells sp (cellsWrite 0 (m.cells sp) off bs)
    if poison then m'.setPoison sp (markLines (m.poison sp) (off / 64) ((off + bs.length - 1) / 64 - off / 64 + 1))
    else m'.setPoison sp (clearLines (m.poison sp) off bs.length)

/-- Marks the lines of a range poisoned, leaving the bytes. -/
def Mem.markPoison (m : Mem) (sp off n : Nat) : Mem :=
  if n = 0 then m else m.setPoison sp (markLines (m.poison sp) (off / 64) ((off + n - 1) / 64 - off / 64 + 1))

/-- The 64-byte accesses a range takes. -/
def lineCount (off n : Nat) : Nat := if n = 0 then 0 else (off + n - 1) / 64 - off / 64 + 1

/-- The stack of a tier-1 offset (R274). -/
def stackOf (a : Nat) : Nat := (bits a 10 8) ^^^ (bits a 19 17)

/-- The Loupe's last offset per stack after a read of tier 1: the last 64-byte access of the range on each stack. -/
def lastReads (m : KMap Nat) (off n : Nat) : KMap Nat :=
  if n = 0 then m
  else
    let top := (off + n - 1) / 64
    ((List.range 64).filter fun i => decide (off / 64 + (63 - i) ≤ top)).foldl (fun m i => kset m (stackOf (64 * (top - (63 - i)))) (64 * (top - (63 - i)))) m

/-- The device reads a tier, counting 64-byte accesses of tiers 1 and 2 (R303). -/
def State.tread (s : State) (sp off n : Nat) : State :=
  if sp = 1 then ({ s with tap := { s.tap with t1 := lastReads s.tap.t1 off n } } : State).bump C.TIER_T1_READ (lineCount off n)
  else if sp = 2 then s.bump C.TIER_T2_READ (lineCount off n) else s

/-- The device writes a tier, counting 64-byte accesses of tiers 1 and 2 (R303). -/
def State.twrite (s : State) (sp off : Nat) (bs : List Byte) (poison : Bool := false) : State :=
  let s := { s with mem := s.mem.write sp off bs poison }
  if sp = 1 then s.bump C.TIER_T1_WRITE (lineCount off bs.length)
  else if sp = 2 then s.bump C.TIER_T2_WRITE (lineCount off bs.length) else s

/-- Reads host memory. (DESIGN CHOICE: log entry 68) -/
def State.hread (s : State) (a n : Nat) : List Byte := cellsRead 0 s.mem.host a n

/-- Writes host memory: discarded and counted while the PCIe link is down (R479). (DESIGN CHOICE: log entry 68) -/
def State.hwrite (s : State) (a : Nat) (bs : List Byte) : State :=
  if s.flag F.HST_LINK_up then { s with mem := { s.mem with host := cellsWrite 0 s.mem.host a bs } }
  else s.bump C.HST_DROPPED_WR 1

/-- Whether a queue data address is of a form the device admits (R480). -/
def qaddrOk (a : Nat) : Bool :=
  if a / 2 ^ 63 = 0 then true else decide (bits a 62 48 = 0) && decide (a % 2 ^ 48 < 0x6000000000)

/-- Reads `n` bytes at a queue data address (R480). -/
def State.qread (s : State) (a n : Nat) : List Byte :=
  if a / 2 ^ 63 = 0 then s.hread a n else s.mem.read 1 (a % 2 ^ 48) n

/-- Writes at a queue data address (R480). -/
def State.qwrite (s : State) (a : Nat) (bs : List Byte) : State :=
  if a / 2 ^ 63 = 0 then s.hwrite a bs else s.twrite 1 (a % 2 ^ 48) bs

/-! ### Free values and outputs -/

/-- Draws a free value. (DESIGN CHOICE: log entry 5) -/
def State.fresh (s : State) : Nat × State := (Config.freshNat s.free, { s with free := s.free + 1 })

/-- The block sends something to its surroundings. (DESIGN CHOICE: log entry 6) -/
def State.emit (s : State) (o : Output) : State := { s with out := s.out ++ [o] }

/-- The AON millisecond count (R508). (DESIGN CHOICE: log entry 94) -/
def State.ms (s : State) : Nat := s.us / 1000 % 2 ^ 32

end Sys2Proof.Machine
end

