-- ==== Sys2Proof/Machine/Operands.lean ====
section
/-!
DEFINITION. Operand forms: the number formats of R38 to R46, floating point under round to nearest even (R49 to R54,
R165, R170, R207), EXP2 (R103), the pairwise tree of R52, and the rows and tensors that matrix instructions read.
-/
namespace Sys2Proof.Machine

/-! ### Exact dyadic values -/

/-- The value `m × 2^e`. -/
structure Dy where
  m : Int
  e : Int
  deriving DecidableEq, Repr

/-- `2^k` for `k` taken as 0 when negative. -/
def ip2 (k : Int) : Nat := 2 ^ k.toNat

/-- The exact sum. -/
def Dy.add (a b : Dy) : Dy :=
  if a.e ≤ b.e then ⟨a.m + b.m * ip2 (b.e - a.e), a.e⟩ else ⟨a.m * ip2 (a.e - b.e) + b.m, b.e⟩

/-- The exact product. -/
def Dy.mul (a b : Dy) : Dy := ⟨a.m * b.m, a.e + b.e⟩

/-- Negation. -/
def Dy.neg (a : Dy) : Dy := ⟨-a.m, a.e⟩

/-- `a ≤ b`. -/
def Dy.le (a b : Dy) : Bool := decide ((a.add b.neg).m ≤ 0)

/-- Rounding modes (R54): 0 RNE, 1 RTZ, 2 RNA. The quotient `a / d` of naturals rounded. -/
def roundDiv (mode a d : Nat) : Nat :=
  let q := a / d
  let r := a % d
  let up := if mode = 0 then decide (d < 2 * r) || (decide (2 * r = d) && decide (q % 2 = 1))
    else if mode = 1 then false else decide (d ≤ 2 * r)
  if up then q + 1 else q

/-- An integer quotient rounded, its sign kept. -/
def roundInt (mode : Nat) (a : Int) (d : Nat) : Int :=
  if a < 0 then - (roundDiv mode a.natAbs d : Int) else (roundDiv mode a.natAbs d : Int)

/-- `v / 2^q` rounded to an integer. -/
def Dy.quant (mode : Nat) (v : Dy) (q : Int) : Int :=
  if q ≤ v.e then v.m * ip2 (v.e - q) else roundInt mode v.m (ip2 (q - v.e))

/-! ### Floating formats: E4M3, E5M2, BF16, FP32 -/

/-- A binary floating format: exponent bits, fraction bits, and the code of its largest finite value. -/
structure FFmt where
  eb : Nat
  mb : Nat
  top : Nat
  deriving DecidableEq, Repr

def ffE4M3 : FFmt := ⟨4, 3, 0x7E⟩
def ffE5M2 : FFmt := ⟨5, 2, 0x7B⟩
def ffBF16 : FFmt := ⟨8, 7, 0x7F7F⟩
def ffFP32 : FFmt := ⟨8, 23, 0x7F7FFFFF⟩

/-- The sign bit of a format. -/
def FFmt.sgn (f : FFmt) : Nat := 2 ^ (f.eb + f.mb)

/-- The exponent of the smallest subnormal. -/
def FFmt.q0 (f : FFmt) : Int := 2 - (2 ^ (f.eb - 1) : Nat) - f.mb

/-- The code of a finite magnitude rounded into a format, without a limit (R54, R55: subnormals are kept). -/
def FFmt.code (f : FFmt) (mode : Nat) (v : Dy) : Nat :=
  if v.m = 0 then 0
  else
    let lg : Int := (Nat.log2 v.m.natAbs : Int) + v.e
    let q := max (lg - f.mb) f.q0
    ((q - f.q0).toNat) * 2 ^ f.mb + (Dy.quant mode ⟨v.m.natAbs, v.e⟩ q).toNat

/-- R55: a value put into a format, with whether it saturated. Past the largest finite value it becomes infinity, or the
largest finite value where `sat` holds. -/
def FFmt.put (f : FFmt) (mode : Nat) (sat : Bool) (v : Dy) : Nat × Bool :=
  let c := f.code mode v
  let s := if v.m < 0 then f.sgn else 0
  if c ≤ f.top then (s + c, false) else if sat then (s + f.top, true) else (s + f.top + 1, false)

/-- The value of a finite code. -/
def FFmt.val (f : FFmt) (b : Nat) : Dy :=
  let a := b % f.sgn
  let ex := a / 2 ^ f.mb
  let fr := a % 2 ^ f.mb
  let m : Nat := if ex = 0 then fr else fr + 2 ^ f.mb
  let e : Int := f.q0 + (if ex = 0 then 0 else (ex : Int) - 1)
  ⟨if f.sgn ≤ b then -(m : Int) else m, e⟩

/-- Whether a code is an infinity or a NaN of an IEEE-like format. -/
def FFmt.special (f : FFmt) (b : Nat) : Bool := decide (f.top < b % f.sgn)

/-- FP32 NaN (R103). -/
def fNaN : Nat := 0x7FC00000

/-- Whether an FP32 code is a NaN. -/
def isNaN (b : Nat) : Bool := decide (0x7F800000 < b % 2 ^ 31)

/-- Whether an FP32 code is an infinity. -/
def isInf (b : Nat) : Bool := decide (b % 2 ^ 31 = 0x7F800000)

/-- The sign of an FP32 code. -/
def fneg (b : Nat) : Nat := if 2 ^ 31 ≤ b then b - 2 ^ 31 else b + 2 ^ 31

/-- The value of an FP32 code. -/
def fval (b : Nat) : Dy := ffFP32.val b

/-- An exact value as FP32 under RNE. -/
def fround (v : Dy) : Nat := (ffFP32.put 0 false v).1

/-- FP32 addition. -/
def fadd (a b : Nat) : Nat :=
  if isNaN a || isNaN b then fNaN
  else if isInf a then (if isInf b && decide (a ≠ b) then fNaN else a)
  else if isInf b then b
  else
    let v := (fval a).add (fval b)
    if v.m = 0 then (if a = 2 ^ 31 ∧ b = 2 ^ 31 then 2 ^ 31 else 0) else fround v

/-- FP32 subtraction. -/
def fsub (a b : Nat) : Nat := if isNaN b then fNaN else fadd a (fneg b)

/-- The sign of a product or quotient. -/
def signXor (a b : Nat) : Nat := if (2 ^ 31 ≤ a) ↔ (2 ^ 31 ≤ b) then 0 else 2 ^ 31

/-- FP32 multiplication. -/
def fmul (a b : Nat) : Nat :=
  let s := signXor a b
  if isNaN a || isNaN b then fNaN
  else if isInf a || isInf b then
    (if a % 2 ^ 31 = 0 ∨ b % 2 ^ 31 = 0 then fNaN else s + 0x7F800000)
  else
    let v := (fval a).mul (fval b)
    if v.m = 0 then s else fround v

/-- FP32 division. The quotient is taken to 64 bits past the divisor with a sticky bit, so its rounding is exact. -/
def fdiv (a b : Nat) : Nat :=
  let s := signXor a b
  if isNaN a || isNaN b then fNaN
  else if isInf a then (if isInf b then fNaN else s + 0x7F800000)
  else if isInf b then s
  else if b % 2 ^ 31 = 0 then (if a % 2 ^ 31 = 0 then fNaN else s + 0x7F800000)
  else if a % 2 ^ 31 = 0 then s
  else
    let x := fval a
    let y := fval b
    let n := x.m.natAbs * 2 ^ 64
    let d := y.m.natAbs
    let m := 2 * (n / d) + bit (n % d ≠ 0)
    s + fround ⟨m, x.e - y.e - 65⟩

/-- FP32 comparison `a ≤ b` of finite or infinite codes. -/
def fle (a b : Nat) : Bool :=
  if isNaN a || isNaN b then false
  else if isInf a then decide (2 ^ 31 ≤ a) || decide (a = b)
  else if isInf b then decide (b < 2 ^ 31)
  else (fval a).le (fval b)

/-- The larger of two FP32 codes. -/
def fmax (a b : Nat) : Nat := if isNaN a || isNaN b then fNaN else if fle a b then b else a

/-- The precision EXP2 works at, in bits. -/
def expPrec : Nat := 256

/-- The product of the roots `2^(1/2), 2^(1/4), …` chosen by the leading `n` bits of a fraction, at `expPrec` bits;
`r` is the present root and `f` the bits left. -/
def rootProd : Nat → Nat → Nat → Nat → Nat
  | 0, _, _, acc => acc
  | n + 1, f, r, acc =>
    let r' := Nat.sqrt (r * 2 ^ expPrec)
    rootProd n (f % 2 ^ n) r' (if f / 2 ^ n % 2 = 1 then acc * r' / 2 ^ expPrec else acc)

/-- `2^x` for a dyadic `x` with `k` fraction bits: the integer part of the exponent and the mantissa at `expPrec` bits. -/
def exp2Parts (v : Dy) : Int × Nat :=
  let k : Nat := (-v.e).toNat
  let m : Int := if 0 ≤ v.e then v.m * ip2 v.e else v.m
  let n := m.fdiv (2 ^ k : Nat)
  let f := (m.fmod (2 ^ k : Nat)).toNat
  (n, rootProd k f (2 * 2 ^ expPrec) (2 ^ expPrec))

/-- EXP2 of a finite FP32 value into a format (R103): a value far below or above the range gives +0 or infinity. (DEDUCED: log entry 31) -/
def exp2Into (f : FFmt) (b : Nat) : Nat :=
  let v := fval b
  if v.m = 0 then (f.put 0 false ⟨1, 0⟩).1
  else if (Dy.le ⟨200, 0⟩ v) then f.top + 1
  else if (Dy.le v ⟨-200, 0⟩) then 0
  else
    let p := exp2Parts v
    let sticky := 2 * p.2 + bit (v.m.fmod (2 ^ (-v.e).toNat : Nat) ≠ 0)
    (f.put 0 false ⟨sticky, p.1 - expPrec - 1⟩).1

/-- EXP2 of an FP32 code (R103). -/
def fexp2 (b : Nat) : Nat :=
  if isNaN b then fNaN
  else if isInf b then (if 2 ^ 31 ≤ b then 0 else b)
  else exp2Into ffFP32 b

/-- LOG2E (R170). -/
def log2e : Nat := 0x3FB8AA3B

/-- The pairwise tree of R52 over a list, `fuel` bounding its depth. -/
def treeSum : Nat → List Nat → Nat
  | 0, _ => 0
  | _ + 1, [] => 0
  | _ + 1, [x] => x
  | fuel + 1, l => fadd (treeSum fuel (l.take ((l.length + 1) / 2))) (treeSum fuel (l.drop ((l.length + 1) / 2)))

/-- The pairwise sum of R52. -/
def pairSum (l : List Nat) : Nat := treeSum (l.length + 1) l

/-- ROW_MAX of R52. -/
def rowMax : List Nat → Nat
  | [] => 0
  | [x] => x
  | x :: l => fmax x (rowMax l)

/-- BF16 code as FP32 code. -/
def bfToF (b : Nat) : Nat := b % 2 ^ 16 * 2 ^ 16

/-! ### Format codes (R38) -/

/-- The width of a fixed weight format code. -/
def weightWidth (c : Nat) : Nat := nth [1, 2, 3, 4, 6, 8] c 0

/-- Whether a code is a matrix weight operand. -/
def isWeightFmt (c : Nat) : Bool := decide (c ≤ 6)

/-- Whether a code is a matrix activation operand. -/
def isActFmt (c : Nat) : Bool := decide (7 ≤ c) && decide (c ≤ 0xA)

/-- Whether a code is an output format. -/
def isOutFmt (c : Nat) : Bool := decide (c ≤ 5) || (decide (7 ≤ c) && decide (c ≤ 0xC))

/-- A `w`-bit two's complement field as an integer; for W1, 0 is −1 and 1 is +1 (R38). -/
def elemVal (w v : Nat) : Int :=
  if w = 1 then (if v % 2 = 1 then 1 else -1)
  else if 2 ^ (w - 1) ≤ v % 2 ^ w then (v % 2 ^ w : Int) - 2 ^ w else (v % 2 ^ w : Int)

/-- Element `i` of a block's bit string (R39). -/
def blockElem (w : Nat) (bs : List Byte) (i : Nat) : Int :=
  elemVal w (ofBytes (slice bs (w * i / 8) 2) / 2 ^ (w * i % 8))

/-- The code of an element in `w` bits. -/
def elemCode (w : Nat) (q : Int) : Nat := if w = 1 then bit (0 < q) else (q % (2 ^ w : Nat)).toNat

/-- The smallest and largest element of a width (R38). -/
def elemMin (w : Nat) : Int := if w = 1 then -1 else -(2 ^ (w - 1) : Nat)
def elemMax (w : Nat) : Int := if w = 1 then 1 else (2 ^ (w - 1) : Nat) - 1

/-- Packs element codes of width `w` into a little-endian bit string. -/
def packBits (w : Nat) : List Int → Nat
  | [] => 0
  | q :: l => elemCode w q + 2 ^ w * packBits w l

/-! ### Blocks (R40, R45, R56) -/

/-- A block as it enters a reduction: its exponent (0 for a zero block), its fine multiplier and its elements. -/
structure Block where
  ex : Nat
  fine : Nat
  q : List Int
  deriving DecidableEq, Repr

/-- Whether a block breaks R41, R43 or R45 against its base. -/
def Block.bad (b : Block) (base : Nat) : Bool :=
  b.ex ≠ 0 && (decide (b.ex = 255) || decide (b.ex < base) || decide (base + 16 < b.ex))

/-- The integer dot product of two blocks. -/
def dot : List Int → List Int → Int
  | x :: xs, y :: ys => x * y + dot xs ys
  | _, _ => 0

/-- The term of a block pair (R47): `s × F` shifted left by `k`. -/
def blockTerm (bw ba : Nat) (w a : Block) : Int :=
  if w.ex = 0 ∨ a.ex = 0 then 0
  else dot w.q a.q * (256 + w.fine) * (2 ^ ((w.ex - bw) + (a.ex - ba)) : Nat)

/-- The accumulator of one output element (R47, R48): its anchor is `Bw + Ba − 262`. -/
def accumulate (bw ba : Nat) : List Block → List Block → Int
  | w :: ws, a :: as => blockTerm bw ba w a + accumulate bw ba ws as
  | _, _ => 0

/-- Whether an element fits a width at block exponent `ex` (scale 2^(ex − 127)) under a rounding mode. -/
def fitsAt (mode w ex : Nat) (v : Dy) : Bool :=
  let q := v.quant mode ((ex : Int) - 127)
  decide (elemMin w ≤ q) && decide (q ≤ elemMax w)

/-- The smallest exponent from `ex` up at which every element fits, `fuel` values tried; 255 for none. -/
def leastExp (mode w : Nat) (vs : List Dy) : Nat → Nat → Nat
  | 0, _ => 255
  | fuel + 1, ex => if vs.all (fitsAt mode w ex) then ex else leastExp mode w vs fuel (ex + 1)

/-- The exponent R56 gives a block on its own, and whether it saturates at 254. -/
def naturalExp (mode w : Nat) (vs : List Dy) : Nat :=
  if vs.all (fun v => v.m = 0) then 0 else leastExp mode w vs 254 1

/-- Elements rounded at a block exponent and clamped, with the count that saturated. -/
def quantAt (mode w ex : Nat) (vs : List Dy) : List Int × Nat :=
  let qs := vs.map fun v => v.quant mode ((ex : Int) - 127)
  (qs.map fun q => max (elemMin w) (min (elemMax w) q), (qs.filter fun q => !(decide (elemMin w ≤ q) && decide (q ≤ elemMax w))).length)

/-- The base of a vector from its block exponents (R56): the largest less 16, or 1. -/
def baseOf (weight : Bool) (es : List Nat) : Nat :=
  let m := es.foldl max 0
  if m = 0 then (if weight then 1 else 0) else max 1 (m - 16)

/-- R56: a vector requantised block by block; answers the base, the exponents, the elements, and the saturations. (DEDUCED: log entry 40) -/
def requant (mode w : Nat) (weight : Bool) (blocks : List (List Dy)) : Nat × List Nat × List (List Int) × Nat :=
  let es := blocks.map fun b => min 254 (naturalExp mode w b)
  let base := baseOf weight es
  let es' := es.map fun e => if e = 0 then 0 else max e base
  let qs := (blocks.zip es').map fun (b, e) => if e = 0 then (b.map fun _ => 0, 0) else quantAt mode w e b
  (base, es', qs.map (·.1), (qs.map (·.2)).foldl (· + ·) 0)

/-- R46: an E4M3 or E5M2 code as an exact value, and whether it was a NaN or an infinity. -/
def fp8Val (e5 : Bool) (b : Nat) : Dy × Bool :=
  if e5 then
    if b % 128 = 0x7C then (⟨if 128 ≤ b then -57344 else 57344, 0⟩, true)
    else if 0x7C < b % 128 then (⟨0, 0⟩, true)
    else (ffE5M2.val b, false)
  else if b % 128 = 0x7F then (⟨0, 0⟩, true) else (ffE4M3.val b, false)

/-- A list cut into pieces of `n`, `fuel` pieces at most. -/
def chunks {α : Type} (n : Nat) : Nat → List α → List (List α)
  | 0, _ => []
  | fuel + 1, l => l.take n :: chunks n fuel (l.drop n)

/-- A vector of FP8 codes converted on entry (R46): blocks of A8, its base, and the count of non-finite codes. -/
def fp8Row (e5 : Bool) (bs : List Byte) (nblk : Nat) : Nat × List Block × Nat :=
  let vs := bs.map fun b => fp8Val e5 b.toNat
  let r := requant 0 8 false ((chunks 128 nblk vs).map fun c => c.map (·.1))
  (r.1, (r.2.1.zip r.2.2.1).map (fun p => (⟨p.1, 0, p.2⟩ : Block)), (vs.filter (·.2)).length)

/-- Zeroes every element of a list of blocks at or beyond index `k` (R137). -/
def cutAt (k : Nat) (bs : List Block) : List Block :=
  (bs.zipIdx).map fun (b, i) => { b with q := (b.q.zipIdx).map fun (x, j) => if 128 * i + j < k then x else 0 }

/-- A vector of A8 or A4 blocks as R206 lays a row out: data, then one exponent per block, then the base byte. -/
def actRow (a4 : Bool) (bs : List Byte) (nblk : Nat) : Nat × List Block :=
  let w := if a4 then 4 else 8
  let db := 16 * w
  (leAt bs (nblk * db + nblk) 1,
    (List.range nblk).map fun i => ⟨leAt bs (nblk * db + i) 1, 0, (List.range 128).map (blockElem w (slice bs (i * db) db))⟩)

/-- The bytes of one row of `nblk` blocks in an activation format (R206): padded to a multiple of 64 bytes. -/
def rowPitch (fmt nblk : Nat) : Nat :=
  if fmt = 7 then (nblk * 129 + 1 + 63) / 64 * 64
  else if fmt = 8 then (nblk * 65 + 1 + 63) / 64 * 64
  else nblk * 128

/-- The row of a vector in an activation format: base, blocks, non-finite codes. -/
def readRow (fmt : Nat) (bs : List Byte) (nblk : Nat) : Nat × List Block × Nat :=
  if fmt = 7 ∨ fmt = 8 then
    let r := actRow (decide (fmt = 8)) bs nblk
    (r.1, r.2, 0)
  else fp8Row (decide (fmt = 0xA)) bs nblk

/-- The bytes of a row of blocks in A8 or A4 with its exponents and base, as `actRow` reads it. -/
def rowBytes (w base : Nat) (es : List Nat) (qs : List (List Int)) : List Byte :=
  (qs.map fun q => toBytes (16 * w) (packBits w (q ++ List.replicate (128 - q.length) 0))).flatten ++
    es.map (BitVec.ofNat 8) ++ [BitVec.ofNat 8 base]

end Sys2Proof.Machine
end

