-- ==== Sys2Proof/Machine/Queue.lean ====
section
/-!
DEFINITION. Completions: the entries of R486 to R488 in host memory, MSI-X messages (R489, R516), and the boot list's
reply (R439).
-/
namespace Sys2Proof.Machine

/-- The byte distance of SQ or CQ `n`'s registers from instance 0 (R501). -/
def qdi (n : Nat) : Nat := 32 * n

/-- The state of SQ `n`. -/
def State.sq (s : State) (n : Nat) : SqState := kgetD s.hq.sqs n ⟨0, none, 0, 1, 0⟩

/-- The state of CQ `n`. -/
def State.cq (s : State) (n : Nat) : CqState := kgetD s.hq.cqs n ⟨0, 0, 0, 1, 0, false⟩

/-- Replaces the state of SQ `n`. -/
def State.setSq (s : State) (n : Nat) (q : SqState) : State := { s with hq := { s.hq with sqs := kset s.hq.sqs n q } }

/-- Replaces the state of CQ `n`. -/
def State.setCq (s : State) (n : Nat) (q : CqState) : State := { s with hq := { s.hq with cqs := kset s.hq.cqs n q } }

/-- The entries of CQ `n`. -/
def State.cqSize (s : State) (n : Nat) : Nat := (s.cq n).size

/-- The entries of SQ `n`. -/
def State.sqSize (s : State) (n : Nat) : Nat := (s.sq n).size

/-- Entries of CQ `n` written and not released. -/
def State.cqHeld (s : State) (n : Nat) : Nat :=
  (s.fld F.HQ_CQ_STATUS_tail (qdi n) + s.cqSize n - (s.cq n).head) % s.cqSize n

/-- The committed count of CQ `n` (R487). -/
def State.committed (s : State) (n : Nat) : Nat :=
  s.cqHeld n + (s.hq.inflight.filter fun c => (s.sq c.sq).cq = n).length

/-- Whether a message of vector `v` may be sent now (R516): link up, D0, MSI-X enabled and the vector unmasked. -/
def State.msixReady (s : State) (v : Nat) : Bool :=
  s.flag F.HST_LINK_up && s.hst.msixEn && !s.hst.d3hot && !s.flag F.HQ_MSIX_CTRL_mask (16 * v)

/-- Sends the message of vector `v`, or sets its pending bit (R489, R516). -/
def State.sendMsix (s : State) (v : Nat) : State :=
  if s.msixReady v then
    s.emit (.msix (s.fld64 F.HQ_MSIX_ADDR_LO_addr F.HQ_MSIX_ADDR_HI_addr (16 * v)) (s.fld F.HQ_MSIX_DATA_data (16 * v)))
  else { s with hst := { s.hst with pba := insertNat s.hst.pba v } }

/-- Signals CQ `n` where irq_en is set (R489). -/
def State.signalCq (s : State) (n : Nat) : State :=
  (s.sendMsix (s.cq n).vector).setCq n { s.cq n with unsignalled := 0 }

/-- Writes one entry into CQ `n` (R486, R488): the entry, then the tail with the phase inverted on a wrap, then the
message where R489 asks for one. -/
def State.writeCq (s : State) (n sq tag op : Nat) (progress : Bool) (payload : List Byte) : State :=
  let t := s.fld F.HQ_CQ_STATUS_tail (qdi n)
  let ph := s.fld F.HQ_CQ_STATUS_phase (qdi n)
  let entry := padTo 16 payload ++ toBytes 8 tag ++ toBytes 2 sq ++ toBytes 2 (s.fld F.HQ_SQ_STATUS_head (qdi sq))
    ++ toBytes 1 op ++ toBytes 1 (ph + 2 * bit progress) ++ toBytes 2 0
  let s := s.hwrite ((s.cq n).base + 32 * t) entry
  let s := s.bump C.HQ_COMPLETIONS
  let wrap := decide (t + 1 = s.cqSize n)
  let s := s.setFld F.HQ_CQ_STATUS_tail (if wrap then 0 else t + 1) (qdi n)
  let s := if wrap then s.setFld F.HQ_CQ_STATUS_phase (1 - ph) (qdi n) else s
  let q := s.cq n
  let s := s.setCq n { q with unsignalled := q.unsignalled + 1 }
  if q.irqEn && decide (s.fld F.HQ_CQ_COAL_coal_count (qdi n) ≤ q.unsignalled + 1) then s.signalCq n
  else s

/-- The commands in flight without the first that matches. -/
def takeInflight (l : List Inflight) (sq tag op : Nat) : List Inflight :=
  l.eraseP fun c => c.sq = sq && c.tag = tag && c.op = op

/-- Whether a command of that SQ, tag and op is in flight. (DESIGN CHOICE: log entry 17) -/
def hasInflight (l : List Inflight) (sq tag op : Nat) : Bool :=
  l.any fun c => c.sq = sq && c.tag = tag && c.op = op

/-- The final completion of a command with its 16-byte payload. A completion for a disabled CQ, or of a command whose
queues a PCIe reset took away, is discarded and counted (R429, R481); a boot command's status goes to the MC (R439). -/
def State.completeWith (s : State) (o : CmdOrigin) (op st : Nat) (payload : List Byte) : State :=
  match o with
  | .boot => { s with bootReply := some st }
  | .queue sq tag =>
    if hasInflight s.hq.inflight sq tag op then
      let s := { s with hq := { s.hq with inflight := takeInflight s.hq.inflight sq tag op } }
      let n := (s.sq sq).cq
      if s.flag F.HQ_CQ_CFG_enable (qdi n) then s.writeCq n sq tag op false payload else s.bump C.HQ_LOST_CPL
    else s.bump C.HQ_LOST_CPL

/-- The final completion of a command with its status, retry-after hint and result (R486). (DESIGN CHOICE: log entry 17) -/
def State.complete (s : State) (o : CmdOrigin) (op st : Nat) (hint res : Nat := 0) : State :=
  s.completeWith o op st (toBytes 2 st ++ toBytes 2 (if st = St.busy then hint else 0) ++ toBytes 4 res)

/-- A progress completion (R487): written only where it leaves the committed count at most the size less one; answers
whether it was written. -/
def State.progress (s : State) (o : CmdOrigin) (op : Nat) (payload : List Byte) : State × Bool :=
  match o with
  | .boot => (s, true)
  | .queue sq tag =>
    if hasInflight s.hq.inflight sq tag op then
      let n := (s.sq sq).cq
      if s.flag F.HQ_CQ_CFG_enable (qdi n) then
        if s.committed n + 1 ≤ s.cqSize n - 1 then (s.writeCq n sq tag op true payload, true)
        else (s.bump C.HQ_SKIPPED_PROGRESS, false)
      else (s.bump C.HQ_LOST_CPL, true)
    else (s.bump C.HQ_LOST_CPL, true)

/-- Marks a command settled (R483). -/
def State.settle (s : State) (o : CmdOrigin) (op : Nat) : State :=
  match o with
  | .boot => s
  | .queue sq tag =>
    { s with hq := { s.hq with inflight := s.hq.inflight.map fun c =>
        if c.sq = sq && c.tag = tag && c.op = op then { c with settled := true } else c } }

/-- The status a host queue command answers before its engine sees it: NOT_READY before configuration ready or in
configuration failure (R436, R438), ERR_INTERNAL in the fatal condition (R376). (DESIGN CHOICE: log entry 92) -/
def State.queueGate (s : State) (o : CmdOrigin) : Option Nat :=
  match o with
  | .boot => if s.flag F.GLB_STATUS_fatal then some St.internal else none
  | .queue _ _ =>
    if s.flag F.GLB_STATUS_fatal then some St.internal
    else if !s.flag F.GLB_STATUS_config_ready || s.flag F.GLB_STATUS_config_failed then some St.notReady
    else none

/-- Whether a fenced command still waits for an earlier entry of its SQ to settle (R484). -/
def State.fenceHeld (s : State) (sq : Nat) : Bool :=
  match (s.sq sq).hold with
  | none => false
  | some tag => ((s.hq.inflight.filter fun c => c.sq = sq).takeWhile fun c => c.tag ≠ tag).any fun c => !c.settled

/-- Whether a fence of its SQ keeps a command from its engine (R484). -/
def State.waitsFence (s : State) (o : CmdOrigin) : Bool :=
  match o with
  | .boot => false
  | .queue sq tag => decide ((s.sq sq).hold = some tag) && s.fenceHeld sq

/-- A command reaches its engine: it waits behind its fence, is answered by the queue gate, or runs. -/
def State.engine (s : State) (o : CmdOrigin) (op : Nat) (k : State → State) : State :=
  if s.waitsFence o then s
  else match s.queueGate o with
    | some st => s.complete o op st
    | none => k s

end Sys2Proof.Machine
end

