-- ==== Sys2Proof/Machine/Access.lean ====
section
/-!
DEFINITION. Who may access a register: sessions and roles (R453, R456, R462), remote masks (R457), the limits of the
fatal condition (R376) and of configuration failure (R436), and the paired reads of R523.
-/
namespace Sys2Proof.Machine

/-- The role bits of R453. -/
def roleOperate : Nat := 0
def roleExpert : Nat := 1
def roleFlash : Nat := 2
def roleObserve : Nat := 3
def roleInvasive : Nat := 4
def roleProvision : Nat := 5

/-- The open session with a number, bound to an originator (R462). -/
def State.sessionOf (s : State) (org : Originator) (num : Nat) : Option Sess :=
  (s.sec.sess.filterMap id).find? fun e => e.isOpen && decide (e.number = num) && decide (e.org = org)

/-- Whether some open session of the originator holds a role. -/
def State.hasRole (s : State) (org : Originator) (r : Nat) : Bool :=
  (s.sec.sess.filterMap id).any fun e => e.isOpen && decide (e.org = org) && tbit e.roles r

/-- Whether the originator holds an open session. -/
def State.hasSession (s : State) (org : Originator) : Bool :=
  (s.sec.sess.filterMap id).any fun e => e.isOpen && decide (e.org = org)

/-- Whether the lifecycle state is BLANK. -/
def State.blank (s : State) : Bool := s.sec.lifecycle = 0

/-- The block number of an offset, 24 for none. -/
def blockNum (off : Nat) : Nat := (blockOf off).getD 24

/-- The offsets of the SEC mailbox (R473). -/
def isMailbox (off : Nat) : Bool := (decide (0x2000C0 ≤ off) && decide (off < 0x2000C8)) || (decide (0x200100 ≤ off) && decide (off < 0x200200))

/-- The SEC_REMOTE registers (R472). -/
def isRemoteMask (off : Nat) : Bool := decide (off = 0x2000A0) || decide (off = 0x2000A4)

/-- The teardown window (R370). (DESIGN CHOICE: log entry 25) -/
def isTeardownWin (off : Nat) : Bool := decide (0x1800080 ≤ off) && decide (off < 0x18000C0)

/-- Whether the originator has flash authority (R456, R498). -/
def State.flashAuth (s : State) (org : Originator) : Bool :=
  match org with
  | .remote _ => false
  | .boot => false
  | o => s.blank || s.hasRole o roleFlash

/-- Whether the originator may write the register at an offset (R456, R457, R472). (DESIGN CHOICE: log entry 10) -/
def State.mayWrite (s : State) (org : Originator) (off : Nat) : Bool :=
  let b := blockNum off
  match org with
  | .boot => true
  | .remote _ => isTeardownWin off || (b ≠ 2 && b ≠ 6 && b ≠ 23 && decide (b < 24) && tbit (s.fld F.SEC_REMOTE_WR_blocks) b)
  | .host =>
    s.blank || (if b = 23 then s.hasRole .host roleFlash
      else if b = 6 then decide (1 ≤ s.sec.level)
      else if b = 2 then isMailbox off || isRemoteMask off else true)
  | .smbus e =>
    s.blank || (if b = 23 then s.hasRole (.smbus e) roleFlash
      else if b = 6 then decide (1 ≤ s.sec.level) && s.hasSession (.smbus e)
      else if b = 2 then isRemoteMask off && s.hasRole (.smbus e) roleOperate
      else s.hasRole (.smbus e) roleOperate)
  | .jtag => s.blank || decide (2 ≤ s.sec.level)

/-- Whether the originator may read the register at an offset (R456, R457, R464, R496). (DESIGN CHOICE: log entry 10) -/
def State.mayRead (s : State) (org : Originator) (off : Nat) : Bool :=
  let b := blockNum off
  match org with
  | .boot => true
  | .host => true
  | .remote _ => b ≠ 2 && b ≠ 6 && b ≠ 23 && decide (b < 24) && tbit (s.fld F.SEC_REMOTE_RD_blocks) b
  | .smbus e => s.blank || s.hasSession (.smbus e)
  | .jtag => s.blank || decide (1 ≤ s.sec.level)

/-- Whether EXPERT_EN applies to a write of the originator (R446, R456); field-table records and boot commands do not
need it. -/
def State.expertOk (s : State) (org : Originator) : Bool :=
  match org with
  | .boot => true
  | .remote _ => false
  | _ => s.flag F.CFG_LEVEL_expert_en

/-- An expert field of a command register (R445): a value other than its reset without EXPERT_EN does not count, and
raises the register-access event. -/
def State.expertArg (s : State) (org : Originator) (off v : Nat) : Nat × State :=
  if v = 0 || s.expertOk org then (v, s) else (0, s.accessEvent org off 3)

/-- The scan registers of a facet (R376). -/
def isScanReg (off : Nat) : Bool :=
  decide (0x2000000 ≤ off) && decide (off < 0x2000000 + 72 * 0x40000) &&
    [0x4, 0x20, 0x24, 0x28, 0x2C].contains ((off - 0x2000000) % 0x40000)

/-- Whether BAR0 serves an offset: the limits of the fatal condition (R376) and of configuration failure (R436). -/
def State.served (s : State) (off : Nat) : Bool :=
  let b := blockNum off
  if s.flag F.GLB_STATUS_fatal then [0, 2, 5, 6].contains b || isScanReg off
  else if s.flag F.GLB_STATUS_config_failed then [0, 1, 2, 4, 5, 6, 23].contains b
  else true

/-- The check every register write or command register passes first: answers the state of a discard, or none where the
write goes on. An unserved register is discarded without an event; missing authority raises the event with reason 5,
and for a remote package is counted (R457). -/
def State.gate (s : State) (org : Originator) (off : Nat) : Option State :=
  if !s.mayWrite org off then
    let s := match org with
      | .remote _ => s.bump C.SEC_REMOTE_REFUSED
      | _ => s
    some (s.accessEvent org off 5)
  else if !s.served off then some s
  else none

/-- A command register written by `org`: runs `k` where the write passes the gate. (DESIGN CHOICE: log entry 10) -/
def State.gated (s : State) (org : Originator) (off : Nat) (k : State → State) : State :=
  match s.gate org off with
  | some t => t
  | none => k s

/-- The previous read and latch of an originator (R523). -/
def State.latchOf (s : State) (org : Originator) : Option ReadLatch := s.latches.find? fun l => l.org = org

/-- Records a BAR0 read of an originator with what it latched. -/
def State.setLatch (s : State) (org : Originator) (prev hi : Nat) : State :=
  { s with latches := ⟨org, prev, hi⟩ :: s.latches.filter fun l => l.org ≠ org }

/-- The `_HI` value of a counter: bits [47:32], and the sat bit at 31 (R78). -/
def counterHi (v : Nat) : Nat := v / 2 ^ 32 % 2 ^ 16 + (if satMax ≤ v then 2 ^ 31 else 0)

/-- The 48-bit value of the counter at a `_LO` offset. -/
def State.counter (s : State) (off : Nat) : Nat := kgetD s.cnts off 0

/-- The code of a transaction's owner (R448): 0 host, 1 the MC for an SMBus session, 2 a remote package. (DEDUCED: log entry 88) -/
def ownerCode : Originator → Nat
  | .host => 0
  | .remote _ => 2
  | _ => 1

/-- CFG_TXN_OWNER.id: the session number or the remote package, 0 for the host. -/
def State.ownerId (s : State) (o : Originator) : Nat :=
  match o with
  | .remote p => p
  | .smbus e => match (s.sec.sess.filterMap id).find? fun x => decide (x.org = .smbus e) with
    | some x => x.number
    | none => 0
  | _ => 0

/-- Closes the open transaction, its staged values gone. -/
def State.closeTxn (s : State) : State :=
  ({ s with txn := { s.txn with isOpen := false, staged := [] } }).setFld F.CFG_TXN_STATUS_state 0 |>.setFld F.CFG_TXN_STATUS_staged 0

/-- Aborts an open transaction (R444), counting it. -/
def State.abortTxn (s : State) : State := if s.txn.isOpen then (s.closeTxn).bump C.CFG_ABORTS else s

/-- Aborts the transaction where `org` owns it. -/
def State.abortTxnOf (s : State) (org : Originator) : State :=
  if s.txn.isOpen && decide (s.txn.owner = org) then s.abortTxn else s

/-- Whether every context is ABSENT (R287). (DESIGN CHOICE: log entry 18) -/
def State.allAbsent (s : State) : Bool := (List.range 16).all fun c => s.fld F.RES_CTX_STATE_state (0x80 * c) = 0

/-- Whether a package-level register named in R548's table has been committed since the last package reset. -/
def State.isConfigured (s : State) (offs : List Nat) : Bool := s.boot.configured.any offs.contains

end Sys2Proof.Machine
end

