-- ==== Sys2Proof/Machine/Streams.lean ====
section
/-!
DEFINITION. The fabric's transport: ports and routes (R338 to R345), streams (R346 to R350), the requests that await an
answer (R362 to R364), and the batches of the gateways (R359 to R361).
-/
namespace Sys2Proof.Machine

/-! ### Who is where (R338, R339, R379) -/

/-- The package's own identifier. -/
def State.self (s : State) : Nat := s.fld F.FAB_ID_package

/-- Whether a package is in the lost mask. -/
def State.isLost (s : State) (p : Nat) : Bool := tbit (s.rd (F.FAB_LOSTn_lost.off + 4 * (p / 32))) (p % 32)

/-- The job of a context (R365), 0 for none. -/
def State.jobOf (s : State) (c : Nat) : Nat := if c < 16 then s.fld F.FAB_CTX_JOB_job (8 * c) else 0

/-- Whether a job is torn down here (R366). -/
def State.tornJob (s : State) (j : Nat) : Bool :=
  decide (j ≠ 0) && (List.range 16).any fun c => decide (s.fld F.FAB_CTX_JOB_job (8 * c) = j) && s.flag F.FAB_CTX_JOB_torn (8 * c)

/-- The group port of member `m` that leads to member `x` (R339). -/
def groupPort (m x : Nat) : Nat := (x + 8 - m) % 9

/-- The state code of a port (R328). -/
def State.portState (s : State) (p : Nat) : Nat := s.fld F.FAB_P_STATUS_state (0x10000 * p)

/-- Whether a deterministic route may use an own port: it is ACTIVE, or in RETRAIN, where it holds its packets (R334). -/
def State.portUp (s : State) (p : Nat) : Bool := decide (s.portState p = 5) || decide (s.portState p = 6)

/-- The own member number. (DEDUCED: log entry 70) -/
def State.me (s : State) : Nat := s.self % 9

/-- Whether the group link from member `m` to member `x` is up in the group link map (R341). -/
def State.groupUp (s : State) (m x : Nat) : Bool :=
  if m = s.me then s.portUp (groupPort m x) else tbit (s.fld F.FAB_GMAP_m_group (4 * m)) (groupPort m x)

/-- Whether global port `q` of member `m` is up. -/
def State.globalUp (s : State) (m q : Nat) : Bool :=
  if m = s.me then s.portUp q else tbit (s.fld F.FAB_GMAP_m_global (4 * m)) (q - 8)

/-! ### Deterministic routes (R341) -/

/-- The next member from member `m` toward member `d`: `d`, or the first detour counting up from `d + 1`. -/
def State.groupHop (s : State) (m d : Nat) : Option Nat :=
  if s.groupUp m d then some d
  else ((List.range 9).map fun i => (d + 1 + i) % 9).find? fun x => decide (x ≠ m) && decide (x ≠ d) && s.groupUp m x && s.groupUp x d

/-- The ACTIVE links of FAB_GRT_g as (member, port), in bit order. -/
def State.linksTo (s : State) (g : Nat) : List (Nat × Nat) :=
  let v := s.fld F.FAB_GRT_LO_g_links (8 * g) + 2 ^ 32 * s.fld F.FAB_GRT_HI_g_links (8 * g)
  ((List.range 36).filter fun b => tbit v b && s.globalUp (b / 4) (8 + b % 4)).map fun b => (b / 4, 8 + b % 4)

/-- The global link of a pair of packages. -/
def State.pairLink (s : State) (src dst : Nat) : Option (Nat × Nat) :=
  let l := s.linksTo (dst / 9)
  l[(31 * src + 17 * dst) % l.length]?

/-- The own port toward member `x` of the own group, by the deterministic rule. -/
def State.portTo (s : State) (x : Nat) : Option Nat := (s.groupHop s.me x).map (groupPort s.me)

/-- The own port a deterministic route from `src` to `dst` takes here. -/
def State.fixedPort (s : State) (src dst : Nat) : Option Nat :=
  if dst / 9 = s.self / 9 then s.portTo (dst % 9)
  else match s.pairLink src dst with
    | none => none
    | some (m, q) => if m = s.me then some q else s.portTo m

/-! ### Adaptive routes (R342) -/

/-- Port `p`'s link layer. -/
def State.fport (s : State) (p : Nat) : FabPort := nth s.fab.ports p FabPort.init

/-- Changes port `p`'s link layer. -/
def State.modPort (s : State) (p : Nat) (g : FabPort → FabPort) : State :=
  { s with fab := { s.fab with ports := s.fab.ports.set p (g (s.fport p)) } }

/-- The flits queued at an output in a channel. -/
def State.occ (s : State) (p vc : Nat) : Nat :=
  ((s.fport p).outq.map fun e => if e.1 / 16 = vc then (e.2.map fun x => x.hdr.flits - x.sent).foldl (· + ·) 0 else 0).foldl (· + ·) 0

/-- The least occupied of some ports, with its occupancy; ties go to the lower number. -/
def State.leastPort (s : State) (vc : Nat) (ps : List Nat) : Option (Nat × Nat) :=
  ps.foldl (fun a p => match a with
    | none => some (s.occ p vc, p)
    | some (o, q) => if s.occ p vc < o ∨ (s.occ p vc = o ∧ p < q) then some (s.occ p vc, p) else some (o, q)) none

/-- Whether an own port is ACTIVE. (DEDUCED: log entry 70) -/
def State.portActive (s : State) (p : Nat) : Bool := s.portState p = 5

/-- The choice between minimal and other ports: the least minimal unless it exceeds twice the least other plus nm_bias. -/
def State.choose (s : State) (a b : Option (Nat × Nat)) : Option (Nat × Bool) :=
  match a, b with
  | some (o, p), some (o', p') => if 2 * o' + s.fld F.FAB_CTRL_nm_bias < o then some (p', true) else some (p, false)
  | some (_, p), none => some (p, false)
  | none, some (_, p) => some (p, true)
  | none, none => none

/-- The ACTIVE detour ports from here to member `d`, where the hops allow one. -/
def State.detours (s : State) (d hops : Nat) : List Nat :=
  if 5 < hops + 2 then []
  else (((List.range 9).filter fun x => decide (x ≠ s.me) && decide (x ≠ d) && s.portActive (groupPort s.me x) && s.groupUp x d)).map (groupPort s.me)

/-- The adaptive first hop inside the own group. -/
def State.insidePort (s : State) (d vc hops : Nat) : Option Nat :=
  let p := groupPort s.me d
  (s.choose (s.leastPort vc (if s.portActive p then [p] else [])) (s.leastPort vc (s.detours d hops))).map (·.1)

/-- The own ports that begin a minimal way to group `g`. -/
def State.exitPorts (s : State) (g : Nat) : List Nat :=
  ((s.linksTo g).filterMap fun l =>
    if l.1 = s.me then (if s.portActive l.2 then some l.2 else none)
    else (s.portTo l.1).filter s.portActive).eraseDups

/-- The own ACTIVE global ports that lead to a third group, where the packet is at its source. -/
def State.sidePorts (s : State) (g hops : Nat) : List Nat :=
  if hops ≠ 0 then []
  else [8, 9, 10, 11].filter fun q => s.portActive q && decide (s.fld F.FAB_P_PEER_package (0x10000 * q) / 9 ≠ g) &&
    decide (s.fld F.FAB_P_PEER_package (0x10000 * q) / 9 ≠ s.self / 9)

/-- The adaptive next port and via group of a packet with `hops` hops taken. -/
def State.adaptivePort (s : State) (dst via vc hops : Nat) : Option (Nat × Nat) :=
  if dst / 9 = s.self / 9 then (s.insidePort (dst % 9) vc hops).map fun p => (p, via)
  else
    let g := if via = 255 ∨ via = s.self / 9 then dst / 9 else via
    (s.choose (s.leastPort vc (s.exitPorts g)) (s.leastPort vc (s.sidePorts g hops))).map fun x =>
      (x.1, if x.2 then s.fld F.FAB_P_PEER_package (0x10000 * x.1) / 9 else via)

/-! ### Packet types (R347) -/

/-- The channel of a packet type. -/
def vcOf (t : Nat) : Nat :=
  if 1 ≤ t ∧ t ≤ 3 then 0 else if t = 4 then 1 else if 5 ≤ t ∧ t ≤ 8 then 4 else if t = 0x10 then 2 else if t = 0x11 then 3 else 5

/-- The stream class of a packet type, 9 for none. -/
def clsOf (t : Nat) : Nat :=
  if 1 ≤ t ∧ t ≤ 3 then 0 else if t = 4 then 1 else if 5 ≤ t ∧ t ≤ 7 then 4 else if t = 8 then 5 else if t = 0x10 then 2
  else if t = 0x11 then 3 else 9

/-- The next port of a packet here with its via group: adaptive in VC2 to VC4 but for GW_BATCH (R342, R343). -/
def State.nextPort (s : State) (h : PktHdr) : Option (Nat × Nat) :=
  if s.flag F.FAB_CTRL_adaptive && decide (2 ≤ h.vc) && decide (h.vc ≤ 4) && decide (h.ptype ≠ 8) then s.adaptivePort h.dst h.via h.vc h.hops
  else (s.fixedPort h.src h.dst).map fun p => (p, h.via)

/-! ### Output queues (R335) -/

/-- Puts a packet into port `p`'s output queue; input 12 is the package's own traffic. -/
def State.putOut (s : State) (p input : Nat) (h : PktHdr) : State :=
  s.modPort p fun x => { x with outq := kmod x.outq (16 * h.vc + input) [] (· ++ [(⟨h, 0⟩ : OutPkt)]) }

/-! ### Requests (R362 to R364) -/

/-- The tile a STORE's tag names takes the worse status (R354, R357): tag `f + 1` belongs to facet `f`. -/
def State.tagStatus (s : State) (tag st : Nat) : State :=
  if 1 ≤ tag ∧ tag ≤ 72 then
    { s with facets := s.facets.modify (tag - 1) fun x =>
        { x with sq := { x.sq with fin := match x.sq.fin.getLast? with
          | some (t, u) => x.sq.fin.dropLast ++ [(t, worse u st)]
          | none => [] } } }
  else s

/-- Changes the request of a tag. -/
def State.modReq (s : State) (tag : Nat) (g : FabReq → FabReq) : State :=
  match kget s.fab.reqs tag with
  | some r => { s with fab := { s.fab with reqs := kset s.fab.reqs tag (g r) } }
  | none => s

/-- The tag this package gave a packet of its own: answers and bulk data echo the requester's tag instead (R346), and no
other packet has one. (DEDUCED: log entry 73) -/
def ownTag (h : PktHdr) : Nat := if h.ptype = 1 ∨ h.ptype = 2 ∨ h.ptype = 3 ∨ h.ptype = 5 ∨ h.ptype = 6 then h.rtag else 0

/-- A packet that completes at its source: its request ends, or its tile takes the status. -/
def State.failPkt (s : State) (h : PktHdr) (st : Nat) : State :=
  (s.modReq (ownTag h) fun r => { r with ended := true, status := worse r.status st }).tagStatus (ownTag h) st

/-- Bytes of a load's payload have landed in order (R309, R325). -/
def State.landed (s : State) (id : Nat) (bs : List Byte) : State :=
  let s := { s with shd := { s.shd with loads := s.shd.loads.map fun (l : Load) =>
    if l.id = id then { l with landed := l.landed + bs.length, buf := l.buf ++ bs, retry := 0 } else l } }
  if s.shd.loads.any fun l => decide (l.id = id) && decide (l.op = 0x40) then s.bump C.SHD_LOAD_BYTES (bs.length / 256) else s

/-- A load's transport or source failed (R310). -/
def State.failLoad (s : State) (id : Nat) : State :=
  { s with shd := { s.shd with loads := s.shd.loads.map fun (l : Load) => if l.id = id then { l with failed := true } else l } }

/-! ### Streams out (R348) -/

/-- The send stream to a package in a class. -/
def State.sendOf (s : State) (d c : Nat) : SendStream := kgetD s.fab.sends (8 * d + c) ⟨0, [], []⟩

/-- Whether everything of a stream before a number is acknowledged (R357). -/
def State.fenceMet (s : State) (e : Nat × Nat × Nat) : Bool :=
  let x := s.sendOf e.1 e.2.1
  !(x.unacked.any fun u => precedes 32 u.1 e.2.2) && !precedes 32 x.next e.2.2

/-- Replaces it. -/
def State.setSend (s : State) (d c : Nat) (x : SendStream) : State := { s with fab := { s.fab with sends := kset s.fab.sends (8 * d + c) x } }

/-- The transport header of an own packet (R346). -/
def State.header346 (s : State) (dst ptype rtag job flits : Nat) : PktHdr :=
  ⟨dst, s.self, ptype, vcOf ptype, false, 0, job, s.fld F.FAB_EPOCH_p_epoch (4 * (dst % 144)), rtag, 255, 0, flits, false⟩

/-- The route an ordered stream to a package takes now: the port, with the global link of the pair. -/
def State.routeCode (s : State) (d : Nat) : Nat :=
  (s.fixedPort s.self d).getD 15 + (match if d / 9 = s.self / 9 then none else s.pairLink s.self d with
    | some l => 16 * (4 * l.1 + l.2)
    | none => 0)

/-- Takes the next number of a packet's stream; VC5 has none. An ordered stream's route is noted (R345). -/
def State.number (s : State) (h : PktHdr) : PktHdr × State :=
  let c := clsOf h.ptype
  if c = 9 then (h, s)
  else
    let x := s.sendOf h.dst c
    let s := if c = 0 ∨ c = 5 then { s with fab := { s.fab with routes := kset s.fab.routes h.dst (s.routeCode h.dst) } } else s
    ({ h with seq := x.next }, s.setSend h.dst c { x with next := (x.next + 1) % 2 ^ 32, unacked := x.unacked ++ [(x.next, h.ptype, ownTag h)] })

/-- A packet leaves by port `p` with its number. -/
def State.depart (s : State) (p via : Nat) (h : PktHdr) (b : PktBody) : State :=
  let x := s.number { h with via := via }
  (x.2.emit (.packet x.1 b)).putOut p 12 x.1

/-- A packet without a route (R341). (DEDUCED: log entry 70) -/
def State.noRoute (s : State) (h : PktHdr) : State := (s.failPkt h St.state).raise E.noRoute h.dst

/-- Launches a packet that needs no gateway. -/
def State.launchDirect (s : State) (h : PktHdr) (b : PktBody) : State :=
  if s.fld F.FAB_ID_groups ≤ h.dst / 9 then s.failPkt h St.range
  else match s.nextPort h with
    | some (p, via) => s.depart p via h b
    | none => s.noRoute h

/-- Whether a packet must wait for its stream's window or for a planned route change. -/
def State.pktWaits (s : State) (h : PktHdr) : Bool :=
  let c := clsOf h.ptype
  let x := s.sendOf h.dst c
  decide (c ≠ 9) && (decide (x.wait ≠ []) || decide (4096 ≤ x.unacked.length) ||
    ((decide (c = 0) || decide (c = 5)) && s.flag F.FAB_EPOCH_p_draining (4 * h.dst)))

/-- A packet waits at its stream. -/
def State.waitPkt (s : State) (h : PktHdr) (b : PktBody) : State :=
  let x := s.sendOf h.dst (clsOf h.ptype)
  s.setSend h.dst (clsOf h.ptype) { x with wait := x.wait ++ [(h, b)] }

/-- Sends a packet of any class but 0. -/
def State.post (s : State) (h : PktHdr) (b : PktBody) : State := if s.pktWaits h then s.waitPkt h b else s.launchDirect h b

/-! ### Batches (R360) -/

/-- The bytes of a batch entry. (DEDUCED: log entry 73) -/
def entryBytes (e : GwEntry) : Nat := 32 + ceilDiv ((if e.op = 3 ∧ e.aux = 4 then 8 else 0) + e.data.length) 32 * 32

/-- The bytes of a batch. -/
def batchBytes (l : List GwEntry) : Nat := (l.map entryBytes).foldl (· + ·) 0

/-- An open batch closes and is sent. -/
def State.closeBatch (s : State) (y dir : Nat) : State :=
  match kgetD s.fab.batches (2 * y + dir) [] with
  | [] => s
  | l =>
    let s := { s with fab := { s.fab with batches := kdel s.fab.batches (2 * y + dir) } }
    (s.post (s.header346 y 0x08 0 0 (1 + ceilDiv (batchBytes l) 256)) (.gw dir l)).bump C.FAB_GW_BATCHES

/-- An entry joins the open batch to a gateway; a batch that is full closes. -/
def State.addEntry (s : State) (y dir : Nat) (e : GwEntry) : State :=
  let l := kgetD s.fab.batches (2 * y + dir) []
  let s := if 3840 < batchBytes l + entryBytes e then s.closeBatch y dir else s
  let s := { s with fab := { s.fab with batches := kmod s.fab.batches (2 * y + dir) [] (· ++ [e]) } }
  if 3840 - 32 < batchBytes (kgetD s.fab.batches (2 * y + dir) []) then s.closeBatch y dir else s

/-- The entry of a request from `h.src` to `h.dst`. -/
def entryOf (h : PktHdr) (r : MemReq) : GwEntry :=
  ⟨h.ptype, r.aop, h.src, h.dst, h.rtag, r.addr, r.len, h.job, h.seq, r.opnd0, r.opnd1, r.noReturn, r.data, r.poison⟩

/-! ### Loads, stores and atomics leave (R351, R359) -/

/-- Launches a class 0 packet: inside the group natively, to another group through the near gateway. -/
def State.launchMem (s : State) (h : PktHdr) (r : MemReq) : State :=
  if s.fld F.FAB_ID_groups ≤ h.dst / 9 then s.failPkt h St.range
  else if h.dst / 9 = s.self / 9 then s.launchDirect h (.mem r)
  else if !s.flag F.FAB_CTRL_gateway then s.failPkt h St.state
  else match s.pairLink s.self h.dst with
    | none => s.noRoute h
    | some (m, q) =>
      if m = s.me then
        let x := s.number h
        x.2.addEntry (s.fld F.FAB_P_PEER_package (0x10000 * q)) 0 (entryOf x.1 r)
      else match s.portTo m with
        | some p => s.depart p 255 h (.mem r)
        | none => s.noRoute h

/-- Sends a class 0 packet. -/
def State.postMem (s : State) (h : PktHdr) (r : MemReq) : State := if s.pktWaits h then s.waitPkt h (.mem r) else s.launchMem h r

/-- Launches a packet that waited. -/
def State.launchAny (s : State) (h : PktHdr) (b : PktBody) : State :=
  match b with
  | .mem r => s.launchMem h r
  | b => s.launchDirect h b

/-- Packets that waited leave while the window and the route allow, at most `n`. -/
def flushStream (d c : Nat) : Nat → State → State
  | 0, s => s
  | n + 1, s =>
    let x := s.sendOf d c
    match x.wait with
    | [] => s
    | (h, b) :: rest =>
      if decide (4096 ≤ x.unacked.length) || ((decide (c = 0) || decide (c = 5)) && s.flag F.FAB_EPOCH_p_draining (4 * d)) then s
      else flushStream d c n ((s.setSend d c { x with wait := rest }).launchAny h b)

/-- Every packet of a stream that may leave. -/
def State.flush (s : State) (d c : Nat) : State := flushStream d c (s.sendOf d c).wait.length s

/-- Flits of data beyond the first: inline up to 160 bytes. -/
def dataFlits (n : Nat) : Nat := if n ≤ 160 then 1 else 2

/-- The pieces of a store, each within one aligned 256-byte block. -/
def storePieces : Nat → Nat → List Byte → List (Nat × List Byte)
  | 0, _, _ => []
  | fuel + 1, a, bs =>
    if bs = [] then [] else
    let k := 256 - a % 256
    (a, bs.take k) :: storePieces fuel (a + k) (bs.drop k)

/-- STOREs of bytes at a global address (R351). -/
def State.sendStore (s : State) (dst addr : Nat) (bs : List Byte) (rtag job : Nat) (poison : Bool := false) : State :=
  (storePieces (bs.length / 256 + 2) addr bs).foldl (fun s p =>
    s.postMem (s.header346 dst 0x02 rtag job (dataFlits p.2.length)) ⟨p.1, p.2.length, 0, false, 0, 0, p.2, false, poison⟩) s

/-- BULK_WRITEs of bytes at a 256-byte-aligned global address (R362). -/
def State.sendBulk (s : State) (dst addr : Nat) (bs : List Byte) : State :=
  (List.range (ceilDiv bs.length 4096)).foldl (fun s i =>
    let d := slice bs (4096 * i) 4096
    s.post (s.header346 dst 0x05 0 0 (1 + ceilDiv d.length 256)) (.bulk ⟨addr + 4096 * i, d.length, 0, 0, d, []⟩)) s

/-- A VC5 packet of words. -/
def State.sendWords (s : State) (dst ptype : Nat) (ws : List Nat) : State := s.post (s.header346 dst ptype 0 0 1) (.words ws)

/-- The context of a Prism record and its flits (R172, R173, R185). -/
def recInfo : PrismOut → Nat × Nat × Nat
  | .dispatch _ r => (0x10, r.ctx, 1 + ceilDiv (r.data.length + r.exps.length) 256)
  | .ack r => (0x11, r.ctx, 1)
  | .fin r => (0x11, r.ctx, 1)
  | .ret r => (0x11, r.ctx, 1 + ceilDiv (r.data.length + r.exps.length) 256)

/-- A Prism record leaves for another package in VC2 or VC3. -/
def State.sendPrism (s : State) (dst : Nat) (r : PrismOut) : State :=
  let i := recInfo r
  s.post (s.header346 dst i.1 0 (s.jobOf i.2.1) i.2.2) (.prism r)

/-! ### Streams in (R349, R350) -/

/-- The receive stream from a source about a package in a class. -/
def State.recvOf (s : State) (src about c : Nat) : RecvStream := kgetD s.fab.recvs ((256 * src + about) * 8 + c) ⟨0, [], 0, [], false⟩

/-- Replaces it. -/
def State.setRecv (s : State) (src about c : Nat) (x : RecvStream) : State :=
  { s with fab := { s.fab with recvs := kset s.fab.recvs ((256 * src + about) * 8 + c) x } }

/-- A base advanced over marked numbers. -/
def advance : Nat → Nat → List Nat → Nat × List Nat
  | 0, b, l => (b, l)
  | n + 1, b, l => if l.contains b then advance n ((b + 1) % 2 ^ 32) (l.erase b) else (b, l)

/-- Marks a number and advances the base. -/
def markSeq (b : Nat) (l : List Nat) (q : Nat) : Nat × List Nat := advance (l.length + 1) b (insertNat l q)

/-- An E2E_ACK to a source for each package it has streams about (R350). -/
def State.sendAck (s : State) (src : Nat) : State :=
  let abouts := ((s.fab.recvs.filter fun e => e.1 / 2048 = src).map fun e => e.1 / 8 % 256).eraseDups
  let s := abouts.foldl (fun s a => s.sendWords src 0x20 (a :: (List.range 6).map fun c => (s.recvOf src a c).done)) s
  { s with fab := { s.fab with pend := kdel s.fab.pend src } }

/-- A packet is performed: its stream's base moves, and ack_count of them send an E2E_ACK. -/
def State.performed (s : State) (src about c seq : Nat) : State :=
  if c = 9 then s
  else
    let x := s.recvOf src about c
    let m := markSeq x.done x.doneMarks seq
    let s := s.setRecv src about c { x with done := m.1, doneMarks := m.2 }
    let n := kgetD s.fab.pend src 0 + 1
    if s.fld F.FAB_ACKCFG_ack_count ≤ n then s.sendAck src else { s with fab := { s.fab with pend := kset s.fab.pend src n } }

/-- The protocol event of R347 and R349. -/
def State.protocolEvent (s : State) (src ptype : Nat) : State := s.raise E.fabricProtocol src (d0 := ptype)

/-- R349: whether a stream accepts a number. (DEDUCED: log entry 73) -/
def acceptSeq (h : PktHdr) (about : Nat) (s : State) : Bool × State :=
  let c := clsOf h.ptype
  let x := s.recvOf h.src about c
  if c = 9 then (true, s)
  else if c = 0 ∨ c = 5 then
    if x.gapped then (false, s)
    else if h.seq = x.base then (true, s.setRecv h.src about c { x with base := (x.base + 1) % 2 ^ 32 })
    else if precedes 32 h.seq x.base then (false, s.bump C.FAB_DUPLICATES)
    else (false, (s.setRecv h.src about c { x with gapped := true }).raise E.sequenceGap h.src (d0 := c))
  else if precedes 32 h.seq x.base || x.marks.contains h.seq then (false, s.bump C.FAB_DUPLICATES)
  else if 4096 ≤ (h.seq + 2 ^ 32 - x.base) % 2 ^ 32 then (false, s.protocolEvent h.src h.ptype)
  else
    let m := markSeq x.base x.marks h.seq
    (true, s.setRecv h.src about c { x with base := m.1, marks := m.2 })

/-- A packet leaves its port's input buffer, and its credits go back (R333). -/
def State.leaveBuffer (s : State) (h : PktHdr) : State :=
  match (List.range 12).find? fun p => (s.fport p).inb.any fun x => x.hdr = h && x.whole with
  | none => s
  | some p =>
    let f := s.fport p
    match f.inb.find? fun x => x.hdr = h && x.whole with
    | none => s
    | some x => s.modPort p fun f => { f with inb := f.inb.erase x, owed := kmod f.owed (8 * x.vc + x.phase) 0 (· + x.flits) }

/-- R347, R349, R366, R379: whether a packet of a row is taken and performed here. `about` is the package whose stream
it is: this one, or the package a near gateway stands for. A packet of a torn job is absorbed. -/
def admitPkt (h : PktHdr) (ptype about : Nat) (s : State) : Bool × State :=
  let s := s.leaveBuffer h
  if s.isLost h.src && decide (ptype ≠ 0x21) then (false, s.bump C.FAB_HB_FENCED)
  else if h.trunc then (false, s)
  else if h.ptype ≠ ptype ∨ h.vc ≠ vcOf ptype then (false, s.protocolEvent h.src h.ptype)
  else
    let a := acceptSeq h about s
    if a.1 && a.2.tornJob h.job then (false, (a.2.performed h.src about (clsOf ptype) h.seq).bump C.FAB_ABSORBED)
    else a

/-- Whether a facet's remote writes are not all acknowledged (R357). -/
def State.fencing (s : State) (f : Nat) : Bool :=
  s.fab.sends.any fun e => (e.2.unacked.any fun u => u.2.2 = f + 1 && (u.2.1 = 2 || u.2.1 = 5)) ||
    e.2.wait.any fun w => w.1.rtag = f + 1 && (w.1.ptype = 2 || w.1.ptype = 5)

/-! ### Requests issued and answered (R352, R361 to R364) -/

/-- Issues, or issues again, the request of a tag. -/
def State.issueReq (s : State) (tag : Nat) : State :=
  match kget s.fab.reqs tag with
  | none => s
  | some r =>
    let h := s.header346 r.dst r.kind tag r.job 1
    match r.use with
    | .gateway _ e => s.postMem { h with flits := dataFlits e.data.length } ⟨e.addr, e.len, if e.op = 3 then e.aux else 0, e.noReturn, e.opnd0, e.opnd1, e.data, false, e.poison⟩
    | .load _ _ => s.post h (.bulk ⟨r.addr, r.len, r.ret, 0, [], []⟩)

/-- A new request with its tag. -/
def State.newReq (s : State) (r : FabReq) : State :=
  let t := s.fab.tag
  ({ s with fab := { s.fab with reqs := kset s.fab.reqs t r, tag := if t + 1 < 2 ^ 32 then t + 1 else 0x1000 } }).issueReq t

/-- The entry that returns an answer to the near gateway (R361). -/
def answerEntry (op st old : Nat) (data : List Byte) (e : GwEntry) : GwEntry :=
  { e with op := op, aux := st, opnd0 := old, len := data.length, data := data, poison := decide (st = St.uncorrected) && decide (data ≠ []) }

/-- A request completes: its load lands a piece or fails, or its answer goes to the near gateway. -/
def State.finishReq (s : State) (tag : Nat) : State :=
  match kget s.fab.reqs tag with
  | none => s
  | some r =>
    let s := { s with fab := { s.fab with reqs := kdel s.fab.reqs tag } }
    match r.use with
    | .load id _ => if 0x10 ≤ r.status then s.failLoad id else s.landed id ((r.parts.map (·.2)).flatten)
    | .gateway x e => s.addEntry x 1 (answerEntry 0x81 r.status 0 [] e)

/-- Whether a request has all its answers. -/
def FabReq.whole (r : FabReq) : Bool :=
  r.ended && !r.backing && (decide (0x10 ≤ r.status) || decide (r.len ≤ (r.parts.map fun p => p.2.length).foldl (· + ·) 0))

/-- Every request that has all its answers completes. -/
def State.sweepReqs (s : State) : State := ((s.fab.reqs.filter fun e => e.2.whole).map (·.1)).foldl State.finishReq s

end Sys2Proof.Machine
end

