-- ==== Sys2Proof/Machine/Mmu.lean ====
section
/-!
DEFINITION. Address spaces (R33 to R37, R273, R275), the page walk (R212 to R214), accesses through it, and the
invalidation commands (R215, R232).
-/
namespace Sys2Proof.Machine

/-! ### Physical places -/

/-- The tier-0 offset of byte `b` of MU `m` of facet `f` (R37). -/
def muOff (f m b : Nat) : Nat := f / 36 * 2 ^ 29 + f % 36 * 2 ^ 23 + m * 2 ^ 20 + b

/-- The tier-0 offset of 16 KiB unit `u` of a die's shared SRAM (R273). -/
def sramOff (die u : Nat) : Nat := die * 2 ^ 29 + (48 + u / 512) * 2 ^ 23 + u % 512 * 0x4000

/-- Whether a tier-0 offset exists (R37). -/
def t0Ok (off : Nat) : Bool :=
  let unit := bits off 28 23
  decide (off < 2 ^ 30) && ((decide (unit < 36) && decide (off % 2 ^ 20 < 0xA0000)) || (decide (48 ≤ unit) && decide (unit < 52)))

/-- The capacity of a population code (R275). -/
def t2CapOf (code : Nat) : Nat := if code = 0 then 0 else if code = 3 then 0x20000000000 else 0x10000000000

/-- The installed tier-2 capacity (R275): 0 while tier 2 is disabled or absent. -/
def State.t2Cap (s : State) : Nat := if s.flag F.TIER_T2_STATUS_enabled then t2CapOf s.boot.t2Code else 0

/-- Whether `n` bytes at an offset of a space exist. -/
def State.inSpace (s : State) (sp off n : Nat) : Bool :=
  if sp = 0 then t0Ok off && (decide (n = 0) || t0Ok (off + n - 1))
  else if sp = 1 then decide (off + n ≤ 0x6000000000)
  else if sp = 2 then decide (off + n ≤ s.t2Cap)
  else false

/-! ### The walk (R212 to R214) -/

/-- What a walk answers: the space, offset and package reached with the entry's kv and writable bits and the entry's own
place, or the level and reason of its failure (R214). -/
inductive Walk where
  | ok (sp off pkg : Nat) (kv wr : Bool) (esp eoff : Nat)
  | fail (level reason : Nat)
  deriving DecidableEq, Repr

/-- The reason a level-1 or level-2 entry fails, if it does (R212). -/
def tableFault (e : Nat) : Option Nat :=
  if e % 2 = 0 then some 0
  else if bits e 3 1 ≠ 0 ∨ bits e 15 8 ≠ 0 ∨ bits e 63 52 ≠ 0 then some 1
  else if bits e 7 4 ≠ 1 ∧ bits e 7 4 ≠ 2 then some 2
  else none

/-- The offset an entry names. -/
def entryBase (e : Nat) : Nat := bits e 51 16 * 2 ^ 16

/-- The bases and sizes of the frame pools. -/
def State.pool1Base (s : State) : Nat := s.fld64 F.KVM_POOL1_BASE_LO_base F.KVM_POOL1_BASE_HI_base
def State.pool2Base (s : State) : Nat := s.fld64 F.KVM_POOL2_BASE_LO_base F.KVM_POOL2_BASE_HI_base
def State.pool1N (s : State) : Nat := s.fld F.KVM_POOL1_COUNT_count
def State.pool2N (s : State) : Nat := s.fld F.KVM_POOL2_COUNT_count

/-- The frame number of a page of tier 1 or 2, if it lies in the pool. -/
def State.frameAt (s : State) (sp off : Nat) : Option Nat :=
  if sp = 1 then
    if s.pool1Base ≤ off ∧ off < s.pool1Base + s.pool1N * 65536 then some ((off - s.pool1Base) / 65536) else none
  else if sp = 2 then
    if s.pool2Base ≤ off ∧ off < s.pool2Base + s.pool2N * 65536 then some (s.pool1N + (off - s.pool2Base) / 65536) else none
  else none

/-- The reason a level-3 entry fails, if it does (R213, R214). -/
def State.pageFault (s : State) (va e : Nat) (write : Bool) : Option Nat :=
  if e % 2 = 0 then some 0
  else if tbit e 3 ∨ bits e 63 52 ≠ 0 then some 1
  else if 2 < bits e 7 4 then some 2
  else if tbit e 2 && !(decide (bits e 15 8 = s.self) && (s.frameAt (bits e 7 4) (entryBase e)).isSome && decide (va < 2 ^ 51)) then some 3
  else if write && !tbit e 1 && !tbit e 2 then some 4
  else none

/-- The walk of a device virtual address. (DESIGN CHOICE: log entry 33) -/
def State.walk (s : State) (va : Nat) (write : Bool) : Walk :=
  if bits va 51 50 = 1 then .fail 1 5
  else
    let rsp := s.fld F.MMU_ROOT_HI_space
    let root := s.fld64 F.MMU_ROOT_LO_root F.MMU_ROOT_HI_root
    let e1 := s.mem.le rsp (root + 8 * bits va 51 42) 8
    match tableFault e1 with
    | some r => .fail 1 r
    | none =>
      let e2 := s.mem.le (bits e1 7 4) (entryBase e1 + 8 * bits va 41 29) 8
      match tableFault e2 with
      | some r => .fail 2 r
      | none =>
        let eo := entryBase e2 + 8 * bits va 28 16
        let e3 := s.mem.le (bits e2 7 4) eo 8
        match s.pageFault va e3 write with
        | some r => .fail 3 r
        | none => .ok (bits e3 7 4) (entryBase e3 + va % 65536) (bits e3 15 8) (tbit e3 2) (tbit e3 1) (bits e2 7 4) eo

/-- A failed walk recorded in MMU_FAULT with its event (R214); `facet` is 127 for a requester that is no facet. -/
def State.mmuFault (s : State) (va level reason facet : Nat) (ctx : Nat := 0xFF) : State :=
  let s := s.bump C.MMU_FAULTS
  let s := if s.flag F.MMU_FAULT_INFO_valid then s
    else ((s.wr F.MMU_FAULT_VA_LO_va.off (va % 2 ^ 32)).wr F.MMU_FAULT_VA_HI_va.off (va / 2 ^ 32 % 2 ^ 20)).wr
      F.MMU_FAULT_INFO_level.off (level % 4 + reason % 8 * 4 + facet % 128 * 32 + 2 ^ 31)
  s.raise E.translationFault facet ctx va reason

/-- The context an upper-half address belongs to, 0xFF for the key-value area. -/
def vaCtx (va : Nat) : Nat := if 2 ^ 51 ≤ va then bits va 50 47 else 0xFF

/-! ### Accesses -/

/-- The pieces of `n` bytes at `va` that lie in one page each, as (address, length). -/
def vaPieces : Nat → Nat → Nat → List (Nat × Nat)
  | 0, _, _ => []
  | fuel + 1, va, n =>
    if n = 0 then []
    else
      let k := min n (65536 - va % 65536)
      (va, k) :: vaPieces fuel (va + k) (n - k)

/-- The pieces of a range. -/
def pieces (va n : Nat) : List (Nat × Nat) := vaPieces (n / 65536 + 2) va n

/-- What a read through translation found: the bytes with their poison, or the failed address, level and reason. -/
inductive VRead where
  | ok (bytes : List Byte) (poison : Bool)
  | fail (va level reason : Nat)
  deriving DecidableEq, Repr

/-- One piece read. Another package's memory is a free value (R34). -/
def State.readPiece (s : State) (va n : Nat) : VRead :=
  match s.walk va false with
  | .fail l r => .fail va l r
  | .ok sp off pkg _ _ _ _ =>
    if pkg = s.self then .ok (s.mem.read sp off n) (s.mem.poisoned sp off n)
    else .ok ((List.range n).map fun i => Config.remoteByte s.free (pkg * 2 ^ 56 + sp * 2 ^ 52 + off + i)) false

/-- Reads put together in order. -/
def joinReads : List VRead → VRead
  | [] => .ok [] false
  | .fail a l r :: _ => .fail a l r
  | .ok b p :: rest =>
    match joinReads rest with
    | .ok b' p' => .ok (b ++ b') (p || p')
    | f => f

/-- `n` bytes at a device virtual address. (DESIGN CHOICE: log entry 33) -/
def State.vread (s : State) (va n : Nat) : VRead := joinReads ((pieces va n).map fun p => s.readPiece p.1 p.2)

/-- The bytes of a read, empty where it failed. -/
def VRead.bytes : VRead → List Byte
  | .ok b _ => b
  | .fail _ _ _ => []

/-- Whether a read went through. -/
def VRead.good : VRead → Bool
  | .ok _ _ => true
  | .fail _ _ _ => false

/-- Whether a read met poison. -/
def VRead.bad : VRead → Bool
  | .ok _ p => p
  | .fail _ _ _ => false

/-- A little-endian value at a device virtual address, 0 where the walk fails. -/
def State.vle (s : State) (va n : Nat) : Nat := ofBytes (s.vread va n).bytes

/-- Counts a read's walks and tier accesses, or records its fault (R214, R233, R303). -/
def State.vcount (s : State) (va n facet : Nat) : State :=
  (pieces va n).foldl (fun s p =>
    let s := s.bump C.MMU_WALKS
    match s.walk p.1 false with
    | .fail _ _ => s
    | .ok sp off pkg _ _ _ _ => if pkg = s.self then s.tread sp off p.2 else s) <|
    match s.vread va n with
    | .ok _ _ => s
    | .fail a l r => s.mmuFault a l r facet (vaCtx a)

/-- One piece written; a piece of another package leaves as a STORE. -/
def State.writePiece (s : State) (va : Nat) (bs : List Byte) (poison : Bool) : State :=
  match s.walk va true with
  | .fail _ _ => s
  | .ok sp off pkg _ _ _ _ =>
    if pkg = s.self then s.twrite sp off bs poison
    else s.sendStore pkg (pkg * 2 ^ 56 + sp * 2 ^ 52 + off) bs 0 (s.jobOf (vaCtx va)) poison

/-- Writes bytes at a device virtual address, page by page. -/
def State.vwrite (s : State) (va : Nat) (bs : List Byte) (poison : Bool := false) : State :=
  (pieces va bs.length).foldl (fun s p => (s.bump C.MMU_WALKS).writePiece p.1 (slice bs (p.1 - va) p.2) poison) s

/-- The first failed walk of a write of `n` bytes, if any. -/
def State.writeFault (s : State) (va n : Nat) : Option (Nat × Nat × Nat) :=
  (pieces va n).findSome? fun p =>
    match s.walk p.1 true with
    | .fail l r => some (p.1, l, r)
    | .ok _ _ _ _ _ _ _ => none

/-! ### Invalidation (R215, R232) -/

/-- Cache entries dropped: how many the caches held is a free value, added to MMU_INVALIDATIONS. (DESIGN CHOICE: log entry 33) -/
def State.dropCached (s : State) : State := (s.fresh.2).bump C.MMU_INVALIDATIONS s.fresh.1

/-- An MMU_INV command: busy until its completion, or refused while one runs. A range of 0 pages is DONE (R7). -/
def mmuInv (org : Originator) (empty : Bool) (s : State) : State :=
  s.gated org 0x3600008 fun s =>
    if s.kvm.inv then s.setFld F.MMU_INV_STATUS_status St.busy
    else if empty then s.setFld F.MMU_INV_STATUS_status St.done
    else ({ s with kvm := { s.kvm with inv := true } }).setFld F.MMU_INV_STATUS_busy 1

/-- INVALIDATE_ALL (R232). -/
def execInvalidateAll (org : Originator) (s : State) : Out := .next (s.on fun s => mmuInv org false s)

/-- INVALIDATE_CONTEXT (R232). -/
def execInvalidateContext (org : Originator) (_ctx : Nat) (s : State) : Out := .next (s.on fun s => mmuInv org false s)

/-- INVALIDATE_RANGE (R232). -/
def execInvalidateRange (org : Originator) (pages : Nat) (s : State) : Out := .next (s.on fun s => mmuInv org (decide (pages % 65536 = 0)) s)

/-- MMU_INV_DONE (R232): busy clears and the status is DONE; the entries removed are counted. (DESIGN CHOICE: log entry 33) -/
def mmuInvDone (s : State) : State :=
  if s.kvm.inv then
    ((({ s with kvm := { s.kvm with inv := false } }).setFld F.MMU_INV_STATUS_busy 0).setFld F.MMU_INV_STATUS_status St.done).dropCached
  else s

/-- MMU_INV_DONE (R232). -/
def execMmuInvDone (s : State) : Out := .next (s.on fun s => mmuInvDone s)

end Sys2Proof.Machine
end

