-- ==== Sys2Proof/Machine/SeqTab.lean ====
section
/-!
DEFINITION. The tables the device keeps in tier 1: sequence descriptors (R234, R235), the page-frame table with its
lists, epochs and the frame engine (R216 to R221), the lower-half page tables (R225), and the prefix directory (R226).
-/
namespace Sys2Proof.Machine

/-! ### Sequence descriptors (R235) -/

/-- The offset of slot `n`'s descriptor in tier 1. -/
def State.seqOff (s : State) (n : Nat) : Nat := s.fld64 F.SEQ_TABLE_LO_base F.SEQ_TABLE_HI_base + 128 * n

/-- A field of a descriptor: its first byte and its length. -/
abbrev DField := Nat × Nat

namespace D
def state : DField := (0, 1)
def flags : DField := (1, 1)
def ctx : DField := (2, 1)
def draftD : DField := (3, 1)
def tenant : DField := (4, 2)
def generation : DField := (6, 2)
def length : DField := (8, 4)
def promptEnd : DField := (12, 4)
def maxNew : DField := (16, 4)
def generated : DField := (20, 4)
def lastToken : DField := (24, 4)
def prevToken : DField := (28, 4)
def partner : DField := (32, 4)
def stop0 : DField := (36, 4)
def stop1 : DField := (40, 4)
def promptBase : DField := (44, 4)
def promptAddr : DField := (48, 8)
def outAddr : DField := (56, 8)
def seed : DField := (64, 8)
def reqTag : DField := (72, 8)
def res : DField := (80, 4)
def admitMs : DField := (84, 4)
def queue : DField := (88, 2)
def notifyEvery : DField := (90, 2)
def notified : DField := (92, 4)
def baseToken : DField := (96, 4)
end D

/-! Slot states (R236). -/
namespace Sl
def free : Nat := 0
def idle : Nat := 1
def queued : Nat := 2
def prefill : Nat := 3
def decode : Nat := 4
def paused : Nat := 5
def holder : Nat := 6
def draft : Nat := 7
end Sl

/-- Reads a field of slot `n`'s descriptor. -/
def State.sget (s : State) (n : Nat) (d : DField) : Nat := s.mem.le 1 (s.seqOff n + d.1) d.2

/-- Writes a field of slot `n`'s descriptor. -/
def State.sput (s : State) (n : Nat) (d : DField) (v : Nat) : State :=
  { s with mem := s.mem.write 1 (s.seqOff n + d.1) (toBytes d.2 v) }

/-- Writes a list of fields of a descriptor. -/
def State.sputs (s : State) (n : Nat) : List (DField × Nat) → State
  | [] => s
  | (d, v) :: l => (s.sput n d v).sputs n l

/-- Clears a whole descriptor. -/
def State.sclear (s : State) (n : Nat) : State := { s with mem := s.mem.write 1 (s.seqOff n) (List.replicate 128 0) }

/-! Flag bits of a descriptor. -/
namespace Fl
def spec : Nat := 0
def greedy : Nat := 1
def pinned : Nat := 2
def borrowed : Nat := 3
def degraded : Nat := 4
def cancel : Nat := 5
def inStep : Nat := 6
end Fl

/-- Whether a flag of slot `n` is set. -/
def State.sflag (s : State) (n b : Nat) : Bool := tbit (s.sget n D.flags) b

/-- Sets or clears a flag. -/
def State.setSflag (s : State) (n b : Nat) (v : Bool) : State := s.sput n D.flags (setBits (s.sget n D.flags) b b (bit v))

/-- The context of a slot, and its draft context. -/
def State.sctx (s : State) (n : Nat) : Nat := s.sget n D.ctx % 16

/-- The sequence slots. -/
def nSlots : Nat := 262144

/-- No token. -/
def noToken : Nat := 0xFFFFFFFF

/-- The keys of a table's entries that hold any byte that is not zero, in order. -/
def usedEntries (cells : List Host.Cell) (base size count : Nat) : List Nat :=
  ((cells.filter fun c => decide (base ≤ c.1) && decide (c.1 < base + size * count)).map fun c => (c.1 - base) / size).eraseDups

/-- The slots whose descriptor is not all zero, in order. -/
def State.slotsInUse (s : State) : List Nat := usedEntries s.mem.t1 (s.seqOff 0) 128 nSlots

/-! ### Clearing memory -/

/-- A range of a space written with zeros: the listed bytes go, and lines covered whole lose their poison (R550). -/
def Mem.zero (m : Mem) (sp off n : Nat) : Mem :=
  (m.setCells sp ((m.cells sp).filter fun c => !(decide (off ≤ c.1) && decide (c.1 < off + n)))).setPoison sp (clearLines (m.poison sp) off n)

/-! ### The page-frame table (R216, R217) -/

/-- No frame. -/
def noFrame : Nat := 0xFFFFFFFF

/-- The place of frame `f`'s entry. -/
def State.pfOff (s : State) (f : Nat) : Nat := s.fld64 F.KVM_PFT_BASE_LO_base F.KVM_PFT_BASE_HI_base + 16 * f

/-- Reads and writes a field of a frame's entry. -/
def State.pget (s : State) (f : Nat) (d : DField) : Nat := s.mem.le 1 (s.pfOff f + d.1) d.2
def State.pput (s : State) (f : Nat) (d : DField) (v : Nat) : State :=
  { s with mem := s.mem.write 1 (s.pfOff f + d.1) (toBytes d.2 v) }

namespace P
def ref : DField := (0, 2)
def state : DField := (2, 1)
def flags : DField := (3, 1)
def stamp : DField := (4, 4)
def link : DField := (8, 4)
def ctx : DField := (12, 1)
end P

/-- Frame states: 0 FREE, 1 LIVE, 2 QUARANTINE, 3 TABLE. -/
def State.pinned (s : State) (f : Nat) : Bool := s.pget f P.flags = 1

/-- The space and offset of frame `f`. -/
def State.frameLoc (s : State) (f : Nat) : Nat × Nat :=
  if f < s.pool1N then (1, s.pool1Base + 65536 * f) else (2, s.pool2Base + 65536 * (f - s.pool1N))

/-- The three lists. -/
inductive PList where
  | free1 | free2 | quar
  deriving DecidableEq, Repr

def Kvm.list (k : Kvm) : PList → FrameList
  | .free1 => k.f1
  | .free2 => k.f2
  | .quar => k.q

def Kvm.setList (k : Kvm) (p : PList) (l : FrameList) : Kvm :=
  match p with
  | .free1 => { k with f1 := l }
  | .free2 => { k with f2 := l }
  | .quar => { k with q := l }

/-- The frames of a list. -/
def State.plist (s : State) (p : PList) : FrameList := s.kvm.list p

/-- Replaces a list's ends. -/
def State.setPlist (s : State) (p : PList) (l : FrameList) : State := { s with kvm := s.kvm.setList p l }

/-- Appends a frame at a list's tail. -/
def State.pappend (s : State) (p : PList) (f : Nat) : State :=
  let l := s.plist p
  let s := s.pput f P.link noFrame
  if l.n = 0 then s.setPlist p ⟨f, f, 1⟩ else (s.pput l.tail P.link f).setPlist p ⟨l.head, f, l.n + 1⟩

/-- Takes the frame at a list's head; its link becomes none. -/
def State.ptake (s : State) (p : PList) : Nat × State :=
  let l := s.plist p
  let nx := s.pget l.head P.link
  (l.head, (s.setPlist p (if l.n = 1 then ⟨0, 0, 0⟩ else ⟨nx, l.tail, l.n - 1⟩)).pput l.head P.link noFrame)

/-- The free list of a frame's pool. -/
def State.poolOf (s : State) (f : Nat) : PList := if f < s.pool1N then .free1 else .free2

/-- R549: whether the KVM is ready. (DEDUCED: log entry 48) -/
def State.kvmReady (s : State) : Bool :=
  s.flag F.GLB_STATUS_config_ready && s.isConfigured [0x1300000, 0x1300004, 0x1300008, 0x1300010, 0x1300014, 0x1300018] &&
    s.isConfigured [0x1300020, 0x1300024] && s.isConfigured [0x1300028, 0x130002C] && s.isConfigured [0x3600000, 0x3600004] && s.kvm.ready

/-- An allocation (R216, R221): the head of the free list in state `st`, or none, counted, where the pool is empty or the
KVM not ready. The pool-low event is raised once per crossing. -/
def State.alloc (s : State) (p : PList) (st ctx : Nat) : Option Nat × State :=
  if !s.kvmReady || decide ((s.plist p).n = 0) then (none, s.bump C.KVM_ALLOC_FAIL)
  else
    let (f, s) := s.ptake p
    let s := ((s.pput f P.state st).pput f P.ctx ctx).bump C.KVM_ALLOC
    let s := if s.kvm.f1.n < s.fld F.KVM_LOWATER_frames ∧ !s.kvm.low then
        ({ s with kvm := { s.kvm with low := true } }).raise E.poolLow (d0 := s.kvm.f1.n)
      else s
    (some f, s)

/-- map(f) of R217. -/
def State.mapFrame (s : State) (f : Nat) : State :=
  if s.pinned f then s
  else
    let r := s.pget f P.ref + 1
    let s := s.pput f P.ref r
    if r = 65535 then (s.pput f P.flags 1).bump C.KVM_PINNED else s

/-- A frame goes to the quarantine list with the present epoch, and an advance is asked for. -/
def State.quarantine (s : State) (f : Nat) : State :=
  let s := ((s.pput f P.state 2).pput f P.stamp s.kvm.epoch).pappend .quar f
  { s with kvm := { s.kvm with wanted := s.kvm.wanted + 1 } }

/-- unmap(f) of R217. -/
def State.unmapFrame (s : State) (f : Nat) : State :=
  if s.pinned f then s
  else
    let r := s.pget f P.ref - 1
    let s := s.pput f P.ref r
    if r = 0 then s.quarantine f else s

/-! ### Epochs and the reclaimer (R218, R219) -/

/-- The readers of an epoch. -/
def Kvm.readers (k : Kvm) (e : Nat) : Nat := kgetD k.active e 0

/-- Sets the readers of an epoch. -/
def Kvm.setReaders (k : Kvm) (e n : Nat) : Kvm := { k with active := if n = 0 then kdel k.active e else kset k.active e n }

/-- A reader takes a ticket of the present epoch. -/
def State.takeTicket (s : State) : State := { s with kvm := s.kvm.setReaders s.kvm.epoch (s.kvm.readers s.kvm.epoch + 1) }

/-- A reader gives its ticket back. -/
def State.giveTicket (s : State) (e : Nat) : State := { s with kvm := s.kvm.setReaders e (s.kvm.readers e - 1) }

/-- How far an epoch lies behind the present one. -/
def Kvm.age (k : Kvm) (e : Nat) : Nat := (k.epoch + 2 ^ 32 - e % 2 ^ 32) % 2 ^ 32

/-- The oldest active epoch. -/
def Kvm.oldest (k : Kvm) : Nat :=
  ((k.active.filter fun e => e.2 ≠ 0).map (·.1)).foldl (fun o e => if k.age o < k.age e then e else o) k.epoch

/-- Advances the epoch where the count of E − 63 allows it. -/
def State.advance (s : State) : State :=
  if s.kvm.readers ((s.kvm.epoch + 2 ^ 32 - 63) % 2 ^ 32) = 0 then
    { s with kvm := { s.kvm with epoch := (s.kvm.epoch + 1) % 2 ^ 32, wanted := s.kvm.wanted - 1 } }
  else s

/-- EPOCH_ADVANCE (R218): one requested advance. -/
def execEpochAdvance (s : State) : Out := .next (s.on fun s => if 0 < s.kvm.wanted then s.advance else s)

/-- Frees frames from the head of the quarantine list while their stamp is earlier than the oldest active epoch. -/
def State.reclaimN : Nat → State → State
  | 0, s => s
  | n + 1, s =>
    let l := s.kvm.q
    if decide (l.n ≠ 0) && precedes 32 (s.pget l.head P.stamp) s.kvm.oldest then
      let (f, s) := s.ptake .quar
      let s := ((((s.pput f P.ref 0).pput f P.state 0).pput f P.flags 0).pput f P.stamp 0).pappend (s.poolOf f) f
      let s := s.bump C.KVM_FREED
      State.reclaimN n { s with kvm := { s.kvm with low := s.kvm.low && decide (s.kvm.f1.n < s.fld F.KVM_LOWATER_frames) } }
    else s

/-- RECLAIM (R219). -/
def execReclaim (s : State) : Out := .next (s.on fun s => State.reclaimN s.kvm.q.n s)

/-! ### PFT_INIT (R216) -/

/-- The links of one pool's free list, frames `a` to `a + n − 1`. -/
def State.linkPool : Nat → Nat → State → State
  | _, 0, s => s
  | a, n + 1, s =>
    let s := { s with mem := s.mem.write 1 (s.pfOff a) (toBytes 8 0 ++ toBytes 4 (if n = 0 then noFrame else a + 1) ++ toBytes 4 0) }
    State.linkPool (a + 1) n s

/-- The list of a pool in ascending frame number. -/
def poolList (a n : Nat) : FrameList := if n = 0 then ⟨0, 0, 0⟩ else ⟨a, a + n - 1, n⟩

/-- The page-frame table initialised (R216): both pools free in ascending order. -/
def pftInit (s : State) : State :=
  if s.kvm.init then
    let s := (State.linkPool s.pool1N s.pool2N (State.linkPool 0 s.pool1N s))
    { s with kvm := { s.kvm with f1 := poolList 0 s.pool1N, f2 := poolList s.pool1N s.pool2N, q := ⟨0, 0, 0⟩,
                                 low := false, init := false, ready := true } }
  else s

/-- PFT_INIT (R216). -/
def execPftInit (s : State) : Out := .next (s.on fun s => pftInit s)

/-! ### Lower-half page tables (R212, R213, R225) -/

/-- The address of window page `w` of slot `n` (R33). -/
def pageVa (n w : Nat) : Nat := n * 2 ^ 32 + w * 65536

/-- The root's space and the place of the level-1 entry of an address. -/
def State.l1Place (s : State) (va : Nat) : Nat × Nat :=
  (s.fld F.MMU_ROOT_HI_space, s.fld64 F.MMU_ROOT_LO_root F.MMU_ROOT_HI_root + 8 * bits va 51 42)

/-- A table entry of R212 pointing at frame `f`. -/
def State.tableEntry (s : State) (f : Nat) : Nat :=
  let p := s.frameLoc f
  1 + p.1 * 16 + p.2 / 65536 * 65536

/-- Reads and writes eight bytes at a place. -/
def State.get8 (s : State) (p : Nat × Nat) : Nat := s.mem.le p.1 p.2 8
def State.put8 (s : State) (p : Nat × Nat) (v : Nat) : State := { s with mem := s.mem.write p.1 p.2 (toBytes 8 v) }

/-- The place of the next level's entry under a table entry, by the entry's index. -/
def under (e idx : Nat) : Nat × Nat := (bits e 7 4, entryBase e + 8 * idx)

/-- A table under an entry's place, allocated and cleared where the entry is not valid; none where the pool is empty. -/
def State.ensure (s : State) (p : Nat × Nat) (ctx : Nat) : Option Nat × State :=
  let e := s.get8 p
  if e % 2 = 1 then (some e, s)
  else
    match s.alloc .free1 3 ctx with
    | (none, s) => (none, s)
    | (some f, s) =>
      let loc := s.frameLoc f
      let s := { s with mem := s.mem.zero loc.1 loc.2 65536 }
      let e := s.tableEntry f
      (some e, s.put8 p e)

/-- The place of the level-3 entry of a window page, its tables allocated where missing. -/
def State.ensurePage (s : State) (n w ctx : Nat) : Option (Nat × Nat) × State :=
  let va := pageVa n w
  match s.ensure (s.l1Place va) ctx with
  | (none, s) => (none, s)
  | (some e1, s) =>
    match s.ensure (under e1 (bits va 41 29)) ctx with
    | (none, s) => (none, s)
    | (some e2, s) => (some (under e2 (bits va 28 16)), s)

/-- The place and value of the level-3 entry of a window page, if its tables exist. -/
def State.pageEntry (s : State) (n w : Nat) : Option ((Nat × Nat) × Nat) :=
  let va := pageVa n w
  let e1 := s.get8 (s.l1Place va)
  if e1 % 2 = 0 then none
  else
    let e2 := s.get8 (under e1 (bits va 41 29))
    if e2 % 2 = 0 then none
    else
      let p := under e2 (bits va 28 16)
      if s.get8 p % 2 = 0 then none else some (p, s.get8 p)

/-- The frame a window page maps. -/
def State.pageFrame (s : State) (n w : Nat) : Option Nat :=
  match s.pageEntry n w with
  | some (_, e) => s.frameAt (bits e 7 4) (entryBase e)
  | none => none

/-- A latent page's entry (R213). -/
def State.kvEntry (s : State) (f : Nat) (wr : Bool) : Nat :=
  let p := s.frameLoc f
  1 + 2 * bit wr + 4 + p.1 * 16 + s.self * 256 + p.2 / 65536 * 65536

/-- Maps a window page to a frame, which gains a reference; false where no table could be allocated. -/
def State.mapPage (s : State) (n w f : Nat) (wr : Bool) : Bool × State :=
  match s.ensurePage n w (s.sctx n) with
  | (none, s) => (false, s)
  | (some p, s) => (true, (s.put8 p (s.kvEntry f wr)).mapFrame f)

/-- Clears writable in a mapped page's entry. -/
def State.protectPage (s : State) (n w : Nat) : State :=
  match s.pageEntry n w with
  | some (p, e) => (s.put8 p (setBits e 1 1 0)).dropCached
  | none => s

/-- Unmaps a window page (R217, R219): the entry is invalidated before the reference goes. -/
def State.unmapPage (s : State) (n w : Nat) : State :=
  match s.pageEntry n w with
  | none => s
  | some (p, e) =>
    let s := (s.put8 p 0).dropCached
    match s.frameAt (bits e 7 4) (entryBase e) with
    | some f => s.unmapFrame f
    | none => s

/-- The level-3 tables of a slot: the place of each valid level-2 entry with its table entry and its number. -/
def State.slotTables (s : State) (n : Nat) : List (Nat × (Nat × Nat) × Nat) :=
  let e1 := s.get8 (s.l1Place (pageVa n 0))
  if e1 % 2 = 0 then []
  else (List.range 8).filterMap fun t =>
    let p := under e1 (bits (pageVa n (t * 8192)) 41 29)
    if s.get8 p % 2 = 1 then some (t, p, s.get8 p) else none

/-- The window pages a slot maps, ascending. -/
def State.slotPages (s : State) (n : Nat) : List Nat :=
  ((s.slotTables n).map fun t =>
    ((usedEntries (s.mem.cells (bits t.2.2 7 4)) (entryBase t.2.2) 8 8192).filter fun i =>
      s.get8 (under t.2.2 i) % 2 = 1).map fun i => t.1 * 8192 + i).flatten

/-- A table's frame is unmapped and quarantined (R225). -/
def State.dropTable (s : State) (p : Nat × Nat) (e : Nat) : State :=
  let s := (s.put8 p 0).dropCached
  match s.frameAt (bits e 7 4) (entryBase e) with
  | some f => s.quarantine f
  | none => s

/-- Unmaps every page and table of a slot; the level-2 table goes once it is empty (R225). -/
def State.unmapSlot (s : State) (n : Nat) : State :=
  let s := (s.slotPages n).foldl (fun s w => s.unmapPage n w) s
  let s := (s.slotTables n).foldl (fun s t => s.dropTable t.2.1 t.2.2) s
  let p1 := s.l1Place (pageVa n 0)
  let e1 := s.get8 p1
  if e1 % 2 = 1 ∧ (usedEntries (s.mem.cells (bits e1 7 4)) (entryBase e1) 8 8192) = [] then s.dropTable p1 e1 else s

/-- A copy of a frame's page to another, its poison with it (R550); the copy holds a ticket only while it runs. -/
def State.copyFrame (s : State) (src dst : Nat) : State :=
  let a := s.frameLoc src
  let b := s.frameLoc dst
  let s := s.tread a.1 a.2 65536
  (List.range 1024).foldl (fun s i =>
    s.twrite b.1 (b.2 + 64 * i) (s.mem.read a.1 (a.2 + 64 * i) 64) (s.mem.poisoned a.1 (a.2 + 64 * i) 64)) s

/-- Whether any line of a frame's page is poisoned. -/
def State.framePoison (s : State) (f : Nat) : Bool := s.mem.poisoned (s.frameLoc f).1 (s.frameLoc f).2 65536

/-! ### The prefix directory (R226) -/

/-- The place of entry `i`. -/
def State.dirOff (s : State) (i : Nat) : Nat := s.fld64 F.KVM_DIR_BASE_LO_base F.KVM_DIR_BASE_HI_base + 32 * i

/-- Reads and writes a field of an entry. -/
def State.dget (s : State) (i : Nat) (d : DField) : Nat := s.mem.le 1 (s.dirOff i + d.1) d.2
def State.dputs (s : State) (i : Nat) : List (DField × Nat) → State
  | [] => s
  | (d, v) :: l => ({ s with mem := s.mem.write 1 (s.dirOff i + d.1) (toBytes d.2 v) } : State).dputs i l

namespace X
def handle : DField := (0, 8)
def holder : DField := (8, 4)
def length : DField := (12, 4)
def generation : DField := (16, 2)
def tenant : DField := (18, 2)
def ctx : DField := (20, 1)
def uses : DField := (24, 8)
end X

/-- The LIVE entries, by index. -/
def State.dirLive (s : State) : List Nat := (usedEntries s.mem.t1 (s.dirOff 0) 32 65536).filter fun i => bits (s.dget i X.ctx) 5 4 = 1

/-- The LIVE entry of a handle. -/
def State.dirFind (s : State) (h : Nat) : Option Nat := s.dirLive.find? fun i => s.dget i X.handle = h

/-- The lowest number from `k` not in an ascending list. -/
def lowestFree : List Nat → Nat → Nat
  | [], k => k
  | j :: l, k => if j = k then lowestFree l (k + 1) else if j < k then lowestFree l k else k

/-- The lowest index whose entry is FREE. -/
def State.dirFree (s : State) : Nat := lowestFree s.dirLive 0

/-- An entry becomes FREE. -/
def State.dirRetire (s : State) (i : Nat) : State := { s with mem := s.mem.write 1 (s.dirOff i) (List.replicate 32 0) }

/-! ### Weight generations in use (R264) -/

/-- The generation in slot `g` of a context. -/
def State.gen (s : State) (c g : Nat) : Option Gen := kget s.srv.gens (2 * c + g)

/-- The PRS_GEN slot of a live generation number. -/
def State.genSlot (s : State) (c num : Nat) : Option Nat :=
  (List.range 2).find? fun g => match s.gen c g with
    | some x => x.num = num
    | none => false

/-- The current generation's number, if one exists. -/
def State.curGen (s : State) (c : Nat) : Option Nat :=
  if s.flag F.SEQ_CTX_GEN_STATUS_current_valid (0x40 * c) then some (s.fld F.SEQ_CTX_GEN_current (0x40 * c)) else none

/-- Whether a context is resident (R287). -/
def State.resident (s : State) (c : Nat) : Bool := decide (c < 16) && decide (s.fld F.RES_CTX_STATE_state (0x80 * c) ≠ 0)

end Sys2Proof.Machine
end

