-- ==== Sys2Proof/Machine/Facet.lean ====
section
/-!
DEFINITION. Facets and spatial dataflow (R79 to R123): queues, switches, steering nodes, firings, the stored contexts,
deadlock and spill.
-/
namespace Sys2Proof.Machine

/-! ### The floor plan (R80, R89) -/

/-- Facet `f`. -/
def State.fac (s : State) (f : Nat) : Facet := nth s.facets f (Facet.init 0)

/-- Replaces facet `f`. -/
def State.setFac (s : State) (f : Nat) (x : Facet) : State := { s with facets := s.facets.set f x }

/-- The BAR0 offset of a facet's register. -/
def fctOff (f o : Nat) : Nat := 0x2000000 + 0x40000 * f + o

/-- The byte distance of a facet's registers from facet 0's. -/
def fdi (f : Nat) : Nat := 0x40000 * f

/-- The unit at position (u, v), CUs 0 to 15 and MUs 16 to 23 (R80); positions count from 1 here, 0 lying outside. -/
def unitAt (u1 v1 : Nat) : Option Nat :=
  if u1 = 0 ∨ v1 = 0 ∨ 4 < u1 ∨ 6 < v1 then none
  else if v1 = 1 then some (16 + (u1 - 1))
  else if v1 = 6 then some (20 + (u1 - 1))
  else some (4 * (u1 - 1) + (v1 - 2))

/-- The position (u, v) of a unit. -/
def unitPos (unit : Nat) : Nat × Nat :=
  if unit < 16 then (unit / 4, 1 + unit % 4) else if unit < 20 then (unit - 16, 0) else (unit - 20, 5)

/-- The corners of a unit: 0 NW, 1 NE, 2 SE, 3 SW. The switch at a corner. -/
def cornerSwitch (unit corner : Nat) : Nat :=
  let p := unitPos unit
  (if corner = 2 ∨ corner = 3 then p.1 + 1 else p.1) * 7 + (if corner = 1 ∨ corner = 2 then p.2 + 1 else p.2)

/-- What port `p` of switch `sw` faces (R89). -/
inductive Facing where
  | switch (sw port : Nat)
  | unit (unit corner : Nat)
  | fif (port : Nat)
  | nothing
  deriving DecidableEq, Repr

/-- R89: ports 0 to 3 face N, E, S, W; 4 to 7 the NW, NE, SE and SW units. -/
def facing (sw p : Nat) : Facing :=
  let i := sw / 7
  let j := sw % 7
  let unit := fun (o : Option Nat) (c : Nat) => match o with
    | some u => Facing.unit u c
    | none => Facing.nothing
  match p with
  | 0 => if 0 < i then .switch (sw - 7) 2 else if 1 ≤ j ∧ j ≤ 4 then .fif (j - 1) else .nothing
  | 1 => if j < 6 then .switch (sw + 1) 3 else .nothing
  | 2 => if i < 4 then .switch (sw + 7) 0 else if 1 ≤ j ∧ j ≤ 4 then .fif (4 + (j - 1)) else .nothing
  | 3 => if 0 < j then .switch (sw - 1) 1 else .nothing
  | 4 => unit (unitAt i j) 2
  | 5 => unit (unitAt i (j + 1)) 3
  | 6 => unit (unitAt (i + 1) (j + 1)) 0
  | 7 => unit (unitAt (i + 1) j) 1
  | _ => .nothing

/-- The network's number: 0 vector, 1 scalar, 2 control. -/
def netNum : Net → Nat
  | .vector => 0
  | .scalar => 1
  | .control => 2

/-- The output a unit presents at a corner on a network (R94): VO0 0, VO1 1, SO 2, CO 3. -/
def outAt (net corner : Nat) : Nat := if net = 0 then (if corner = 0 ∨ corner = 2 then 0 else 1) else net + 1

/-- The queue of a unit fed at a corner by a network (R94). -/
def queueAt (net corner : Nat) : Option Nat :=
  if net = 0 then some corner
  else if net = 1 then (if corner = 0 then some 4 else if corner = 2 then some 5 else none)
  else if corner = 1 then some 6 else if corner = 3 then some 7 else none

/-- The kind of entry a queue holds. -/
def queueKind (q : Nat) : Nat := if q < 4 then 0 else if q < 6 then 1 else 2

/-- The kind of entry an output holds. -/
def outKind (o : Nat) : Nat := if o < 2 then 0 else o - 1

/-! ### Context images -/

/-- Bytes of a context slot. -/
def Facet.ctxBytes (x : Facet) (slot off n : Nat) : List Byte := cellsRead 0 x.slots (4096 * slot + off) n

/-- A field of the active context. -/
def Facet.word (x : Facet) (off n : Nat) : Nat := ofBytes (x.ctxBytes x.active off n)

/-- Where a unit's operation word starts (R101). -/
def unitWord (unit : Nat) : Nat := if unit < 16 then 0x280 + 64 * unit else 0x680 + 64 * (unit - 16)

/-- A unit's read set, write set and control byte in the active context. -/
def Facet.readSet (x : Facet) (unit : Nat) : Nat := x.word (unitWord unit) 1
def Facet.writeSet (x : Facet) (unit : Nat) : Nat := x.word (unitWord unit + 1) 1
def Facet.unitCtl (x : Facet) (unit : Nat) : Nat := x.word (unitWord unit + 2) 1

/-- Whether a unit is enabled, and its region. -/
def Facet.unitOn (x : Facet) (unit : Nat) : Bool := tbit (x.unitCtl unit) 3
def Facet.region (x : Facet) (unit : Nat) : Nat := x.unitCtl unit % 8

/-- The selector of a switch output (R91). -/
def Facet.sel (x : Facet) (net sw port : Nat) : Nat := bits (x.word (0x40 + 16 * sw + 4 * net) 4) (4 * port + 3) (4 * port)

/-- A switch's steering word. -/
def Facet.steerWord (x : Facet) (sw : Nat) : Nat := x.word (0x40 + 16 * sw + 12) 4

/-! ### Queues and buffers -/

/-- Keys. -/
def qKey (unit q : Nat) : Nat := unit * 8 + q
def oKey (unit o : Nat) : Nat := unit * 4 + o
def sKey (net sw port : Nat) : Nat := (net * 35 + sw) * 8 + port
def fKey (net port : Nat) : Nat := net * 8 + port

/-- Sets a keyed list, an empty list leaving no entry. -/
def kput {α : Type} (m : KMap (List α)) (k : Nat) (l : List α) : KMap (List α) :=
  match l with
  | [] => kdel m k
  | _ => kset m k l

/-- A keyed list. -/
def klist {α : Type} (m : KMap (List α)) (k : Nat) : List α := kgetD m k []

/-- What a queue's consumer sees: the head buffer, then the on-die queue unless the queue is extended (R111). -/
def Facet.queue (x : Facet) (k : Nat) : List QEnt :=
  klist x.head k ++ (if (kget x.ext k).isSome then [] else klist x.inq k)

/-- The credits a queue's feeder holds. -/
def Facet.credits (x : Facet) (k : Nat) : Nat := kgetD x.cred k 16

/-- The entries an output buffer can hold (R94). -/
def outCap (unit : Nat) : Nat := if unit < 16 then 16 else 8

/-- Slots of an output reserved by firings whose result has not entered. -/
def Facet.reserved (x : Facet) (unit o : Nat) : Nat :=
  if tbit (x.writeSet unit) o then (x.fly.filter fun g => g.unit = unit).length else 0

/-- Whether an output has a slot neither filled nor reserved. -/
def Facet.outRoom (x : Facet) (unit o : Nat) : Bool :=
  decide ((klist x.outq (oKey unit o)).length + x.reserved unit o < outCap unit)

/-- Whether the facet is frozen (R96): in a spill or a scan, gated, fenced, disabled, or in the fatal condition (R376). -/
def State.frozen (s : State) (f : Nat) : Bool :=
  let x := s.fac f
  x.spill.isSome || decide (x.scan ≠ 0) || decide (2 ≤ x.gated) || x.fenced || s.flag F.GLB_STATUS_fatal || !s.flag F.FCT_CTRL_enable (fdi f)

/-- The indices of the set bits of a byte. -/
def bitList (v : Nat) : List Nat := (List.range 8).filter (tbit v)

/-- Condition 2 of R96. -/
def Facet.inputsReady (x : Facet) (unit : Nat) : Bool := (bitList (x.readSet unit)).all fun q => x.queue (qKey unit q) ≠ []

/-- Condition 3 of R96. -/
def Facet.outputsReady (x : Facet) (unit : Nat) : Bool := (bitList (x.writeSet unit % 16)).all fun o => x.outRoom unit o

/-- Whether a unit can fire now (R96). -/
def State.canFire (s : State) (f unit : Nat) : Bool :=
  let x := s.fac f
  decide (unit < 24) && x.unitOn unit && x.inputsReady unit && x.outputsReady unit && !s.frozen f

/-- A pop: the entry, and the facet after it; a pop of the on-die queue returns a credit (R94). -/
def Facet.pop (x : Facet) (k : Nat) : Option QEnt × Facet :=
  match klist x.head k with
  | e :: l => (some e, { x with head := kput x.head k l })
  | [] =>
    match klist x.inq k with
    | e :: l => (some e, { x with inq := kput x.inq k l, cred := kset x.cred k (x.credits k + 1) })
    | [] => (none, x)

/-- Pops one entry of each queue of a list. -/
def Facet.popAll (x : Facet) : List Nat → List QEnt × Facet
  | [] => ([], x)
  | k :: ks =>
    let r := x.pop k
    let t := Facet.popAll r.2 ks
    (r.1.toList ++ t.1, t.2)

/-- R95: a credit return above 16 poisons the affected entry, raises the UE event and completes the operation. -/
def creditCheck (f k : Nat) (s : State) : State :=
  let x := s.fac f
  if x.credits k ≤ 16 then s
  else
    let l := match klist x.inq k with
      | e :: l => { e with poison := true } :: l
      | [] => []
    let x := { x with cred := kset x.cred k 16, inq := kput x.inq k l,
                      sq := { x.sq with own := worse x.sq.own St.internal } }
    (s.setFac f x).raise E.creditOverflow f (d0 := 64 + k / 8)

/-- The first control token a firing popped. -/
def firstTok (ops : List QEnt) : Option Nat := (ops.find? fun e => e.kind = 2).map fun e => nth e.lanes 0 0

/-- A unit fires (R96, R97): pops, reserves, and a false predicate under skip_on_false produces nothing. -/
def fire (f unit : Nat) (s : State) : State :=
  let x := s.fac f
  let keys := (bitList (x.readSet unit)).map (qKey unit)
  let r := x.popAll keys
  let skip := tbit (x.unitCtl unit) 4 && (match firstTok r.1 with
    | some t => !tbit t 0
    | none => false)
  let y := r.2
  let s := (s.setFac f { y with fly := y.fly ++ [(⟨unit, r.1, !skip⟩ : Firing)] }).bump (C.FCT_FIRES + fdi f)
  keys.foldl (fun s k => creditCheck f k s) s

/-- UNIT_FIRE (R96): an enabled unit that lacks an input or only an output is counted as stalled (R123). (DEDUCED: log entry 31) -/
def unitFire (f unit : Nat) (s : State) : State :=
  let x := s.fac f
  if s.canFire f unit then fire f unit s
  else if decide (f < 72) && decide (unit < 24) && x.unitOn unit && !s.frozen f then
    if !x.inputsReady unit then s.bump (C.FCT_STALL_IN + fdi f) else s.bump (C.FCT_STALL_OUT + fdi f)
  else s

/-- UNIT_FIRE (R96). -/
def execUnitFire (f unit : Nat) (s : State) : Out := .next (s.alive fun s => if f < 72 then unitFire f unit s else s)

/-! ### Results (R82, R84, R103) -/

/-- A vector entry of 32 words. -/
def vecEnt (lanes : List Nat) (valid : Nat) (poison : Bool) : QEnt := ⟨0, lanes, lanes.map (· % 3), valid, poison⟩

/-- An entry of a kind made of words. -/
def mkEnt (kind : Nat) (lanes : List Nat) (valid : Nat) (poison : Bool) : QEnt :=
  if kind = 0 then vecEnt lanes valid poison
  else if kind = 1 then ⟨1, [nth lanes 0 0], [nth lanes 0 0 % 3], 1, poison⟩
  else ⟨2, [nth lanes 0 0 % 256], [], 1, poison⟩

/-- The larger of two words as signed 32-bit integers. -/
def smax (a b : Nat) : Nat := if (a + 2 ^ 31) % 2 ^ 32 ≤ (b + 2 ^ 31) % 2 ^ 32 then b else a

/-- What the VECTOR stage of R103 gives on two lanes where the spec states it: PASS; INT32 ADD, MUL and MAX; FP32 ADD,
MUL, MAX and EXP2; and none where it leaves the result open. -/
def vecOp (op : Nat) (a b : Nat) : Option Nat :=
  let code := op % 64
  let ty := op / 64
  if code = 0 then some a
  else if ty = 0 then
    (match code with
      | 1 => some ((a + b) % 2 ^ 32)
      | 2 => some (a * b % 2 ^ 32)
      | 4 => some (smax a b)
      | _ => none)
  else if ty = 2 then
    (match code with
      | 1 => some (fadd a b)
      | 2 => some (fmul a b)
      | 4 => some (fmax a b)
      | 5 => some (fexp2 a)
      | _ => none)
  else none

/-- The lanes a CU firing gives its vector outputs: through bypassed stages unchanged, through the VECTOR stage alone as
`vecOp`, and otherwise a free value of the operation word's bytes and the operands (R81). -/
def Facet.cuLanes (x : Facet) (unit : Nat) (ops : List QEnt) : List Nat :=
  let vs := ops.filter fun e => e.kind = 0
  let a := match vs with
    | e :: _ => e.lanes
    | [] => List.replicate 32 0
  let b := match vs with
    | _ :: e :: _ => e.lanes
    | _ => List.replicate 32 0
  let byp := x.word (unitWord unit + 3) 1 % 64
  let op := x.word (unitWord unit + 7) 1
  let free := fun i => Config.cuResult op (i + 64 * byp) (ops.map (·.lanes)).flatten % 2 ^ 32
  if unit < 16 ∧ byp = 63 then a
  else if unit < 16 ∧ byp = 63 - 8 then (List.range 32).map fun i => (vecOp op (nth a i 0) (nth b i 0)).getD (free i)
  else (List.range 32).map free

/-- Inserts a (key, index) pair into a row of the SELECT stage, keeping `k` pairs: a higher key first, the lower index
between equal keys (R84). -/
def selInsert (k : Nat) (p : Nat × Nat) (row : List (Nat × Nat)) : List (Nat × Nat) :=
  let before := row.filter fun q => p.1 < q.1 || (p.1 = q.1 && q.2 ≤ p.2)
  (before ++ p :: row.filter fun q => !(p.1 < q.1 || (p.1 = q.1 && q.2 ≤ p.2))).take k

/-- The SELECT rows of a CU after a firing (R84): each valid lane offers its key to the row of its number; a last token
emits and clears the rows. The index a lane carries is a free value. (DEDUCED: log entry 31) -/
def Facet.selectRows (x : Facet) (cu : Nat) (ops : List QEnt) : KMap (List (Nat × Nat)) :=
  if tbit (x.word (unitWord cu + 3) 1) 4 then x.rows
  else
    let k := x.word (unitWord cu + 6) 1 % 32
    let rows := (ops.filter fun e => e.kind = 0).foldl (fun rows e =>
      (List.range 32).foldl (fun rows l =>
        if tbit e.valid l then kput rows (cu * 32 + l)
          (selInsert k (nth e.lanes l 0, Config.cuResult 64 l e.lanes % 2 ^ 16) (klist rows (cu * 32 + l)))
        else rows) rows) x.rows
    match firstTok ops with
    | some t => if tbit t 7 then rows.filter fun r => r.1 / 32 ≠ cu else rows
    | none => rows

/-- The accumulators of a CU after a firing through the ACCUM stage: which entries move and to what is left to the
operation, so each entry of the word's range takes a free value. -/
def Facet.accumulated (x : Facet) (cu : Nat) (ops : List QEnt) : KMap Nat :=
  if tbit (x.word (unitWord cu + 3) 1) 2 then x.accs
  else
    let b := x.word (unitWord cu + 16) 2 % 512
    (List.range (x.word (unitWord cu + 18) 2)).foldl (fun m i =>
      kset m (cu * 512 + (b + i) % 512) (Config.cuResult 65 i (ops.map (·.lanes)).flatten)) x.accs

/-- The entry a firing puts into an output of a unit. -/
def Facet.resultEnt (x : Facet) (unit o : Nat) (ops : List QEnt) : QEnt :=
  let poison := ops.any (·.poison)
  let valid := match ops.find? fun e => e.kind = 0 with
    | some e => e.valid
    | none => 2 ^ 32 - 1
  if outKind o = 0 then vecEnt (x.cuLanes unit ops) valid poison
  else
    match ops.find? fun e => e.kind = outKind o with
    | some e => { e with poison := poison }
    | none => mkEnt (outKind o) (x.cuLanes unit ops) 1 poison

/-- The first firing of a unit leaves the pipeline. -/
def takeFiring (unit : Nat) (l : List Firing) : Option Firing × List Firing :=
  (l.find? fun g => g.unit = unit, l.eraseP fun g => g.unit = unit)

/-- CU_RESULT (R82): the result of the unit's oldest firing enters its reserved slots; a firing that produces nothing
only releases them (R97). (DEDUCED: log entry 31) -/
def cuResult (f unit : Nat) (s : State) : State :=
  let x := s.fac f
  match takeFiring unit x.fly with
  | (none, _) => s
  | (some g, rest) =>
    let y := { x with fly := rest }
    if g.produce then
      let outs := (bitList (x.writeSet unit % 16)).foldl (fun m o =>
        kput m (oKey unit o) (klist m (oKey unit o) ++ [x.resultEnt unit o g.ops])) y.outq
      let y := { y with outq := outs }
      let y := if unit < 16 then { y with rows := x.selectRows unit g.ops, accs := x.accumulated unit g.ops } else y
      s.setFac f y
    else s.setFac f y

/-- CU_RESULT (R82). -/
def execCuResult (f unit : Nat) (s : State) : Out := .next (s.alive fun s => cuResult f unit s)

/-! ### Hops (R92, R93, R100) -/

/-- Where an entry at a switch input stands. -/
inductive Src where
  | swBuf (key : Nat)
  | unitOut (unit o : Nat)
  | fif (key : Nat)
  | nothing
  deriving DecidableEq, Repr

/-- The source behind an input port. -/
def srcOf (net sw port : Nat) : Src :=
  match facing sw port with
  | .switch sw' port' => .swBuf (sKey net sw' port')
  | .unit u c => .unitOut u (outAt net c)
  | .fif p => .fif (fKey net p)
  | .nothing => .nothing

/-- The entries behind a source, oldest first. -/
def Facet.srcList (x : Facet) : Src → List QEnt
  | .swBuf k => klist x.swb k
  | .unitOut u o => klist x.outq (oKey u o)
  | .fif k => klist x.fifIn k
  | .nothing => []

/-- Drops the head of a source. -/
def Facet.srcPop (x : Facet) : Src → Facet
  | .swBuf k => { x with swb := kput x.swb k (klist x.swb k).tail }
  | .unitOut u o => { x with outq := kput x.outq (oKey u o) (klist x.outq (oKey u o)).tail }
  | .fif k => { x with fifIn := kput x.fifIn k (klist x.fifIn k).tail }
  | .nothing => x

/-- The switch inputs at which a source is presented. -/
def inputsOf (net sw port : Nat) : List (Nat × Nat) :=
  match srcOf net sw port with
  | .unitOut u o =>
    ((List.range 4).filter fun c => decide (outAt net c = o)).map fun c =>
      (cornerSwitch u c, if c = 0 then 6 else if c = 1 then 7 else if c = 2 then 4 else 5)
  | _ => [(sw, port)]

/-- A place an entry can go to from a switch input: an output buffer, or a place of the steering node (0 token, 1 A, 2 B). -/
inductive Sink where
  | out (key : Nat)
  | node (sw place : Nat)
  deriving DecidableEq, Repr

/-- The steering mode and network of a switch. -/
def Facet.steerMode (x : Facet) (sw : Nat) : Nat := x.steerWord sw % 4
def Facet.steerNet (x : Facet) (sw : Nat) : Nat := bit (tbit (x.steerWord sw) 2)

/-- The consumers that select an input (R91, R92). -/
def Facet.sinks (x : Facet) (net sw port : Nat) : List Sink :=
  let w := x.steerWord sw
  let mode := x.steerMode sw
  ((List.range 8).filter fun q => x.sel net sw q = port).map (fun q => Sink.out (sKey net sw q)) ++
    (if mode ≠ 0 ∧ net = x.steerNet sw ∧ bits w 6 3 = port then [.node sw 1] else []) ++
    (if mode = 2 ∧ net = x.steerNet sw ∧ bits w 10 7 = port then [.node sw 2] else []) ++
    (if mode ≠ 0 ∧ net = 2 ∧ bits w 14 11 = port then [.node sw 0] else [])

/-- The steering node of a switch. -/
def Facet.node (x : Facet) (sw : Nat) : Steer := kgetD x.steer sw ⟨none, none, none⟩

/-- Replaces a steering node, an empty one leaving no entry. -/
def Facet.setNode (x : Facet) (sw : Nat) (n : Steer) : Facet :=
  { x with steer := if n = ⟨none, none, none⟩ then kdel x.steer sw else kset x.steer sw n }

/-- Whether a sink can take an entry now. -/
def Facet.sinkFree (x : Facet) : Sink → Bool
  | .out k => decide ((klist x.swb k).length < 2)
  | .node sw 0 => (x.node sw).tok.isNone
  | .node sw 1 => (x.node sw).a.isNone
  | .node sw _ => (x.node sw).b.isNone

/-- Puts an entry into a sink. -/
def Facet.sinkPut (x : Facet) (e : QEnt) : Sink → Facet
  | .out k => { x with swb := kput x.swb k (klist x.swb k ++ [e]) }
  | .node sw 0 => x.setNode sw { x.node sw with tok := some e }
  | .node sw 1 => x.setNode sw { x.node sw with a := some e }
  | .node sw _ => x.setNode sw { x.node sw with b := some e }

/-- An entry leaves its input once every selecting consumer can take it (R92). -/
def hopInput (f net sw port : Nat) (s : State) : State :=
  let x := s.fac f
  let src := srcOf net sw port
  let ks := ((inputsOf net sw port).map fun p => x.sinks net p.1 p.2).flatten
  match x.srcList src with
  | [] => s
  | e :: _ =>
    if ks ≠ [] && ks.all x.sinkFree then s.setFac f (ks.foldl (fun x k => x.sinkPut e k) (x.srcPop src)) else s

/-- The head of a switch output enters the queue or FIF port it faces, against a credit (R93, R94). -/
def hopOutput (f net sw port : Nat) (s : State) : State :=
  let x := s.fac f
  let k := sKey net sw port
  match klist x.swb k with
  | [] => s
  | e :: l =>
    match facing sw port with
    | .unit u c =>
      (match queueAt net c with
        | some q =>
          let k' := qKey u q
          if x.credits k' = 0 then s
          else s.setFac f { x with swb := kput x.swb k l, inq := kput x.inq k' (klist x.inq k' ++ [e]),
                                   cred := kset x.cred k' (x.credits k' - 1) }
        | none => s)
    | .fif p => s.setFac f { x with swb := kput x.swb k l, fifOut := kput x.fifOut (fKey net p) (klist x.fifOut (fKey net p) ++ [e]) }
    | _ => s

/-- ENTRY_HOP (R93). -/
def entryHop (f : Nat) (net : Net) (place : HopPlace) (s : State) : State :=
  if s.frozen f ∨ 72 ≤ f then s
  else
    match place with
    | .input sw port => if sw < 35 ∧ port < 8 then hopInput f (netNum net) sw port s else s
    | .output sw port => if sw < 35 ∧ port < 8 then hopOutput f (netNum net) sw port s else s

/-- ENTRY_HOP (R93). -/
def execEntryHop (f : Nat) (net : Net) (place : HopPlace) (s : State) : Out := .next (s.alive fun s => entryHop f net place s)

/-- The output buffers of a switch that select a steering output. -/
def Facet.steerOuts (x : Facet) (sw code : Nat) : List Sink :=
  ((List.range 8).filter fun q => x.sel (x.steerNet sw) sw q = code).map fun q => Sink.out (sKey (x.steerNet sw) sw q)

/-- What a node does with its pair (R99): the entry, the output code (none: discarded), and the node after the release. -/
def Facet.steerChoice (x : Facet) (sw : Nat) : Option (QEnt × Option Nat × Steer) :=
  let n := x.node sw
  match n.tok with
  | none => none
  | some t =>
    let p := (tbit (nth t.lanes 0 0) 0) ^^ (tbit (x.steerWord sw) 15)
    match x.steerMode sw with
    | 1 => n.a.map fun e => (e, if p then some 8 else none, { n with tok := none, a := none })
    | 2 => if p then n.a.map fun e => (e, some 8, { n with tok := none, a := none })
           else n.b.map fun e => (e, some 8, { n with tok := none, b := none })
    | 3 => n.a.map fun e => (e, some (if p then 8 else 9), { n with tok := none, a := none })
    | _ => none

/-- STEER_PAIR (R100). -/
def steerPair (f sw : Nat) (s : State) : State :=
  let x := s.fac f
  if s.frozen f ∨ 72 ≤ f ∨ 35 ≤ sw then s
  else
    match x.steerChoice sw with
    | none => s
    | some (_, none, n) => (s.setFac f (x.setNode sw n)).bump (C.FCT_STEER_DISCARD + fdi f)
    | some (e, some code, n) =>
      let ks := x.steerOuts sw code
      if ks ≠ [] && ks.all x.sinkFree then s.setFac f (ks.foldl (fun x k => x.sinkPut e k) (x.setNode sw n)) else s

/-- STEER_PAIR (R100). -/
def execSteerPair (f sw : Nat) (s : State) : Out := .next (s.alive fun s => steerPair f sw s)

/-! ### Deadlock and spill (R109 to R114) -/

/-- The units of a region of the active context. -/
def Facet.regionUnits (x : Facet) (r : Nat) : List Nat :=
  (List.range 24).filter fun u => decide (x.region u = r) && x.unitOn u

/-- The queue keys of a region. -/
def Facet.regionQueues (x : Facet) (r : Nat) : List Nat :=
  ((x.regionUnits r).map fun u => (List.range 8).map (qKey u)).flatten

/-- The full input queues of a region. -/
def Facet.fullQueues (x : Facet) (r : Nat) : List Nat := (x.regionQueues r).filter fun k => 16 ≤ (klist x.inq k).length

/-- The bytes of an entry in a spill slot (R113). -/
def entSize (kind : Nat) : Nat := if kind = 0 then 144 else 8

/-- The bytes of a spill slot, and the tier-0 offset of slot `i` of facet `f`'s area. -/
def Facet.slotSize (x : Facet) : Nat := bits x.area 21 16 * 2048
def spillOff (f : Nat) (x : Facet) (i : Nat) : Nat := sramOff (f / 36) (bits x.area 10 0) + i * x.slotSize

/-- The residues of lanes packed two bits a lane. -/
def packRes : List Nat → Nat
  | [] => 0
  | r :: l => r % 4 + 4 * packRes l

/-- The lanes packed. -/
def packLanes : List Nat → Nat
  | [] => 0
  | v :: l => v % 2 ^ 32 + 2 ^ 32 * packLanes l

/-- An entry as R113 lays it out. -/
def entBytes (e : QEnt) : List Byte :=
  if e.kind = 0 then toBytes 128 (packLanes e.lanes) ++ toBytes 4 e.valid ++ toBytes 8 (packRes e.res) ++ toBytes 1 (bit e.poison) ++ toBytes 3 0
  else if e.kind = 1 then toBytes 4 (nth e.lanes 0 0) ++ toBytes 1 (nth e.res 0 0 % 4) ++ toBytes 1 (bit e.poison) ++ toBytes 2 0
  else toBytes 8 (nth e.lanes 0 0 % 256)

/-- The entry a byte list spells. -/
def entOf (kind : Nat) (bs : List Byte) : QEnt :=
  if kind = 0 then ⟨0, (List.range 32).map fun l => leAt bs (4 * l) 4, (List.range 32).map fun l => leAt bs 132 8 / 4 ^ l % 4,
      leAt bs 128 4, tbit (leAt bs 140 1) 0⟩
  else if kind = 1 then ⟨1, [leAt bs 0 4], [leAt bs 4 1 % 4], 1, tbit (leAt bs 5 1) 0⟩
  else ⟨2, [leAt bs 0 1], [], 1, false⟩

/-- The entries a slot's header counts as appended, and as refilled. -/
def State.slotCount (s : State) (o : Nat) : Nat := s.mem.le 0 (o + 8) 4
def State.slotHead (s : State) (o : Nat) : Nat := s.mem.le 0 (o + 12) 4

/-- The slots no extended queue holds. -/
def Facet.freeSlots (x : Facet) : List Nat := (List.range 8).filter fun i => !(x.ext.any fun e => e.2 = i)

/-- Whether appending the full queues of a region fits: a free slot for each not extended, and no slot overflows (R112). -/
def State.spillFits (s : State) (f r : Nat) : Bool :=
  let x := s.fac f
  let full := x.fullQueues r
  let fresh := full.filter fun k => (kget x.ext k).isNone
  full ≠ [] && decide (fresh.length ≤ x.freeSlots.length) &&
    full.all fun k =>
      let n := match kget x.ext k with
        | some i => s.slotCount (spillOff f x i)
        | none => 0
      decide (64 + (n + (klist x.inq k).length) * entSize (queueKind (k % 8)) ≤ x.slotSize)

/-- R112: every queue, buffer and spill slot of the facet is emptied and the pipelines drained. -/
def Facet.emptied (x : Facet) : Facet :=
  { x with inq := [], head := [], cred := [], outq := [], swb := [], steer := [], fifIn := [], fifOut := [], fly := [],
           fifo := [], ext := [], spill := none }

/-- The running tile ends with a status (R147): it waits to be reported. -/
def Sqr.endTile (q : Sqr) (st : Nat) : Sqr :=
  match q.run with
  | some (t, _) => { q with run := none, fin := q.fin ++ [(t, st)], ordinal := q.ordinal + 1 }
  | none => q

/-- R112: the unresolved deadlock. -/
def unresolved (f r : Nat) (s : State) : State :=
  let x := s.fac f
  let y := x.emptied
  let y := { y with sq := y.sq.endTile St.internal }
  let s := match x.sq.run with
    | some (_, some e) => s.giveTicket e
    | _ => s
  ((s.setFac f y).bump (C.FCT_DLK_UNRESOLVED + fdi f)).raise E.deadlockUnresolved f (d0 := x.active) (d1 := r)

/-- Whether an address generator of an MU is enabled in the active context. -/
def Facet.agOn (x : Facet) (mu ag : Nat) : Bool := x.unitOn (16 + mu) && tbit (x.word (unitWord (16 + mu) + 8 + 14 * ag) 1) 0

/-- Whether an enabled generator of an MU that is not complete finds the queue entry, output slot or FIFO place it needs. -/
def Facet.agMoves (x : Facet) (u ag : Nat) : Bool :=
  let b := unitWord u + 8 + 14 * ag
  let ctl := x.word b 1
  let mode := bits ctl 2 1
  let st := kgetD x.ags ((u - 16) * 4 + ag) ⟨0, false⟩
  x.agOn (u - 16) ag && !st.done &&
    (if mode = 1 then x.queue (qKey u (bits ctl 5 3)) ≠ []
     else if mode = 0 then x.outRoom u (bits ctl 7 6)
     else if mode = 2 then x.queue (qKey u (bits ctl 5 3)) ≠ [] && decide ((klist x.fifo ((u - 16) * 2 + ag / 2)).length < x.word (b + 2) 2)
     else x.outRoom u (bits ctl 7 6) && klist x.fifo ((u - 16) * 2 + ag / 2) ≠ [])

/-- Whether the region has stopped (R109): nothing of it can fire, and something waits in it. -/
def State.regionStopped (s : State) (f r : Nat) : Bool :=
  let x := s.fac f
  (x.regionUnits r).all (fun u => !s.canFire f u && (decide (u < 16) || (List.range 4).all fun a => !x.agMoves u a)) &&
    ((x.regionQueues r).any (fun k => x.queue k ≠ []) ||
      (x.regionUnits r).any fun u => (List.range 4).any fun o => klist x.outq (oKey u o) ≠ [])

/-- DEADLOCK_DETECT (R109): the counter of a monitored, stopped region reaches its threshold. -/
def deadlockDetect (f r : Nat) (s : State) : State :=
  let x := s.fac f
  if decide (f < 72) && decide (1 ≤ r) && decide (r < 8) && tbit (x.word 2 1) r && s.flag F.FCT_DLK_enable (fdi f) &&
      !s.frozen f && s.regionStopped f r then
    if s.spillFits f r then s.setFac f { x with spill := some r } else unresolved f r s
  else s

/-- DEADLOCK_DETECT (R109). -/
def execDeadlockDetect (f region : Nat) (s : State) : Out := .next (s.alive fun s => deadlockDetect f region s)

/-- Appends one full queue to its slot (R110, R111). -/
def spillQueue (f : Nat) (s : State) (k : Nat) : State :=
  let x := s.fac f
  let kind := queueKind (k % 8)
  let i := match kget x.ext k with
    | some i => i
    | none => x.freeSlots.headD 0
  let o := spillOff f x i
  let isNew := (kget x.ext k).isNone
  let cnt := if isNew then 0 else s.slotCount o
  let spills := if isNew then 0 else s.mem.le 0 (o + 16) 8
  let es := klist x.inq k
  let qn := if k % 8 < 4 then k % 8 else if k % 8 < 6 then k % 8 - 4 else k % 8 - 6
  let hdr := toBytes 2 f ++ toBytes 1 x.active ++ toBytes 1 (k / 8) ++ toBytes 1 kind ++ toBytes 1 qn ++ toBytes 2 0 ++
    toBytes 4 (cnt + es.length) ++ toBytes 4 (if isNew then 0 else s.slotHead o) ++ toBytes 8 (spills + 1) ++ List.replicate 40 0
  let s := (s.twrite 0 o hdr).twrite 0 (o + 64 + cnt * entSize kind) (es.map entBytes).flatten
  s.setFac f { x with inq := kput x.inq k [], cred := kset x.cred k 16, ext := kset x.ext k i }

/-- SPILL_COMPLETE (R110). -/
def spillComplete (f : Nat) (s : State) : State :=
  match (s.fac f).spill with
  | none => s
  | some r =>
    let s := ((s.fac f).fullQueues r).foldl (spillQueue f) s
    (s.setFac f { s.fac f with spill := none }).bump (C.FCT_DLK_SPILLS + fdi f)

/-- SPILL_COMPLETE (R110). -/
def execSpillComplete (f : Nat) (s : State) : Out := .next (s.alive fun s => spillComplete f s)

/-- The spill area in effect follows its register once no queue is extended (R118). -/
def State.settleArea (s : State) (f : Nat) : State :=
  let x := s.fac f
  if x.ext = [] then s.setFac f { x with area := s.rd (fctOff f 0x1C) } else s

/-- SPILL_REFILL (R111): one entry moves from the slot to the 2-entry head buffer; an empty slot is freed. An entry of a
poisoned line is poisoned (R114). -/
def spillRefill (f k : Nat) (s : State) : State :=
  let x := s.fac f
  match kget x.ext k with
  | none => s
  | some i =>
    let o := spillOff f x i
    let kind := queueKind (k % 8)
    let h := s.slotHead o
    if 2 ≤ (klist x.head k).length ∨ x.spill.isSome then s
    else if s.slotCount o ≤ h then (s.setFac f { x with ext := kdel x.ext k }).settleArea f
    else
      let a := o + 64 + h * entSize kind
      let e := entOf kind (s.mem.read 0 a (entSize kind))
      let e := if s.mem.poisoned 0 a (entSize kind) then { e with poison := true } else e
      let s := s.twrite 0 (o + 12) (toBytes 4 (h + 1))
      let y := { x with head := kput x.head k (klist x.head k ++ [e]) }
      if s.slotCount o ≤ h + 1 then (s.setFac f { y with ext := kdel y.ext k }).settleArea f else s.setFac f y

/-- SPILL_REFILL (R111). -/
def execSpillRefill (f queue : Nat) (s : State) : Out := .next (s.alive fun s => spillRefill f queue s)

/-! ### Contexts (R101 to R108) -/

/-- Whether the facet is quiescent (R106). -/
def Facet.quiescent (x : Facet) : Bool :=
  x.inq.isEmpty && x.head.isEmpty && x.outq.isEmpty && x.swb.isEmpty && x.steer.isEmpty && x.fifo.isEmpty && x.fly.isEmpty &&
    x.ext.isEmpty && x.fifIn.isEmpty && (match x.ring with
      | some r => r.units.all fun u => u.2.2.2 ≠ 0
      | none => true)

/-- A selector code's validity at a switch (R91). -/
def selOk (sw steerMode code : Nat) : Bool :=
  if code < 8 then facing sw code ≠ .nothing
  else if code = 8 then true
  else if code = 9 then decide (steerMode = 3)
  else decide (code = 0xF)

/-- Whether an image's switch word passes R91 and R105. -/
def switchOk (img : List Byte) (sw : Nat) : Bool :=
  let o := 0x40 + 16 * sw
  let w := leAt img (o + 12) 4
  let mode := w % 4
  let port := fun p => decide (p < 8) && facing sw p ≠ .nothing
  ((List.range 3).all fun n => (List.range 8).all fun q => selOk sw mode (bits (leAt img (o + 4 * n) 4) (4 * q + 3) (4 * q))) &&
    decide (w / 2 ^ 16 = 0) && (decide (mode = 0) || (port (bits w 6 3) && port (bits w 14 11) && (decide (mode ≠ 2) || port (bits w 10 7))))

/-- Whether an image's CU word keeps the form of R102 and R103. -/
def cuFormOk (img : List Byte) (u : Nat) : Bool :=
  let o := 0x280 + 64 * u
  let b := fun i => leAt img (o + i) 1
  decide (b 1 < 16) && decide (b 2 < 32) && decide (b 3 < 64) && decide (b 4 % 16 ≤ 0xC) && decide (b 4 / 16 ≤ 0xC) &&
    decide (b 5 % 16 ≤ 0xC) && decide (bits (b 5) 5 4 ≠ 3) && decide (b 6 < 32) && decide (b 7 % 64 ≤ 0xA) && decide (b 7 / 64 ≠ 3) &&
    decide (leAt img (o + 16) 2 < 512) && decide (leAt img (o + 20) 44 = 0)

/-- Whether an enabled CU's fields lie in the ranges of R102. -/
def cuRangeOk (img : List Byte) (u : Nat) : Bool :=
  let o := 0x280 + 64 * u
  let k := leAt img (o + 6) 1
  let cnt := leAt img (o + 18) 2
  let base := leAt img (o + 16) 2
  !tbit (leAt img (o + 2) 1) 3 ||
    ((if tbit (leAt img (o + 3) 1) 4 then decide (k = 0) else decide (1 ≤ k) && decide (k ≤ 16)) &&
      decide (leAt img (o + 8) 4 < 0x10000) && decide (leAt img (o + 8) 4 % 128 = 0) && decide (leAt img (o + 12) 4 % 128 = 0) &&
      decide (1 ≤ cnt) && decide (base + cnt ≤ 512))

/-- Whether an image's MU word keeps the form of R104: reserved bytes, and FIFO modes only on a FIFO pair with matching
depth and base (R88). -/
def muFormOk (img : List Byte) (m : Nat) : Bool :=
  let o := 0x680 + 64 * m
  let ctl := fun a => leAt img (o + 8 + 14 * a) 1
  let mode := fun a => bits (ctl a) 2 1
  let on := fun a => tbit (ctl a) 0
  let fifoOk := fun a =>
    let q := if a % 2 = 0 then a + 1 else a - 1
    if on a && decide (2 ≤ mode a) then
      decide (mode a = 2 + a % 2) && on q && decide (mode q = 2 + q % 2) &&
        decide (leAt img (o + 8 + 14 * a + 2) 6 = leAt img (o + 8 + 14 * q + 2) 6)
    else decide (leAt img (o + 8 + 14 * a + 2) 2 = 0)
  decide (leAt img (o + 1) 1 < 16) && decide (leAt img (o + 2) 1 < 32) && decide (leAt img (o + 3) 5 = 0) &&
    (List.range 4).all fun a => decide (leAt img (o + 8 + 14 * a + 8) 6 = 0) && fifoOk a

/-- Whether an enabled generator's fields lie in the ranges of R104 and R124. -/
def muRangeOk (img : List Byte) (m : Nat) : Bool :=
  let o := 0x680 + 64 * m
  (List.range 4).all fun a =>
    let b := o + 8 + 14 * a
    let ctl := leAt img b 1
    let depth := leAt img (b + 2) 2
    let base := leAt img (b + 4) 4
    !tbit ctl 0 || (decide (leAt img (b + 1) 1 < 32) && (decide (bits ctl 2 1 < 2) ||
      (decide (16 ≤ depth) && decide (depth ≤ 5120) && decide (base % 128 = 0) && decide (base + 128 * depth ≤ 0xA0000))))

/-- The first failing check of an image (R105), in the order of R13. -/
def imageStatus (img : List Byte) : Option Nat :=
  let mon := leAt img 2 1
  let names := fun r => ((List.range 16).map fun u => leAt img (0x282 + 64 * u) 1 % 8).contains r ||
    ((List.range 8).map fun m => leAt img (0x682 + 64 * m) 1 % 8).contains r
  firstOf
    [ (decide (leAt img 0 2 ≠ 1) || tbit mon 0 || decide (leAt img 3 5 ≠ 0) || decide (leAt img 16 48 ≠ 0) ||
        decide (leAt img 0x270 16 ≠ 0) || decide (leAt img 0x880 1920 ≠ 0), St.format)
    , (!(List.range 35).all (switchOk img) || !(List.range 16).all (cuFormOk img) || !(List.range 8).all (muFormOk img), St.format)
    , ((List.range 8).any fun r => decide (r ≠ 0) && tbit mon r && !names r, St.format)
    , (!(List.range 16).all (cuRangeOk img) || !(List.range 8).all (muRangeOk img), St.range) ]

/-- Sets the status of the last context command. -/
def State.ctxStatus (s : State) (f st : Nat) : State := s.setFld F.FCT_CTX_STATUS_status st (fdi f)

/-- The BAR0 image of a context window (R122). -/
def windowOff (f slot : Nat) : Nat := fctOff f (0x10000 + 0x1000 * slot)

/-- The refusal of a LOAD of slot `t` (R108). (DEDUCED: log entry 36) -/
def Facet.loadRefusal (x : Facet) (t : Nat) : Option Nat :=
  let same := match x.load with
    | some l => decide (l.slot = t)
    | none => false
  let pend := match x.pend with
    | some p => decide (p.1 = t)
    | none => false
  if decide (x.active = t) || pend || same then some St.state else if x.load.isSome then some St.busy else none

/-- A LOAD begins: the image is read into the staging buffer, from memory or from the slot's own window. -/
def startLoad (f slot addr : Nat) (bySeq : Bool) (s : State) : State :=
  let x := s.fac f
  if addr = windowOff f slot then s.setFac f { x with load := some ⟨slot, addr, bySeq, none, x.ctxBytes slot 0 4096⟩ }
  else
    let r := s.vread addr 4096
    let st := if !r.good then some St.range else if r.bad then some St.uncorrected else none
    (s.vcount addr 4096 f).setFac f { x with load := some ⟨slot, addr, bySeq, st, r.bytes⟩ }

/-- A LOAD command of slot `t` from `addr`. (DEDUCED: log entry 36) -/
def loadCmd (f t addr : Nat) (bySeq : Bool) (s : State) : State :=
  match (s.fac f).loadRefusal t with
  | some st => s.ctxStatus f st
  | none => startLoad f t addr bySeq s

/-- The address in FCT_CTX_ADDR. -/
def State.ctxAddrReg (s : State) (f : Nat) : Nat := s.fld64 F.FCT_CTX_ADDR_LO_addr F.FCT_CTX_ADDR_HI_addr (fdi f) % 2 ^ 52

/-- A context command by its source: a register write, whose slot is an expert field (R120), is refused while a program
runs (R144). -/
def byCtxSource (src : CtxSource) (f slot : Nat) (k : Bool → Nat → State → State) (s : State) : State :=
  if 72 ≤ f then s
  else
    match src with
    | .reg org =>
      s.gated org (fctOff f 8) fun s =>
        let a := s.expertArg org (fctOff f 8) (slot % 4)
        if (a.2.fac f).sq.running then a.2.ctxStatus f St.state else k false a.1 a.2
    | .sequencer => k true (slot % 4) s

/-- The context address of the instruction in hand. -/
def Facet.curCtxAddr (x : Facet) : Nat :=
  match x.sq.cur with
  | some i => i.i.ctxAddr
  | none => 0

/-- CONTEXT_LOAD (R108). -/
def execContextLoad (src : CtxSource) (f slot : Nat) (s : State) : Out :=
  .next (s.on fun s => byCtxSource src f slot (fun bySeq t s => loadCmd f t (if bySeq then (s.fac f).curCtxAddr else s.ctxAddrReg f) bySeq s) s)

/-- The image of a slot replaced. -/
def Facet.storeImage (x : Facet) (slot : Nat) (img : List Byte) : Facet := { x with slots := cellsWrite 0 x.slots (4096 * slot) img }

/-- CONTEXT_LOAD_DONE (R105): the checks end; the image is committed in one go or the slot stays. -/
def contextLoadDone (f : Nat) (s : State) : State :=
  let x := s.fac f
  match x.load with
  | none => s
  | some l =>
    let x := { x with load := none }
    let st := match l.status with
      | some st => some st
      | none => imageStatus l.image
    match st with
    | some st =>
      let x := if l.bySeq then { x with sq := { x.sq with own := worse x.sq.own st } } else x
      (s.setFac f x).ctxStatus f st
    | none =>
      let x := { x.storeImage l.slot l.image with valid := x.valid.set l.slot true, source := x.source.set l.slot l.addr }
      (s.setFac f x).ctxStatus f St.done

/-- Whether a slot holds a valid image. -/
def Facet.isValid (x : Facet) (slot : Nat) : Bool := nth x.valid slot false

/-- A SWITCH command to slot `t` (R108). -/
def switchCmd (f t : Nat) (bySeq : Bool) (s : State) : State :=
  let x := s.fac f
  if !x.isValid t then s.ctxStatus f St.state
  else if x.active = t then s.ctxStatus f St.done
  else if x.pend.isSome then s.ctxStatus f St.busy
  else s.setFac f { x with pend := some (t, bySeq) }

/-- CONTEXT_SWITCH (R108). -/
def execContextSwitch (src : CtxSource) (f slot : Nat) (s : State) : Out :=
  .next (s.on fun s => byCtxSource src f slot (fun bySeq t s => switchCmd f t bySeq s) s)

/-- CONTEXT_SWITCH_EFFECT (R106): in the first quiescent cycle the pending slot governs and all credits are 16. -/
def switchEffect (f : Nat) (s : State) : State :=
  let x := s.fac f
  match x.pend with
  | none => s
  | some (t, _) =>
    if x.quiescent && !s.frozen f then
      let x := { x with active := t, pend := none, cred := [], ags := [], recent := t :: (x.active :: x.recent).filter (· ≠ t) }
      ((s.setFac f x).bump (C.FCT_CTX_SWITCHES + fdi f)).ctxStatus f St.done
    else s

/-- An INVALIDATE command of slot `t` (R108). -/
def invalidateCmd (f t : Nat) (s : State) : State :=
  let x := s.fac f
  let busy := (match x.load with
    | some l => decide (l.slot = t)
    | none => false) || (match x.pend with
    | some p => decide (p.1 = t)
    | none => false)
  if decide (x.active = t) || busy then s.ctxStatus f St.state
  else (s.setFac f { x with valid := x.valid.set t false }).ctxStatus f St.done

/-- CONTEXT_INVALIDATE (R108). -/
def execContextInvalidate (src : CtxSource) (f slot : Nat) (s : State) : Out :=
  .next (s.on fun s => byCtxSource src f slot (fun _ t s => invalidateCmd f t s) s)

/-- A write to a context window (R122): four bytes of the slot, which then waits for a LOAD to be valid. (DEDUCED: log entry 36) -/
def contextWindowWrite (org : Originator) (f slot off data : Nat) (s : State) : State :=
  if 72 ≤ f ∨ 4 ≤ slot ∨ 4096 ≤ off then s
  else
    let a := windowOff f slot + off / 4 * 4
    s.gated org a fun s =>
      let x := s.fac f
      if (x.loadRefusal slot) = some St.state then s.accessEvent org a 6
      else s.setFac f { x with slots := cellsWrite 0 x.slots (4096 * slot + off / 4 * 4) (toBytes 4 data), valid := x.valid.set slot false }

/-- CONTEXT_WINDOW_WRITE (R122). -/
def execContextWindowWrite (org : Originator) (f slot off data : Nat) (s : State) : Out :=
  .next (s.on fun s => contextWindowWrite org f slot off data s)

/-! ### The spill area (R113, R288) -/

/-- Whether two ranges of units overlap. -/
def overlap (a n b m : Nat) : Bool := decide (0 < n) && decide (0 < m) && decide (a < b + m) && decide (b < a + n)

/-- Whether an area of facet `f` would overlap another facet's of its die, or the tier-0 share of a context that is not
ABSENT. -/
def State.spillClash (s : State) (f base size : Nat) : Bool :=
  ((List.range 36).any fun i =>
    let g := f / 36 * 36 + i
    decide (g ≠ f) && overlap base size (s.fld F.FCT_SPILL_base (fdi g)) (s.fld F.FCT_SPILL_size (fdi g))) ||
  (List.range 16).any fun c =>
    decide (s.fld F.RES_CTX_STATE_state (0x80 * c) ≠ 0) &&
      overlap base size (s.fld F.RES_CTX_T0_base (0x80 * c)) (s.fld F.RES_CTX_T0_size (0x80 * c))

/-- A write of FCT_SPILL (R113, R120). -/
def fctSpillWrite (org : Originator) (f value : Nat) (s : State) : State :=
  if 72 ≤ f then s
  else
    let o := fctOff f 0x1C
    s.gated org o fun s =>
      let base := bits value 10 0
      let size := bits value 21 16
      if 32 < size ∨ 2048 < base + size then s.accessEvent org o 2
      else if s.spillClash f base size then s.accessEvent org o 6
      else (s.wr o (base + size * 2 ^ 16)).settleArea f

/-- FCT_SPILL_WRITE (R113). -/
def execFctSpillWrite (org : Originator) (f value : Nat) (s : State) : Out := .next (s.on fun s => fctSpillWrite org f value s)

end Sys2Proof.Machine
end

