-- ==== Sys2Proof/Machine/Agen.lean ====
section
/-!
DEFINITION. Loop descriptors and address generators (R124 to R132), with the landing ring a generator may be bound to
(R283).
-/
namespace Sys2Proof.Machine

/-! ### Descriptors (R125, R126) -/

/-- The dimension at level `l` (from 1), 15 for none. -/
def descDim (d : List Byte) (l : Nat) : Nat := bits (leAt d 4 3) (4 * l - 1) (4 * l - 4)

/-- The dimensions used, innermost first. -/
def descDims (d : List Byte) : List Nat := ((List.range 6).map fun i => descDim d (i + 1)).takeWhile (· ≠ 15)

/-- Stored bound, extent, stride and source of a dimension. -/
def descBound (d : List Byte) (i : Nat) : Nat := leAt d (16 + 8 * i) 2
def descExtent (d : List Byte) (i : Nat) : Nat := leAt d (18 + 8 * i) 2
def descStride (d : List Byte) (i : Nat) : Nat := leAt d (20 + 8 * i) 4
def descSrc (d : List Byte) (i : Nat) : Nat := bits (leAt d 10 2) (2 * i + 1) (2 * i)

/-- The check of a descriptor (R126, R127): REJ_FORMAT where it fails. -/
def descOk (d : List Byte) : Bool :=
  let dims := descDims d
  let w := leAt d 0 4
  let half := leAt d 12 4
  let mode := bits w 25 24
  decide (mode ≠ 3) && decide (bits w 31 26 = 0) && decide (dims ≠ []) && dims.all (· < 6) && decide dims.Nodup &&
    ((List.range 6).all fun i => decide (i < dims.length) || decide (descDim d (i + 1) = 15)) &&
    ((List.range 6).all fun i => dims.contains i ||
      (decide (descBound d i = 0) && decide (descExtent d i = 0) && decide (descStride d i = 0))) &&
    ((List.range 6).all fun i => decide (descSrc d i ≠ 3)) && decide (leAt d 7 1 < 2) && decide (leAt d 8 1 < 128) &&
    decide (leAt d 9 1 < 8) && decide (bits (leAt d 10 2) 15 12 = 0) && decide (half % 64 = 0) &&
    (decide (mode = 1) || decide (half = 0)) &&
    ((List.range 6).all fun i => decide (descSrc d i ≠ 0) || decide (descExtent d i ≤ descBound d i))

/-- The descriptor an entry of an MU's table holds; it reads as zero where nothing was written. -/
def Facet.descAt (x : Facet) (mu e : Nat) : List Byte := padTo 64 (klist x.desc (mu * 32 + e))

/-! ### Tile axes (R127, R137) -/

/-- Tile rows and columns of an instruction. -/
def Issued.tm (i : Issued) : Nat := i.i.tileM * 8
def Issued.tn (i : Issued) : Nat := i.i.tileN * 128

/-- Tiles across N. -/
def Issued.nTiles (i : Issued) : Nat := if i.i.op = 1 then ceilDiv i.n i.tn else 1

/-- The rows of a grouped entry (R138). -/
def State.entryRows (s : State) (i : Issued) (tile : Nat) : Nat := s.vle (i.i.b + 32 * tile + 24) 2

/-- The padded and valid size of an axis for a tile: 0 M, 1 N, 2 K, 3 entry rows. -/
def State.tileAxis (s : State) (i : Issued) (tile a : Nat) : Nat × Nat :=
  match a with
  | 0 => (i.tm, min i.tm (i.m - tile / i.nTiles * i.tm))
  | 1 => if i.i.op = 1 then (i.tn, min i.tn (i.n - tile % i.nTiles * i.tn)) else (ceilDiv i.n i.tn * i.tn, i.n)
  | 2 => (ceilDiv i.k 128 * 128, i.k)
  | _ => if i.i.grouped then (i.tm, min i.tm (s.entryRows i tile)) else (i.tm, min i.tm (i.m - tile * i.tm))

/-- The bound and extent of a dimension in a facet now (R127). -/
def State.dimSize (s : State) (f : Nat) (d : List Byte) (i : Nat) : Nat × Nat :=
  let q := (s.fac f).sq
  let b := descBound d i
  match descSrc d i with
  | 0 => (b, descExtent d i)
  | 1 => (nth q.xs (b % 16) 0, nth q.xs (b % 16) 0)
  | _ =>
    match q.cur, q.run with
    | some c, some (t, _) =>
      let p := s.tileAxis c t.tile (b % 4)
      (ceilDiv p.1 (2 ^ bits b 7 4), ceilDiv p.2 (2 ^ bits b 7 4))
    | _, _ => (0, 0)

/-! ### Trips (R128 to R131) -/

/-- The indices of a trip, innermost first, from the bounds. -/
def tripIdx : List Nat → Nat → List Nat
  | [], _ => []
  | b :: bs, t => t % b :: tripIdx bs (t / b)

/-- The product of a list. -/
def prod : List Nat → Nat
  | [] => 1
  | b :: bs => b * prod bs

/-- A stride as a signed number. -/
def strideInt (v : Nat) : Int := if v < 2 ^ 31 then v else (v : Int) - 2 ^ 32

/-- What one trip does: its address, whether it is padded, and its control token if it emits one. -/
structure Trip where
  addr : Nat
  padded : Bool
  tok : Option Nat
  last : Bool
  deriving DecidableEq, Repr

/-- The base after base_mode (R125). -/
def descBase (d : List Byte) (xs : List Nat) (ordinal : Nat) : Nat :=
  let w := leAt d 0 4
  let b := w % 2 ^ 20
  match bits w 25 24 with
  | 1 => b + ordinal % 2 * leAt d 12 4
  | 2 => b + nth xs (bits w 23 20) 0 % 2 ^ 20
  | _ => b

/-- The levels a trip closes, from 1. -/
def closedLevels : List Nat → List Nat → Nat → List Nat
  | i :: is, b :: bs, l => if i + 1 = b then l :: closedLevels is bs (l + 1) else []
  | _, _, _ => []

/-- Trip `t` of a descriptor with its dimensions' sizes (R128, R129). -/
def tripOf (d : List Byte) (xs : List Nat) (ordinal : Nat) (sizes : List (Nat × Nat)) (t : Nat) : Trip :=
  let dims := descDims d
  let bounds := sizes.map (·.1)
  let ix := tripIdx bounds t
  let off : Int := ((dims.zip ix).map fun p => strideInt (descStride d p.1) * p.2).foldl (· + ·) 0
  let padded := (ix.zip sizes).any fun p => decide (p.2.2 ≤ p.1)
  let last := decide (t + 1 = prod bounds)
  let closed := closedLevels ix bounds 1
  let emit := leAt d 8 1
  let lv := (closed.filter fun l => tbit emit (l - 1)).foldl max 0
  let emits := decide (lv ≠ 0) || (last && tbit emit 6)
  ⟨((descBase d xs ordinal : Int) + off).toNat, padded,
    if emits then some (bit (!padded) + 2 * lv + 16 * (leAt d 9 1 % 8) + 128 * bit (last && tbit emit 6)) else none, last⟩

/-- The control byte of a generator in the active context, and its descriptor index. -/
def Facet.agCtl (x : Facet) (mu ag : Nat) : Nat := x.word (unitWord (16 + mu) + 8 + 14 * ag) 1
def Facet.agDesc (x : Facet) (mu ag : Nat) : Nat := x.word (unitWord (16 + mu) + 8 + 14 * ag + 1) 1
def Facet.agDepth (x : Facet) (mu ag : Nat) : Nat := x.word (unitWord (16 + mu) + 8 + 14 * ag + 2) 2
def Facet.agFifo (x : Facet) (mu ag : Nat) : Nat := x.word (unitWord (16 + mu) + 8 + 14 * ag + 4) 4

/-- A generator's run. -/
def Facet.agRun (x : Facet) (mu ag : Nat) : Ag := kgetD x.ags (mu * 4 + ag) ⟨0, false⟩

/-- Marks a generator's run. -/
def Facet.setAg (x : Facet) (mu ag : Nat) (a : Ag) : Facet := { x with ags := kset x.ags (mu * 4 + ag) a }

/-- Appends to an output buffer. -/
def Facet.emitOut (x : Facet) (unit o : Nat) (e : QEnt) : Facet :=
  { x with outq := kput x.outq (oKey unit o) (klist x.outq (oKey unit o) ++ [e]) }

/-- The entry a generator reads at a tier-0 offset: 128 bytes as 32 lanes, or a 4-byte scalar, poisoned with its lines. -/
def State.agRead (s : State) (off : Nat) (scalar : Bool) : QEnt :=
  if scalar then mkEnt 1 [s.mem.le 0 off 4] 1 (s.mem.poisoned 0 off 4)
  else vecEnt ((List.range 32).map fun l => s.mem.le 0 (off + 4 * l) 4) (2 ^ 32 - 1) (s.mem.poisoned 0 off 128)

/-- The bytes of an entry as memory holds them. -/
def QEnt.memBytes (e : QEnt) : List Byte := (e.lanes.map (toBytes 4)).flatten

/-- Where a bound generator's stream offset leads (R283): the MU byte, a wait, or the tile's refusal. -/
inductive RingRead where
  | byte (a : Nat)
  | wait
  | refuse (st : Nat)
  deriving DecidableEq, Repr

/-- Whether a stream offset lies in a unit of a held tile. -/
def Ring.covers (r : Ring) (tile off : Nat) : Bool :=
  match kget r.lens tile with
  | some l => decide (off % 65536 < nth l (off / 65536) 0)
  | none => true

/-- The unit state of a stream offset in the ring. -/
def Ring.read (r : Ring) (tile off : Nat) : RingRead :=
  if !r.covers tile off then .refuse St.range
  else match r.units.find? fun u => u.1 = tile && u.2.1 = off / 65536 with
  | none => .wait
  | some u =>
    if u.2.2.2 = 1 then .byte (u.2.2.1 * 65536 + off % 65536)
    else if u.2.2.2 = 0 then .wait
    else .refuse St.state

/-- Frees every unit of the tile before the one read (R283). -/
def Ring.freeBefore (r : Ring) (tile unit : Nat) : Ring :=
  { r with units := r.units.map fun u => if u.1 = tile ∧ u.2.1 < unit ∧ u.2.2.2 = 1 then (u.1, u.2.1, u.2.2.1, 2) else u }

/-- The generator's address for a trip: through the ring where it is bound. -/
def Facet.agPlace (x : Facet) (mu ag : Nat) (addr : Nat) : RingRead :=
  match x.ring, x.sq.run with
  | some r, some (t, _) => if r.mu = mu ∧ r.ag = ag then r.read t.tile addr else .byte addr
  | _, _ => .byte addr

/-- After a bound read, earlier units are freed. -/
def Facet.agFreed (x : Facet) (mu ag : Nat) (addr : Nat) : Facet :=
  match x.ring, x.sq.run with
  | some r, some (t, _) => if r.mu = mu ∧ r.ag = ag then { x with ring := some (r.freeBefore t.tile (addr / 65536)) } else x
  | _, _ => x

/-- One trip of a read stream. -/
def agReadTrip (f mu ag : Nat) (t : Trip) (scalar : Bool) (s : State) : State :=
  let x := s.fac f
  let unit := 16 + mu
  let o := bits (x.agCtl mu ag) 7 6
  let a := x.agRun mu ag
  let next : Ag := ⟨a.trip + 1, t.last⟩
  let put := fun (x : Facet) (e : QEnt) =>
    let x := (x.emitOut unit o e).setAg mu ag next
    match t.tok with
    | some k => x.emitOut unit 3 (mkEnt 2 [k] 1 false)
    | none => x
  if !x.outRoom unit o || (t.tok.isSome && !x.outRoom unit 3) then s.bump (C.FCT_STALL_OUT + fdi f)
  else if t.padded then
    (s.setFac f (put x (if scalar then mkEnt 1 [0] 1 false else vecEnt (List.replicate 32 0) 0 false))).bump (C.FCT_FIRES + fdi f)
  else
    match x.agPlace mu ag t.addr with
    | .byte b => (s.setFac f (put (x.agFreed mu ag t.addr) (s.agRead (muOff f mu b) scalar))).bump (C.FCT_FIRES + fdi f)
    | .wait => s.bump C.TIER_RING_WAIT
    | .refuse st => s.setFac f { x with sq := x.sq.endTile st }

/-- One trip of a write stream. -/
def agWriteTrip (f mu ag : Nat) (t : Trip) (s : State) : State :=
  let x := s.fac f
  let unit := 16 + mu
  let k := qKey unit (bits (x.agCtl mu ag) 5 3)
  let a := x.agRun mu ag
  if t.tok.isSome && !x.outRoom unit 3 then s.bump (C.FCT_STALL_OUT + fdi f)
  else
    match x.pop k with
    | (none, _) => s.bump (C.FCT_STALL_IN + fdi f)
    | (some e, y) =>
      let y := y.setAg mu ag ⟨a.trip + 1, t.last⟩
      let y := match t.tok with
        | some c => y.emitOut unit 3 (mkEnt 2 [c] 1 false)
        | none => y
      let s := (s.setFac f y).bump (C.FCT_FIRES + fdi f)
      let s := if t.padded then s else s.twrite 0 (muOff f mu t.addr) e.memBytes e.poison
      creditCheck f k s

/-- A FIFO-pair write: an entry goes into the circular region while a place is free (R88). (DEDUCED: log entry 34) -/
def agFifoWrite (f mu ag : Nat) (s : State) : State :=
  let x := s.fac f
  let unit := 16 + mu
  let k := qKey unit (bits (x.agCtl mu ag) 5 3)
  let fk := mu * 2 + ag / 2
  let a := x.agRun mu ag
  if x.agDepth mu ag ≤ (klist x.fifo fk).length then s.bump (C.FCT_STALL_OUT + fdi f)
  else
    match x.pop k with
    | (none, _) => s.bump (C.FCT_STALL_IN + fdi f)
    | (some e, y) =>
      let y := { (y.setAg mu ag ⟨(a.trip + 1) % max 1 (x.agDepth mu ag), false⟩) with fifo := kput y.fifo fk (klist y.fifo fk ++ [e]) }
      let s := ((s.setFac f y).bump (C.FCT_FIRES + fdi f)).twrite 0 (muOff f mu (x.agFifo mu ag + 128 * a.trip)) e.memBytes e.poison
      creditCheck f k s

/-- A FIFO-pair read: the oldest held entry leaves (R88). (DEDUCED: log entry 34) -/
def agFifoRead (f mu ag : Nat) (s : State) : State :=
  let x := s.fac f
  let unit := 16 + mu
  let fk := mu * 2 + ag / 2
  let o := bits (x.agCtl mu ag) 7 6
  match klist x.fifo fk with
  | [] => s.bump (C.FCT_STALL_IN + fdi f)
  | e :: l =>
    if x.outRoom unit o then (s.setFac f ({ x with fifo := kput x.fifo fk l }.emitOut unit o e)).bump (C.FCT_FIRES + fdi f)
    else s.bump (C.FCT_STALL_OUT + fdi f)

/-- AG_FIRE (R128): one trip of the generator's descriptor, or one move of its FIFO pair. (DEDUCED: log entry 31) -/
def agFire (f mu ag : Nat) (s : State) : State :=
  let x := s.fac f
  let ctl := x.agCtl mu ag
  let mode := bits ctl 2 1
  let a := x.agRun mu ag
  if 72 ≤ f ∨ 8 ≤ mu ∨ 4 ≤ ag ∨ s.frozen f ∨ a.done then s
  else if !x.agOn mu ag then s
  else if mode = 2 then agFifoWrite f mu ag s
  else if mode = 3 then agFifoRead f mu ag s
  else
    let d := x.descAt mu (x.agDesc mu ag)
    let sizes := (descDims d).map (s.dimSize f d)
    let scalar := tbit (leAt d 7 1) 0
    if sizes.any fun p => p.1 = 0 then
      if tbit (leAt d 8 1) 6 then
        (if x.outRoom (16 + mu) 3 then
          (s.setFac f ((x.setAg mu ag ⟨0, true⟩).emitOut (16 + mu) 3 (mkEnt 2 [16 * (leAt d 9 1 % 8) + 128] 1 false))).bump (C.FCT_FIRES + fdi f)
        else s.bump (C.FCT_STALL_OUT + fdi f))
      else s.setFac f (x.setAg mu ag ⟨0, true⟩)
    else
      let t := tripOf d x.sq.xs x.sq.ordinal sizes a.trip
      if mode = 0 then agReadTrip f mu ag t scalar s else agWriteTrip f mu ag t s

/-- AG_FIRE (R128). -/
def execAgFire (f mu ag : Nat) (s : State) : Out := .next (s.alive fun s => agFire f mu ag s)

/-! ### The descriptor window (R132, R155) -/

/-- Bytes of a list replaced from an index. -/
def spliceBytes (l : List Byte) (i : Nat) (bs : List Byte) : List Byte := l.take i ++ bs ++ l.drop (i + bs.length)

/-- A write to a descriptor window: staged, and with the last word checked and committed or discarded. -/
def descriptorWindowWrite (org : Originator) (f mu off data : Nat) (s : State) : State :=
  if 72 ≤ f ∨ 8 ≤ mu ∨ 2048 ≤ off then s
  else
    let a := fctOff f (0x20000 + 0x800 * mu + off / 4 * 4)
    s.gated org a fun s =>
      let x := s.fac f
      let k := mu * 32 + off / 64
      if !s.expertOk org then s.accessEvent org a 3
      else if x.sq.running then s.accessEvent org a 6
      else
        let base := if (klist x.dstage k) = [] then x.descAt mu (off / 64) else klist x.dstage k
        let d := spliceBytes base (off % 64 / 4 * 4) (toBytes 4 data)
        if off % 64 / 4 = 15 then
          let x := { x with dstage := kdel x.dstage k }
          if descOk d then s.setFac f { x with desc := kset x.desc k d } else (s.setFac f x).accessEvent org a 6
        else s.setFac f { x with dstage := kset x.dstage k d }

/-- DESCRIPTOR_WINDOW_WRITE (R132). -/
def execDescriptorWindowWrite (org : Originator) (f mu off data : Nat) (s : State) : Out :=
  .next (s.on fun s => descriptorWindowWrite org f mu off data s)

end Sys2Proof.Machine
end

