-- ==== Sys2Proof/Machine/HostIf.lean ====
section
/-!
DEFINITION. The host queues (R481 to R489), the PCIe link and D3hot (R476), and the storage ports' links, queue-pair
moves and rates (R490 to R492).
-/
namespace Sys2Proof.Machine

/-! ### Doorbells (R485) -/

/-- The register-access event of BAR2 (R485): reason 7 with the BAR2 offset. -/
def State.bar2Event (s : State) (off : Nat) : State := s.accessEvent .host off 7

/-- Puts SQ `n` into error with the cause of R511. -/
def sqError (n cause : Nat) (s : State) : State :=
  (s.setFld F.HQ_SQ_STATUS_error 1 (qdi n)).raise E.queueError n (d0 := cause)

/-- Puts CQ `n` into error. -/
def cqError (n : Nat) (s : State) : State := (s.setFld F.HQ_CQ_STATUS_error 1 (qdi n)).raise E.queueError n (d0 := 2)

/-- An SQ tail doorbell: accepted, an error for an index at or beyond the size, or discarded. -/
def sqDoorbell (n value : Nat) (s : State) : State :=
  if 1024 ≤ n then s.bar2Event (8 * n)
  else if !s.flag F.HQ_SQ_CFG_enable (qdi n) || decide (65536 ≤ value) then s.bar2Event (8 * n)
  else if s.sqSize n ≤ value then sqError n 0 s
  else s.setSq n { s.sq n with tail := value }

/-- SQ_DOORBELL (R485). -/
def execSqDoorbell (n value : Nat) (s : State) : Out := .next (s.on fun s => sqDoorbell n value s)

/-- Whether a CQ head doorbell releases only entries the device has written. -/
def State.headOk (s : State) (n value : Nat) : Bool :=
  decide (value < s.cqSize n) && decide ((value + s.cqSize n - (s.cq n).head) % s.cqSize n ≤ s.cqHeld n)

/-- A CQ head doorbell: entries released, an error, or discarded. -/
def cqDoorbell (n value : Nat) (s : State) : State :=
  if 1024 ≤ n then s.bar2Event (8 * n + 4)
  else if !s.flag F.HQ_CQ_CFG_enable (qdi n) || decide (65536 ≤ value) || s.flag F.HQ_CQ_STATUS_error (qdi n) then
    s.bar2Event (8 * n + 4)
  else if s.headOk n value then s.setCq n { s.cq n with head := value }
  else cqError n s

/-- CQ_DOORBELL (R485). -/
def execCqDoorbell (n value : Nat) (s : State) : Out := .next (s.on fun s => cqDoorbell n value s)

/-- BAR2_IRREGULAR_ACCESS (R485): a read answers zero; a write that is no 32-bit doorbell, and every access at 0x2000
or above, raises the event; a read of a doorbell offset raises none. -/
def bar2Irregular (write : Bool) (off width : Nat) (s : State) : State :=
  if write then
    if width ≠ 4 ∨ off % 4 ≠ 0 ∨ 0x2000 ≤ off then s.bar2Event off else s
  else
    let s := s.emit (.bar2 0)
    if 0x2000 ≤ off then s.bar2Event off else s

/-- BAR2_IRREGULAR_ACCESS (R485). -/
def execBar2IrregularAccess (write : Bool) (off width _value : Nat) (s : State) : Out := .next (s.on fun s => bar2Irregular write off width s)

/-! ### Enables (R481) -/

/-- Whether an enabled SQ is bound to CQ `n`. -/
def State.boundTo (s : State) (n : Nat) : Bool :=
  s.hq.sqs.any fun e => e.2.cq = n && s.flag F.HQ_SQ_CFG_enable (qdi e.1)

/-- A write of HQ_SQ_CFG that starts or stops an SQ. (DEDUCED: log entry 96) -/
def sqEnable (org : Originator) (n value : Nat) (s : State) : State :=
  let off := 0x810008 + qdi n
  if 1024 ≤ n then s else
  s.gated org off fun s =>
    let cq := bits value 25 16
    let on := tbit value 26
    let was := s.flag F.HQ_SQ_CFG_enable (qdi n)
    if value % 65536 = 0 then s.accessEvent org off 2
    else if on && (!s.flag F.HQ_CQ_CFG_enable (qdi cq) || decide (s.cqSize cq < 2)) then s.accessEvent org off 6
    else
      let s := s.wr off (value % 2 ^ 27)
      if on && !was then
        ((s.setSq n ⟨0, none, s.fld64 F.HQ_SQ_BASE_LO_base F.HQ_SQ_BASE_HI_base (qdi n), value % 65536 + 1, cq⟩).setFld
          F.HQ_SQ_STATUS_head 0 (qdi n)).setFld F.HQ_SQ_STATUS_error 0 (qdi n)
      else if on then s
      else s.setFld F.HQ_SQ_STATUS_error 0 (qdi n)

/-- SQ_ENABLE (R481). -/
def execSqEnable (org : Originator) (n value : Nat) (s : State) : Out := .next (s.on fun s => sqEnable org n value s)

/-- A write of HQ_CQ_CFG that starts or stops a CQ. (DEDUCED: log entry 96) -/
def cqEnable (org : Originator) (n value : Nat) (s : State) : State :=
  let off := 0x830008 + qdi n
  if 1024 ≤ n then s else
  s.gated org off fun s =>
    let on := tbit value 27
    let was := s.flag F.HQ_CQ_CFG_enable (qdi n)
    if value % 65536 = 0 then s.accessEvent org off 2
    else if !on && was && s.boundTo n then s.accessEvent org off 6
    else
      let s := s.wr off (value % 2 ^ 29)
      if on && !was then
        let s := s.setCq n ⟨0, 0, s.fld64 F.HQ_CQ_BASE_LO_base F.HQ_CQ_BASE_HI_base (qdi n), value % 65536 + 1, bits value 26 16, tbit value 28⟩
        s.wr (0x830010 + qdi n) (2 ^ 16)
      else if on then s
      else s.setFld F.HQ_CQ_STATUS_error 0 (qdi n)

/-- CQ_ENABLE (R481). -/
def execCqEnable (org : Originator) (n value : Nat) (s : State) : Out := .next (s.on fun s => cqEnable org n value s)

/-! ### Fetching (R482 to R484, R487) -/

/-- The ops of R483. -/
def opListed (op : Nat) : Bool :=
  (decide (1 ≤ op) && decide (op ≤ 8)) || [0x20, 0x21, 0x28, 0x29, 0x2A, 0x2C, 0x30, 0x31, 0x32, 0x33, 0x34, 0x38, 0x39, 0x40, 0x42, 0x51, 0x52, 0x53, 0x54].contains op

/-- Whether an entry of SQ `n` may be fetched now. -/
def State.fetchable (s : State) (n : Nat) : Bool :=
  s.flag F.HQ_CTRL_enable && s.flag F.HST_LINK_up && !s.hst.d3hot && s.flag F.HQ_SQ_CFG_enable (qdi n) &&
    !s.flag F.HQ_SQ_STATUS_error (qdi n) && decide (s.fld F.HQ_SQ_STATUS_head (qdi n) ≠ (s.sq n).tail) &&
    !s.fenceHeld n && decide (s.committed (s.sq n).cq < s.cqSize (s.sq n).cq - 1)

/-- The SQ whose entry is fetched next: the one whose turn runs while its burst lasts, else the next in round robin. -/
def State.fetchPick (s : State) : Option Nat :=
  if s.hq.taken < s.fld F.HQ_CTRL_burst && s.fetchable s.hq.turn && decide (0 < s.hq.taken) then some s.hq.turn
  else
    match (s.hq.sqs.map (·.1)).find? fun n => decide (s.hq.turn < n) && s.fetchable n with
    | some n => some n
    | none => (s.hq.sqs.map (·.1)).find? fun n => s.fetchable n

/-- Counts the fetch into the turn. -/
def takeTurn (n : Nat) (s : State) : State :=
  { s with hq := { s.hq with turn := n, taken := if s.hq.turn = n ∧ s.hq.taken < s.fld F.HQ_CTRL_burst then s.hq.taken + 1 else 1 } }

/-- The format of an entry: a listed op, zero flags but the fence, zero bytes 73 to 127, and bytes 32 to 63 zero behind
a KVM record (R482, R483). -/
def entryOk (e : List Byte) : Bool :=
  let op := leAt e 0 1
  opListed op && decide (leAt e 72 1 < 2) && decide (leAt e 73 55 = 0) && (decide (8 < op) || decide (leAt e 32 32 = 0))

/-- An entry is fetched: it is in flight, refused at once, or held by its fence until every earlier entry settles. -/
def sqFetchOk (n : Nat) (s : State) : State :=
  let h := s.fld F.HQ_SQ_STATUS_head (qdi n)
  let e := s.hread ((s.sq n).base + 128 * h) 128
  let op := leAt e 0 1
  let tag := leAt e 64 8
  let s := takeTurn n (s.bump C.HQ_FETCHED)
  let s := s.setFld F.HQ_SQ_STATUS_head (if h + 1 = s.sqSize n then 0 else h + 1) (qdi n)
  let s := { s with hq := { s.hq with inflight := s.hq.inflight ++ [(⟨n, tag, op, false⟩ : Inflight)] } }
  match s.queueGate (.queue n tag) with
  | some st => s.complete (.queue n tag) op st
  | none =>
    if !entryOk e then s.complete (.queue n tag) op St.format
    else s.setSq n { s.sq n with hold := if leAt e 72 1 = 1 then some tag else none }

/-- SQ_FETCH (R484). (DEDUCED: log entry 96) -/
def sqFetch (n : Nat) (ok : Bool) (s : State) : State :=
  if s.fetchPick = some n then
    if ok then sqFetchOk n s else sqError n 1 (s.bump C.HST_CPL_TIMEOUT)
  else s

/-- SQ_FETCH (R484). -/
def execSqFetch (n : Nat) (ok : Bool) (s : State) : Out := .next (s.on fun s => sqFetch n ok s)

/-- CQ_COAL_TIMEOUT (R489): coal_time after the first entry not signalled. -/
def coalTimeout (n : Nat) (s : State) : State :=
  if s.flag F.HQ_CQ_CFG_enable (qdi n) && (s.cq n).irqEn && decide ((s.cq n).unsignalled ≠ 0) &&
      decide (s.fld F.HQ_CQ_COAL_coal_time (qdi n) ≠ 0) then s.signalCq n
  else s

/-- CQ_COAL_TIMEOUT (R489). -/
def execCqCoalTimeout (n : Nat) (s : State) : Out := .next (s.on fun s => coalTimeout n s)

/-! ### The PCIe link (R476) -/

/-- PCIE_LINK_UP (R476): the link is up at a rate and width the port supports. (DESIGN CHOICE: log entry 11) -/
def pcieLinkUp (speed width : Nat) (msix : Bool) (s : State) : State :=
  if decide (1 ≤ speed) && decide (speed ≤ 6) && [1, 2, 4, 8, 16].contains width then
    let s := ((s.setFld F.HST_LINK_speed speed).setFld F.HST_LINK_width width).setFld F.HST_LINK_up 1
    { s with hst := { s.hst with msixEn := msix, d3hot := false }, pins := { s.pins with perstN := true } }
  else s

/-- PCIE_LINK_UP (R476). -/
def execPcieLinkUp (speed width : Nat) (msix : Bool) (s : State) : Out := .next (s.on fun s => pcieLinkUp speed width msix s)

/-- D3HOT_ENTRY (R476): the queues fetch nothing from then on. -/
def execD3hotEntry (s : State) : Out := .next (s.on fun s => { s with hst := { s.hst with d3hot := true } })

/-! ### Storage ports (R490 to R492) -/

/-- The byte distance of queue pair `q` of port `p` from the first context. -/
def qpdi (p q : Nat) : Nat := 0x10000 * p + 64 * q

/-- The offset of word `i` of a queue pair's context. -/
def qpOff (p q i : Nat) : Nat := 0x3901000 + qpdi p q + 4 * i

/-- The state code of a queue pair: 0 RESET, 1 RTS, 2 ERROR. -/
def State.qpState (s : State) (p q : Nat) : Nat := bits (s.rd (qpOff p q 0)) 1 0

/-- Sets the state code of a queue pair. -/
def State.setQpState (s : State) (p q st : Nat) : State := s.wr (qpOff p q 0) (setBits (s.rd (qpOff p q 0)) 1 0 st)

/-- Sets the status byte of a queue pair. -/
def State.setQpStatus (s : State) (p q st : Nat) : State := s.wr (qpOff p q 0) (setBits (s.rd (qpOff p q 0)) 31 24 st)

/-- Storage port `p`. -/
def State.ethPort (s : State) (p : Nat) : EthPort := nth s.eth p ⟨false, []⟩

/-- The line rate of a storage port in Mb/s. -/
def lineRate : Nat := 400000

/-- A queue pair's rates. -/
def State.qp (s : State) (p q : Nat) : Qp := kgetD (s.ethPort p).qps q ⟨lineRate, none, none⟩

/-- Replaces a queue pair's rates. -/
def State.setQp (s : State) (p q : Nat) (x : Qp) : State :=
  { s with eth := s.eth.set p { s.ethPort p with qps := kset (s.ethPort p).qps q x } }

/-- ETH_LINK_UP (R490): an enabled port of a configured package comes up. -/
def ethLinkUp (p : Nat) (s : State) : State :=
  if decide (p < 2) && s.flag F.ETH_P_CTRL_enable (0x10000 * p) && s.flag F.GLB_STATUS_config_ready then
    s.setFld F.ETH_P_STATUS_up 1 (0x10000 * p)
  else s

/-- ETH_LINK_UP (R490). -/
def execEthLinkUp (p : Nat) (s : State) : Out := .next (s.on fun s => ethLinkUp p s)

/-- ETH_LINK_DOWN (R490). -/
def ethLinkDown (p : Nat) (s : State) : State := if p < 2 then s.setFld F.ETH_P_STATUS_up 0 (0x10000 * p) else s

/-- ETH_LINK_DOWN (R490). -/
def execEthLinkDown (p : Nat) (s : State) : Out := .next (s.on fun s => ethLinkDown p s)

/-- The status of a move to RTS (R491). (DEDUCED: log entry 16) -/
def State.rtsStatus (s : State) (p q : Nat) : Nat :=
  let w0 := s.rd (qpOff p q 0)
  let mtu := bits w0 10 8
  let t := bits w0 23 16
  let rsv := decide (bits w0 7 4 ≠ 0) || decide (bits (s.rd (qpOff p q 1)) 31 24 ≠ 0) || decide (bits (s.rd (qpOff p q 2)) 31 24 ≠ 0) ||
    decide (bits (s.rd (qpOff p q 9)) 31 6 ≠ 0) || [10, 11, 12, 13, 14, 15].any fun i => decide (s.rd (qpOff p q i) ≠ 0)
  (firstOf
    [ (decide (mtu < 3) || decide (5 < mtu) || decide (t = 0) || rsv, St.format)
    , (decide (31 < t), St.range)
    , (!s.flag F.ETH_P_STATUS_up (0x10000 * p) || decide (s.qpState p q ≠ 0), St.state) ]).getD St.done

/-- QP_TO_RTS (R491). -/
def qpToRts (org : Originator) (p q : Nat) (s : State) : State :=
  if p < 2 ∧ q < 64 then
    s.gated org (qpOff p q 0) fun s =>
      let st := s.rtsStatus p q
      let s := s.setQpStatus p q st
      if st = St.done then (s.setQpState p q 1).setQp p q ⟨lineRate, none, none⟩ else s
  else s

/-- QP_TO_RTS (R491). -/
def execQpToRts (org : Originator) (p q : Nat) (s : State) : Out := .next (s.on fun s => qpToRts org p q s)

/-- QP_RATE_TIMER (R492): 55 µs without a CNP raise the response rate by 8 Gb/s, up to the line rate. -/
def qpRateTimer (p q : Nat) (s : State) : State :=
  if p < 2 ∧ q < 64 then s.setQp p q { s.qp p q with rate := min lineRate ((s.qp p q).rate + 8000) } else s

/-- QP_RATE_TIMER (R492). -/
def execQpRateTimer (p q : Nat) (s : State) : Out := .next (s.on fun s => qpRateTimer p q s)

/-- Whether 50 µs have passed since a stamp (R492). -/
def since50 (now : Nat) : Option Nat → Bool
  | none => true
  | some t => decide (t + 50 ≤ now)

/-- CNP_RECEIVE (R492): halves the rate, at most once per 50 µs, down to 1 Gb/s. -/
def cnpReceive (p q : Nat) (s : State) : State :=
  if p < 2 ∧ q < 64 then
    let s := s.bump (C.ETH_P_CNP + 0x10000 * p)
    let x := s.qp p q
    if since50 s.us x.cut then s.setQp p q { x with rate := max 1000 (x.rate / 2), cut := some s.us } else s
  else s

/-- CNP_RECEIVE (R492). -/
def execCnpReceive (p q : Nat) (s : State) : Out := .next (s.on fun s => cnpReceive p q s)

/-- ETH_FRAME_DISCARD (R490). -/
def execEthFrameDiscard (p : Nat) (s : State) : Out :=
  .next (s.on fun s => if p < 2 then s.bump (C.ETH_P_DISCARDED + 0x10000 * p) else s)

end Sys2Proof.Machine
end

