-- ==== Sys2Proof/Machine/Spi.lean ====
section
/-! DEFINITION. The SPI configuration flash (R497, R498). -/
namespace Sys2Proof.Machine

/-- The flash's capacity in bytes, from the third byte of the JEDEC ID in SPI_INFO. -/
def State.flashSize (s : State) : Nat :=
  let c := bits (s.fld F.SPI_INFO_jedec_id) 23 16
  if c = 0 then 0 else 2 ^ c

/-- The refusal of a SPI command under R498: `rng` is its own range rule. (DESIGN CHOICE: log entry 15) -/
def spiRefusal (org : Originator) (rng : Bool) (s : State) : Option Nat :=
  firstOf
    [ (!s.flag F.GLB_STATUS_config_ready && !s.flag F.GLB_STATUS_config_failed, St.notReady)
    , (!s.flashAuth org, St.auth)
    , (rng, St.range)
    , (s.flag F.SPI_STATUS_busy, St.busy) ]

/-- A SPI command: refused with its status, done at once where it is empty (R7), or started. Missing authority raises
the register-access event as well (R456). (DESIGN CHOICE: log entry 15) -/
def spiCmd (org : Originator) (rng empty : Bool) (op : State → SpiOp) (s : State) : State :=
  if !s.served 0x3B00000 then s
  else match spiRefusal org rng s with
    | some st =>
      let s := if st = St.auth then s.accessEvent org 0x3B00000 5 else s
      s.setFld F.SPI_STATUS_status st
    | none =>
      if empty then s.setFld F.SPI_STATUS_status St.done
      else ({ s with spi := some (op s) }).setFld F.SPI_STATUS_busy 1

/-- The bytes of SPI_BUF. -/
def spiBuf (s : State) (len : Nat) : List Byte :=
  ((List.range 64).flatMap fun i => toBytes 4 (s.rd (0x3B00100 + 4 * i))).take len

/-- SPI_READ (R498). -/
def spiRead (org : Originator) (len : Nat) (s : State) : State :=
  let a := s.fld F.SPI_ADDR_addr
  spiCmd org (decide (256 < len) || decide (s.flashSize < a + len)) (len = 0) (fun _ => .read a len) s

/-- SPI_READ (R498). -/
def execSpiRead (org : Originator) (len : Nat) (s : State) : Out := .next (s.on fun s => spiRead org len s)

/-- SPI_PROGRAM (R498): within one 256-byte page. -/
def spiProgram (org : Originator) (len : Nat) (s : State) : State :=
  let a := s.fld F.SPI_ADDR_addr
  spiCmd org (decide (256 < len) || decide (256 < a % 256 + len) || decide (s.flashSize < a + len)) (len = 0)
    (fun s => .program a (spiBuf s len)) s

/-- SPI_PROGRAM (R498). -/
def execSpiProgram (org : Originator) (len : Nat) (s : State) : Out := .next (s.on fun s => spiProgram org len s)

/-- An aligned erase of `n` bytes. -/
def spiErase (org : Originator) (n : Nat) (s : State) : State :=
  let a := s.fld F.SPI_ADDR_addr
  spiCmd org (decide (a % n ≠ 0) || decide (s.flashSize < a + n)) false (fun _ => .erase a n) s

/-- SPI_ERASE_4K (R498). -/
def execSpiErase4k (org : Originator) (s : State) : Out := .next (s.on fun s => spiErase org 0x1000 s)

/-- SPI_ERASE_64K (R498). -/
def execSpiErase64k (org : Originator) (s : State) : Out := .next (s.on fun s => spiErase org 0x10000 s)

/-- Programming clears bits only. (PRESUMED: log entry 14) -/
def programBytes (old new : List Byte) : List Byte := List.zipWith (· &&& ·) old new

/-- Writes a byte list into SPI_BUF from byte 0, keeping the rest. -/
def fillBuf (l : List Byte) (s : State) : State :=
  let whole := l ++ (spiBuf s 256).drop l.length
  (List.range 64).foldl (fun s i => s.wr (0x3B00100 + 4 * i) (leAt whole (4 * i) 4)) s

/-- What a completed command does. (PRESUMED: log entry 14) -/
def spiEffect (op : SpiOp) (s : State) : State :=
  match op with
  | .read a n => fillBuf (cellsRead flashErased s.mem.flash a n) s
  | .program a d =>
    { s with mem := { s.mem with flash := cellsWrite flashErased s.mem.flash a (programBytes (cellsRead flashErased s.mem.flash a d.length) d) } }
  | .erase a n => { s with mem := { s.mem with flash := s.mem.flash.filter fun c => !(decide (a ≤ c.1) && decide (c.1 < a + n)) } }

/-- SPI_COMMAND_DONE (R498): the flash is ready, or gave no answer or reported a failure. -/
def spiDone (ok : Bool) (s : State) : State :=
  match s.spi with
  | none => s
  | some op =>
    let s := ({ s with spi := none }).setFld F.SPI_STATUS_busy 0
    if ok then (spiEffect op s).setFld F.SPI_STATUS_status St.done else s.setFld F.SPI_STATUS_status St.uncorrected

/-- SPI_COMMAND_DONE (R498). -/
def execSpiCommandDone (ok : Bool) (s : State) : Out := .next (s.on fun s => spiDone ok s)

end Sys2Proof.Machine
end

