-- ==== Sys2Proof/Machine/Events.lean ====
section
/-!
DEFINITION. The event collector (R510 to R519) and the counters' read and clear (R522 to R524).
-/
namespace Sys2Proof.Machine

/-! ### Acceptance (R512, R514) -/

/-- The oldest held event of each agent, in the order raised. -/
def competing : List HeldEvent → List Nat → List HeldEvent
  | [], _ => []
  | h :: l, seen => if seen.contains h.agent then competing l seen else h :: competing l (h.agent :: seen)

/-- R512's order: class FE first, then ascending code, then ascending unit. -/
def beats (a b : HeldEvent) : Bool :=
  decide (b.ev.cls < a.ev.cls) || (decide (a.ev.cls = b.ev.cls) && (decide (a.ev.code < b.ev.code) ||
    (decide (a.ev.code = b.ev.code) && decide (a.ev.unit < b.ev.unit))))

/-- The winner among competing events. -/
def pickEvent : List HeldEvent → Option HeldEvent
  | [] => none
  | h :: l =>
    match pickEvent l with
    | none => some h
    | some g => if beats g h then some g else some h

/-- The 64 bytes of a record (R510). -/
def recordBytes (seq : Nat) (e : EventRec) : List Byte :=
  toBytes 4 seq ++ toBytes 2 e.code ++ toBytes 1 e.cls ++ toBytes 1 e.status ++ toBytes 2 e.unit ++ toBytes 1 e.ctx ++
    toBytes 1 0 ++ toBytes 4 e.rep ++ toBytes 8 e.time ++ toBytes 8 e.d0 ++ toBytes 8 e.d1 ++ List.replicate 24 0

/-- The mask entry of a code; log, MSI-X and alert are fixed at 1 for an FE code (R518). -/
def State.maskOf (s : State) (code : Nat) : Nat :=
  let v := s.rd (maskOff code)
  if eventClass code = 3 then v / 8 * 8 + 7 else v

/-- The records the log ring holds (R515). -/
def State.ringLen (s : State) : Nat := 2 ^ s.fld F.EVT_RING_SIZE_log2

/-- The ring's base, a queue data address. -/
def State.ringBase (s : State) : Nat := s.fld64 F.EVT_RING_LO_base F.EVT_RING_HI_base

/-- Whether the ring is active (R515). -/
def State.ringActive (s : State) : Bool :=
  s.flag F.EVT_CTRL_log_en && decide (s.ringBase ≠ 0) && (decide (s.ringBase / 2 ^ 63 = 1) || s.flag F.HST_LINK_up)

/-- Whether the ring is full (R515). -/
def State.ringFull (s : State) : Bool := (s.evt.tail + 1) % s.ringLen = s.fld F.EVT_RING_HEAD_head % s.ringLen

/-- Whether a record can be written to the ring now. -/
def State.ringRoom (s : State) : Bool := s.ringActive && !s.ringFull

/-- Writes one record at the ring's tail. -/
def State.ringWrite (s : State) (seq : Nat) (e : EventRec) : State :=
  let s := s.qwrite (s.ringBase + 64 * s.evt.tail) (recordBytes seq e)
  let s := { s with evt := { s.evt with tail := (s.evt.tail + 1) % s.ringLen } }
  s.bump C.EVT_LOGGED

/-- One record leaves the early buffer, or the log-lost record is written once it is empty (R515). -/
def State.drainOne (s : State) : State :=
  if s.ringRoom then
    match s.evt.early with
    | (q, e) :: l => ({ s with evt := { s.evt with early := l } }).ringWrite q e
    | [] =>
      if s.evt.lost = 0 then s
      else
        let q := s.evt.seq
        let e : EventRec := ⟨E.logLost, 1, 0, 0xFFFF, 0xFF, 0, s.us, satBits 64 s.evt.lost, 0⟩
        ({ s with evt := { s.evt with lost := 0, seq := (q + 1) % 2 ^ 32 } }).ringWrite q e
  else s

/-- Drains up to `n` records. (DESIGN CHOICE: log entry 19) -/
def State.drain : Nat → State → State
  | 0, s => s
  | n + 1, s => State.drain n s.drainOne

/-- A record whose log bit is set goes to the ring, behind everything that waits; without room to the early buffer of
256; past that it is lost (R515). (DESIGN CHOICE: log entry 19) -/
def State.logRecord (s : State) (seq : Nat) (e : EventRec) : State :=
  let s := State.drain (s.evt.early.length + 1) s
  if s.ringRoom && s.evt.early.isEmpty && decide (s.evt.lost = 0) then s.ringWrite seq e
  else if s.evt.early.length < 256 then { s with evt := { s.evt with early := s.evt.early ++ [(seq, e)] } }
  else (({ s with evt := { s.evt with lost := s.evt.lost + 1 } }).bump C.EVT_LOST).setFld F.EVT_STATUS_overflow 1

/-- The start-up events of R436, whose alert is driven at once (R517). -/
def earlyAlert (code : Nat) : Bool := decide (code = E.imageFallback) || decide (code = E.configurationFailed)

/-- Drives ALERT_N low for a pending alert (R517). -/
def State.alert (s : State) (e : EventRec) : State :=
  let s := (s.setFld F.EVT_ALERT_pending 1).setFld F.EVT_ALERT_classes (s.fld F.EVT_ALERT_classes ||| 2 ^ e.cls)
  if s.flag F.GLB_STATUS_config_ready || s.flag F.GLB_STATUS_config_failed || earlyAlert e.code then
    { s with pins := { s.pins with alertN := false } }
  else s

/-- Delivers an accepted event that is not suppressed (R515 to R517). -/
def State.deliver (s : State) (e : EventRec) : State :=
  let q := s.evt.seq
  let s := { s with evt := { s.evt with seq := (q + 1) % 2 ^ 32, last := some (q, e) } }
  let m := s.maskOf e.code
  let s := if tbit m 0 then s.logRecord q e else s
  let s := if tbit m 1 then s.sendMsix (bits m 14 4) else s
  if tbit m 2 then s.alert e else s

/-- Whether a raise of a code is suppressed in this window (R514). (DESIGN CHOICE: log entry 4) -/
def State.suppress (s : State) (e : EventRec) : Bool := decide (e.cls < 2) && decide (s.evt.rate ≤ kgetD s.evt.used e.code 0)

/-- Accepts one event: suppressed, or a record with the repeats gathered since (R514). -/
def State.acceptEvent (s : State) (h : HeldEvent) : State :=
  let s := { s with evt := { s.evt with held := s.evt.held.erase h } }
  let e := h.ev
  if s.suppress e then
    ({ s with evt := { s.evt with suppressed := kmod s.evt.suppressed e.code 0 (· + (1 + e.rep)) } }).bump C.EVT_THROTTLED (1 + e.rep)
  else
    let e' := { e with rep := satBits 32 (e.rep + kgetD s.evt.suppressed e.code 0) }
    let s := { s with evt := { s.evt with suppressed := kdel s.evt.suppressed e.code,
                                          used := if e.cls < 2 then kmod s.evt.used e.code 0 (· + 1) else s.evt.used } }
    s.deliver e'

/-- The event the collector takes next, if any is held. -/
def State.nextEvent (s : State) : Option HeldEvent := pickEvent (competing s.evt.held [])

/-- EVENT_ACCEPT (R512). -/
def execEventAccept (s : State) : Out :=
  .next (s.on fun s => match s.nextEvent with
    | some h => s.acceptEvent h
    | none => s)

/-- EVENT_RATE_WINDOW (R514, R519): a new 1 ms window; rate_max takes effect. -/
def rateWindow (s : State) : State := { s with evt := { s.evt with used := [], rate := s.fld F.EVT_CTRL_rate_max } }

/-- EVENT_RATE_WINDOW (R514). -/
def execEventRateWindow (s : State) : Out := .next (s.on fun s => rateWindow s)

/-- EVENT_RING_DRAIN (R515): every waiting record that finds room, then the log-lost record. -/
def execEventRingDrain (s : State) : Out := .next (s.on fun s => State.drain (s.evt.early.length + 1) s)

/-- A write of EVT_RING_HEAD (R519): discarded for a head of 2^n or more. -/
def ringHeadWrite (org : Originator) (value : Nat) (s : State) : State :=
  s.gated org 0x500010 fun s =>
    let h := value % 2 ^ 16
    if s.ringLen ≤ h then s.accessEvent org 0x500010 6 else s.setFld F.EVT_RING_HEAD_head h

/-- EVT_RING_HEAD_WRITE (R519). -/
def execEvtRingHeadWrite (org : Originator) (value : Nat) (s : State) : Out := .next (s.on fun s => ringHeadWrite org value s)

/-- MSIX_PENDING_SEND (R516): the pending message of a vector goes out once nothing holds it. -/
def pendingSend (v : Nat) (s : State) : State :=
  if s.hst.pba.contains v && s.msixReady v then
    ({ s with hst := { s.hst with pba := s.hst.pba.filter (· ≠ v) } }).sendMsix v
  else s

/-- MSIX_PENDING_SEND (R516). -/
def execMsixPendingSend (v : Nat) (s : State) : Out := .next (s.on fun s => pendingSend v s)

/-! ### Counters (R523, R524) -/

/-- A `_LO` read: bits [31:0] are returned, bits [47:32] and the sat bit latched for this originator; GLB_US follows
the same rule. -/
def counterLoRead (org : Originator) (off : Nat) (s : State) : State :=
  if s.mayRead org off then
    if s.served off && (isCounterLo off || decide (off = 0x10)) then
      let v := if off = 0x10 then s.us else s.counter off
      let hi := if off = 0x10 then s.us / 2 ^ 32 % 2 ^ 32 else counterHi v
      (s.setLatch org off hi).emit (.readData org off (v % 2 ^ 32))
    else (s.setLatch org off 0).emit (.readData org off 0)
  else s

/-- COUNTER_LO_READ (R523). -/
def execCounterLoRead (org : Originator) (off : Nat) (s : State) : Out := .next (s.on fun s => counterLoRead org off s)

/-- The counters left after a clear of the blocks of a mask (R524). (DEDUCED: log entry 95) -/
def clearCounters (mask : Nat) (m : KMap Nat) : KMap Nat :=
  m.filter fun e => !(tbit (mask % 2 ^ 24) (blockNum e.1))

/-- A write of GLB_CNT_CLEAR (R524). -/
def counterClear (org : Originator) (mask : Nat) (s : State) : State :=
  s.gated org 0x24 fun s => { s with cnts := clearCounters mask s.cnts }

/-- COUNTER_CLEAR (R524). -/
def execCounterClear (org : Originator) (mask : Nat) (s : State) : Out := .next (s.on fun s => counterClear org mask s)

end Sys2Proof.Machine
end

