-- ==== Sys2Proof/Machine/Flags.lean ====
section
/-!
DEFINITION. What an operation flags beside its result: the mod-3 residue (R62), the carry of R57, the ranking key of
R165, and the Lens's width reconciliation (R210).
-/
namespace Sys2Proof.Machine

/-- The residue of R62. -/
def residue (x : Nat) : Nat := x % 3

/-- R57 for one channel: from the carry (BF16), the exact value and the step `2^ex`, the element, the new carry and
whether the carry clamped. -/
def carryStep (w : Nat) (ex : Int) (c : Nat) (v : Dy) : Int × Nat × Bool :=
  let u := v.add (ffBF16.val c)
  let q := max (elemMin w) (min (elemMax w) (u.quant 0 ex))
  let r := u.add ⟨-q, ex⟩
  let one : Dy := ⟨1, ex⟩
  let hi := !r.le one
  let lo := !(Dy.le one.neg r)
  let r' := if hi then one else if lo then one.neg else r
  (q, (ffBF16.put 0 true r').1, hi || lo)

/-- ord16 of R165. -/
def ord16 (x : Nat) : Nat := if x % 2 ^ 16 < 2 ^ 15 then x % 2 ^ 16 + 2 ^ 15 else 2 ^ 16 - 1 - x % 2 ^ 16

/-- The inverse of ord16. -/
def ord16Inv (y : Nat) : Nat := if 2 ^ 15 ≤ y % 2 ^ 16 then y % 2 ^ 16 - 2 ^ 15 else 2 ^ 16 - 1 - y % 2 ^ 16

/-- The ranking key of R165 from β and λ in BF16. -/
def rankKey (beta lam : Nat) : Nat := ord16 beta * 2 ^ 16 + ord16 lam

/-- G of R49: a gate weight in FP32 as an integer, limited to 0 to 65,536. -/
def gateInt (g : Nat) : Nat :=
  if isNaN g then 0 else if isInf g then (if g < 2 ^ 31 then 65536 else 0)
  else (max 0 (min 65536 ((fval g).quant 0 (-16)))).toNat

/-- The narrowing of one block by the Lens (R210): exponent, elements, and whether it saturated. -/
def lensNarrow (wp wq ex : Nat) (qs : List Int) : Nat × List Int × Bool :=
  let s := wp - wq
  let q1 := qs.map fun q => roundInt 0 q (2 ^ s)
  let isOver := q1.any fun q => decide (elemMax wq < q)
  let e1 := if isOver then ex + s + 1 else ex + s
  let q2 := if isOver then qs.map fun q => roundInt 0 q (2 ^ (s + 1)) else q1
  if 254 < e1 then
    let r := qs.map fun q => Dy.quant 0 ⟨q, ex⟩ 254
    (254, r.map fun q => max (elemMin wq) (min (elemMax wq) q), r.any fun q => !(decide (elemMin wq ≤ q) && decide (q ≤ elemMax wq)))
  else (e1, q2, false)

/-- The record of a page as the Lens delivers it at width `wq` (R210), with the blocks that saturated: widening keeps
every value, narrowing converts each block and raises it to the record's base. -/
def lensDeliver (wp wq : Nat) (bs : List (Nat × List Int)) : List Block × Nat :=
  if wp ≤ wq then (bs.map fun b => ⟨b.1, 0, b.2⟩, 0)
  else
    let r := bs.map fun b => if b.1 = 0 then (0, b.2, false) else lensNarrow wp wq b.1 b.2
    let base := baseOf true (r.map (·.1))
    ((r.zip bs).map fun (x, b) =>
      if x.1 = 0 then ⟨0, 0, b.2.map fun _ => 0⟩
      else if x.1 < base then ⟨base, 0, (quantAt 0 wq base (b.2.map fun q => (⟨q, (b.1 : Int) - 127⟩ : Dy))).1⟩
      else ⟨x.1, 0, x.2.1⟩, (r.filter (·.2.2)).length)

end Sys2Proof.Machine
end

