-- ==== Sys2Proof/Machine/Links.lean ====
section
/-!
DEFINITION. The link layer of the fabric: training and identity (R328 to R330), frames, replay and credits (R331 to R335),
ports going down and coming back (R334, R344, R345, R368), lanes (R394, R395), and the group link map (R341).
-/
namespace Sys2Proof.Machine

/-- The byte distance of port `p`'s registers from port 0. -/
def pdi (p : Nat) : Nat := 0x10000 * p

/-! ### The group link map (R341) -/

/-- The own FAB_GMAP value: the ports in ACTIVE. -/
def State.ownMap (s : State) : Nat := ((List.range 12).map fun p => if s.portActive p then 2 ^ p else 0).foldl (· + ·) 0

/-- Sends LINK_STATE to every other member (R341). -/
def sendLinkState (s : State) : State :=
  (((List.range 9).filter fun m => m ≠ s.me).map fun m => s.self / 9 * 9 + m).foldl (fun s d => s.sendWords d 0x22 [s.ownMap]) s

/-- R345: after a planned change, every pair in use whose route differs drains before it switches. -/
def planRoutes (s : State) : State :=
  s.fab.routes.foldl (fun s e => if s.routeCode e.1 = e.2 then s else s.setFld F.FAB_EPOCH_p_draining 1 (4 * e.1)) s

/-- Sets a port's state; the own map follows and LINK_STATE goes out where it changes. -/
def setPort (p st : Nat) (s : State) : State :=
  let was := s.ownMap
  let s := s.setFld F.FAB_P_STATUS_state st (pdi p)
  if s.ownMap = was then s
  else sendLinkState ((s.setFld F.FAB_GMAP_m_group (s.ownMap % 256) (4 * s.me)).setFld F.FAB_GMAP_m_global (s.ownMap / 256) (4 * s.me))

/-! ### Credits (R333, R368) -/

/-- The credits of each phase of a channel. -/
def State.creditsOf (s : State) (vc : Nat) : Nat :=
  match vc with
  | 0 => s.fld F.FAB_CRED0_c0
  | 1 => s.fld F.FAB_CRED0_c1
  | 2 => s.fld F.FAB_CRED1_c2
  | 3 => s.fld F.FAB_CRED1_c3
  | 4 => s.fld F.FAB_CRED2_c4
  | _ => s.fld F.FAB_CRED2_c5

/-- Whether a channel uses a phase. -/
def phaseUsed (vc ph : Nat) : Bool := decide (vc < 6) && decide (ph < if vc < 2 then 2 else 5)

/-- The key of a channel and phase. -/
def vpKey (vc ph : Nat) : Nat := 8 * vc + ph

/-- The channels and phases in use. -/
def vpAll : List (Nat × Nat) :=
  ((List.range 6).map fun v => ((List.range 5).filter fun h => phaseUsed v h).map fun h => (v, h)).flatten

/-- The flits a port's input buffer holds of a channel and phase. -/
def FabPort.holds (f : FabPort) (vc ph : Nat) : Nat :=
  ((f.inb.filter fun x => x.vc = vc && x.phase = ph).map (·.flits)).foldl (· + ·) 0

/-- The key of a context's reserved credits. -/
def rsvKey (c vc ph : Nat) : Nat := (2 * c + (vc - 2)) * 8 + ph

/-- A context's reservation in a channel. -/
def State.rsvOf (s : State) (c vc : Nat) : Nat :=
  if !s.flag F.FAB_CTX_RSV_held (8 * c) then 0
  else if vc = 2 then s.fld F.FAB_CTX_RSV_r2 (8 * c) else if vc = 3 then s.fld F.FAB_CTX_RSV_r3 (8 * c) else 0

/-- The context whose reservation a packet may spend. -/
def State.rsvCtx (s : State) (h : PktHdr) : Option Nat :=
  if h.job = 0 ∨ ¬(h.vc = 2 ∨ h.vc = 3) then none
  else (List.range 16).find? fun c => decide (s.jobOf c = h.job) && decide (s.rsvOf c h.vc ≠ 0)

/-- Every credit a sender holds of a channel and phase. -/
def FabPort.credAll (f : FabPort) (vc ph : Nat) : Nat :=
  kgetD f.cred (vpKey vc ph) 0 + (if vc = 2 ∨ vc = 3 then ((List.range 16).map fun c => kgetD f.rsv (rsvKey c vc ph) 0).foldl (· + ·) 0 else 0)

/-- One credit returned: the first reservation not full takes it, else it is shared. -/
def takeCredit (s : State) (p vc ph : Nat) : State :=
  let f := s.fport p
  match if vc = 2 ∨ vc = 3 then (List.range 16).find? fun c => decide (kgetD f.rsv (rsvKey c vc ph) 0 < s.rsvOf c vc) else none with
  | some c => s.modPort p fun f => { f with rsv := kmod f.rsv (rsvKey c vc ph) 0 (· + 1) }
  | none => s.modPort p fun f => { f with cred := kmod f.cred (vpKey vc ph) 0 (· + 1) }

/-- `n` credits returned. -/
def takeCredits (p vc ph n : Nat) (s : State) : State := (List.range n).foldl (fun s _ => takeCredit s p vc ph) s

/-- Whether a packet has a credit at a port. -/
def State.hasCredit (s : State) (p : Nat) (h : PktHdr) : Bool :=
  let f := s.fport p
  decide (kgetD f.cred (vpKey h.vc h.hops) 0 ≠ 0) || (match s.rsvCtx h with
    | some c => decide (kgetD f.rsv (rsvKey c h.vc h.hops) 0 ≠ 0)
    | none => false)

/-- Spends a credit: reserved ones first (R368). -/
def spendCredit (p : Nat) (h : PktHdr) (s : State) : State :=
  let f := s.fport p
  match (s.rsvCtx h).filter fun c => kgetD f.rsv (rsvKey c h.vc h.hops) 0 ≠ 0 with
  | some c => s.modPort p fun f => { f with rsv := kmod f.rsv (rsvKey c h.vc h.hops) 0 (· - 1) }
  | none => s.modPort p fun f => { f with cred := kmod f.cred (vpKey h.vc h.hops) 0 (· - 1) }

/-- A context's reserved credits go back to the shared ones of every port. -/
def freeReserve (c : Nat) (s : State) : State :=
  let give := fun (p : Nat) (s : State) (e : Nat × Nat) =>
    s.modPort p fun f => { f with rsv := kdel f.rsv (rsvKey c e.1 e.2), cred := kmod f.cred (vpKey e.1 e.2) 0 (· + kgetD f.rsv (rsvKey c e.1 e.2) 0) }
  ((List.range 12).foldl (fun s p => (vpAll.filter fun e => e.1 = 2 ∨ e.1 = 3).foldl (give p) s) s).setFld F.FAB_CTX_RSV_held 0 (8 * c)

/-- Whether a context still runs anything its reservation serves (R295). -/
def State.rsvQuiet (s : State) (c : Nat) : Bool :=
  !s.flag F.SEQ_CTX_CTRL_run (0x40 * c) && s.srv.pools.all fun p => match p.run with
    | some l => decide (l.ctx ≠ c) || decide (l.facets = [])
    | none => true

/-- CREDIT_RESERVATION_RETURN (R295, R368). -/
def execCreditReservationReturn (c : Nat) (s : State) : Out :=
  .next (s.on fun s => if decide (c < 16) && s.flag F.FAB_CTX_RSV_held (8 * c) && s.rsvQuiet c then freeReserve c s else s)

/-! ### Going up and down (R328, R334, R344) -/

/-- Entering ACTIVE: the receiver grants its free space. -/
def toActive (p : Nat) (s : State) : State :=
  let f := s.fport p
  let owed := vpAll.foldl (fun (m : KMap Nat) e => kset m (vpKey e.1 e.2) (s.creditsOf e.1 - f.holds e.1 e.2)) []
  planRoutes (setPort p 5 (s.modPort p fun f => { f with owed := owed, fails := 0 }))

/-- The packets a port still holds, in order: those with a flit not acknowledged, then those queued. -/
def FabPort.stranded (f : FabPort) : List PktHdr × List (Nat × PktHdr) :=
  let q := (f.outq.map fun e => e.2.map fun x => (e.1 % 16, x.hdr)).flatten
  (((f.kept.map (·.hdr)).eraseDups.filter fun h => !(q.any fun x => x.2 = h)), q)

/-- A packet put back into the router: its next port, or no route. (DEDUCED: log entry 71) -/
def reroute (input : Nat) (s : State) (h : PktHdr) : State :=
  match s.nextPort h with
  | some (q, via) => s.putOut q input { h with via := via }
  | none => if h.src = s.self then s.noRoute h else s.raise E.routeExhausted h.dst (d0 := h.src)

/-- A port leaves for DISABLED or DOWN: the receiver closes packets it holds in part, the sender's go back into the
router with rerouted set (R344). (DEDUCED: log entry 71) -/
def closePort (p st : Nat) (s : State) : State :=
  let x := (s.fport p).stranded
  let s := s.modPort p fun f => { f with kept := [], again := [], cred := [], rsv := [], owed := [], outq := [], cur := [], next := 0, expect := 0,
                                          naking := false, naks := 0, seen := none,
                                          inb := f.inb.map fun i => if i.whole then i else { i with whole := true, trunc := true, hdr := { i.hdr with trunc := true } } }
  let s := (setPort p st s).setFld F.FAB_P_STATUS_width 0 (pdi p)
  let s := x.1.foldl (fun s h => reroute 12 s { h with rerouted := true }) (if x.1 = [] then s else s.bump C.FAB_REROUTED x.1.length)
  x.2.foldl (fun s e => reroute e.1 s e.2) s

/-- An ACTIVE port enters RETRAIN (R334): replay state stays, credits go. -/
def toRetrain (p width : Nat) (s : State) : State :=
  if s.portState p = 5 then
    (setPort p 6 (s.modPort p fun f => { f with cred := [], rsv := [], width := width })).bump (C.FAB_P_RETRAINS + pdi p)
  else s

/-- The lanes of a width code of FAB_P_STATUS. -/
def laneMask (w : Nat) : Nat := if w = 1 then 0xFF else if w = 2 then 0x0F else if w = 3 then 0xF0 else 0

/-- The width a port trains at: as FAB_P_CTRL forces it, or ×8, or the half without a failed lane (R330, R395). -/
def State.trainWidth (s : State) (p : Nat) : Nat :=
  let w := s.fld F.FAB_P_CTRL_width (pdi p)
  let l := s.fld F.FAB_P_LANE_failed (pdi p)
  if w ≠ 0 then w else if l = 0 then 1 else if l % 16 = 0 then 2 else if l / 16 = 0 then 3 else 0

/-- Whether a port is enabled, and a global port connected. -/
def State.portEnabled (s : State) (p : Nat) : Bool :=
  s.flag F.FAB_P_CTRL_enable (pdi p) && (decide (p < 8) || s.flag F.FAB_P_PEER_connected (pdi p))

/-- LINK_DETECT (R328): `lanes` are the lanes with signal. (DEDUCED: log entry 72) -/
def linkDetect (p lanes : Nat) (s : State) : State :=
  let w := s.trainWidth p
  let st := s.portState p
  if decide (p < 12) && s.portEnabled p && (decide (st = 0) || decide (st = 1) || decide (st = 7)) && decide (w ≠ 0) &&
      decide (lanes &&& laneMask w = laneMask w) then
    setPort p 2 (s.modPort p fun f => { f with width := w })
  else s

/-- LINK_DETECT (R328). -/
def execLinkDetect (p lanes : Nat) (s : State) : Out := .next (s.on fun s => linkDetect p lanes s)

/-- LINK_EQUALISE_DONE (R328). -/
def execLinkEqualiseDone (p : Nat) (s : State) : Out := .next (s.on fun s => if p < 12 ∧ s.portState p = 2 then setPort p 3 s else s)

/-- LINK_LOCK_DONE (R328, R334): to HOLD, or after a retrain back to ACTIVE. -/
def linkLockDone (p : Nat) (s : State) : State :=
  let w := (s.fport p).width
  if s.portState p = 3 then (setPort p 4 s).setFld F.FAB_P_STATUS_width w (pdi p)
  else if s.portState p = 6 then toActive p (s.setFld F.FAB_P_STATUS_width w (pdi p))
  else s

/-- LINK_LOCK_DONE (R328). -/
def execLinkLockDone (p : Nat) (s : State) : Out := .next (s.on fun s => if p < 12 then linkLockDone p s else s)

/-- LINK_TRAIN_FAIL (R328): back to DETECT; three in succession go to DOWN. -/
def linkTrainFail (p : Nat) (s : State) : State :=
  if s.portState p = 2 ∨ s.portState p = 3 then
    if 3 ≤ (s.fport p).fails + 1 then (setPort p 7 (s.modPort p fun f => { f with fails := 0 })).raise E.portDown p
    else setPort p 1 (s.modPort p fun f => { f with fails := f.fails + 1 })
  else s

/-- LINK_TRAIN_FAIL (R328). -/
def execLinkTrainFail (p : Nat) (s : State) : Out := .next (s.on fun s => if p < 12 then linkTrainFail p s else s)

/-! ### Identity (R329) -/

/-- The appliance identifier. -/
def State.appliance (s : State) : Nat := s.fld F.FAB_APPL_LO_appliance + 2 ^ 32 * s.fld F.FAB_APPL_HI_appliance

/-- Whether the own image is loaded: IDENT's ready. (DEDUCED: log entry 72) -/
def State.identReady (s : State) : Bool := s.flag F.GLB_STATUS_config_ready && !s.flag F.GLB_STATUS_config_failed

/-- The expected peer of a port as (package, port) (R329, R339). -/
def State.peerOf (s : State) (p : Nat) : Nat × Nat :=
  if p < 8 then (s.self / 9 * 9 + (s.me + p + 1) % 9, 7 - p)
  else (s.fld F.FAB_P_PEER_package (pdi p), s.fld F.FAB_P_PEER_port (pdi p))

/-- Whether the identity last seen is the expected one. -/
def State.identMatches (s : State) (p : Nat) : Bool :=
  decide ((s.fport p).seen = some s.appliance) && decide (s.fld F.FAB_P_STATUS_seen_package (pdi p) = (s.peerOf p).1) &&
    decide (s.fld F.FAB_P_STATUS_seen_port (pdi p) = (s.peerOf p).2)

/-- What HOLD leads to once an IDENT was seen and the own image is loaded. -/
def leaveHold (p : Nat) (s : State) : State :=
  if s.portState p ≠ 4 ∨ (s.fport p).seen = none ∨ s.identReady = false then s
  else if !s.identMatches p then
    ((setPort p 8 s).setFld F.FAB_P_STATUS_mismatch 1 (pdi p)).raise E.peerMismatch p
      (d0 := s.fld F.FAB_P_STATUS_seen_package (pdi p)) (d1 := s.fld F.FAB_P_STATUS_seen_port (pdi p))
  else if s.flag F.FAB_P_STATUS_peer_ready (pdi p) then toActive p s
  else s

/-- Every port in HOLD is checked again: at configuration ready and at a commit (R369). -/
def recheckHold (s : State) : State := (List.range 12).foldl (fun s p => leaveHold p s) s

/-- IDENT (R329): a port in RETRAIN whose peer has changed enters DOWN. -/
def identArrives (p : Nat) (r : IdentFrame) (s : State) : State :=
  if s.portState p ≠ 4 ∧ s.portState p ≠ 6 then s
  else
    let s := s.modPort p fun f => { f with seen := some r.appliance }
    let s := ((s.setFld F.FAB_P_STATUS_seen_package r.package (pdi p)).setFld F.FAB_P_STATUS_seen_port r.port (pdi p)).setFld F.FAB_P_STATUS_peer_ready (bit r.ready) (pdi p)
    if s.portState p = 6 then (if s.identMatches p then s else closePort p 7 s) else leaveHold p s

/-- IDENT (R329). -/
def execIdent (p : Nat) (r : IdentFrame) (s : State) : Out := .next (s.on fun s => if p < 12 then identArrives p r s else s)

/-! ### Frames sent (R331 to R335) -/

/-- The credits the next frame returns: the first channel and phase with any, at most 63. (DEDUCED: log entry 71) -/
def FabPort.toReturn (f : FabPort) : Option (Nat × Nat) := (f.owed.find? fun e => e.2 ≠ 0).map fun e => (e.1, min 63 e.2)

/-- The tag fields every frame of an ACTIVE port carries: ack, a nak that is owed, and credits. -/
def FabPort.tag (f : FabPort) (ctl : Bool) : FrameTag :=
  let c := f.toReturn.getD (0, 0)
  ⟨0, (f.expect + 4095) % 4096, f.naking, ctl, 0, 0, false, false, false, false, c.1 / 8, c.1 % 8, c.2, true, true⟩

/-- The state of a port after its tag went out. -/
def tagSent (p : Nat) (s : State) : State :=
  let f := s.fport p
  let s := if f.naking then s.bump (C.FAB_P_REPLAYS + pdi p) else s
  s.modPort p fun f => { f with naking := false, owed := match f.toReturn with
    | some (k, n) => kmod f.owed k 0 (· - n)
    | none => f.owed }

/-- A control frame. -/
def sendControl (p kind : Nat) (args : List Nat) (s : State) : State :=
  (tagSent p (s.emit (.ctl p kind ((s.fport p).tag true) args)))

/-- The inputs in round-robin order from `i`. -/
def rotate13 (i : Nat) : List Nat := (List.range 13).map fun k => (i + k) % 13

/-- The packet an input offers in a channel: its oldest that has a credit, or the one being sent. (DEDUCED: log entry 70) -/
def State.offers (s : State) (p vc input : Nat) : Option OutPkt :=
  let l := kgetD (s.fport p).outq (16 * vc + input) []
  match l.find? fun x => x.sent ≠ 0 with
  | some x => if s.hasCredit p x.hdr then some x else none
  | none => l.find? fun x => s.hasCredit p x.hdr

/-- The flit an output grants: the highest channel with an offer; the packet being sent first, then round robin (R335). -/
def State.grantFlit (s : State) (p : Nat) : Option (Nat × Nat × OutPkt) :=
  let f := s.fport p
  [5, 1, 3, 0, 2, 4].findSome? fun vc =>
    match kget f.cur vc with
    | some i => (s.offers p vc i).map fun x => (vc, i, x)
    | none => (rotate13 (kgetD f.rr vc 0)).findSome? fun i => (s.offers p vc i).map fun x => (vc, i, x)

/-- A data flit goes out under a frame position. -/
def emitFlit (p : Nat) (k : KeptFlit) (s : State) : State :=
  let t := (s.fport p).tag false
  (tagSent p (s.emit (.flit p { t with fpos := k.fpos, vc := k.hdr.vc, phase := k.hdr.hops, first := k.first, last := k.last, trunc := k.hdr.trunc && k.last } k.hdr))).bump
    (C.FAB_P_TX_FLITS + pdi p)

/-- A granted flit: numbered, kept for replay, its credit spent. -/
def grantOne (p vc input : Nat) (x : OutPkt) (s : State) : State :=
  let k : KeptFlit := ⟨(s.fport p).next, x.hdr, decide (x.sent = 0), decide (x.hdr.flits ≤ x.sent + 1)⟩
  let s := emitFlit p k (spendCredit p x.hdr s)
  let key := 16 * vc + input
  s.modPort p fun f =>
    let l := kgetD f.outq key []
    { f with next := (f.next + 1) % 4096, kept := f.kept ++ [k],
             outq := if k.last then (if l.erase x = [] then kdel f.outq key else kset f.outq key (l.erase x))
                     else kset f.outq key (l.map fun y => if y = x then { y with sent := y.sent + 1 } else y),
             cur := if k.last then kdel f.cur vc else kset f.cur vc input,
             rr := if k.last then kset f.rr vc ((input + 1) % 13) else f.rr }

/-- FRAME_SEND (R331 to R335): a resend, a granted flit while fewer than 512 are kept, or a NULL control frame; HOLD and
RETRAIN send control frames only. -/
def frameSend (p : Nat) (s : State) : State :=
  let f := s.fport p
  if s.portState p = 5 then
    match f.again with
    | k :: l => emitFlit p k (s.modPort p fun f => { f with again := l })
    | [] =>
      match if f.kept.length < 512 then s.grantFlit p else none with
      | some (vc, i, x) => grantOne p vc i x s
      | none => sendControl p 0 [] s
  else if s.portState p = 4 ∨ s.portState p = 6 then s.emit (.ctl p 0 { f.tag true with nak := false, crVc := 0, crPhase := 0, crCount := 0 } [])
  else s

/-- FRAME_SEND (R335). -/
def execFrameSend (p : Nat) (s : State) : Out := .next (s.on fun s => if p < 12 then frameSend p s else s)

/-- IDENT_SEND_TICK (R329): appliance, package, port, stepping and ready. -/
def identSend (p : Nat) (s : State) : State :=
  if s.portState p = 4 then
    s.emit (.ctl p 1 { (s.fport p).tag true with nak := false, crVc := 0, crPhase := 0, crCount := 0 } [s.appliance, s.self, p, 0xB0, bit s.identReady])
  else s

/-- IDENT_SEND_TICK (R329). -/
def execIdentSendTick (p : Nat) (s : State) : Out := .next (s.on fun s => if p < 12 then identSend p s else s)

/-! ### Frames received (R331 to R334) -/

/-- A link protocol error: the frame goes, the event, RETRAIN. -/
def linkError (p : Nat) (s : State) : State := toRetrain p (s.fport p).width ((s.bump (C.FAB_P_PROTOCOL + pdi p)).raise E.linkProtocol p)

/-- Whether `a` lies at or before `b` in the 4,096 positions. -/
def upTo (a b : Nat) : Bool := a = b || precedes 12 a b

/-- The acknowledged flits leave the replay buffer; a nak has the rest sent again, and the 16th for one position in
succession leaves ACTIVE. (DEDUCED: log entry 71) -/
def takeAck (p : Nat) (t : FrameTag) (s : State) : State :=
  let f := s.fport p
  let known := f.kept.any fun k => k.fpos = t.ack
  let kept := if known then f.kept.filter fun k => !upTo k.fpos t.ack else f.kept
  let again := if known then f.again.filter fun k => !upTo k.fpos t.ack else f.again
  let n := if t.nak then (if f.naks ≠ 0 ∧ f.nakAt = t.ack then f.naks + 1 else 1) else f.naks
  let s := s.modPort p fun f => { f with kept := kept, again := if t.nak then kept else again, nakAt := if t.nak then t.ack else f.nakAt, naks := if n < 16 then n else 0 }
  if t.nak ∧ 16 ≤ n then toRetrain p f.width s else s

/-- Whether a tag breaks the link layer's rules: reserved values, a phase not in use, a grant above the credits. -/
def State.tagBad (s : State) (p : Nat) (t : FrameTag) : Bool :=
  decide (6 ≤ t.vc) || decide (5 ≤ t.phase) || (!t.ctl && !phaseUsed t.vc t.phase) ||
    (decide (t.crCount ≠ 0) && (!phaseUsed t.crVc t.crPhase || decide (s.creditsOf t.crVc < (s.fport p).credAll t.crVc t.crPhase + t.crCount)))

/-- A flit joins its packet in the input buffer. -/
def storeFlit (p : Nat) (t : FrameTag) (h : PktHdr) (s : State) : State :=
  let h := { h with trunc := h.trunc || t.trunc }
  let s := s.modPort p fun f =>
    let same := fun (x : InPkt) => x.vc = t.vc && x.phase = t.phase && !x.whole
    if t.first || !f.inb.any same then { f with inb := f.inb ++ [⟨h, t.vc, t.phase, 1, t.last || t.trunc, t.trunc⟩] }
    else { f with inb := f.inb.map fun x => if same x then { x with hdr := if t.last || t.trunc then h else x.hdr, flits := x.flits + 1, whole := t.last || t.trunc, trunc := t.trunc } else x }
  if !(t.last || t.trunc) then s
  else if h.dst = 255 ∨ (h.dst = s.self ∧ (h.trunc ∨ h.vc = 5)) then s.leaveBuffer h
  else if h.dst = s.self ∧ (h.ptype = 0x10 ∨ h.ptype = 0x11) then
    let a := admitPkt h h.ptype s.self s
    if a.1 then a.2.performed h.src s.self (clsOf h.ptype) h.seq else a.2
  else s

/-- A data flit: taken when it is the next, else discarded with a nak owed. -/
def dataFlit (p : Nat) (t : FrameTag) (h : PktHdr) (s : State) : State :=
  let f := s.fport p
  if t.fpos ≠ f.expect then (if precedes 12 f.expect t.fpos then s.modPort p fun f => { f with naking := true } else s)
  else if s.creditsOf t.vc ≤ f.holds t.vc t.phase then linkError p s
  else storeFlit p t h ((s.modPort p fun f => { f with expect := (f.expect + 1) % 4096, naking := false }).bump (C.FAB_P_RX_FLITS + pdi p))

/-- DATA_FLIT_RECEIVE (R331 to R333): a frame received in HOLD, ACTIVE or RETRAIN. -/
def frameReceive (p : Nat) (t : FrameTag) (h : PktHdr) (s : State) : State :=
  if !(decide (s.portState p = 4) || decide (s.portState p = 5) || decide (s.portState p = 6)) then s
  else if !t.fec || !t.good then
    let s := if !t.fec then s.bump (C.FAB_P_FEC_UNCORR + pdi p) else s.bump (C.FAB_P_CRC + pdi p)
    if s.portState p = 5 then s.modPort p fun f => { f with naking := true } else s
  else if s.tagBad p t then linkError p s
  else
    let s := takeAck p t s
    if s.portState p ≠ 5 then s
    else
      let s := takeCredits p t.crVc t.crPhase t.crCount s
      if t.ctl then s else dataFlit p t h s

/-- DATA_FLIT_RECEIVE (R332). -/
def execDataFlitReceive (p : Nat) (t : FrameTag) (h : PktHdr) (s : State) : Out := .next (s.on fun s => if p < 12 then frameReceive p t h s else s)

/-! ### Retraining (R334, R395) -/

/-- LOCK_LOSS (R334). -/
def execLockLoss (p : Nat) (s : State) : Out := .next (s.on fun s => if p < 12 then toRetrain p (s.fport p).width s else s)

/-- RETRAIN_LIMIT_EXPIRE (R334). -/
def execRetrainLimitExpire (p : Nat) (s : State) : Out := .next (s.on fun s => if p < 12 ∧ s.portState p = 6 then closePort p 7 s else s)

/-- PORT_RETRAIN (R329, R334, R395): with width automatic at ×8. It is one of the two ways out of ISOLATED. -/
def portRetrain (org : Originator) (p : Nat) (s : State) : State :=
  if p < 12 then
    s.gated org (0x1810000 + pdi p) fun s =>
      if s.portState p = 8 then (setPort p 1 s).setFld F.FAB_P_STATUS_mismatch 0 (pdi p)
      else toRetrain p (if s.fld F.FAB_P_CTRL_width (pdi p) = 0 then 1 else s.fld F.FAB_P_CTRL_width (pdi p)) s
  else s

/-- PORT_RETRAIN (R334). -/
def execPortRetrain (org : Originator) (p : Nat) (s : State) : Out := .next (s.on fun s => portRetrain org p s)

/-- The half a port may spare to, of those asked for: no lane of it has failed here. -/
def spareWidth (failed want : Nat) : Nat :=
  if failed % 16 = 0 ∧ want ≠ 3 then 2 else if failed / 16 = 0 then 3 else 0

/-- A port that lost lanes: it retrains at ×4 where it may, else goes down (R395, R402). (DEDUCED: log entry 72) -/
def spareLanes (p : Nat) (ask : Bool) (want : Nat) (s : State) : State :=
  let w := spareWidth (s.fld F.FAB_P_LANE_failed (pdi p)) want
  if !s.flag F.FAB_P_LANE_spare_en (pdi p) || decide (s.fld F.FAB_P_CTRL_width (pdi p) ≠ 0) || decide (w = 0) then closePort p 7 s
  else
    let s := if ask then s.emit (.ctl p 2 ((s.fport p).tag true) [w]) else s
    let s := s.bump (C.FAB_P_SPARES + pdi p)
    if s.portState p = 5 then toRetrain p w s else s.modPort p fun f => { f with width := w }

/-- LANE_ERROR_WINDOW (R394): `corrected` are the symbols corrected on each lane in 1 ms, `unlocked` the lanes that lost
codeword lock while others kept it. (DEDUCED: log entry 72) -/
def laneWindow (p : Nat) (corrected : List Nat) (unlocked : Nat) (s : State) : State :=
  if !(decide (s.portState p = 5) || decide (s.portState p = 6)) then s
  else
    let used := laneMask (s.fld F.FAB_P_STATUS_width (pdi p))
    let lim := s.fld F.FAB_P_LANE_lane_limit (pdi p) * 256
    let old := s.fld F.FAB_P_LANE_failed (pdi p)
    let out := unlocked &&& used
    let bad := (List.range 8).filter fun l => tbit used l && !tbit old l && (decide (lim < nth corrected l 0) || (tbit out l && decide (out ≠ used)))
    let s := s.bump (C.FAB_P_FEC_SYMBOLS + pdi p) (corrected.foldl (· + ·) 0)
    if bad = [] then s
    else
      let s := bad.foldl (fun s l => (s.setFld F.FAB_P_LANE_failed (s.fld F.FAB_P_LANE_failed (pdi p) ||| 2 ^ l) (pdi p)).raise E.laneFailed p (d0 := l)) s
      spareLanes p true 0 s

/-- LANE_ERROR_WINDOW (R394). -/
def execLaneErrorWindow (p : Nat) (corrected : List Nat) (unlocked : Nat) (s : State) : Out :=
  .next (s.on fun s => if p < 12 then laneWindow p corrected unlocked s else s)

/-- RETRAIN_REQ (R395): the peer asks for a width. -/
def retrainReq (p width : Nat) (s : State) : State :=
  if !(decide (s.portState p = 5) || decide (s.portState p = 6)) then s
  else if width % 4 < 2 then toRetrain p (if width % 4 = 1 then 1 else s.trainWidth p) s
  else spareLanes p false (width % 4) s

/-- RETRAIN_REQ (R395). -/
def execRetrainReq (p width : Nat) (s : State) : Out := .next (s.on fun s => if p < 12 then retrainReq p width s else s)

/-- A write of FAB_P_CTRL.enable or width took effect (R328, R369): a port disabled is a planned route change, a width
change retrains. -/
def portControl (p : Nat) (wasOn : Bool) (wasWidth : Nat) (s : State) : State :=
  if !s.portEnabled p then (if s.portState p = 0 then s else planRoutes (closePort p 0 s))
  else if s.portState p = 0 then (if wasOn then s else setPort p 1 s)
  else if s.fld F.FAB_P_CTRL_width (pdi p) ≠ wasWidth then toRetrain p (s.trainWidth p) s
  else s

/-! ### Routes (R341, R345) -/

/-- LINK_STATE_TICK (R341). -/
def execLinkStateTick (s : State) : Out := .next (s.on fun s => sendLinkState s)

/-- LINK_STATE (R341): the sender's map is taken; a link that returns is a planned route change (R345). -/
def linkState (src gmap : Nat) (s : State) : State :=
  if s.isLost src then s.bump C.FAB_HB_FENCED
  else if src / 9 ≠ s.self / 9 ∨ src = s.self then s
  else
    let m := src % 9
    let old := s.fld F.FAB_GMAP_m_group (4 * m) + 256 * s.fld F.FAB_GMAP_m_global (4 * m)
    let s := (s.setFld F.FAB_GMAP_m_group (gmap % 256) (4 * m)).setFld F.FAB_GMAP_m_global (gmap / 256 % 16) (4 * m)
    if (List.range 12).any fun i => tbit gmap i && !tbit old i then planRoutes s else s

/-- LINK_STATE (R341). -/
def execLinkState (src gmap : Nat) (s : State) : Out := .next (s.on fun s => linkState src gmap s)

/-- ROUTE_EPOCH_SWITCH (R345): everything sent to the package is acknowledged and answered; the held packets leave by the
new route. -/
def routeEpochSwitch (d : Nat) (s : State) : State :=
  if s.flag F.FAB_EPOCH_p_draining (4 * d) && decide ((s.sendOf d 0).unacked = []) && decide ((s.sendOf d 5).unacked = []) &&
      !s.fab.reqs.any fun e => decide (e.2.dst = d) && decide (clsOf e.2.kind = 0) && !e.2.backing then
    let s := (s.setFld F.FAB_EPOCH_p_draining 0 (4 * d)).setFld F.FAB_EPOCH_p_epoch ((s.fld F.FAB_EPOCH_p_epoch (4 * d) + 1) % 2 ^ 16) (4 * d)
    let s := ({ s with fab := { s.fab with routes := kset s.fab.routes d (s.routeCode d) } } : State).bump C.FAB_ROUTE_CHANGES
    (s.flush d 0).flush d 5
  else s

/-- ROUTE_EPOCH_SWITCH (R345). -/
def execRouteEpochSwitch (d : Nat) (s : State) : Out := .next (s.on fun s => if d < 144 then routeEpochSwitch d s else s)

/-- PACKET_FORWARD (R341 to R343): a packet for another package takes its next hop; a request for a group the appliance
lacks is refused (R338). -/
def packetForward (input : Nat) (h : PktHdr) (s : State) : State :=
  if h.dst = s.self ∨ h.dst = 255 then s
  else if clsOf h.ptype = 0 ∧ h.dst / 9 ≠ s.self / 9 ∧ ((s.pairLink h.src h.dst).map (·.1)) = some s.me then s
  else
    let s := s.leaveBuffer h
    let n := { h with hops := h.hops + 1 }
    if s.isLost h.src && decide (h.ptype ≠ 0x21) then s.bump C.FAB_HB_FENCED
    else if s.fld F.FAB_ID_groups ≤ h.dst / 9 then
      (if h.ptype = 1 ∨ h.ptype = 2 ∨ h.ptype = 3 ∨ h.ptype = 5 ∨ h.ptype = 6 then
        s.post (s.header346 h.src 0x04 h.rtag h.job 1) (.resp ⟨St.range, if h.ptype = 6 then 3 else if h.ptype = 1 then 0 else if h.ptype = 3 then 1 else 2, 0, 0, [], false⟩)
      else s)
    else if !phaseUsed h.vc n.hops then s.raise E.routeExhausted h.dst (d0 := h.src)
    else match s.nextPort n with
      | some (p, via) => s.putOut p input { n with via := via }
      | none => s.raise E.routeExhausted h.dst (d0 := h.src)

/-- PACKET_FORWARD (R341). -/
def execPacketForward (input : Nat) (h : PktHdr) (s : State) : Out := .next (s.on fun s => packetForward (input % 12) h s)

end Sys2Proof.Machine
end

