-- ==== Sys2Proof/Machine/Requests.lean ====
section
/-!
DEFINITION. Requests and their budgets: balances (R240), the retry-after hint (R243), final and progress completions
(R244), and what a freed or finished slot leaves (R236).
-/
namespace Sys2Proof.Machine

/-! ### Budgets (R240) -/

/-- The cap, rate and balance of tenant `t`. -/
def State.capOf (s : State) (t : Nat) : Nat := s.fld F.ADM_T_CAP_cap (16 * t)
def State.rateOf (s : State) (t : Nat) : Nat := s.fld F.ADM_T_RATE_rate (16 * t)
def State.balOf (s : State) (t : Nat) : Int := kgetD s.srv.bal t 0

/-- Sets a tenant's balance. -/
def State.setBal (s : State) (t : Nat) (v : Int) : State := { s with srv := { s.srv with bal := kset s.srv.bal t v } }

/-- The tokens a request has used: its prompt tokens committed and those generated. -/
def State.usedOf (s : State) (n : Nat) : Nat :=
  min (s.sget n D.length) (s.sget n D.promptEnd) - s.sget n D.promptBase + s.sget n D.generated

/-- The charge of slot `n`'s request given back but for what it used. (DEDUCED: log entry 51) -/
def State.refund (s : State) (n : Nat) (started : Bool) : State :=
  let t := s.sget n D.tenant
  let used := if started then s.usedOf n else 0
  s.setBal t (min (s.capOf t : Int) (s.balOf t + s.sget n D.res - used))

/-- The retry-after hint (R243). (DEDUCED: log entry 51) -/
def State.retryHint (s : State) (inBudget : Bool) (t res : Nat) : Nat :=
  let h := ceilDiv (s.srv.queue.length * s.fld F.ADM_INTERVAL_interval) 1000
  let lack := ((res : Int) - s.balOf t).toNat
  let h := if inBudget then h else max h (if s.rateOf t = 0 then 65535 else ceilDiv (lack * 1000) (s.rateOf t))
  max 1 (min 65535 h)

/-! ### Completions (R244) -/

/-- The serving payload of R244. -/
def servingPayload (st reason hint generated tag : Nat) : List Byte :=
  toBytes 1 st ++ toBytes 1 reason ++ toBytes 2 hint ++ toBytes 4 generated ++ toBytes 8 tag

/-- The request of slot `n`, if one is outstanding. -/
def State.req (s : State) (n : Nat) : Option Req := kget s.srv.reqs n

/-- The slot's state once its request ended: IDLE, or the state before admission where it never started (R236). -/
def State.afterReq (s : State) (n : Nat) (r : Req) : State :=
  if r.started then s.sput n D.state Sl.idle
  else if r.before = Sl.free then s.sclear n
  else s.sput n D.state r.before

/-- The entries of slot `n` in built steps count as completed already (R256). -/
def State.endEntries (s : State) (n : Nat) : State :=
  { s with srv := { s.srv with series := s.srv.series.map fun x =>
      (x.1, { x.2 with built := x.2.built.map fun st => { st with ents := st.ents.map fun e => if e.slot = n then { e with dead := true } else e } }) } }

/-- The final completion of slot `n`'s request (R244): its charge refunded, its queue place given up, its slot as R236
says. DONE becomes DONE_DEGRADED where the degraded flag is set. (DEDUCED: log entry 51) -/
def finishReq (n st reason : Nat) (s : State) : State :=
  match s.req n with
  | none => s
  | some r =>
    let st := if st = St.done ∧ s.sflag n Fl.degraded then St.degraded else st
    let t := s.sget n D.tenant
    let hint := if st = St.busy then s.retryHint (!s.sflag n Fl.borrowed) t (s.sget n D.res) else 0
    let pay := servingPayload st reason hint (s.sget n D.generated) (s.sget n D.reqTag)
    let s := (s.refund n r.started).endEntries n
    let s := { s with srv := { s.srv with reqs := kdel s.srv.reqs n, queue := s.srv.queue.erase n } }
    ((s.completeWith r.org 0x20 st pay).bump C.SEQ_REQUESTS).afterReq n r

/-- A progress completion after a commit (R244, R487). -/
def progressReq (n : Nat) (s : State) : State :=
  match s.req n with
  | none => s
  | some r =>
    let every := s.sget n D.notifyEvery
    let g := s.sget n D.generated
    if every ≠ 0 ∧ every ≤ g - s.sget n D.notified then
      let p := s.progress r.org 0x20 (servingPayload St.done 9 0 g (s.sget n D.reqTag))
      if p.2 then p.1.sput n D.notified g else p.1
    else s

/-! ### Freed slots in steps and launches -/

/-- The number no slot has. -/
def noSlot : Nat := nSlots

/-- An entry without slot `n`. -/
def StepEnt.without (n : Nat) (e : StepEnt) : StepEnt :=
  { e with slot := if e.slot = n then noSlot else e.slot, draft := if e.draft = some n then none else e.draft }

/-- A series whose built step no longer names slot `n`. -/
def Series.without (n : Nat) (x : Series) : Series :=
  { x with built := x.built.map fun st => { st with ents := st.ents.map (StepEnt.without n) } }

/-- A launch that no longer names slot `n`. -/
def Launch.without (n : Nat) (l : Launch) : Launch :=
  { l with train := l.train.map fun t => { t with slots := t.slots.filter (· ≠ n) } }

/-- A pool without slot `n`. -/
def Pool.without (n : Nat) (p : Pool) : Pool := ⟨p.queue.map (Launch.without n), p.run.map (Launch.without n)⟩

/-- Slot `n` leaves every step and training launch: at their commits it counts as freed during the step (R256). -/
def State.leaveSteps (s : State) (n : Nat) : State :=
  { s with srv := { s.srv with series := s.srv.series.map fun e => (e.1, e.2.without n), pools := s.srv.pools.map (Pool.without n) } }

/-- The other slot of a speculating pair becomes IDLE with its pages kept, its pair's request ended (R236). -/
def freePartner (n : Nat) (s : State) : State :=
  let p := s.sget n D.partner
  if s.sget n D.state = Sl.draft then
    if s.sflag p Fl.spec ∧ s.sget p D.partner = n ∧ s.sget p D.state ≠ Sl.free then
      (finishReq p St.done 4 s).sput p D.state Sl.idle
    else s
  else if s.sflag n Fl.spec ∧ s.sget p D.state = Sl.draft ∧ s.sget p D.partner = n then s.sput p D.state Sl.idle
  else s

end Sys2Proof.Machine
end

