-- ==== Sys2Proof/Machine/Mirror.lean ====
section
/-!
DEFINITION. Pages of a slot, recovery hold (R380), and the source's side of a key-value mirror (R383 to R386).
-/
namespace Sys2Proof.Machine

/-! ### Slots and their pages -/

/-- Whether a slot is empty: FREE and mapping no page (R223). -/
def State.slotEmpty (s : State) (n : Nat) : Bool := decide (s.sget n D.state = Sl.free) && decide (s.slotPages n = [])

/-- Whether window page `w` of a slot of context `c` lies in its checkpoint ring (R254). -/
def State.inRing (s : State) (c w : Nat) : Bool :=
  let p := s.fld F.SEQ_CTX_CKPT_page (0x40 * c)
  decide (p ≤ w) && decide (w < p + 9 * s.fld F.SEQ_CTX_CKPT_stride (0x40 * c))

/-- The window offset and length of a context's dispatch carry slots (R59). -/
def State.carryArea (s : State) (c : Nat) : Nat × Nat :=
  (s.fld F.RES_CTX_CARRY_offset (0x80 * c) * 0x4000,
   s.fld F.SEQ_CTX_SHAPE_exp_layers (0x40 * c) * (256 * s.fld F.SEQ_CTX_SHAPE_nblk (0x40 * c)))

/-- Whether a window page holds dispatch carries of context `c`. (DEDUCED: log entry 49) -/
def State.inCarry (s : State) (c w : Nat) : Bool :=
  let a := s.carryArea c
  decide (a.2 ≠ 0) && decide (a.1 / 65536 ≤ w) && decide (w ≤ (a.1 + a.2 - 1) / 65536)

/-- The latent pages a slot maps, ascending. -/
def State.latentPages (s : State) (n : Nat) : List Nat :=
  (s.slotPages n).filter fun w => !s.inRing (s.sctx n) w && !s.inCarry (s.sctx n) w

/-- The dispatch carry pages a slot maps. -/
def State.carryPages (s : State) (n : Nat) : List Nat := (s.slotPages n).filter fun w => s.inCarry (s.sctx n) w

/-- The capacity of a page by its tag (R196), 0 for an invalid tag. -/
def capOfTag (t : Nat) : Nat := nth [0, 100, 140, 200] t 0

/-- A field of the header of the page mapped at window page `w`. -/
def State.header (s : State) (n w off len : Nat) : Nat :=
  match s.pageFrame n w with
  | some f => s.mem.le (s.frameLoc f).1 ((s.frameLoc f).2 + off) len
  | none => 0

/-! ### Peers (R378 to R380) -/

/-- The state of a peer (R378): 0 not watched, 1 ALIVE, 2 SUSPECT, 3 LOST. -/
def State.peerState (s : State) (p : Nat) : Nat := s.fld F.FAB_HB_STATE_p_state (4 * p)

/-- Whether package `p` serves context `c` (R301). -/
def State.serves (s : State) (c p : Nat) : Bool := tbit (s.fld F.RES_CTX_SERVEn_serve (0x80 * c + 4 * (p / 32))) (p % 32)

/-- The packages that serve a context. -/
def State.serving (s : State) (c : Nat) : List Nat := (List.range 144).filter (s.serves c)

/-- Whether a context is under recovery hold (R380). (DEDUCED: log entry 58) -/
def State.recoveryHold (s : State) (c : Nat) : Bool := (s.serving c).any fun p => decide (s.peerState p = 2) || s.isLost p

/-! ### The source of a mirror (R383 to R386) -/

/-- The mirror peers by index: a byte of KVM_MIR_PEERS each, the leading ones that are not 255. -/
def State.mirPeers (s : State) : List Nat :=
  ((List.range 4).map fun i => bits (s.fld F.KVM_MIR_PEERS_peers) (8 * i + 7) (8 * i)).takeWhile (· ≠ 255)

/-- Whether a peer is suspended (R386). -/
def State.mirSuspended (s : State) (i : Nat) : Bool := tbit (s.fld F.KVM_MIR_STATUS_suspended) i

/-- Whether a context is mirrored. -/
def State.mirrors (s : State) (c : Nat) : Bool :=
  s.flag F.KVM_MIR_CTRL_enable && tbit (s.fld F.KVM_MIR_CTRL_ctx_mask) c && decide (s.mirPeers ≠ [])

/-- Peer `i` at the source. -/
def State.mirPeer (s : State) (i : Nat) : MirPeer := nth s.mir.peers i ⟨0, 256, [], 256, []⟩

/-- Replaces peer `i`. -/
def State.setMirPeer (s : State) (i : Nat) (p : MirPeer) : State := { s with mir := { s.mir with peers := s.mir.peers.set i p } }

/-- The last group peer `i` says it applied: bits [63:32] of its word at KVM_MIR_ACKW (R385). -/
def State.mirAcked (s : State) (i : Nat) : Nat :=
  s.mem.le 1 (s.fld64 F.KVM_MIR_ACKW_LO_base F.KVM_MIR_ACKW_HI_base + 8 * i + 4) 4

/-- How many groups peer `i` lies behind the last one published. (DESIGN CHOICE: log entry 59) -/
def State.mirLag (s : State) (i : Nat) : Nat :=
  let g := (s.mirPeer i).group
  if g = 0 then 0 else (g - 1 + 2 ^ 32 - s.mirAcked i) % 2 ^ 32

/-- R386: whether a commit must wait for a mirror peer. -/
def State.mirrorHeld (s : State) (c : Nat) : Bool :=
  s.mirrors c && (List.range s.mirPeers.length).any fun i =>
    !s.mirSuspended i && decide (s.fld F.KVM_MIR_CTRL_max_lag ≤ s.mirLag i)

/-- A mirror entry (R384), padded to a multiple of 256 bytes. (DESIGN CHOICE: log entry 59) -/
def mirEntry (kind flags ctx slot page first n group : Nat) (payload : List Byte) : List Byte :=
  let e := toBytes 1 kind ++ toBytes 1 flags ++ toBytes 1 ctx ++ toBytes 1 0 ++ toBytes 4 slot ++ toBytes 4 page ++ toBytes 2 first ++ toBytes 2 n ++
    toBytes 4 group ++ toBytes 4 payload.length ++ List.replicate 40 0 ++ payload
  padTo (ceilDiv e.length 256 * 256) e

/-- How far peer `i` says it consumed its ring: bits [31:0] of its word (R385); before any acknowledgement, nothing. (DESIGN CHOICE: log entry 59) -/
def State.mirConsumed (s : State) (i : Nat) : Nat :=
  max 256 (s.mem.le 1 (s.fld64 F.KVM_MIR_ACKW_LO_base F.KVM_MIR_ACKW_HI_base + 8 * i) 4)

/-- Where an entry of `n` bytes goes in a ring of `size` bytes (R385): at the write offset, or at 256 where it would cross
the end; nowhere while it would overwrite what the peer has not consumed. (DESIGN CHOICE: log entry 59) -/
def ringPlace (size off consumed n : Nat) : Option Nat :=
  if consumed ≤ off then
    if off + n ≤ size then some off else if 256 + n < consumed then some 256 else none
  else if off + n < consumed then some off else none

/-- An entry is put after what waits for peer `i`. -/
def State.mirSend (s : State) (i : Nat) (e : List Byte) : State :=
  s.setMirPeer i { s.mirPeer i with queue := (s.mirPeer i).queue ++ [.entry e] }

/-- What waits for peer `i` is sent, at most `n` items: entries while the ring has room, the publish word once the source's
class 4 packets to the peer are acknowledged (R357, R385). (DESIGN CHOICE: log entry 59) -/
def mirPump (i : Nat) : Nat → State → State
  | 0, s => s
  | n + 1, s =>
    let p := s.mirPeer i
    let d := nth s.mirPeers i 255
    let ring := Config.peerRing d
    match p.queue with
    | [] => s
    | .entry e :: rest =>
      match ringPlace ring.2 p.off (s.mirConsumed i) e.length with
      | none => s
      | some o => mirPump i n (((s.setMirPeer i { p with off := o + e.length, queue := rest }).sendBulk d (d * 2 ^ 56 + 2 ^ 52 + ring.1 + o) e).bump C.KVM_MIR_BYTES (e.length / 256))
    | .publish g u :: rest =>
      let u := u.getD (((s.sendOf d 4).next + (s.sendOf d 4).wait.length) % 2 ^ 32)
      if s.fenceMet (d, 4, u) then
        mirPump i n ((s.setMirPeer i { p with pub := p.off, queue := rest }).sendStore d (d * 2 ^ 56 + 2 ^ 52 + ring.1) (toBytes 8 (p.off + g * 2 ^ 32)) 0 0)
      else s.setMirPeer i { p with queue := .publish g (some u) :: rest }

/-- What waits for every peer that is not suspended. (DESIGN CHOICE: log entry 59) -/
def mirrorPump (s : State) : State :=
  (List.range 4).foldl (fun s i => if s.mirSuspended i then s else mirPump i (s.mirPeer i).queue.length s) s

/-- Nothing waits for any mirror peer. -/
def State.mirIdle (s : State) : Prop := ∀ p ∈ s.mir.peers, p.queue = []

/-- A peer whose unpublished groups are given up. -/
def MirPeer.cut (p : MirPeer) : MirPeer :=
  let n := (p.queue.filter fun x => match x with
    | .publish _ _ => true
    | .entry _ => false).length
  { p with group := (p.group + 2 ^ 32 - n) % 2 ^ 32, off := p.pub, queue := [] }

/-- What changed in a slot since its last group: the records from position `from_` on, or the descriptor alone. -/
structure MirChange where
  slot : Nat
  ctx : Nat
  from_ : Option Nat
  carry : Bool

/-- The records of a page from record `k` on, below its fill. -/
def State.pageRecords (s : State) (n w k : Nat) : List Byte :=
  match s.pageFrame n w with
  | none => []
  | some f =>
    let p := s.frameLoc f
    let b := nth [0, 640, 448, 320] (s.header n w 0 1) 0
    s.mem.read p.1 (p.2 + 1536 + k * b) ((s.header n w 2 2 - k) * b)

/-- The first 1,536 bytes of a page. -/
def State.pageHead (s : State) (n w : Nat) : List Byte :=
  match s.pageFrame n w with
  | some f => s.mem.read (s.frameLoc f).1 (s.frameLoc f).2 1536
  | none => List.replicate 1536 0

/-- The entries a changed slot adds to group `g` of peer `i`. -/
def mirSlot (i g : Nat) (x : MirChange) (s : State) : State :=
  let p := s.mirPeer i
  let n := x.slot
  let send := fun (s : State) kind flags page first cnt pay => s.mirSend i (mirEntry kind flags x.ctx n page first cnt g pay)
  if s.sget n D.state = Sl.free then
    if p.seeded.contains n then
      let s := send s 4 0 0 0 0 []
      s.setMirPeer i { s.mirPeer i with seeded := (s.mirPeer i).seeded.erase n }
    else s
  else
    let seed := !p.seeded.contains n
    let pages := (s.slotPages n).filter fun w => !s.inRing x.ctx w && !s.inCarry x.ctx w
    let pages := if seed then pages.map fun w => (w, 0) else match x.from_ with
      | none => []
      | some l => (pages.filter fun w => l < s.header n w 8 4 + s.header n w 2 2).map fun w => (w, l - s.header n w 8 4)
    let s := pages.foldl (fun s w => send s 1 (bit seed) w.1 w.2 (s.header n w.1 2 2 - w.2) (s.pageHead n w.1 ++ s.pageRecords n w.1 w.2)) s
    let s := if (seed || x.carry) && (s.slotPages n).any (s.inCarry x.ctx) then send s 3 (bit seed) 0 0 0 ((s.vread (n * 2 ^ 32 + (s.carryArea x.ctx).1) (s.carryArea x.ctx).2).bytes) else s
    let s := send s 2 (bit seed) 0 0 0 (s.mem.read 1 (s.seqOff n) 128)
    s.setMirPeer i { s.mirPeer i with seeded := insertNat (s.mirPeer i).seeded n }

/-- A group for peer `i`, closed and to be published (R383, R385). -/
def mirGroup (i : Nat) (xs : List MirChange) (s : State) : State :=
  let g := (s.mirPeer i).group
  let s := xs.foldl (fun s x => mirSlot i g x s) s
  let s := s.mirSend i (mirEntry 5 0 0 0 0 0 0 g [])
  let p := s.mirPeer i
  let s := s.setMirPeer i { p with group := (g + 1) % 2 ^ 32, queue := p.queue ++ [.publish g none] }
  mirPump i (s.mirPeer i).queue.length s

/-- The changes sent to the peers concerned; answers the groups by peer. -/
def mirrorChanges (xs : List MirChange) (s : State) : List (Nat × Nat) × State :=
  let xs := xs.filter fun x => s.mirrors x.ctx
  let u := s.mirPeers.length
  (List.range u).foldl (fun (a : List (Nat × Nat) × State) i =>
    let ys := xs.filter fun x => x.slot % u = i
    if ys.isEmpty || a.2.mirSuspended i then a else (a.1 ++ [(i, (a.2.mirPeer i).group)], mirGroup i ys a.2)) ([], s)

/-- Steps whose groups every peer has applied become safe (R386). -/
def mirrorSafe (s : State) : State :=
  let ok := fun (e : Nat × Nat × List (Nat × Nat)) => e.2.2.all fun p =>
    s.mirSuspended p.1 || decide (s.mirAcked p.1 = p.2) || precedes 32 p.2 (s.mirAcked p.1)
  let s' := (s.mir.unsafe_.filter ok).foldl (fun s e => s.wr (F.KVM_MIR_SAFE_n_decode.off + 4 * e.1) e.2.1) s
  { s' with mir := { s'.mir with unsafe_ := s'.mir.unsafe_.filter fun e => !ok e } }

/-- A write may have changed the acknowledgement words: steps become safe, and rings have room. -/
def mirrorHeard (s : State) : State := mirrorPump (mirrorSafe s)

/-- The mirror of a commit of step `num` of a series (R383, R386). -/
def mirrorCommit (c series num : Nat) (xs : List MirChange) (s : State) : State :=
  if s.mirrors c then
    let r := mirrorChanges xs s
    mirrorSafe { r.2 with mir := { r.2.mir with unsafe_ := r.2.mir.unsafe_ ++ [(2 * c + series, num, r.1)] } }
  else s

/-- The mirror of a KVM command that changed slots (R383). -/
def mirrorSlots (c : Nat) (ns : List Nat) (s : State) : State :=
  if s.mirrors c then (mirrorChanges (ns.map fun n => ⟨n, c, none, false⟩) s).2 else s

end Sys2Proof.Machine
end

