-- ==== Sys2Proof/Machine/Kvm.lean ====
section
/-!
DEFINITION. The KVM commands: checks (R224, R237, R549), effects (R223), order of execution (R225), pausing and expiry
(R227, R228), copy-on-write (R221), and what unloading a context does to its latent pages (R229).
-/
namespace Sys2Proof.Machine

/-! ### Pages and tables -/

/-- Whether a latent page is full. -/
def State.pageFull (s : State) (n w : Nat) : Bool := decide (s.header n w 2 2 = capOfTag (s.header n w 0 1))

/-- The tables a slot needs from pool 1 before it can map window pages `ws` (R225). -/
def State.tablesNeeded (s : State) (n : Nat) (ws : List Nat) : Nat :=
  let e1 := s.get8 (s.l1Place (pageVa n 0))
  let ts := (ws.map (· / 8192)).eraseDups
  let new := ts.filter fun t => decide (e1 % 2 = 0) || decide (s.get8 (under e1 (bits (pageVa n (t * 8192)) 41 29)) % 2 = 0)
  new.length + (if e1 % 2 = 0 ∧ ts ≠ [] then 1 else 0)

/-- Maps `ws` of slot `src`, shared, into slot `dst`: neither may write them but by copy-on-write (R223). -/
def State.sharePages (s : State) (src dst : Nat) (ws : List Nat) : State :=
  ws.foldl (fun s w =>
    match s.pageFrame src w with
    | none => s
    | some f => ((s.protectPage src w).mapPage dst w f false).2) s

/-- Copies page `w` of slot `src` into a new frame of the same pool, mapped writable by slot `dst`. -/
def State.copyPage (s : State) (src dst w : Nat) : State :=
  match s.pageFrame src w with
  | none => s
  | some f =>
    match s.alloc (s.poolOf f) 1 (s.sctx dst) with
    | (none, s) => s
    | (some g, s) => ((s.copyFrame f g).mapPage dst w g true).2

/-- Moves page `w` of slot `n` to a frame of pool `p` (R227). -/
def State.movePage (s : State) (n w : Nat) (p : PList) : State :=
  match s.pageEntry n w with
  | none => s
  | some (pl, e) =>
    match s.frameAt (bits e 7 4) (entryBase e) with
    | none => s
    | some f =>
      match s.alloc p 1 (s.sctx n) with
      | (none, s) => s
      | (some g, s) =>
        let s := s.copyFrame f g
        let s := (((s.put8 pl (setBits (s.kvEntry g (tbit e 1)) 2 2 (bits e 2 2))).dropCached).mapFrame g).unmapFrame f
        s.bump C.KVM_PAGES_MOVED

/-- The pages a PAUSE moves: sole mappings, not pinned, in tier 1. -/
def State.pausePages (s : State) (n : Nat) : List Nat :=
  (s.slotPages n).filter fun w =>
    match s.pageFrame n w with
    | some f => decide (f < s.pool1N) && !s.pinned f && decide (s.pget f P.ref = 1)
    | none => false

/-- The pages a RESUME moves: those in tier 2. -/
def State.resumePages (s : State) (n : Nat) : List Nat :=
  (s.slotPages n).filter fun w =>
    match s.pageFrame n w with
    | some f => decide (s.pool1N ≤ f)
    | none => false

/-- Whether any of a slot's pages `ws` holds a poisoned line. -/
def State.anyPoison (s : State) (n : Nat) (ws : List Nat) : Bool :=
  ws.any fun w => match s.pageFrame n w with
    | some f => s.framePoison f
    | none => false

/-! ### Copy-on-write (R221) -/

/-- A write through a kv entry: false where an allocation fails. -/
def State.writable (s : State) (n w : Nat) : Bool × State :=
  match s.pageEntry n w with
  | none => (false, s)
  | some (pl, e) =>
    if tbit e 1 then (true, s)
    else
      match s.frameAt (bits e 7 4) (entryBase e) with
      | none => (false, s)
      | some f =>
        if s.pget f P.ref = 1 ∧ !s.pinned f then (true, (s.put8 pl (setBits e 1 1 1)).dropCached)
        else
          match s.alloc (s.poolOf f) 1 (s.sctx n) with
          | (none, s) => (false, s)
          | (some g, s) =>
            let s := s.copyFrame f g
            (true, ((((s.put8 pl (s.kvEntry g true)).dropCached).mapFrame g).unmapFrame f).bump C.KVM_COW)

/-! ### Freeing a slot -/

/-- A PAUSE or RESUME stopped by a free: the overtaken command is judged by the state after it (R225). (DEDUCED: log entry 50) -/
def State.stopMove (s : State) (n : Nat) : State :=
  match kget s.kvm.moves n with
  | none => s
  | some m => ({ s with kvm := { s.kvm with moves := kdel s.kvm.moves n } } : State).complete m.org m.op St.state

/-- A slot is freed (R223, R236): its request ends with reason freed, its partner becomes IDLE, its move stops, and every
page and table of it is unmapped. -/
def freeSlot (n : Nat) (s : State) : State :=
  let s := freePartner n (finishReq n St.done 4 s)
  let s := (s.stopMove n).leaveSteps n
  let s := (s.unmapSlot n).sclear n
  { s with kvm := { s.kvm with ttl := kdel s.kvm.ttl n } }

/-! ### Checks (R224) -/

/-- Whether a number names no slot. -/
def badSlot (n : Nat) : Bool := decide (nSlots ≤ n)

/-- Whether a handle is one of the two that name nothing. -/
def badHandle (h : Nat) : Bool := h = 0 || h = 2 ^ 64 - 1

/-- Whether slot `n` is in state `st`. -/
def State.slotIs (s : State) (n st : Nat) : Bool := s.sget n D.state = st

/-- The tenant of a directory entry, and whether all tenants share it. -/
def State.dirTenant (s : State) (i : Nat) : Nat := s.dget i X.tenant % 4096
def State.dirShared (s : State) (i : Nat) : Bool := tbit (s.dget i X.tenant) 12

/-- The context of an entry. -/
def State.dirCtx (s : State) (i : Nat) : Nat := s.dget i X.ctx % 16

/-- Free frames of pool 1 and of pool 2. -/
def State.free1 (s : State) : Nat := s.kvm.f1.n
def State.free2 (s : State) : Nat := s.kvm.f2.n

/-- The pages a FORK copies. -/
def State.forkCopies (s : State) (n : Nat) : List Nat := (s.latentPages n).filter (fun w => !s.pageFull n w) ++ s.carryPages n

/-- How many of a slot's pages `ws` lie in pool 2. -/
def State.inPool2 (s : State) (n : Nat) (ws : List Nat) : Nat :=
  (ws.filter fun w => match s.pageFrame n w with
    | some f => decide (s.pool1N ≤ f)
    | none => false).length

/-- PUBLISH refused. -/
def publishRefusal (r : KvmRec) (s : State) : Option Nat :=
  let ws := s.latentPages r.slot
  firstOf [
    (!s.kvmReady, St.notReady), (r.rsv || badHandle r.handle, St.format), (badSlot r.slot || badSlot r.slot2, St.range),
    (!s.slotIs r.slot Sl.idle || !s.slotEmpty r.slot2 || decide (s.sget r.slot D.length = 0) || decide (s.sctx r.slot ≠ r.ctx) ||
      (s.dirFind r.handle).isSome || (kget s.kvm.moves r.slot).isSome, St.state),
    (decide (65536 ≤ s.dirLive.length) || decide (s.free1 < s.tablesNeeded r.slot2 ws), St.busy)]

/-- TAKE_UP refused. -/
def takeUpRefusal (r : KvmRec) (s : State) : Option Nat :=
  match s.dirFind r.handle with
  | none => firstOf [(!s.kvmReady, St.notReady), (r.rsv || badHandle r.handle, St.format), (badSlot r.slot, St.range), (true, St.state)]
  | some i =>
    let h := s.dget i X.holder
    firstOf [
      (!s.kvmReady, St.notReady), (decide (s.dirTenant i ≠ r.tenant) && !s.dirShared i, St.auth),
      (r.rsv || badHandle r.handle, St.format), (badSlot r.slot, St.range),
      (!s.slotEmpty r.slot || decide (s.dirCtx i ≠ r.ctx) || (s.genSlot r.ctx (s.dget i X.generation)).isNone, St.state),
      (decide (s.free1 < s.tablesNeeded r.slot (s.slotPages h)), St.busy)]

/-- RETIRE refused. -/
def retireRefusal (r : KvmRec) (s : State) : Option Nat :=
  match s.dirFind r.handle with
  | none => firstOf [(!s.kvmReady, St.notReady), (r.rsv || badHandle r.handle, St.format), (true, St.state)]
  | some i => firstOf [
      (!s.kvmReady, St.notReady), (decide (s.dirTenant i ≠ r.tenant), St.auth),
      (r.rsv || badHandle r.handle, St.format), (decide (s.dirCtx i ≠ r.ctx), St.state)]

/-- FORK refused. -/
def forkRefusal (r : KvmRec) (s : State) : Option Nat :=
  let cs := s.forkCopies r.slot
  let c2 := s.inPool2 r.slot cs
  firstOf [
    (!s.kvmReady, St.notReady), (r.rsv, St.format), (badSlot r.slot || badSlot r.slot2, St.range),
    (!s.slotIs r.slot Sl.idle || !s.slotEmpty r.slot2 || decide (s.sget r.slot D.length = 0) || (kget s.kvm.moves r.slot).isSome, St.state),
    (decide (s.free1 < s.tablesNeeded r.slot2 (s.latentPages r.slot ++ s.carryPages r.slot) + (cs.length - c2)) || decide (s.free2 < c2), St.busy)]

/-- FREE_SEQ refused. -/
def freeSeqRefusal (r : KvmRec) (s : State) : Option Nat :=
  firstOf [(!s.kvmReady, St.notReady), (r.rsv, St.format), (badSlot r.slot, St.range), (s.slotIs r.slot Sl.holder, St.state)]

/-- Whether a time-to-live lies outside its range. -/
def badTtl (t : Nat) : Bool := !(decide (1 ≤ t) && decide (t ≤ 86400))

/-- PAUSE refused. -/
def pauseRefusal (r : KvmRec) (s : State) : Option Nat :=
  firstOf [(!s.kvmReady, St.notReady), (r.rsv, St.format), (badSlot r.slot || badTtl r.ttl, St.range),
    (!s.slotIs r.slot Sl.idle, St.state), (decide (s.free2 < (s.pausePages r.slot).length), St.busy)]

/-- RESUME refused. -/
def resumeRefusal (r : KvmRec) (s : State) : Option Nat :=
  firstOf [(!s.kvmReady, St.notReady), (r.rsv, St.format), (badSlot r.slot, St.range),
    (!s.slotIs r.slot Sl.paused, St.state), (decide (s.free1 < (s.resumePages r.slot).length), St.busy)]

/-- TOUCH refused. -/
def touchRefusal (r : KvmRec) (s : State) : Option Nat :=
  firstOf [(!s.kvmReady, St.notReady), (r.rsv, St.format), (badSlot r.slot || badTtl r.ttl, St.range),
    (!s.slotIs r.slot Sl.paused, St.state)]

/-! ### Effects (R223) -/

/-- A copied descriptor: length, tokens and generation of slot `src`, every other field zero but those given. -/
def State.copyDesc (s : State) (src dst st ctx tenant : Nat) : State :=
  let l := s.sget src D.length
  let a := s.sget src D.lastToken
  let b := s.sget src D.prevToken
  let g := s.sget src D.generation
  (s.sclear dst).sputs dst [(D.state, st), (D.ctx, ctx), (D.tenant, tenant), (D.generation, g), (D.length, l),
    (D.lastToken, a), (D.prevToken, b)]

/-- PUBLISH's effect. -/
def publishEffect (r : KvmRec) (s : State) : State :=
  let ws := s.latentPages r.slot
  let c := s.sctx r.slot
  let s := s.copyDesc r.slot r.slot2 Sl.holder c (s.sget r.slot D.tenant)
  let s := s.sharePages r.slot r.slot2 ws
  let i := s.dirFree
  s.dputs i [(X.handle, r.handle), (X.holder, r.slot2), (X.length, s.sget r.slot D.length),
    (X.generation, s.sget r.slot D.generation), (X.tenant, r.tenant % 4096 + 4096 * bit r.sharedAll), (X.ctx, c + 16), (X.uses, 0)]

/-- TAKE_UP's effect. -/
def takeUpEffect (r : KvmRec) (s : State) : State :=
  match s.dirFind r.handle with
  | none => s
  | some i =>
    let h := s.dget i X.holder
    let s := s.copyDesc h r.slot Sl.idle r.ctx r.tenant
    let s := s.sharePages h r.slot (s.slotPages h)
    (s.dputs i [(X.uses, satBits 64 (s.dget i X.uses + 1))]).bump C.KVM_TAKE_UPS

/-- RETIRE's effect. -/
def retireEffect (r : KvmRec) (s : State) : State :=
  match s.dirFind r.handle with
  | none => s
  | some i => freeSlot (s.dget i X.holder) (s.dirRetire i)

/-- FORK's effect. (DEDUCED: log entry 49) -/
def forkEffect (r : KvmRec) (s : State) : State :=
  let cs := s.forkCopies r.slot
  let ws := (s.latentPages r.slot).filter fun w => s.pageFull r.slot w
  let s := s.copyDesc r.slot r.slot2 Sl.idle (s.sctx r.slot) (s.sget r.slot D.tenant)
  let s := s.sharePages r.slot r.slot2 ws
  cs.foldl (fun s w => s.copyPage r.slot r.slot2 w) s

/-- The first move of a PAUSE or RESUME: its pages move by the time of its MOVE_DONE. -/
def startMove (o : CmdOrigin) (op : Nat) (r : KvmRec) (s : State) : State :=
  { s with kvm := { s.kvm with moves := kset s.kvm.moves r.slot ⟨o, op, r.ttl, false⟩ } }

/-- Sets the expiry time of a paused slot `ttl` seconds from now. -/
def State.setTtl (s : State) (n ttl : Nat) : State :=
  { s with kvm := { s.kvm with ttl := kset s.kvm.ttl n (s.us + ttl * 1000000) } }

/-- Completes a command with its refusal, or carries it out. -/
def orElse (o : CmdOrigin) (op : Nat) (refusal : Option Nat) (k : State → State) (s : State) : State :=
  match refusal with
  | some st => s.complete o op st
  | none => k s

/-- A KVM command carried out, by op (R223). -/
def kvmRun (o : CmdOrigin) (op : Nat) (r : KvmRec) (s : State) : State :=
  match op with
  | 1 => orElse o op (publishRefusal r s) (fun s => (publishEffect r s).complete o op St.done) s
  | 2 => orElse o op (takeUpRefusal r s) (fun s => (mirrorSlots r.ctx [r.slot] (takeUpEffect r s)).complete o op St.done) s
  | 3 => orElse o op (retireRefusal r s) (fun s => (retireEffect r s).complete o op St.done) s
  | 4 => orElse o op (forkRefusal r s) (fun s =>
      let bad := s.anyPoison r.slot (s.forkCopies r.slot)
      (mirrorSlots (s.sctx r.slot) [r.slot2] (forkEffect r s)).complete o op (if bad then St.uncorrected else St.done)) s
  | 5 => orElse o op (freeSeqRefusal r s) (fun s => (mirrorSlots (s.sctx r.slot) [r.slot] (freeSlot r.slot s)).complete o op St.done) s
  | 6 => orElse o op (pauseRefusal r s) (startMove o op r) s
  | 7 => orElse o op (resumeRefusal r s) (fun s =>
      let s := startMove o op r s
      { s with kvm := { s.kvm with ttl := kdel s.kvm.ttl r.slot } }) s
  | _ => orElse o op (touchRefusal r s) (fun s => (s.setTtl r.slot r.ttl).complete o op St.done) s

/-! ### Order (R225) -/

/-- The slots a command names. -/
def namedSlots (op : Nat) (r : KvmRec) : List Nat :=
  if op = 3 then [] else if op = 1 ∨ op = 4 then [r.slot, r.slot2] else [r.slot]

/-- Whether a command waits: a move is in progress, or a slot it names is in a step that is built and not committed. -/
def State.kvmHeld (s : State) (op : Nat) (r : KvmRec) : Bool :=
  decide (s.kvm.moves ≠ []) || (namedSlots op r).any fun n => decide (n < nSlots) && s.sflag n Fl.inStep

/-- Carries out the waiting commands from the front as far as they may go, at most `n` of them. -/
def drainKvmN : Nat → State → State
  | 0, s => s
  | n + 1, s =>
    match s.kvm.waiting with
    | [] => s
    | (o, op, r) :: rest =>
      if s.kvmHeld op r then s
      else drainKvmN n (kvmRun o op r { s with kvm := { s.kvm with waiting := rest } })

/-- Carries out the waiting commands that no longer wait. -/
def drainKvm (s : State) : State := drainKvmN s.kvm.waiting.length s

/-- A KVM command arrives: FREE_SEQ at once, another in its turn. (DEDUCED: log entry 48) -/
def kvmCmd (o : CmdOrigin) (op : Nat) (r : KvmRec) (s : State) : State :=
  s.engine o op fun s =>
    if op = 5 then drainKvm (kvmRun o op r s)
    else if s.kvmReady && (decide (s.kvm.waiting ≠ []) || s.kvmHeld op r) then
      { s with kvm := { s.kvm with waiting := s.kvm.waiting ++ [(o, op, r)] } }
    else kvmRun o op r s

/-- PUBLISH (R223). -/
def execPublish (o : CmdOrigin) (r : KvmRec) (s : State) : Out := .next (s.on fun s => kvmCmd o 1 r s)

/-- TAKE_UP (R223). -/
def execTakeUp (o : CmdOrigin) (r : KvmRec) (s : State) : Out := .next (s.on fun s => kvmCmd o 2 r s)

/-- RETIRE (R223). -/
def execRetire (o : CmdOrigin) (r : KvmRec) (s : State) : Out := .next (s.on fun s => kvmCmd o 3 r s)

/-- FORK (R223). -/
def execFork (o : CmdOrigin) (r : KvmRec) (s : State) : Out := .next (s.on fun s => kvmCmd o 4 r s)

/-- FREE_SEQ (R225). -/
def execFreeSeq (o : CmdOrigin) (r : KvmRec) (s : State) : Out := .next (s.on fun s => kvmCmd o 5 r s)

/-- PAUSE (R227). -/
def execPause (o : CmdOrigin) (r : KvmRec) (s : State) : Out := .next (s.on fun s => kvmCmd o 6 r s)

/-- RESUME (R227). -/
def execResume (o : CmdOrigin) (r : KvmRec) (s : State) : Out := .next (s.on fun s => kvmCmd o 7 r s)

/-- TOUCH (R223). -/
def execTouch (o : CmdOrigin) (r : KvmRec) (s : State) : Out := .next (s.on fun s => kvmCmd o 8 r s)

/-! ### Moves, time-to-live and the expiry FIFO -/

/-- The last page of a move is moved (R227, R228). (DEDUCED: log entry 50) -/
def moveDone (n op : Nat) (ws : State → List Nat) (p : PList) (k : Move → State → State) (s : State) : State :=
  match kget s.kvm.moves n with
  | none => s
  | some m =>
    if m.op = op then
      let bad := s.anyPoison n (ws s)
      let s := (ws s).foldl (fun s w => s.movePage n w p) s
      let s := k m { s with kvm := { s.kvm with moves := kdel s.kvm.moves n } }
      drainKvm ((mirrorSlots (s.sctx n) [n] s).complete m.org op (if bad then St.uncorrected else St.done))
    else s

/-- PAUSE_MOVE_DONE (R227): the slot is PAUSED and its time-to-live starts. -/
def execPauseMoveDone (n : Nat) (s : State) : Out :=
  .next (s.on fun s => moveDone n 6 (·.pausePages n) .free2 (fun m s => (s.sput n D.state Sl.paused).setTtl n m.ttl) s)

/-- RESUME_MOVE_DONE (R227): the slot is IDLE. -/
def execResumeMoveDone (n : Nat) (s : State) : Out :=
  .next (s.on fun s => moveDone n 7 (·.resumePages n) .free1 (fun _ s => s.sput n D.state Sl.idle) s)

/-- A paused slot expires (R228). (DEDUCED: log entry 50) -/
def expireSlot (s : State) (n : Nat) : State :=
  let s := (mirrorSlots (s.sctx n) [n] (freeSlot n s)).bump C.KVM_EXPIRIES
  if s.kvm.fifo.length < 64 then { s with kvm := { s.kvm with fifo := s.kvm.fifo ++ [n] } } else s

/-- TTL_CHECK (R228): every paused slot whose time-to-live has run out is freed. -/
def execTtlCheck (s : State) : Out :=
  .next (s.on fun s => ((s.kvm.ttl.filter fun e => e.2 ≤ s.us).map (·.1)).foldl expireSlot s)

/-- KVM_EXPIRED as it reads. -/
def State.expiredWord (s : State) : Nat :=
  match s.kvm.fifo with
  | [] => 0
  | n :: _ => n + 2 ^ 31

/-- KVM_EXPIRED_READ (R231): the read pops the oldest entry. -/
def kvmExpiredRead (org : Originator) (s : State) : State :=
  if s.mayRead org 0x130004C then
    if s.served 0x130004C then
      ({ s with kvm := { s.kvm with fifo := s.kvm.fifo.drop 1 } }.setLatch org 0x130004C 0).emit (.readData org 0x130004C s.expiredWord)
    else (s.setLatch org 0x130004C 0).emit (.readData org 0x130004C 0)
  else s

/-- KVM_EXPIRED_READ (R231). -/
def execKvmExpiredRead (org : Originator) (s : State) : Out := .next (s.on fun s => kvmExpiredRead org s)

/-! ### Unloading a context (R229) -/

/-- Frames whose table entry is not all zero. -/
def State.framesInUse (s : State) : List Nat := usedEntries s.mem.t1 (s.pfOff 0) 16 (s.pool1N + s.pool2N)

/-- What unloading context `c` does to its directory entries, slots and pinned frames. -/
def unloadLatent (c : Nat) (s : State) : State :=
  let s := (s.dirLive.filter fun i => s.dirCtx i = c).foldl (fun s i => freeSlot (s.dget i X.holder) (s.dirRetire i)) s
  let s := (s.slotsInUse.filter fun n => s.sget n D.state ≠ Sl.free && s.sctx n = c).foldl (fun s n => freeSlot n s) s
  let s := (s.framesInUse.filter fun f => s.pget f P.state = 1 && s.pinned f && s.pget f P.ctx = c).foldl (fun s f => s.quarantine f) s
  drainKvm s

end Sys2Proof.Machine
end

