-- ==== Sys2Proof/Machine/Tensor.lean ====
section
/-!
DEFINITION. Weight tensors (R39 to R44), output rows (R54 to R56), requantisation with a carry (R57), and what a matrix
tile computes from them (R47, R137).
-/
namespace Sys2Proof.Machine

/-! ### Tensor descriptors (R44) -/

/-- A tensor descriptor. -/
structure Tensor where
  addr : Nat
  data : Nat
  header : Nat
  group : Nat
  reserve : Nat
  fmt : Nat
  fine : Bool
  base : Nat
  layer : Nat
  rsv : Bool
  deriving DecidableEq, Repr

/-- The descriptor at an address. -/
def State.tensor (s : State) (a : Nat) : Tensor :=
  let b := padTo 40 (s.vread a 40).bytes
  ⟨a, leAt b 0 8, leAt b 8 8, leAt b 16 8, leAt b 24 8, leAt b 32 1, tbit (leAt b 33 1) 0, leAt b 34 1, leAt b 35 1,
    decide (2 ≤ leAt b 33 1) || decide (leAt b 36 4 ≠ 0)⟩

/-- The width code of block `i`. -/
def State.blockCode (s : State) (t : Tensor) (i : Nat) : Nat :=
  if t.fmt = 6 then bits (s.vle (t.group + 16 * (i / 16)) 8) (4 * (i % 16) + 3) (4 * (i % 16)) else t.fmt

/-- The address of block `i`'s data. (DEDUCED: log entry 40) -/
def State.blockPlace (s : State) (t : Tensor) (i : Nat) : Nat :=
  if t.fmt = 6 then
    let g := i / 16
    t.data + 16 * s.vle (t.group + 16 * g + 8) 4 +
      ((List.range (i % 16)).map fun j => 16 * weightWidth (s.blockCode t (16 * g + j))).foldl (· + ·) 0
  else t.data + 16 * weightWidth t.fmt * i

/-- Block `i` as it enters a reduction, whether it is bad (R43), and whether its bytes are poisoned. A bad block counts
as a zero block. -/
def State.weightBlock (s : State) (t : Tensor) (i : Nat) : Block × Bool × Bool :=
  let hl := 1 + bit t.fine
  let h := s.vread (t.header + hl * i) hl
  let ex := leAt h.bytes 0 1
  let fine := if t.fine then leAt h.bytes 1 1 else 0
  let code := s.blockCode t i
  let w := weightWidth code
  if ex = 0 then (⟨0, 0, List.replicate 128 0⟩, false, h.bad)
  else if ex = 255 ∨ ex < t.base ∨ t.base + 16 < ex ∨ 5 < code then (⟨0, 0, List.replicate 128 0⟩, true, h.bad)
  else
    let d := s.vread (s.blockPlace t i) (16 * w)
    (⟨ex, fine, (List.range 128).map (blockElem w d.bytes)⟩, false, h.bad || d.bad)

/-- Whether a reserve descriptor meets R44 for the tensor it backs, of `nb` blocks. -/
def State.reserveOk (s : State) (t : Tensor) (nb : Nat) : Bool :=
  let r := s.tensor t.reserve
  (decide (r.fmt = 4) || decide (r.fmt = 5)) && decide (r.layer = t.layer) && decide (r.reserve = 0) && !r.rsv &&
    (if t.fmt = 6 then (List.range nb).all fun i => weightWidth (s.blockCode t i) < weightWidth r.fmt
     else decide (weightWidth t.fmt < weightWidth r.fmt))

/-- Whether a descriptor is refused with REJ_FORMAT, for a tensor of `nb` blocks. -/
def State.tensorFormat (s : State) (t : Tensor) (nb : Nat) : Bool :=
  !isWeightFmt t.fmt || t.rsv || (decide (t.fmt ≠ 6) && decide (t.group ≠ 0)) || (decide (t.reserve ≠ 0) && !s.reserveOk t nb)

/-- Whether a descriptor is refused with REJ_RANGE in a context of `layers` layers. -/
def Tensor.badRange (t : Tensor) (layers : Nat) : Bool := !(decide (1 ≤ t.base) && decide (t.base ≤ 238)) || decide (layers ≤ t.layer)

/-! ### Output rows (R54 to R56) -/

/-- Whether an output format holds blocks. -/
def blockFmt (fmt : Nat) : Bool := decide (fmt ≤ 5) || fmt = 7 || fmt = 8

/-- The element width of a block output. -/
def outWidth (fmt : Nat) : Nat := if fmt = 7 then 8 else if fmt = 8 then 4 else weightWidth fmt

/-- The bytes of one element of an output without blocks. -/
def elemBytes (fmt : Nat) : Nat := if fmt = 0xB then 2 else if fmt = 0xC then 4 else 1

/-- The format of an output without blocks. -/
def outFFmt (fmt : Nat) : FFmt := if fmt = 0xB then ffBF16 else if fmt = 0xC then ffFP32 else if fmt = 0xA then ffE5M2 else ffE4M3

/-- The bytes of an output row of `n` elements. -/
def outPitch (fmt n : Nat) : Nat :=
  if blockFmt fmt then (ceilDiv n 128 * (16 * outWidth fmt) + ceilDiv n 128 + 1 + 63) / 64 * 64 else n * elemBytes fmt

/-- A vector in blocks of 128. -/
def inBlocks {α : Type} (n : Nat) (l : List α) : List (List α) := chunks 128 (ceilDiv n 128) l

/-- A piece of output: address, bytes, poison. -/
abbrev Piece := Nat × List Byte × Bool

/-- One element of an output without blocks. -/
def putElem (fmt rnd : Nat) (sat : Bool) (v : Dy) : Nat × Bool := (outFFmt fmt).put rnd (sat || decide (fmt = 9)) v

/-- The pieces of columns `c0` to `c0 + cn − 1` of an output row of values with their poison, and the saturations. A block
output takes its base and exponents from the whole row, so that they do not depend on the tiling (R53, R56). (DEDUCED: log entry 40) -/
def outRow (fmt rnd : Nat) (sat : Bool) (at_ c0 cn : Nat) (vs : List (Dy × Bool)) : List Piece × Nat :=
  if blockFmt fmt then
    let w := outWidth fmt
    let nb := ceilDiv vs.length 128
    let r := requant rnd w (decide (fmt ≤ 5)) ((inBlocks vs.length vs).map fun b => b.map (·.1))
    let bytes := rowBytes w r.1 r.2.1 r.2.2.1
    let bad := vs.any (·.2)
    let b0 := c0 / 128
    let bn := ceilDiv cn 128
    ([(at_ + b0 * 16 * w, slice bytes (b0 * 16 * w) (bn * 16 * w), bad),
      (at_ + nb * 16 * w + b0, slice bytes (nb * 16 * w + b0) bn, bad),
      (at_ + nb * 16 * w + nb, slice bytes (nb * 16 * w + nb) 1, bad)], r.2.2.2)
  else
    let es := ((slice' vs c0 cn).map fun v => (putElem fmt rnd sat v.1, v.2))
    let e := elemBytes fmt
    ((es.zipIdx).map fun (x, i) => (at_ + (c0 + i) * e, toBytes e x.1.1, x.2), (es.filter fun x => x.1.2).length)
where
  slice' (l : List (Dy × Bool)) (i n : Nat) : List (Dy × Bool) := (l.drop i).take n

/-! ### Requantisation with a carry (R57) -/

/-- A vector written in blocks of width `w` with a carry per channel: base, exponents, elements, new carries, carry
clamps, and saturations. -/
def carryRow (w : Nat) (weight : Bool) (vs : List Dy) (cs : List Nat) : Nat × List Nat × List (List Int) × List Nat × Nat × Nat :=
  let us := (vs.zip cs).map fun p => p.1.add (ffBF16.val p.2)
  let r := requant 0 w weight (inBlocks us.length us)
  let out := ((inBlocks vs.length (vs.zip cs)).zip r.2.1).map fun (b, e) =>
    b.map fun p => if e = 0 then ((0, 0, false) : Int × Nat × Bool) else carryStep w ((e : Int) - 127) p.2 p.1
  let flat := out.flatten
  (r.1, r.2.1, out.map (fun b => b.map (·.1)), flat.map (·.2.1), (flat.filter (·.2.2)).length, r.2.2.2)

/-! ### Matrix tiles -/

/-- What a tile leaves: its status, its output pieces, and the state with its events and counters. -/
structure TileOut where
  status : Nat
  outs : List Piece
  st : State

/-- The column `c` of an `n`-column tensor: its blocks along the reduction with their stream indices, bad and poison marks. -/
def State.column (s : State) (t : Tensor) (nblk n c : Nat) : List (Nat × Block × Bool × Bool) :=
  (List.range nblk).map fun k =>
    let i := Config.blockOrder nblk n c k
    (i, s.weightBlock t i)

/-- An activation row as operand: base, blocks cut at K with bad ones zeroed, a bad mark, non-finite codes, poison. -/
structure ActRow where
  base : Nat
  blocks : List Block
  bad : Bool
  nonfin : Nat
  poison : Bool

/-- Reads activation row `r` of an operand at `a` (R45, R46, R137). -/
def State.actRowAt (s : State) (fmt a r k : Nat) : ActRow :=
  let nblk := ceilDiv k 128
  let x := s.vread (a + r * rowPitch fmt nblk) (rowPitch fmt nblk)
  let v := readRow fmt (padTo (rowPitch fmt nblk) x.bytes) nblk
  let bad := v.2.1.any fun b => b.bad v.1
  ⟨v.1, (cutAt k v.2.1).map fun b => if b.bad v.1 then ⟨0, 0, b.q⟩ else b, bad, v.2.2, x.bad⟩

/-- The exact value of one output element (R47), with its poison. -/
def accValue (t : Tensor) (col : List (Nat × Block × Bool × Bool)) (a : ActRow) : Dy × Bool :=
  let acc := if a.base = 0 then 0 else accumulate t.base a.base (col.map (·.2.1)) a.blocks
  (⟨acc, (t.base : Int) + a.base - 262⟩, a.bad || a.poison || col.any fun c => c.2.2.1 || c.2.2.2)

/-- The tensor a tile uses: its wide reserve in FALLBACK (R69). -/
def State.liveTensor (s : State) (a : Nat) (wide : Bool) : Tensor :=
  let t := s.tensor a
  if wide && decide (t.reserve ≠ 0) then s.tensor t.reserve else t

/-- Status and events of a matrix tile's operands: bad blocks, then poison, then non-finite codes (R43, R46, R86). -/
def matrixMeet (f desc : Nat) (badBlock : Option Nat) (poison : Bool) (nonfin : Nat) (s : State) : Nat × State :=
  let s := if nonfin = 0 then s else (s.bump C.RTC_NONFINITE nonfin).raise E.inputNonFinite f (d0 := nonfin)
  match badBlock with
  | some b => (St.internal, s.raise E.badBlock f (d0 := desc) (d1 := b))
  | none => (if poison then St.uncorrected else if nonfin ≠ 0 then St.degraded else St.done, s)

/-- The first bad block of a set of columns, by stream index; an activation block's own index where none is. -/
def firstBad (cols : List (List (Nat × Block × Bool × Bool))) (rows : List ActRow) : Option Nat :=
  match cols.flatten.find? fun c => c.2.2.1 with
  | some c => some c.1
  | none => if rows.any (·.bad) then some 0 else none

/-- Values with a row's deltas added before they are rounded (R320). -/
def addDeltas (vs ds : List (Dy × Bool)) : List (Dy × Bool) :=
  if ds = [] then vs else (vs.zip ds).map fun x => (x.1.1.add x.2.1, x.1.2 || x.2.2)

/-- A MATMUL tile (R137); `deltas` gives a row's adapter deltas, if it takes any. -/
def matmulTile (f : Nat) (i : Issued) (tile : Nat) (deltas : Nat → List (Dy × Bool)) (s : State) : TileOut :=
  let nblk := ceilDiv i.k 128
  let t := s.liveTensor i.i.b i.wide
  let cols := (List.range i.n).map fun c => s.column t nblk i.n c
  let r0 := tile / i.nTiles * i.tm
  let rows := (List.range (min i.tm (i.m - r0))).map fun r => (r0 + r, s.actRowAt i.i.actFmt i.i.a (r0 + r) i.k)
  let c0 := tile % i.nTiles * i.tn
  let outs := rows.map fun r =>
    outRow i.i.outFmt i.i.rnd i.i.sat (i.i.c + r.1 * outPitch i.i.outFmt i.n) c0 (min i.tn (i.n - c0)) (addDeltas (cols.map fun c => accValue t c r.2) (deltas r.1))
  let m := matrixMeet f i.i.b (firstBad cols (rows.map (·.2))) (rows.any (·.2.poison) || cols.any fun c => c.any (·.2.2.2))
    ((rows.map (·.2.nonfin)).foldl (· + ·) 0) s
  ⟨m.1, (outs.map (·.1)).flatten, m.2.bump C.RTC_OUT_SAT ((outs.map (·.2)).foldl (· + ·) 0)⟩

/-- A COPY tile: 65,536 bytes of the source or its rest, with the poison of each line. -/
def copyTileOut (i : Issued) (tile : Nat) (s : State) : TileOut :=
  let o := tile * 65536
  let n := min 65536 (i.m - o)
  let ps := (List.range (n / 64)).map fun l =>
    let r := s.vread (i.i.a + o + 64 * l) 64
    ((i.i.c + o + 64 * l, r.bytes, r.bad) : Piece)
  ⟨if ps.any (·.2.2) then St.uncorrected else St.done, ps, s⟩

/-- `n` bytes of open value from a row of Config. -/
def openBytes (l : List Nat) (n : Nat) : List Byte := padTo n (((Config.ffnRow l).take n).map (BitVec.ofNat 8))

/-- The columns of a GATED_FFN's three tensors, gate, up and down, each with its descriptor's address (R135). -/
def State.ffnColumns (s : State) (i : Issued) (rec_ : Nat) : List (Nat × List (List (Nat × Block × Bool × Bool))) :=
  [(0, ceilDiv i.k 128, i.n), (8, ceilDiv i.k 128, i.n), (16, ceilDiv i.n 128, i.k)].map fun x =>
    let a := s.vle (rec_ + x.1) 8
    (a, (List.range x.2.2).map fun c => s.column (s.liveTensor a i.wide) x.2.1 x.2.2 c)

/-- Status and events of a GATED_FFN tile's operands: its weight blocks, its activation rows, and poison (R43, R46, R86). -/
def ffnMeet (f : Nat) (i : Issued) (rec_ : Nat) (rows : List ActRow) (poison : Bool) (s : State) : Nat × State :=
  let ts := s.ffnColumns i rec_
  let nonfin := (rows.map (·.nonfin)).foldl (· + ·) 0
  let p := poison || rows.any (·.poison) || ts.any fun t => t.2.any fun c => c.any (·.2.2.2)
  match ts.findSome? fun t => (firstBad t.2 []).map fun b => (t.1, b) with
  | some x => matrixMeet f x.1 (some x.2) p nonfin s
  | none => matrixMeet f i.i.b (firstBad [] rows) p nonfin s

/-- Whether every output of a GATED_FFN tile is poisoned by its weights: each block enters some reduction of each row. -/
def State.ffnWeightBad (s : State) (i : Issued) (rec_ : Nat) : Bool :=
  (s.ffnColumns i rec_).any fun t => t.2.any fun c => c.any fun b => b.2.2.1 || b.2.2.2

/-- A grouped GATED_FFN tile (R138): the rows of its entry in the return layout (R163), `slotRows` to the region. Each
exponent lies within the window of R50, whose C is in the row's metadata. -/
def ffnGrouped (f : Nat) (i : Issued) (tile slotRows : Nat) (s : State) : TileOut :=
  let rows := s.entryRows i tile
  let rec_ := s.vle (i.i.b + 32 * tile) 8
  let act := s.vle (i.i.b + 32 * tile + 8) 8
  let out := s.vle (i.i.b + 32 * tile + 16) 8
  let nb := ceilDiv i.k 128
  let da := nb * 16 * outWidth i.i.actFmt
  let db := nb * 16 * outWidth i.i.outFmt
  let hb := 16 + 16 * ceilDiv nb 16
  let rs := (List.range rows).map fun r => (r, (s.vread (act + r * da) da).bad)
  let m := if rows = 0 then (St.done, s) else ffnMeet f i rec_ [] (rs.any (·.2)) s
  let wb := decide (rows ≠ 0) && s.ffnWeightBad i rec_
  ⟨m.1, (rs.map fun (r, p) =>
    let h := out + slotRows * db + r * hb
    let c := s.vle (h + 1) 1
    ([(out + r * db, openBytes [s.free, tile, r, 0] db, p || wb),
      (h, openBytes [s.free, tile, r, 1] 1, p || wb),
      (h + 16, (openBytes [s.free, tile, r, 2] nb).map fun b => BitVec.ofNat 8 (c + b.toNat % 44), p || wb)] : List Piece)).flatten, m.2.fresh.2⟩

/-- A GATED_FFN tile that is not grouped; `extra` is the poison a row takes from its combine rows (R187). -/
def ffnPlain (f : Nat) (i : Issued) (tile : Nat) (extra : Nat → Bool) (s : State) : TileOut :=
  let r0 := tile * i.tm
  let p := outPitch i.i.outFmt i.k
  let rs := (List.range (min i.tm (i.m - r0))).map fun r => (r0 + r, s.actRowAt i.i.actFmt i.i.a (r0 + r) i.k)
  let m := ffnMeet f i i.i.b (rs.map (·.2)) (rs.any fun x => extra x.1) s
  let wb := s.ffnWeightBad i i.i.b
  ⟨m.1, rs.map fun (r, a) => ((i.i.c + r * p, openBytes [s.free, tile, r] p, a.bad || a.poison || extra r || wb) : Piece), m.2.fresh.2⟩

/-- A GATED_FFN tile (R135, R138): the rounding between its projections is open, so the bytes of its output rows are
free values; which bytes it writes, what is poisoned and how it ends is not. (DESIGN CHOICE: log entry 41) -/
def ffnTile (f : Nat) (i : Issued) (tile slotRows : Nat) (extra : Nat → Bool) (s : State) : TileOut :=
  if i.i.grouped then ffnGrouped f i tile slotRows s else ffnPlain f i tile extra s

/-- The combine blocks of a tile that saturate at C + 43 (R50), an open count like the values: each adds to the
combine-clamp counter, and the combine completes with DONE_DEGRADED and raises its event. (DESIGN CHOICE: log entry 41) -/
def combineClamps (f ctx layer tile : Nat) (o : TileOut) : TileOut :=
  let n := Config.combineClamps [o.st.free, tile]
  if n = 0 then o
  else { o with status := worse o.status St.degraded, st := (o.st.bump C.RTC_COMBINE_CLAMP n).raise E.combineClamp f ctx (d0 := layer) }

end Sys2Proof.Machine
end

