-- ==== Sys2Proof/Machine/Attention.lean ====
section
/-!
DEFINITION. ATTENTION tiles: the attention record and token entries (R205, R206), records and pages written (R197 to
R203), carries through the checkpoint ring (R254), the Lens (R209, R210), and the sums of R207.
-/
namespace Sys2Proof.Machine

/-! ### Launches and step areas -/

/-- The launch a facet's program belongs to. -/
def State.launchOf (s : State) (f : Nat) : Option Launch :=
  match nth s.srv.pools (s.fac f).sq.pool ⟨[], none⟩ with
  | ⟨_, some l⟩ => if l.id = (s.fac f).sq.launch then some l else none
  | _ => none

/-- Changes the running launch of a pool. -/
def State.modLaunch (s : State) (pool : Nat) (g : Launch → Launch) : State :=
  let p := nth s.srv.pools pool ⟨[], none⟩
  { s with srv := { s.srv with pools := s.srv.pools.set pool { p with run := p.run.map g } } }

/-- The limit of a series, or of a draft context's passes (R249): kind 0 decode, 1 prefill, 2 draft pass. (DEDUCED: log entry 52) -/
def State.mmax (s : State) (c kind : Nat) : Nat :=
  if kind = 1 then s.fld F.SEQ_CTX_PREFILL_prefill_max (0x40 * c) else s.fld F.SEQ_CTX_LIMITS_decode_max (0x40 * c)

/-- The generation a launch uses. -/
def State.launchGen (s : State) (l : Launch) : Nat := match s.gen l.ctx l.gslot with
  | some g => g.num
  | none => 0

/-- The tier-1 offset of the token entry of a step area at index `t` (R249). -/
def areaTok (l : Launch) (t : Nat) : Nat := nth l.xs 0 0 + 64 + 32 * t

/-- Where a slot's entry of a launch begins: its committed length, or in a draft pass its first position (R258). (DEDUCED: log entry 53) -/
def State.entryStart (s : State) (l : Launch) (slot : Nat) : Nat :=
  let len := s.sget slot D.length
  if l.train.isNone && decide (bits (nth l.xs 5 0) 15 8 = 2) then
    match ((kget s.srv.series (2 * l.ctx)).bind (·.built)).bind fun st => st.ents.find? fun e => e.slot = slot with
    | some e => e.first
    | none => len
  else len

/-- Whether a launch is a prefill launch. -/
def Launch.prefill (l : Launch) : Bool := l.train.isNone && decide (bits (nth l.xs 5 0) 15 8 = 1)

/-! ### Carries (R58, R59, R254) -/

/-- The window page and byte of checkpoint `j` of a context. -/
def State.ckpt (s : State) (c j : Nat) : Nat :=
  (s.fld F.SEQ_CTX_CKPT_page (0x40 * c) + j % 9 * s.fld F.SEQ_CTX_CKPT_stride (0x40 * c)) * 65536

/-- S of R254: where the dispatch part of a checkpoint begins. -/
def State.ckptS (s : State) (c : Nat) : Nat := ceilDiv (1152 * (s.fld F.SEQ_CTX_CKPT_layers_m1 (0x40 * c) + 1)) 16384 * 16384

/-- The bytes of a dispatch carry slot. -/
def State.carryLen (s : State) (c : Nat) : Nat := 256 * s.fld F.SEQ_CTX_SHAPE_nblk (0x40 * c)

/-- Reads `n` bytes at window offset `o` of a slot; an unmapped page reads as zero. -/
def State.winRead (s : State) (slot o n : Nat) : List Byte :=
  let r := s.vread (slot * 2 ^ 32 + o) n
  if r.good then r.bytes else List.replicate n 0

/-- Maps window page `w` of a slot to a new cleared frame where none is mapped. (DEDUCED: log entry 49) -/
def State.ensureWin (s : State) (slot w : Nat) : State :=
  if (s.pageEntry slot w).isSome then s
  else
    match s.alloc .free1 1 (s.sctx slot) with
    | (none, s) => s
    | (some f, s) =>
      let p := s.frameLoc f
      let s := { s with mem := s.mem.zero p.1 p.2 65536 }
      (s.mapPage slot w f true).2

/-- Writes bytes at window offset `o` of a slot, mapping its pages. (DEDUCED: log entry 49) -/
def State.winWrite (s : State) (slot o : Nat) (bs : List Byte) : State :=
  (pieces o bs.length).foldl (fun s p =>
    let w := p.1 / 65536
    let s := (s.ensureWin slot w)
    let s := (s.writable slot w).2
    match s.pageFrame slot w with
    | some f => s.twrite (s.frameLoc f).1 ((s.frameLoc f).2 + p.1 % 65536) (slice bs (p.1 - o) p.2)
    | none => s) s

/-- BF16 values of a byte list. -/
def bf16s (n : Nat) (bs : List Byte) : List Nat := (List.range n).map fun i => leAt bs (2 * i) 2

/-- The bytes of BF16 values. -/
def bf16Bytes (l : List Nat) : List Byte := (l.map (toBytes 2)).flatten

/-! ### The attention record and token entries -/

/-- An attention record (R205). -/
structure AttRec where
  fmt : Nat
  heads : Nat
  layer : Nat
  stride : Nat
  base : Nat
  scale : Nat
  rsv : Bool

/-- The record at an address. -/
def State.attRec (s : State) (a : Nat) : AttRec :=
  let b := padTo 64 (s.vread a 64).bytes
  ⟨leAt b 0 1, leAt b 1 1 + 1, leAt b 2 2, leAt b 4 4, leAt b 8 4, leAt b 12 4, (b.drop 16).any (· ≠ 0)⟩

/-- A token entry (R206). -/
structure AttTok where
  slot : Nat
  pos : Nat
  write : Bool
  save : Bool
  use : Bool
  rsv : Bool
  q : Nat
  lat : Nat
  stats : Nat

/-- Token entry `i` of a table. -/
def State.attTok (s : State) (a i : Nat) : AttTok :=
  let b := padTo 40 (s.vread (a + 40 * i) 40).bytes
  let fl := leAt b 8 1
  ⟨leAt b 0 4, leAt b 4 4, tbit fl 0, tbit fl 1, tbit fl 2, decide (8 ≤ fl) || decide (leAt b 9 7 ≠ 0), leAt b 16 8, leAt b 24 8, leAt b 32 8⟩

/-- The element width, data bytes and record bytes of a page format (R196). -/
def fmtWidth (t : Nat) : Nat := nth [0, 8, 6, 4] t 0
def fmtData (t : Nat) : Nat := 72 * fmtWidth t
def fmtBytes (t : Nat) : Nat := nth [0, 640, 448, 320] t 0

/-- The first window page of a layer. -/
def AttRec.page0 (r : AttRec) : Nat := r.base + r.layer * r.stride

/-- The format of a slot's pages in a layer (R199): that of its first page, or of the record where none is open. -/
def State.kvFmt (s : State) (r : AttRec) (slot : Nat) : Nat :=
  let t := s.header slot r.page0 0 1
  if t = 0 then r.fmt else t

/-- How many write entries of the same slot come before entry `i`, or in the whole table of `m`. -/
def State.writesBefore (s : State) (a slot i : Nat) : Nat :=
  ((List.range i).filter fun j => let e := s.attTok a j
    e.write && decide (e.slot = slot)).length

/-! ### The Lens (R209, R210) -/

/-- A record as read: its blocks at the expected width, the base, a failed check, and poison. -/
structure Rec where
  blocks : List Block
  base : Nat
  failed : Bool
  poison : Bool
  sats : Nat

/-- The exponents and elements of a stored record. -/
def recBlocks (t : Nat) (bs : List Byte) : List (Nat × List Int) :=
  let w := fmtWidth t
  (List.range 5).map fun b =>
    (leAt bs (fmtData t + b) 1, (List.range (if b = 4 then 64 else 128)).map fun i => blockElem w bs (128 * b + i))

/-- The record at position `j` of a slot's layer, as the Lens delivers it; none where the page is not mapped. `open_`
says that a record at or beyond fill may be read (R203). -/
def State.lensRead (s : State) (r : AttRec) (slot j : Nat) (open_ : Bool) : Option Rec :=
  let t := s.kvFmt r slot
  let cap := capOfTag t
  let w := r.page0 + j / cap
  match s.pageFrame slot w with
  | none => none
  | some f =>
    let p := s.frameLoc f
    let h := fun o n => s.mem.le p.1 (p.2 + o) n
    let off := p.2 + 1536 + j % cap * fmtBytes t
    let bs := s.mem.read p.1 off (fmtBytes t)
    let okFill := (decide (1 ≤ h 2 2) && decide (h 2 2 ≤ capOfTag (h 0 1)) && decide (j % cap < h 2 2)) || open_
    let ok := decide (1 ≤ h 0 1) && decide (h 0 1 ≤ 3) && okFill && decide (h 4 2 = r.layer) && decide (h 8 4 = j / cap * cap) &&
      decide (leAt bs (fmtData t + 8) 4 = j)
    let d := lensDeliver (fmtWidth t) (fmtWidth r.fmt) (recBlocks t bs)
    some ⟨d.1, baseOf true (d.1.map (·.ex)), !ok, !ok || s.mem.poisoned p.1 p.2 1536 || s.mem.poisoned p.1 off (fmtBytes t), d.2⟩

/-! ### Writing a record (R201, R202) -/

/-- The incoming latent carry of the token at position `p` of a slot with committed length `len` (R58, R254). -/
def State.latCarry (s : State) (r : AttRec) (slot p len : Nat) : List Nat :=
  if p = 0 then List.replicate 576 0
  else if p = len then
    let cap := capOfTag (s.kvFmt r slot)
    match s.pageFrame slot (r.page0 + (p - 1) / cap) with
    | some f => bf16s 576 (s.mem.read (s.frameLoc f).1 ((s.frameLoc f).2 + 384) 1152)
    | none => List.replicate 576 0
  else bf16s 576 (s.winRead slot (s.ckpt (s.sctx slot) (p - len - 1) + 1152 * r.layer) 1152)

/-- Opens the page of position `p`: a frame of pool 1 with a new header (R198, R202); false where the allocation fails. -/
def openPage (r : AttRec) (slot p gen : Nat) (carry : List Nat) (s : State) : Bool × State :=
  let t := s.kvFmt r slot
  let w := r.page0 + p / capOfTag t
  let hdr := toBytes 1 t ++ toBytes 1 0 ++ toBytes 2 0 ++ toBytes 2 r.layer ++ toBytes 2 0 ++ toBytes 4 p ++ toBytes 4 slot ++ toBytes 2 gen ++
    List.replicate 366 0 ++ bf16Bytes carry
  let put := fun (s : State) => match s.pageFrame slot w with
    | some f => s.twrite (s.frameLoc f).1 (s.frameLoc f).2 hdr
    | none => s
  if (s.pageEntry slot w).isSome then
    match s.writable slot w with
    | (true, s) => (true, put s)
    | (false, s) => (false, s)
  else
    match s.alloc .free1 1 (s.sctx slot) with
    | (none, s) => (false, s)
    | (some f, s) =>
      match s.mapPage slot w f true with
      | (true, s) => (true, put s)
      | (false, s) => (false, (s.mapFrame f).unmapFrame f)

/-- The bytes of a record (R197). -/
def recBytes (t pos : Nat) (es : List Nat) (qs : List (List Int)) : List Byte :=
  padTo (fmtBytes t) ((toBytes (fmtData t) (packBits (fmtWidth t) qs.flatten)) ++ es.map (BitVec.ofNat 8) ++ toBytes 3 0 ++ toBytes 4 pos)

/-- A write entry (R201 to R203): the record, its page, its carries. Answers the status of a failure. (DESIGN CHOICE: log entry 42) -/
def writeRecord (i : Issued) (r : AttRec) (e : AttTok) (len gen : Nat) (s : State) : Option Nat × State :=
  let c := s.sctx e.slot
  let cap := capOfTag (s.kvFmt r e.slot)
  let w := r.page0 + e.pos / cap
  let cin := s.latCarry r e.slot e.pos len
  if decide (e.pos % cap ≠ 0) && (s.pageEntry e.slot w).isNone then (some St.state, s)
  else
    let o := if e.pos % cap = 0 then openPage r e.slot e.pos gen cin s else s.writable e.slot w
    if !o.1 then (some St.busy, o.2)
    else
      let s := o.2
      let t := s.kvFmt r e.slot
      let lat := s.vread e.lat 1152
      let xs := bf16s 576 lat.bytes
      let special := xs.any fun b => ffBF16.special b
      let k := carryRow (fmtWidth t) true (xs.map ffBF16.val) (if i.i.carry then cin else List.replicate 576 0)
      let bytes := if special then recBytes t e.pos (List.replicate 5 0) [] else recBytes t e.pos k.2.1 k.2.2.1
      let bytes := if special then openBytes [s.free, e.slot, e.pos, r.layer] (fmtData t + 5) ++ bytes.drop (fmtData t + 5) else bytes
      let s := if special then s.fresh.2 else s
      match s.pageFrame e.slot w with
      | none => (some St.state, s)
      | some f =>
        let s := s.twrite (s.frameLoc f).1 ((s.frameLoc f).2 + 1536 + e.pos % cap * fmtBytes t) bytes lat.bad
        let s := (s.bump C.RTC_OUT_SAT k.2.2.2.2.2)
        if i.i.carry then
          (none, (s.winWrite e.slot (s.ckpt c (e.pos - len) + 1152 * r.layer) (bf16Bytes k.2.2.2.1)).bump C.RTC_CARRY_CLAMP k.2.2.2.2.1)
        else (none, s)

/-! ### The sums of R207 -/

/-- An FP32 value times an exact value, rounded once. -/
def fmulDy (e : Nat) (v : Dy) : Nat := if isNaN e || isInf e then fmul e (fround v) else fround ((fval e).mul v)

/-- BF16 output of an FP32 value (R55), and whether it saturated. -/
def toBf (rnd : Nat) (sat : Bool) (b : Nat) : Nat × Bool :=
  if isNaN b then (0x7FC0, false)
  else if isInf b then ((if sat then 0x7F7F else 0x7F80) + (if b < 2 ^ 31 then 0 else 0x8000), sat)
  else ffBF16.put rnd sat (fval b)

/-- One head: scores, statistics and the 480 sums. -/
def attHead (q : ActRow) (scale : Nat) (recs : List Rec) (saved : Option (Nat × Nat)) : Nat × Nat × List Nat :=
  let ss := recs.map fun r =>
    let a := if q.base = 0 then 0 else accumulate r.base q.base r.blocks q.blocks
    fmul (fround ⟨a, (r.base : Int) + q.base - 262⟩) scale
  let m := match saved with
    | some x => x.1
    | none => rowMax ss
  let es := ss.map fun x => fexp2 (fmul (fsub x m) log2e)
  let z := match saved with
    | some x => x.2
    | none => pairSum es
  (m, z, (List.range 480).map fun c =>
    fdiv (pairSum ((es.zip recs).map fun (e, r) =>
      let b := nth r.blocks (c / 128) ⟨0, 0, []⟩
      fmulDy e ⟨if b.ex = 0 then 0 else nth b.q (c % 128) 0, (b.ex : Int) - 127⟩)) z)

/-- Whether head statistics pass R211. -/
def statsOk (bs : List Byte) (count layer : Nat) : Bool :=
  let m := leAt bs 0 4
  let z := leAt bs 4 4
  decide (leAt bs 14 1 = 1) && decide (leAt bs 8 4 = count) && decide (leAt bs 12 2 = layer) && !isNaN m && !isInf m && !isNaN z && !isInf z &&
    decide (0 < z % 2 ^ 31) && decide (z < 2 ^ 31)

/-- The first failed read among positions 0 to p. -/
inductive KvRead where
  | ok (recs : List Rec)
  | lost (j : Nat)
  | fault (j : Nat)

/-- Every record of positions 0 to `p`: a page missing below the committed length is lost (R214). -/
def State.kvReads (s : State) (r : AttRec) (slot p len : Nat) : KvRead :=
  let rs := (List.range (p + 1)).map fun j => (j, s.lensRead r slot j (decide (len ≤ j)))
  match rs.find? fun x => x.2.isNone with
  | some (j, _) => if j < len then .lost j else .fault j
  | none => .ok (rs.filterMap (·.2))

/-- d0 of an event that names slot, layer and page (R511). -/
def slp (slot layer page : Nat) : Nat := slot + layer * 2 ^ 32 + page * 2 ^ 48

/-- The pages read, for the Lens counters. -/
def lensCount (r : AttRec) (slot p : Nat) (s : State) : State :=
  let t := s.kvFmt r slot
  let n := p / capOfTag t + 1
  if fmtWidth t < fmtWidth r.fmt then s.bump C.KVM_LENS_WIDEN n
  else if fmtWidth r.fmt < fmtWidth t then s.bump C.KVM_LENS_NARROW n else s

/-- The reading half of an ATTENTION tile. -/
def attRead (f : Nat) (i : Issued) (r : AttRec) (e : AttTok) (tile len : Nat) (s : State) : TileOut :=
  let cap := capOfTag (s.kvFmt r e.slot)
  match s.kvReads r e.slot e.pos len with
  | .lost j => ⟨St.internal, [], s.raise E.lostPage f (d0 := slp e.slot r.layer (r.page0 + j / cap))⟩
  | .fault j =>
    let va := pageVa e.slot (r.page0 + j / cap)
    match s.walk va false with
    | .fail l w => ⟨St.range, [], s.mmuFault va l w f⟩
    | .ok _ _ _ _ _ _ _ => ⟨St.range, [], s⟩
  | .ok recs =>
    let h := i.n
    let s := lensCount r e.slot e.pos s
    let s := s.bump C.RTC_OUT_SAT ((recs.map (·.sats)).foldl (· + ·) 0)
    let sv := (List.range h).map fun k => (s.vread (e.stats + 16 * k) 16)
    if e.use && sv.any (fun x => !statsOk (padTo 16 x.bytes) (e.pos + 1) r.layer) then ⟨St.state, [], s⟩
    else
      let qs := (List.range h).map fun k => s.actRowAt i.i.actFmt e.q k 576
      let heads := (qs.zip sv).map fun (q, x) => attHead q r.scale recs (if e.use then some (leAt x.bytes 0 4, leAt x.bytes 4 4) else none)
      let bad := recs.any (·.poison) || (e.use && sv.any (·.bad))
      let outs := (heads.zip qs).zipIdx.map fun (x, k) =>
        let os := x.1.2.2.map (toBf i.i.rnd i.i.sat)
        ((i.i.c + (h * tile + k) * 960, bf16Bytes (os.map (·.1)), bad || x.2.bad || x.2.poison) : Piece)
      let stats := if e.save then heads.zipIdx.map fun (x, k) =>
        ((e.stats + 16 * k, toBytes 4 x.1 ++ toBytes 4 x.2.1 ++ toBytes 4 (e.pos + 1) ++ toBytes 2 r.layer ++ toBytes 1 1 ++ toBytes 1 0, bad) : Piece) else []
      let sats := ((heads.map fun x => (x.2.2.filter fun o => (toBf i.i.rnd i.i.sat o).2).length)).foldl (· + ·) 0
      let s := s.bump C.RTC_OUT_SAT sats
      let failed := (recs.zipIdx).find? fun x => x.1.failed
      let m := matrixMeet f i.i.b (if qs.any (·.bad) then some 0 else none) (bad || qs.any (·.poison)) 0 s
      match failed with
      | some x => ⟨St.internal, outs ++ stats, m.2.raise E.lensCheck f (d0 := slp e.slot r.layer (r.page0 + x.2 / cap))⟩
      | none => ⟨m.1, outs ++ stats, m.2⟩

/-- The position after the last write entry of a slot's layer that a launch finished. -/
def Launch.reached (l : Launch) (slot layer len : Nat) : Nat := kgetD l.wrote (slot * 256 + layer) len

/-- Whether an ATTENTION tile is still held (R203, R254). (DEDUCED: log entry 61) -/
def State.attHeld (s : State) (l : Launch) (i : Issued) (tile : Nat) : Bool :=
  let r := s.attRec i.i.b
  let e := s.attTok i.i.a tile
  let at_ := s.entryStart l e.slot
  if e.slot ≥ nSlots then false
  else if e.write then decide (l.reached e.slot r.layer at_ < e.pos) && decide (e.pos = at_ + s.writesBefore i.i.a e.slot tile)
  else decide (at_ ≤ e.pos) && decide (e.pos < at_ + s.writesBefore i.i.a e.slot i.m) && decide (l.reached e.slot r.layer at_ ≤ e.pos)

/-- The refusal of a tile (R208, R253). -/
def State.attRefusal (s : State) (l : Launch) (i : Issued) (tile : Nat) : Option Nat :=
  let r := s.attRec i.i.b
  let e := s.attTok i.i.a tile
  let at_ := s.entryStart l e.slot
  let cap := capOfTag (s.kvFmt r e.slot)
  let named := match l.train with
    | some t => t.slots.contains e.slot
    | none => true
  firstOf [(e.rsv || (e.save && e.use), St.format), (decide (nSlots ≤ e.slot) || decide (r.stride ≤ e.pos / cap), St.range),
    (if e.write then !named || decide (e.pos ≠ at_ + s.writesBefore i.i.a e.slot tile)
     else decide (at_ + s.writesBefore i.i.a e.slot i.m ≤ e.pos), St.state)]

/-- An ATTENTION tile (R201 to R211). -/
def attentionTile (f : Nat) (l : Launch) (i : Issued) (tile : Nat) (s : State) : TileOut :=
  let r := s.attRec i.i.b
  let e := s.attTok i.i.a tile
  let len := s.sget e.slot D.length
  match s.attRefusal l i tile with
  | some st => ⟨st, [], s⟩
  | none =>
    let w := if e.write then writeRecord i r e len (s.launchGen l) s else (none, s)
    match w.1 with
    | some st => ⟨st, [], w.2⟩
    | none => attRead f i r e tile len w.2

/-- What a finished ATTENTION tile leaves for its launch: the position it wrote, and its status in the token's sample
record (R249). -/
def attentionDone (pool : Nat) (l : Launch) (i : Issued) (tile st : Nat) (s : State) : State :=
  let r := s.attRec i.i.b
  let e := s.attTok i.i.a tile
  let s := if e.write && decide (e.slot < nSlots) then
      s.modLaunch pool fun l => { l with wrote := kset l.wrote (e.slot * 256 + r.layer) (e.pos + 1) } else s
  let kind := bits (nth l.xs 5 0) 15 8
  let mm := s.mmax l.ctx kind
  let table := nth l.xs 0 0 + 64 + 32 * mm
  match s.walk (i.i.a + 40 * tile) false with
  | .ok 1 a pkg _ _ _ _ =>
    if l.train.isNone && decide (pkg = s.self) && decide (table ≤ a) && decide (a < table + 40 * mm) then
      let p := nth l.xs 0 0 + 64 + 72 * mm + 16 * ((a - table) / 40) + 12
      s.twrite 1 p (toBytes 1 (worse (s.mem.le 1 p 1) st))
    else s
  | _ => s

end Sys2Proof.Machine
end

