-- ==== Sys2Proof/Machine/Adapters.lean ====
section
/-!
DEFINITION. Private low-rank adapters (R318 to R321): the fusion table, a row's adapter, its deltas, and the ranges an
adapter adds to a tile's stream.
-/
namespace Sys2Proof.Machine

/-- The ranges of a tensor's blocks in a tile stream (R281). -/
def State.tensorRanges (s : State) (t : Tensor) (b0 nb : Nat) : List (Nat × Nat) :=
  let hl := 1 + bit t.fine
  let hdr := (t.header + hl * b0, hl * nb)
  if t.fmt = 6 then
    let o := fun g => 16 * s.vle (t.group + 16 * g + 8) 4
    let g0 := b0 / 16
    let g1 := (b0 + nb) / 16
    [(t.group + 16 * g0, 16 * (g1 - g0)), hdr, (t.data + o g0, o g1 - o g0)]
  else [hdr, (t.data + 16 * weightWidth t.fmt * b0, 16 * weightWidth t.fmt * nb)]

/-! ### The fusion table (R319) -/

/-- The fusion entries of a context that match an instruction, as 16 bytes each. -/
def State.fuseEnts (s : State) (c prog index : Nat) : List (List Byte) :=
  ((List.range (s.fld F.SHD_CTX_FUSE_N_entries (0x20 * c))).map fun i =>
    s.mem.read 1 (s.fld64 F.SHD_CTX_FUSE_LO_base F.SHD_CTX_FUSE_HI_base (0x20 * c) + 16 * i) 16).filter fun b =>
      decide (leAt b 0 8 = prog) && decide (leAt b 8 2 = index)

/-- Whether an entry does not fit the instruction it matches. (DEDUCED: log entry 63) -/
def fuseBad (i : Macro) (b : List Byte) : Bool :=
  i.grouped || decide (leAt b 12 4 ≠ 0) || decide (64 ≤ leAt b 11 1) ||
    !(if i.op = 1 then decide (leAt b 10 1 = 0) else decide (i.op = 2) && decide (1 ≤ leAt b 10 1) && decide (leAt b 10 1 ≤ 3))

/-- The refusals of an adapted instruction (R319). -/
def State.fuseRefusals (s : State) (i : Issued) (es : List (List Byte)) (area : Nat) : List (Bool × Nat) :=
  [(es.any (fuseBad i.i), St.format), (decide (es ≠ []) && decide (i.m ≠ s.mem.le 1 (area + 8) 4), St.state)]

/-! ### A row's adapter (R318, R319) -/

/-- An adapter of a row for a target: the descriptors of A and B and the rank. -/
structure Adapter where
  a : Nat
  b : Nat
  r : Nat
  deriving DecidableEq, Repr

/-- The base of a context's adapter table, none where it has no adapters. -/
def State.adpBase (s : State) (c : Nat) : Option Nat :=
  let b := s.fld64 F.SHD_CTX_ADP_LO_base F.SHD_CTX_ADP_HI_base (0x20 * c)
  if b = 0 then none else some b

/-- The adapter of row `row` of an adapted instruction for a target. -/
def State.rowAdapter (s : State) (c area target row : Nat) : Option Adapter :=
  match s.adpBase c with
  | none => none
  | some base =>
    let slot := s.mem.le 1 (area + 64 + 32 * row) 4 % nSlots
    let e := base + 16 * (s.sget slot D.tenant % 4096)
    if tbit (s.vle (e + 8) 1) 0 then
      let d := s.vle e 8 + 16 * target
      let x : Adapter := ⟨s.vle d 8, s.vle (d + 8) 8, s.vle (e + 9) 1⟩
      if x.a = 0 ∧ x.b = 0 then none else some x
    else none

/-- The rows of a tile. -/
def Issued.tileRows (i : Issued) (tile : Nat) : List Nat :=
  let r0 := tile / i.nTiles * i.tm
  (List.range (min i.tm (i.m - r0))).map (r0 + ·)

/-- The adapters of a tile's rows, each with its operand, distinct. -/
def State.tileAdapters (s : State) (i : Issued) (tile : Nat) : List (Nat × Adapter) :=
  ((i.fuse.map fun p => (i.tileRows tile).filterMap fun r => (s.rowAdapter i.ctx i.area p.2 r).map fun x => (p.1, x)).flatten).eraseDups

/-- The reduction length and the columns of the base tensor an operand names. -/
def Issued.shape (i : Issued) (operand : Nat) : Nat × Nat := if operand = 3 then (i.n, i.k) else (i.k, i.n)

/-- Whether an adapter's descriptors break R44, or its rank R318 (R320). (DEDUCED: log entry 63) -/
def State.adapterBad (s : State) (i : Issued) (layers : Nat) (x : Nat × Adapter) : Bool :=
  let sh := i.shape x.1
  let a := x.2
  let bad := fun d nb => !(s.vread (d % 2 ^ 52) 40).good || s.tensorFormat (s.tensor d) nb || (s.tensor d).badRange layers
  decide (a.r % 8 ≠ 0) || decide (a.r < 8) || decide (64 < a.r) || bad a.a (ceilDiv sh.1 128 * a.r) || bad a.b (ceilDiv a.r 128 * sh.2)

/-- u of R320: the row through A, requantised to A8. -/
def State.throughA (s : State) (x : Adapter) (k : Nat) (a : ActRow) : ActRow :=
  let t := s.tensor x.a
  let us := (List.range x.r).map fun j => accValue t (s.column t (ceilDiv k 128) x.r j) a
  let q := requant 0 8 false (inBlocks x.r (us.map (·.1)))
  ⟨q.1, cutAt x.r ((q.2.1.zip q.2.2.1).map fun p => (⟨p.1, 0, p.2⟩ : Block)), a.bad, 0, a.poison || us.any (·.2)⟩

/-- The deltas of an adapted MATMUL's row, none where it takes no adapter (R320). -/
def State.rowDeltas (s : State) (i : Issued) (row : Nat) : List (Dy × Bool) :=
  match i.fuse with
  | [] => []
  | p :: _ =>
    match s.rowAdapter i.ctx i.area p.2 row with
    | none => []
    | some x =>
      let u := s.throughA x i.k (s.actRowAt i.i.actFmt i.i.a row i.k)
      let t := s.tensor x.b
      (List.range i.n).map fun j => accValue t (s.column t (ceilDiv x.r 128) i.n j) u

/-- The rows of a tile that take a delta. -/
def State.adaptedRows (s : State) (i : Issued) (tile : Nat) : Nat :=
  ((i.tileRows tile).filter fun r => i.fuse.any fun p => (s.rowAdapter i.ctx i.area p.2 r).isSome).length

/-- The ranges that a tile's adapters add to its stream. -/
def State.adapterStream (s : State) (i : Issued) (tile : Nat) : List (Nat × Nat) :=
  ((s.tileAdapters i tile).map fun x =>
    let sh := i.shape x.1
    let c0 := if i.i.op = 1 then tile % i.nTiles * i.tn else 0
    let cn := if i.i.op = 1 then min i.tn (i.n - c0) else sh.2
    let rb := ceilDiv x.2.r 128
    s.tensorRanges (s.tensor x.2.a) 0 (ceilDiv sh.1 128 * x.2.r) ++ s.tensorRanges (s.tensor x.2.b) (rb * c0) (rb * cn)).flatten

/-- The valid adapter entries of a context (R324, SHD_CTX_ADP_N). -/
def State.adapterCount (s : State) (c : Nat) : Nat :=
  match s.adpBase c with
  | none => 0
  | some base =>
    let b := (s.vread base 65536).bytes
    ((List.range 4096).filter fun t => tbit (leAt b (16 * t + 8) 1) 0).length

end Sys2Proof.Machine
end

