-- ==== Sys2Proof/Machine/Scan.lean ====
section
/-!
DEFINITION. Scan access (R115 to R117): the image of R116, scan-out, scan-in and release. Where R116 gives a body only
its size (kinds 0x01 and 0x06, the pointers of 0x04, the node's state of 0x03) the packing is the model's.
-/
namespace Sys2Proof.Machine

/-- The segments in order: kind, unit, index, body length (R116). -/
def segTable (storage : Bool) : List (Nat × Nat × Nat × Nat) :=
  (1, 0, 0, 256) :: ((List.range 4).map fun i => (2, 0, i, 4096)) ++ ((List.range 35).map fun i => (3, 0, i, 2720)) ++
    ((List.range 24).map fun u => (4, u, 0, 11008)) ++ ((List.range 24).map fun u => (5, u, 0, if u < 16 then 4864 else 2432)) ++
    ((List.range 24).map fun u => (6, u, 0, if u < 16 then 30720 else 4096)) ++
    (if storage then (List.range 16).map fun u => (7, u, 0, 65536) else [])

/-- The bytes of an entry slot of a kind: an entry, or zeros. -/
def slotBytes (kind : Nat) (e : Option QEnt) : List Byte :=
  match e with
  | some e => padTo (entSize kind) (entBytes e)
  | none => List.replicate (entSize kind) 0

/-- `n` entry slots of a list. -/
def slotsBytes (kind n : Nat) (l : List QEnt) : List Byte := ((List.range n).map fun i => slotBytes kind l[i]?).flatten

/-- Facet control (kind 0x01). -/
def Facet.ctlBody (x : Facet) : List Byte :=
  let q := x.sq
  padTo 256 <|
    toBytes 1 x.active ++ toBytes 1 (match x.pend with
      | some p => p.1 + 16 + 32 * bit p.2
      | none => 0) ++
    toBytes 1 (match x.spill with
      | some r => r + 16
      | none => 0) ++ toBytes 1 x.ext.length ++ padTo 16 (((x.ext.take 8).map fun e => toBytes 1 e.1 ++ toBytes 1 e.2).flatten) ++
    toBytes 4 x.area ++
    toBytes 1 (bit q.running + 2 * bit q.waiting + 4 * bit q.standing + 8 * bit q.claiming + 16 * bit q.exhausted) ++
    toBytes 1 q.ctx ++ toBytes 1 q.pool ++ toBytes 1 q.status ++ toBytes 1 q.own ++ toBytes 3 q.index ++ toBytes 8 q.prog ++
    toBytes 8 q.launch ++ toBytes 4 q.ordinal ++ ((List.range 16).map fun i => toBytes 8 (nth q.xs i 0)).flatten

/-- A switch (kind 0x03): entries, then the node's entry, token and state: occupancies two bits each, then three bits for
token, A and B. -/
def Facet.switchBody (x : Facet) (sw : Nat) : List Byte :=
  let n := x.node sw
  let keys := ((List.range 3).map fun net => (List.range 8).map fun p => (net, sKey net sw p)).flatten
  let occ := packOcc (keys.map fun k => (klist x.swb k.2).length)
  (keys.map fun k => slotsBytes k.1 2 (klist x.swb k.2)).flatten ++
    padTo 144 (slotBytes (x.steerNet sw) (match n.a with
      | some e => some e
      | none => n.b)) ++ slotBytes 2 n.tok ++
    toBytes 8 (occ + 2 ^ 48 * (bit n.tok.isSome + 2 * bit n.a.isSome + 4 * bit (n.a.isNone && n.b.isSome)))
where
  packOcc : List Nat → Nat
  | [] => 0
  | a :: l => a % 4 + 4 * packOcc l

/-- Unit queues (kind 0x04): 16 entries, 2 head-buffer entries, and pointers holding both occupancies. -/
def Facet.queueBody (x : Facet) (u : Nat) : List Byte :=
  ((List.range 8).map fun q =>
    let k := qKey u q
    slotsBytes (queueKind q) 16 (klist x.inq k) ++ slotsBytes (queueKind q) 2 (klist x.head k) ++
      toBytes 8 ((klist x.inq k).length + 256 * (klist x.head k).length)).flatten

/-- Output buffers (kind 0x05). -/
def Facet.outBody (x : Facet) (u : Nat) : List Byte :=
  ((List.range 4).map fun o => slotsBytes (outKind o) (outCap u) (klist x.outq (oKey u o))).flatten

/-- CU registers (kind 0x06): lane registers, accumulators, stage registers (the output occupancies), SELECT rows. -/
def Facet.cuBody (x : Facet) (u : Nat) : List Byte :=
  ((List.range 1024).map fun i => toBytes 4 (kgetD x.lregs (u * 1024 + i) 0)).flatten ++
    ((List.range 512).map fun i => toBytes 32 (kgetD x.accs (u * 512 + i) 0)).flatten ++
    padTo 6144 (((List.range 4).map fun o => toBytes 1 (klist x.outq (oKey u o)).length).flatten) ++
    ((List.range 32).map fun r =>
      let l := klist x.rows (u * 32 + r)
      padTo 128 (toBytes 1 l.length ++ ((l.take 16).map fun p => toBytes 4 p.1 ++ toBytes 2 p.2).flatten)).flatten

/-- MU registers (kind 0x06): the descriptor table, generator states, output occupancies. -/
def Facet.muBody (x : Facet) (m : Nat) : List Byte :=
  padTo 4096 (((List.range 32).map fun e => padTo 64 (klist x.desc (m * 32 + e))).flatten ++
    ((List.range 4).map fun a => toBytes 8 (x.agRun m a).trip ++ toBytes 8 (bit (x.agRun m a).done)).flatten ++
    ((List.range 4).map fun o => toBytes 1 (klist x.outq (oKey (16 + m) o)).length).flatten)

/-- The body of a segment. -/
def Facet.segBody (x : Facet) (g : Nat × Nat × Nat × Nat) : List Byte :=
  match g.1 with
  | 1 => x.ctlBody
  | 2 => x.ctxBytes g.2.2.1 0 4096
  | 3 => x.switchBody g.2.2.1
  | 4 => x.queueBody g.2.1
  | 5 => x.outBody g.2.1
  | 6 => if g.2.1 < 16 then x.cuBody g.2.1 else x.muBody (g.2.1 - 16)
  | _ => cellsRead 0 x.opnd (65536 * g.2.1) 65536

/-- A segment's header. -/
def segHeader (g : Nat × Nat × Nat × Nat) : List Byte := toBytes 1 g.1 ++ toBytes 1 g.2.1 ++ toBytes 2 g.2.2.1 ++ toBytes 4 g.2.2.2 ++ toBytes 8 0

/-- The scan image (R116). (DESIGN CHOICE: log entry 35) -/
def Facet.scanImage (x : Facet) (storage : Bool) : List Byte :=
  ((segTable storage).map fun g => segHeader g ++ x.segBody g).flatten

/-- The length of a scan image. -/
def scanLen (storage : Bool) : Nat := ((segTable storage).map fun g => 16 + g.2.2.2).foldl (· + ·) 0

/-- The bodies of an image whose headers all match R116, or none. (DESIGN CHOICE: log entry 35) -/
def parseScan : List (Nat × Nat × Nat × Nat) → List Byte → Option (List ((Nat × Nat × Nat × Nat) × List Byte))
  | [], _ => some []
  | g :: gs, bs =>
    if bs.take 16 = segHeader g then
      (parseScan gs (bs.drop (16 + g.2.2.2))).map fun l => (g, slice bs 16 g.2.2.2) :: l
    else none

/-- `n` entries of a kind read from consecutive slots. -/
def entsOf (kind n : Nat) (bs : List Byte) : List QEnt := (List.range n).map fun i => entOf kind (slice bs (i * entSize kind) (entSize kind))

/-- Facet control restored. -/
def Facet.setCtl (x : Facet) (b : List Byte) : Facet :=
  let fl := leAt b 24 1
  let p := leAt b 1 1
  let r := leAt b 2 1
  { x with active := leAt b 0 1 % 4, pend := if p < 16 then none else some (p % 4, tbit p 5),
           spill := if r < 16 then none else some (r % 8),
           ext := (List.range (min 8 (leAt b 3 1))).foldl (fun m i => kset m (leAt b (4 + 2 * i) 1) (leAt b (5 + 2 * i) 1 % 8)) [],
           area := leAt b 20 4,
           sq := { x.sq with running := tbit fl 0, waiting := tbit fl 1, standing := tbit fl 2, claiming := tbit fl 3,
                             exhausted := tbit fl 4, ctx := leAt b 25 1, pool := leAt b 26 1, status := leAt b 27 1,
                             own := leAt b 28 1, index := leAt b 29 3, prog := leAt b 32 8, launch := leAt b 40 8,
                             ordinal := leAt b 48 4, xs := (List.range 16).map fun i => leAt b (52 + 8 * i) 8 } }

/-- A switch restored. -/
def Facet.setSwitch (x : Facet) (sw : Nat) (b : List Byte) : Facet :=
  let st := leAt b 2712 8
  let put := fun (x : Facet) (net p : Nat) =>
    let i := net * 8 + p
    let o := if net = 0 then p * 288 else 2304 + (net - 1) * 128 + p * 16
    { x with swb := kput x.swb (sKey net sw p) (entsOf net (min 2 (st / 4 ^ i % 4)) (slice b o (2 * entSize net))) }
  let x := (List.range 24).foldl (fun x i => put x (i / 8) (i % 8)) x
  let e := entOf (x.steerNet sw) (slice b 2560 144)
  x.setNode sw ⟨if tbit st 48 then some (entOf 2 (slice b 2704 8)) else none, if tbit st 49 then some e else none,
    if tbit st 50 then some e else none⟩

/-- Unit queues restored. -/
def Facet.setQueues (x : Facet) (u : Nat) (b : List Byte) : Facet :=
  (List.range 8).foldl (fun x q =>
    let kind := queueKind q
    let sz := 18 * entSize kind + 8
    let o := if q < 4 then q * 2600 else 10400 + (q - 4) * 152
    let c := slice b o sz
    let n := leAt c (18 * entSize kind) 1
    let h := leAt c (18 * entSize kind + 1) 1
    { x with inq := kput x.inq (qKey u q) (entsOf kind (min 16 n) c),
             head := kput x.head (qKey u q) (entsOf kind (min 2 h) (c.drop (16 * entSize kind))) }) x

/-- Output buffers restored, their occupancies taken from the segment of kind 0x06. -/
def Facet.setOuts (x : Facet) (u : Nat) (b : List Byte) (occ : List Byte) : Facet :=
  let cap := outCap u
  (List.range 4).foldl (fun x o =>
    let off := if o < 2 then o * 144 * cap else 288 * cap + (o - 2) * 8 * cap
    { x with outq := kput x.outq (oKey u o) (entsOf (outKind o) (min cap (leAt occ o 1)) (b.drop off)) }) x

/-- CU registers restored. -/
def Facet.setCu (x : Facet) (u : Nat) (b : List Byte) : Facet :=
  let x := { x with lregs := (List.range 1024).foldl (fun m i => kset m (u * 1024 + i) (leAt b (4 * i) 4)) x.lregs }
  let x := { x with accs := (List.range 512).foldl (fun m i => kset m (u * 512 + i) (leAt b (4096 + 32 * i) 32)) x.accs }
  { x with rows := (List.range 32).foldl (fun m r =>
      let o := 4096 + 16384 + 6144 + 128 * r
      kput m (u * 32 + r) ((List.range (min 16 (leAt b o 1))).map fun i => (leAt b (o + 1 + 6 * i) 4, leAt b (o + 5 + 6 * i) 2))) x.rows }

/-- MU registers restored. -/
def Facet.setMu (x : Facet) (m : Nat) (b : List Byte) : Facet :=
  let x := { x with desc := (List.range 32).foldl (fun t e => kset t (m * 32 + e) (slice b (64 * e) 64)) x.desc }
  { x with ags := (List.range 4).foldl (fun t a => kset t (m * 4 + a) ⟨leAt b (2048 + 16 * a) 8, tbit (leAt b (2056 + 16 * a) 1) 0⟩) x.ags }

/-- One segment restored. -/
def Facet.setSeg (x : Facet) (all : List ((Nat × Nat × Nat × Nat) × List Byte)) (p : (Nat × Nat × Nat × Nat) × List Byte) : Facet :=
  let g := p.1
  match g.1 with
  | 1 => x.setCtl p.2
  | 2 => x.storeImage g.2.2.1 p.2
  | 3 => x.setSwitch g.2.2.1 p.2
  | 4 => x.setQueues g.2.1 p.2
  | 5 =>
    let regs := match all.find? fun r => r.1.1 = 6 && r.1.2.1 = g.2.1 with
      | some r => r.2
      | none => []
    x.setOuts g.2.1 p.2 (regs.drop (if g.2.1 < 16 then 20480 else 2112))
  | 6 => if g.2.1 < 16 then x.setCu g.2.1 p.2 else x.setMu (g.2.1 - 16) p.2
  | _ => { x with opnd := cellsWrite 0 x.opnd (65536 * g.2.1) p.2 }

/-- The credits of every queue, computed from the occupancies (R117). -/
def Facet.recredit (x : Facet) : Facet :=
  { x with cred := (x.inq.filter fun e => e.2 ≠ []).map fun e => (e.1, 16 - e.2.length) }

/-- The scan buffer's address. -/
def State.scanAddr (s : State) (f : Nat) : Nat := s.fld64 F.FCT_SCAN_ADDR_LO_addr F.FCT_SCAN_ADDR_HI_addr (fdi f) % 2 ^ 52

/-- Sets the scan status. -/
def State.scanStatus (s : State) (f st : Nat) : State := s.setFld F.FCT_SCAN_STATUS_status st (fdi f)

/-- A scan command of `org` with the least debug level it needs (R115, R121): refused, or the facet freezes and the
transfer begins. -/
def scanCmd (org : Originator) (f level mode : Nat) (s : State) : State :=
  if 72 ≤ f then s
  else
    s.gated org (fctOff f 0x20) fun s =>
      let x := s.fac f
      match firstOf [(decide (s.sec.level < level), St.auth), (decide (2 ≤ x.gated) || x.fenced || !s.pins.thermTripN, St.state), (decide (2 ≤ x.scan), St.busy)] with
      | some st => s.scanStatus f st
      | none => (s.setFac f { x with scan := mode }).setFld F.FCT_SCAN_STATUS_busy 1 (fdi f)

/-- SCAN_OUT (R115): modes 2 and 3 are the transfers out without and with operand storage. -/
def execScanOut (org : Originator) (f : Nat) (storage : Bool) (s : State) : Out :=
  .next (s.on fun s => scanCmd org f 1 (if storage then 3 else 2) s)

/-- SCAN_IN (R117): mode 4. -/
def execScanIn (org : Originator) (f : Nat) (s : State) : Out := .next (s.on fun s => scanCmd org f 2 4 s)

/-- Ends a transfer: busy clears, the status is written, the facet stays frozen. -/
def State.scanEnd (s : State) (f : Nat) (x : Facet) (st : Nat) : State :=
  ((s.setFac f { x with scan := 1 }).setFld F.FCT_SCAN_STATUS_busy 0 (fdi f)).scanStatus f st

/-- The image at the scan buffer, with or without operand storage as its headers say. -/
def State.scanRead (s : State) (f : Nat) : Option (List ((Nat × Nat × Nat × Nat) × List Byte)) :=
  let long := s.vread (s.scanAddr f) (scanLen true)
  match (if long.good then parseScan (segTable true) long.bytes else none) with
  | some l => some l
  | none => parseScan (segTable false) (s.vread (s.scanAddr f) (scanLen false)).bytes

/-- SCAN_TRANSFER_DONE (R115, R117): a spill ends first (R114). (DESIGN CHOICE: log entry 35) -/
def scanTransferDone (f : Nat) (s : State) : State :=
  let x := s.fac f
  if x.scan < 2 ∨ x.spill.isSome then s
  else if x.scan = 4 then
    if !(s.vread (s.scanAddr f) (scanLen false)).good then (s.vcount (s.scanAddr f) (scanLen false) f).scanEnd f x St.range
    else
      match s.scanRead f with
      | none => s.scanEnd f x St.format
      | some l => s.scanEnd f (l.foldl (fun x p => x.setSeg l p) x) St.done
  else
    let img := x.scanImage (decide (x.scan = 3))
    match s.writeFault (s.scanAddr f) img.length with
    | some (va, l, r) => (s.mmuFault va l r f).scanEnd f x St.range
    | none => (s.vwrite (s.scanAddr f) img).scanEnd f x St.done

/-- SCAN_TRANSFER_DONE (R115). -/
def execScanTransferDone (f : Nat) (s : State) : Out := .next (s.on fun s => if f < 72 then scanTransferDone f s else s)

/-- SCAN_RELEASE (R115, R117): the facet goes on from the restored state, its credits recomputed. -/
def scanRelease (org : Originator) (f : Nat) (s : State) : State :=
  if 72 ≤ f then s
  else
    s.gated org (fctOff f 0x20) fun s =>
      let x := s.fac f
      if 2 ≤ x.scan then s.scanStatus f St.busy
      else if x.scan = 1 then (s.setFac f { x.recredit with scan := 0 }).scanStatus f St.done
      else s.scanStatus f St.done

/-- SCAN_RELEASE (R115). -/
def execScanRelease (org : Originator) (f : Nat) (s : State) : Out := .next (s.on fun s => scanRelease org f s)

end Sys2Proof.Machine
end

