-- ==== Sys2Proof/Machine/Condenser.lean ====
section
/-!
DEFINITION. Reads that wait (R290, R309), the stream table and tile streams (R281 to R283), staged copies (R285), the
Condenser's fills (R284), and the launches' time in a window (R298).
-/
namespace Sys2Proof.Machine

/-- Changes facet `f`. -/
def State.modFac (s : State) (f : Nat) (g : Facet → Facet) : State := s.setFac f (g (s.fac f))

/-! ### Reads that wait -/

/-- The first byte and the bytes of a context's tier-1 weight share and of its tier-2 image (R288). -/
def State.shareBase (s : State) (c : Nat) : Nat := s.fld F.RES_CTX_T1W_base (0x80 * c) * 65536
def State.imageBase (s : State) (c : Nat) : Nat := s.fld F.RES_CTX_T2_base (0x80 * c) * 65536
def State.weightLen (s : State) (c : Nat) : Nat := s.fld F.RES_CTX_WSIZE_pages (0x80 * c) * 65536

/-- The state code of a context (R287). -/
def State.resState (s : State) (c : Nat) : Nat := s.fld F.RES_CTX_STATE_state (0x80 * c)

/-- R309: whether a read meets a destination of a load or fetch in progress. -/
def State.loadHeld (s : State) (sp off n : Nat) : Bool := s.shd.loads.any fun l => l.tier = sp && overlap l.dst l.len off n

/-- R290: whether a read meets a weight share at or beyond its copy's front. -/
def State.frontHeld (s : State) (sp off n : Nat) : Bool :=
  sp = 1 && (List.range 16).any fun c => decide (s.resState c = 2) &&
    overlap (s.shareBase c + s.fld F.RES_CTX_FRONT_pages (0x80 * c) * 65536) (s.weightLen c - s.fld F.RES_CTX_FRONT_pages (0x80 * c) * 65536) off n

/-- Whether a read of a tier waits. (DEDUCED: log entry 61) -/
def State.readHeld (s : State) (sp off n : Nat) : Bool := s.loadHeld sp off n || s.frontHeld sp off n

/-- The places of this package that `n` bytes at an address reach, as (space, offset, length). -/
def State.vplaces (s : State) (va n : Nat) : List (Nat × Nat × Nat) :=
  (pieces (va % 2 ^ 52) n).filterMap fun p => match s.walk p.1 false with
    | .ok sp off pkg _ _ _ _ => if pkg = s.self then some (sp, off, p.2) else none
    | .fail _ _ => none

/-- Whether a read through translation waits. (DEDUCED: log entry 61) -/
def State.vheld (s : State) (r : Nat × Nat) : Bool := (s.vplaces r.1 r.2).any fun p => s.readHeld p.1 p.2.1 p.2.2

/-- A read that waits: it is counted where a load holds it (R325). (DEDUCED: log entry 61) -/
def State.countHeld (s : State) (rs : List (Nat × Nat)) : State :=
  if rs.any fun r => (s.vplaces r.1 r.2).any fun p => s.loadHeld p.1 p.2.1 p.2.2 then s.bump C.SHD_HELD_READS else s

/-! ### The stream table (R282, R286) -/

/-- A stream entry. -/
structure StreamEnt where
  index : Nat
  mu : Nat
  ag : Nat
  first : Nat
  slots : Nat
  tiles : Nat
  units : Nat
  layer : Nat
  rsv : Bool

/-- The entries of a context's stream table for a program, in table order; ring_en = 0 leaves none. -/
def State.streamEnts (s : State) (c prog : Nat) : List StreamEnt :=
  if !s.flag F.TIER_COND_ring_en then []
  else (List.range (s.fld F.RES_CTX_STREAM_N_entries (0x80 * c))).filterMap fun i =>
    let b := s.mem.read 1 (s.fld F.RES_CTX_STREAM_base (0x80 * c) * 65536 + 32 * i) 32
    if leAt b 0 8 = prog then
      some ⟨leAt b 8 2, leAt b 10 1 % 8, leAt b 11 1 % 4, leAt b 12 1, leAt b 13 1, leAt b 14 1, leAt b 15 1, leAt b 16 2,
        decide (8 ≤ leAt b 10 1) || decide (4 ≤ leAt b 11 1) || (b.drop 18).any (· ≠ 0)⟩
    else none

/-- The entry that binds an instruction. -/
def State.streamEnt (s : State) (c prog index : Nat) : Option StreamEnt := (s.streamEnts c prog).find? fun e => e.index = index

/-! ### Tile streams (R280, R281) -/

/-- The tensors a tile uses: descriptor address, first block, blocks. -/
def State.tileTensors (s : State) (i : Issued) (tile : Nat) : List (Nat × Nat × Nat) :=
  let kb := ceilDiv i.k 128
  match i.i.op with
  | 1 =>
    let c0 := tile % i.nTiles * i.tn
    [(i.i.b, kb * c0, kb * min i.tn (i.n - c0))]
  | 2 =>
    let a := if i.i.grouped then s.vle (i.i.b + 32 * tile) 8 else i.i.b
    [(s.vle a 8, 0, kb * i.n), (s.vle (a + 8) 8, 0, kb * i.n), (s.vle (a + 16) 8, 0, ceilDiv i.n 128 * i.k)]
  | 4 => [(i.i.b, 0, kb * i.n)]
  | _ => []

/-- The ranges of a tile's stream: the base tensors, then each distinct adapter of its rows (R281, R320). -/
def State.tileStream (s : State) (i : Issued) (tile : Nat) : List (Nat × Nat) :=
  ((s.tileTensors i tile).map fun x => s.tensorRanges (s.liveTensor x.1 i.wide) x.2.1 x.2.2).flatten ++ s.adapterStream i tile

/-- A range cut into units of 64 KiB from its start. -/
def cutUnits (r : Nat × Nat) : List (Nat × Nat) := (List.range (ceilDiv r.2 65536)).map fun u => (r.1 + 65536 * u, min 65536 (r.2 - 65536 * u))

/-- The units of a tile's stream. -/
def State.tileUnits (s : State) (i : Issued) (tile : Nat) : List (Nat × Nat) := ((s.tileStream i tile).map cutUnits).flatten

/-- Whether a WV tensor's block count in some tile is not a multiple of 16 (R286). -/
def State.wvUneven (s : State) (i : Issued) : Bool :=
  (List.range (min i.nTiles i.t)).any fun t => (s.tileTensors i t).any fun x => decide ((s.tensor x.1).fmt = 6) && decide (x.2.2 % 16 ≠ 0)

/-- R286: the refusals of a bound instruction. -/
def State.streamRefusals (s : State) (c : Nat) (e : StreamEnt) (i : Issued) : List (Bool × Nat) :=
  let ctl := leAt (s.vread (i.i.ctxAddr % 2 ^ 52 + unitWord (16 + e.mu) + 8 + 14 * e.ag) 1).bytes 0 1
  let lay := decide (e.tiles ≠ 0) || decide (e.layer ≠ 0xFFFF)
  [(e.rsv || decide (bits ctl 2 1 ≠ 0) || s.wvUneven i, St.format),
   (decide (8 < e.first) || decide (e.slots < 2) || decide (10 < e.first + e.slots) || (decide (e.units = 0) && decide (e.tiles ≠ 0)) ||
     (lay && decide (s.fld F.SEQ_CTX_SHAPE_exp_layers (0x40 * c) ≤ e.layer)), St.range)]

/-- The ring a bound instruction begins with (R283). -/
def StreamEnt.ring (e : StreamEnt) : Ring := ⟨e.mu, e.ag, e.first, e.slots, 0, [], []⟩

/-! ### Staged copies (R285) -/

/-- The tier-0 place of byte `p` of a context's share on a die. -/
def State.sharePlace (s : State) (c die p : Nat) : Nat := sramOff die (s.fld F.RES_CTX_T0_base (0x80 * c)) + p

/-- The first byte of a context's share on a die beyond every staged copy. -/
def State.shareTop (s : State) (c die : Nat) : Nat :=
  ((s.res.staged.filter fun g => g.ctx = c && g.die = die).map fun g => g.at_ + g.len).foldl max 0

/-- The FFN records of the first `n` experts a layer's record holds here, in ascending local index. -/
def State.heldExperts (s : State) (rec_ n : Nat) : List Nat :=
  let tbl := s.vle (rec_ + 48) 8
  (((List.range 8192).map fun j => s.vle (tbl + 8 * j) 8).filter (· ≠ 0)).take n

/-- Copies bytes of a stream to a tier-0 place, line by line where some are poisoned. -/
def copyUnit (va n dst : Nat) (s : State) : State :=
  let r := s.vread va n
  let s := s.vcount va n 127
  if r.bad then
    (List.range (ceilDiv n 64)).foldl (fun s k =>
      let p := s.vread (va + 64 * k) (min 64 (n - 64 * k))
      s.twrite 0 (dst + 64 * k) p.bytes p.bad) s
  else s.twrite 0 dst r.bytes

/-- Stages one tile's first units on its die where they fit; answers whether they did. -/
def stageTile (l : Launch) (e : StreamEnt) (us : List (Nat × Nat)) (ffn die : Nat) (s : State) : Bool × State :=
  let us := us.take e.units
  let size := s.fld F.RES_CTX_T0_size (0x80 * l.ctx) * 16384
  let need := (us.map (·.2)).foldl (· + ·) 0
  if size < s.shareTop l.ctx die + need || us.any s.vheld then (false, s)
  else (true, us.zipIdx.foldl (fun s x =>
    let p := s.shareTop l.ctx die
    let s := copyUnit x.1.1 x.1.2 (s.sharePlace l.ctx die p) s
    { s with res := { s.res with staged := s.res.staged ++ [⟨l.ctx, l.id, e.index, ffn, x.2, die, p, x.1.2⟩] } }) s)

/-- Stages tiles in order until one does not fit. (DEDUCED: log entry 62) -/
def stageTiles (l : Launch) (e : StreamEnt) (units : Nat → State → List (Nat × Nat)) : List (Nat × Nat) → State → State
  | [], s => s
  | (ffn, t) :: rest, s =>
    let r := stageTile l e (units ffn s) ffn (t % 2) s
    if r.1 then stageTiles l e units rest r.2 else s

/-- The units of an expert whose FFN record is known, for an instruction of `n` and `k`. -/
def State.expertUnits (s : State) (ffn n k : Nat) : List (Nat × Nat) :=
  let kb := ceilDiv k 128
  let ts := [(s.vle ffn 8, kb * n), (s.vle (ffn + 8) 8, kb * n), (s.vle (ffn + 16) 8, ceilDiv n 128 * k)]
  ((ts.map fun x => s.tensorRanges (s.tensor x.1) 0 x.2).flatten.map cutUnits).flatten

/-! ### Fills (R284) -/

/-- The ring of facet `f`, its units and lengths cut to the tiles the facet holds: what is left over is free (R284). -/
def State.ringNow (s : State) (f : Nat) (r : Ring) (i : Issued) : Ring :=
  let q := (s.fac f).sq
  let held := ((q.run.map fun x => x.1.tile).toList) ++ (q.ahead.map (·.tile)).toList
  { r with units := r.units.filter (fun u => held.contains u.1), lens := held.foldl (fun m t => kset m t ((s.tileUnits i t).map (·.2))) [] }

/-- The next unit to fill: the running tile's first, then the tile's claimed ahead. -/
def Ring.nextUnit (r : Ring) (tiles : List Nat) : Option (Nat × Nat) :=
  (tiles.map fun t => (List.range (kgetD r.lens t []).length).map fun u => (t, u)).flatten.find? fun x =>
    !r.units.any fun u => u.1 = x.1 && u.2.1 = x.2

/-- Whether the ring's next slot is free. -/
def Ring.slotFree (r : Ring) : Bool := !r.units.any fun u => u.2.2.1 = r.first + r.next && u.2.2.2 ≠ 2

/-- CONDENSER_FILL_START (R284): the fill of a facet's next unit begins where the next slot in ring order is free. (DEDUCED: log entry 62) -/
def fillStart (f : Nat) (s : State) : State :=
  let x := s.fac f
  match x.ring, x.sq.cur with
  | some r, some i =>
    let r := s.ringNow f r i
    let s := s.modFac f fun x => { x with ring := some r }
    let tiles := ((x.sq.run.map fun y => y.1.tile).toList) ++ (x.sq.ahead.map (·.tile)).toList
    match r.nextUnit tiles with
    | some (t, u) =>
      if r.slotFree then
        s.modFac f fun x => { x with ring := some { r with units := r.units ++ [(t, u, r.first + r.next, 0)], next := (r.next + 1) % r.slots } }
      else s
    | none => s
  | _, _ => s

/-- CONDENSER_FILL_START (R284). -/
def execCondenserFillStart (ring : Nat) (s : State) : Out := .next (s.alive fun s => if ring < 72 then fillStart ring s else s)

/-- The staged copy of a unit, if there is one. -/
def State.stagedCopy (s : State) (l ffn unit : Nat) : Option Staged :=
  s.res.staged.find? fun g => g.launch = l && g.ffn = ffn && g.unit = unit

/-- A unit of a ring marked filled. -/
def Ring.filled (r : Ring) (t u : Nat) : Ring :=
  { r with units := r.units.map fun v => if v.1 = t ∧ v.2.1 = u then (v.1, v.2.1, v.2.2.1, 1) else v }

/-- A unit lands from its staged copy, which is freed by it. (DEDUCED: log entry 62) -/
def landStaged (g : Staged) (dst : Nat) (s : State) : State :=
  let a := s.sharePlace g.ctx g.die g.at_
  let s := (List.range (ceilDiv g.len 64)).foldl (fun s k =>
    let n := min 64 (g.len - 64 * k)
    s.twrite 0 (dst + 64 * k) (s.mem.read 0 (a + 64 * k) n) (s.mem.poisoned 0 (a + 64 * k) n)) s
  ({ s with res := { s.res with staged := s.res.staged.filter (· ≠ g) } } : State).bump C.TIER_STAGED_HITS

/-- UNIT_FILL_DONE (R284): the unit being filled lands; a source read that is held keeps it waiting, and one that fails
translation ends the running tile. (DEDUCED: log entry 62) -/
def fillDone (f : Nat) (s : State) : State :=
  let x := s.fac f
  match x.ring, x.sq.cur with
  | some r, some i =>
    match r.units.find? fun u => u.2.2.2 = 0 with
    | none => s
    | some (t, u, slot, _) =>
      let dst := muOff f r.mu (slot * 65536)
      let done := fun (s : State) => (s.modFac f fun x => { x with ring := some (r.filled t u) }).bump C.TIER_UNITS
      let ffn := if i.i.op = 2 ∧ i.i.grouped then s.vle (i.i.b + 32 * t) 8 else 0
      match if ffn = 0 then none else s.stagedCopy x.sq.launch ffn u with
      | some g => done (landStaged g dst s)
      | none =>
        let p := nth (s.tileUnits i t) u (0, 0)
        if s.vheld p then s.countHeld [p]
        else if (s.vread p.1 p.2).good then done (copyUnit p.1 p.2 dst s)
        else
          let s := s.vcount p.1 p.2 f
          s.modFac f fun x => { x with sq := x.sq.endTile St.range, ring := some (r.filled t u) }
  | _, _ => s

/-- UNIT_FILL_DONE (R284). -/
def execUnitFillDone (ring : Nat) (s : State) : Out := .next (s.alive fun s => if ring < 72 then fillDone ring s else s)

/-- Staged copies that meet `p` are freed unused. -/
def dropStaged (p : Staged → Bool) (s : State) : State :=
  let n := (s.res.staged.filter p).length
  if n = 0 then s
  else ({ s with res := { s.res with staged := s.res.staged.filter fun g => !p g } } : State).bump C.TIER_STAGED_UNUSED n

/-! ### Time of launches in a window (R298) -/

/-- Adds `n` µs to a context's W. -/
def State.addWall (s : State) (c n : Nat) : State := { s with res := { s.res with wall := kmod s.res.wall c 0 (· + 1000 * n) } }

/-- Adds `n` µs to a context's Q + A. -/
def State.addInterf (s : State) (c n : Nat) : State := { s with res := { s.res with interf := kmod s.res.interf c 0 (· + 1000 * n) } }

/-- The time since an instant that falls in the window. -/
def State.sinceIn (s : State) (t : Nat) : Nat := s.us - max t s.res.since

/-- The run of a launch counts: its own time, and the time the other contexts' queued launches waited for it. -/
def chargeRun (p : Pool) (s : State) : State :=
  match p.run with
  | none => s
  | some l => (p.queue.filter fun q => q.ctx ≠ l.ctx).foldl (fun s q => s.addInterf q.ctx (s.sinceIn (max l.began q.at_))) s

/-- A running launch ends (R298). -/
def endRun (pool : Nat) (s : State) : State :=
  let p := nth s.srv.pools pool ⟨[], none⟩
  match p.run with
  | none => s
  | some l => dropStaged (fun g => g.launch = l.id) (chargeRun p (s.addWall l.ctx (s.sinceIn l.at_)))

end Sys2Proof.Machine
end

