-- ==== Sys2Proof/Machine/Tiling.lean ====
section
/-!
DEFINITION. The facet sequencer: macro-instructions fetched, checked and issued (R133 to R144, R164, R208), tile counters
(R145 to R149), standing down and joining (R150, R151), and launches started (R251).
-/
namespace Sys2Proof.Machine

/-- Changes facet `f`'s sequencer. -/
def State.modSq (s : State) (f : Nat) (g : Sqr → Sqr) : State := s.modFac f fun x => { x with sq := g x.sq }

/-- The sequencer of facet `f`. -/
def State.sqr (s : State) (f : Nat) : Sqr := (s.fac f).sq

/-- Tile counter `c`. -/
def State.tc (s : State) (c : Nat) : Tctr := nth s.tctrs c ⟨0, 0, 0, 0, 0, 0, 0, 0, 0, [], 0, [], false⟩

/-- Replaces tile counter `c`. -/
def State.setTc (s : State) (c : Nat) (t : Tctr) : State := { s with tctrs := s.tctrs.set c t }

/-- The number of the counter a program names `c`: a launch's counters begin at 0 in the decode pool and at 32 in the
prefill pool (R251). (DEDUCED: log entry 38) -/
def ctrOf (pool c : Nat) : Nat := 32 * pool + c

/-! ### Macro-instructions (R134) -/

/-- A macro-instruction from its 64 bytes. -/
def macroOf (b : List Byte) : Macro :=
  let o := leAt b 3 1
  let sh := leAt b 20 1
  ⟨leAt b 0 1, tbit (leAt b 1 1) 0, leAt b 2 1 % 16, leAt b 2 1 / 16, o % 4, tbit o 2, tbit o 3, leAt b 4 1, leAt b 5 1, leAt b 6 1 % 64,
    leAt b 7 1 % 16, ⟨sh % 4, leAt b 8 4⟩, ⟨bits sh 3 2, leAt b 12 4⟩, ⟨bits sh 5 4, leAt b 16 4⟩,
    leAt b 24 8, leAt b 32 8, leAt b 40 8, leAt b 48 8, leAt b 56 8,
    decide (2 ≤ leAt b 1 1) || decide (16 ≤ o) || decide (64 ≤ leAt b 6 1) || decide (16 ≤ leAt b 7 1) || decide (64 ≤ sh) || decide (leAt b 21 3 ≠ 0)⟩

/-- The opcodes of R135. -/
def opcodes : List Nat := [1, 2, 3, 4, 5, 0x10, 0x11, 0x20, 0x3F]

/-- The value of a dimension (R136), whether its word could be read, and whether it was poisoned. -/
def State.dimVal (s : State) (xs : List Nat) (d : DimSrc) : Nat × Bool × Bool :=
  match d.src with
  | 0 => (d.field, true, false)
  | 1 => (nth xs (d.field % 16) 0, true, false)
  | _ =>
    let r := s.vread (nth xs (d.field % 16) 0 % 2 ^ 52) 4
    (ofBytes r.bytes, r.good, r.bad)

/-- T of R135. -/
def tileCount (i : Macro) (m n : Nat) : Nat :=
  let tm := 8 * i.tileM
  match i.op with
  | 1 => ceilDiv m tm * ceilDiv n (128 * i.tileN)
  | 2 => if i.grouped then m else ceilDiv m tm
  | 3 => m
  | 4 => ceilDiv m tm
  | _ => ceilDiv m 65536

/-! ### The descriptor bundle (R139) -/

/-- The bundle's descriptors as (MU, entry, bytes), whether its head is formed, and what its read met. -/
structure Bundle where
  descs : List (Nat × Nat × List Byte)
  formed : Bool
  good : Bool
  bad : Bool

/-- The bundle at an address. -/
def State.bundle (s : State) (a : Nat) : Bundle :=
  if a = 0 then ⟨[], true, true, false⟩
  else
    let h := s.vread a 64
    let hb := padTo 64 h.bytes
    let counts := (List.range 8).map fun m => leAt hb m 1
    let slots := ((counts.zipIdx).map fun (n, m) => (List.range n).map fun e => (m, e)).flatten
    let body := s.vread (a + 64) (64 * slots.length)
    ⟨(slots.zipIdx).map fun (p, k) => (p.1, p.2, padTo 64 (slice body.bytes (64 * k) 64)),
      (counts.all (· ≤ 32)) && (hb.drop 8).all (· = 0), h.good && body.good, h.bad || body.bad⟩

/-- The largest size of a tile axis. -/
def Issued.largest (i : Issued) (a : Nat) : Nat :=
  match a with
  | 0 => min i.tm i.m
  | 1 => if i.i.op = 1 then min i.tn i.n else i.n
  | 2 => i.k
  | _ => i.tm

/-- The extent of a descriptor's dimension for the largest tile, none for an X register above 65,535. -/
def largestExtent (i : Issued) (xs : List Nat) (d : List Byte) (k : Nat) : Option Nat :=
  let b := descBound d k
  match descSrc d k with
  | 0 => some (descExtent d k)
  | 1 => if 65535 < nth xs (b % 16) 0 then none else some (nth xs (b % 16) 0)
  | _ => some (ceilDiv (i.largest (b % 4)) (2 ^ bits b 7 4))

/-- Whether a descriptor stays inside its MU for the largest tile and both alternate bases (R142). -/
def descInMu (i : Issued) (xs : List Nat) (d : List Byte) : Bool :=
  let es := (descDims d).map fun k => (k, largestExtent i xs d k)
  if es.any fun e => e.2.isNone then false
  else if es.any fun e => e.2 = some 0 then true
  else
    let span := es.map fun e => strideInt (descStride d e.1) * ((e.2.getD 0 : Nat) - 1)
    let lo := (span.map fun v => min 0 v).foldl (· + ·) 0
    let hi := (span.map fun v => max 0 v).foldl (· + ·) 0
    let wd : Int := if tbit (leAt d 7 1) 0 then 3 else 127
    [0, 1].all fun o => let b : Int := descBase d xs o
      decide (0 ≤ b + lo) && decide (b + hi + wd ≤ 0x9FFFF)

/-! ### Issue checks (R142, R164, R208) -/

/-- The layers of a context (R68). -/
def State.layersOf (s : State) (c : Nat) : Nat := s.fld F.SEQ_CTX_CKPT_layers_m1 (0x40 * c) + 1

/-- The tensor descriptors of an FFN record. -/
def State.ffnTensors (s : State) (a : Nat) : List Nat := [s.vle a 8, s.vle (a + 8) 8, s.vle (a + 16) 8]

/-- The tensor descriptors an instruction names, each with its block count. -/
def State.namedTensors (s : State) (i : Macro) (m n k : Nat) : List (Nat × Nat) :=
  let nb := n * ceilDiv k 128
  match i.op with
  | 1 => [(i.b, nb)]
  | 4 => [(i.b, nb)]
  | 2 =>
    let bs := [nb, nb, ceilDiv n 128 * k]
    if i.grouped then ((List.range m).map fun e => (s.ffnTensors (s.vle (i.b + 32 * e) 8)).zip bs).flatten
    else (s.ffnTensors i.b).zip bs
  | _ => []

/-- What an issue reads: (address, length, write). -/
def State.issueReads (s : State) (i : Macro) (m n k : Nat) : List (Nat × Nat) :=
  let img := [(i.ctxAddr, 4096)]
  match i.op with
  | 1 => img ++ [(i.a, 1)] ++ (s.namedTensors i m n k).map fun t => (t.1, 40)
  | 2 => img ++ (if i.grouped then [(i.b, 32 * m)] else [(i.a, 1), (i.b, 24)]) ++ (s.namedTensors i m n k).map fun t => (t.1, 40)
  | 3 => img ++ [(i.a, 40 * m), (i.b, 64)]
  | 4 => img ++ [(i.a, 1), (i.c, 128)] ++ (s.namedTensors i m n k).map fun t => (t.1, 40)
  | 5 => img ++ [(i.a, 1)]
  | 0x11 => [(i.a, 8)]
  | _ => []

/-- The places an issue finds writable. -/
def issueWrites (i : Macro) : List Nat :=
  if i.op = 1 ∨ i.op = 3 ∨ i.op = 5 then [i.c] else if i.op = 2 ∧ !i.grouped then [i.c] else []

/-- The generation's record table of a launch (X4). -/
def State.launchTable (s : State) (l : Launch) : Nat := match s.gen l.ctx l.gslot with
  | some g => g.table
  | none => 0

/-- The layer of a routing record in the launch's table, if the address is one (R164). -/
def State.recordLayer (s : State) (l : Launch) (a : Nat) : Option Nat :=
  let t := s.launchTable l
  let n := s.fld F.SEQ_CTX_SHAPE_exp_layers (0x40 * l.ctx)
  if t ≤ a ∧ (a - t) % 128 = 0 ∧ (a - t) / 128 < n then some ((a - t) / 128) else none

/-- The operation's refusals that R164 adds for GATE_CAND, by status. -/
def State.gateRefusals (s : State) (l : Launch) (i : Macro) (m n k : Nat) : List (Bool × Nat) :=
  let a := i.c
  [((!(s.vread a 128).good || ((s.vread a 128).bytes.drop 88).any (· ≠ 0) || decide (s.vle (a + 12) 4 ≠ 0) || decide (2 ≤ s.vle (a + 3) 1) ||
      !(decide (s.vle (a + 4) 1 = 7) || decide (s.vle (a + 4) 1 = 8)) || !(decide (s.vle (a + 5) 1 = 7) || decide (s.vle (a + 5) 1 = 8)) ||
      decide (i.outFmt ≠ s.vle (a + 4) 1)) && (s.recordLayer l a).isSome, St.format),
   ((s.recordLayer l a).isNone || decide (n ≠ s.vle a 2 + 1) || decide (k ≠ s.vle (a + 8) 2 * 128) || decide (s.vle (a + 2) 1 = 0) ||
      decide (16 < s.vle (a + 2) 1) || decide (s.vle a 2 + 1 < s.vle (a + 2) 1) || decide (s.vle (a + 10) 2 < m), St.range),
   (l.train.isSome || !s.flag F.PRS_CTRL_enable, St.state)]

/-- The refusals that R208 adds for ATTENTION. -/
def State.attRefusals (s : State) (i : Macro) (n k : Nat) : List (Bool × Nat) :=
  let r := s.attRec i.b
  [(!(decide (1 ≤ r.fmt) && decide (r.fmt ≤ 3)) || decide (128 < r.heads) || r.rsv || isNaN r.scale || isInf r.scale ||
      !(decide (i.actFmt = 7) || decide (i.actFmt = 8)) || decide (i.outFmt ≠ 0xB), St.format),
   (decide (i.tileM ≠ 1) || decide (i.tileN ≠ 1) || decide (n ≠ r.heads) || decide (k ≠ 576) || decide (65536 < r.base + (r.layer + 1) * r.stride) ||
      decide (r.stride = 0), St.range)]

/-- Whether an instruction runs tiles. -/
def hasTiles (op : Nat) : Bool := decide (1 ≤ op) && decide (op ≤ 5)

/-- The fixed-field refusals with REJ_FORMAT (R142). -/
def formatRefused (i : Macro) : Bool :=
  i.rsv || !opcodes.contains i.op || (hasTiles i.op && (decide (i.m.src = 3) || decide (i.n.src = 3) || decide (i.k.src = 3))) || decide (i.rnd = 3) ||
    (decide (1 ≤ i.op) && decide (i.op ≤ 4) && (!isActFmt i.actFmt || !isOutFmt i.outFmt)) ||
    (i.carry && !(i.op = 3 || i.op = 4)) || (i.grouped && decide (i.op ≠ 2)) ||
    (match i.op with
      | 2 => i.grouped && (decide (i.a ≠ 0) || decide (i.c ≠ 0))
      | 5 => decide (i.b ≠ 0)
      | 0x10 => decide (i.b ≠ 0) || decide (i.c ≠ 0)
      | 0x11 => decide (i.b ≠ 0) || decide (i.c ≠ 0)
      | 0x20 => decide (i.a ≠ 0) || decide (i.b ≠ 0) || decide (i.c ≠ 0)
      | 0x3F => decide (i.a ≠ 0) || decide (i.b ≠ 0) || decide (i.c ≠ 0)
      | _ => false)

/-- An instruction judged at issue: its refusal, or the instruction in hand; poison met at issue is the last check. -/
structure Judged where
  refusal : Option Nat
  issued : Issued
  fault : Option (Nat × Nat × Nat)

/-- The checks of an instruction at issue, at index `ix` of its program. (DEDUCED: log entry 32; DEDUCED: log entry 38) -/
def State.judge (s : State) (l : Launch) (i : Macro) (xs : List Nat) (ix : Nat) : Judged :=
  let dm := s.dimVal xs i.m
  let dn := s.dimVal xs i.n
  let dk := s.dimVal xs i.k
  let used := hasTiles i.op
  let m := dm.1
  let n := dn.1
  let k := dk.1
  let t := if used then tileCount i m n else 0
  let layer := if i.op = 1 ∨ i.op = 4 then some (s.tensor i.b).layer
    else if i.op = 2 ∧ !i.grouped then some (s.tensor (s.vle i.b 8)).layer else none
  let fes := if used then s.fuseEnts l.ctx l.prog ix else []
  let is : Issued := ⟨i, m, n, k, t, layer, false, fes.map fun b => (leAt b 10 1, leAt b 11 1), nth xs 0 0, l.ctx⟩
  let ent := if used then s.streamEnt l.ctx l.prog ix else none
  let mine := fun (d : Nat × Nat × List Byte) => match ent with
    | some e => decide (d.1 = e.mu) && decide (d.2.1 = (leAt (s.vread (i.ctxAddr % 2 ^ 52 + unitWord (16 + e.mu) + 8 + 14 * e.ag + 1) 1).bytes 0 1))
    | none => false
  let bd := if used then s.bundle i.descAddr else ⟨[], true, true, false⟩
  let ts := s.namedTensors i m n k
  let reads := s.issueReads i m n k
  let rds := reads.map fun p => s.vread (p.1 % 2 ^ 52) p.2
  let wf := (issueWrites i).findSome? fun a => s.writeFault a 1
  let rf := rds.findSome? fun r => match r with
    | .fail a lv rs => some (a, lv, rs)
    | .ok _ _ => none
  let dimsGood := dm.2.1 && dn.2.1 && dk.2.1
  let extra := if i.op = 4 then s.gateRefusals l i m n k else if i.op = 3 then s.attRefusals i n k else []
  let extra := extra ++ s.fuseRefusals is fes (nth xs 0 0) ++ (match ent with
    | some e => s.streamRefusals l.ctx e is
    | none => [])
  let readable := rf.isNone
  let fmt := formatRefused i || (readable && (ts.any fun p => s.tensorFormat (s.tensor p.1) p.2)) ||
    (used && bd.good && (!bd.formed || bd.descs.any fun d => !descOk d.2.2)) || extra.any fun e => e.1 && decide (e.2 = St.format)
  let rng := (used && (decide (i.tileM = 0) || decide (i.tileN = 0)) && decide (i.op ≤ 4)) ||
    ((used || decide (i.op = 0x20)) && decide (32 ≤ i.counter)) || (decide (i.op ≤ 4) && decide (16777216 < k)) || decide (16777215 < t) ||
    (decide (i.op = 5) && decide (m % 64 ≠ 0)) || (readable && ts.any fun p => (s.tensor p.1).badRange (s.layersOf l.ctx)) ||
    !readable || wf.isSome || (used && (!dimsGood || !bd.good)) || (used && bd.descs.any fun d => !mine d && !descInMu is xs d.2.2) ||
    extra.any fun e => e.1 && decide (e.2 = St.range)
  let sta := extra.any fun e => e.1 && decide (e.2 = St.state)
  let bad := rds.any (·.bad) || bd.bad || (used && (dm.2.2 || dn.2.2 || dk.2.2))
  ⟨firstOf [(fmt, St.format), (rng, St.range), (sta, St.state), (bad, St.uncorrected)], is,
    if fmt then none else match rf with
      | some x => some x
      | none => wf⟩

/-! ### Launch bookkeeping -/

/-- The worse of two stops; the first of equal ones stays. -/
def worseStop (a b : Option (Nat × Nat × Nat)) : Option (Nat × Nat × Nat) :=
  match a, b with
  | some x, some y => if x.1 < y.1 then b else a
  | none, _ => b
  | _, none => a

/-- A facet leaves its launch; its status, and its stop where R143 stopped it, reach the launch (R143, R149, R151). -/
def leaveLaunch (f st : Nat) (stop : Option (Nat × Nat × Nat)) (s : State) : State :=
  let q := s.sqr f
  let s := (s.modFac f fun x => { x with ring := none }).modSq f fun q =>
    { q with running := false, waiting := false, cur := none, claiming := false, status := st, named := [], exhausted := false }
  s.modLaunch q.pool fun l =>
    if l.id = q.launch then
      { l with facets := l.facets.erase f, status := worse l.status st, stop := worseStop l.stop stop }
    else l

/-- The step a finished launch belongs to counts it (R255, R256). -/
def stepLaunchEnded (l : Launch) (s : State) : State :=
  { s with srv := { s.srv with series := s.srv.series.map fun e =>
      if e.1 = 2 * l.ctx + l.series then
        (e.1, { e.2 with built := e.2.built.map fun st =>
          { st with left := st.left - 1, stopped := worseStop st.stopped l.stop } })
      else e } }

/-- A pool whose launch no facet runs any more: a step's launch is over; a training launch waits for its commit. -/
def launchOver (pool : Nat) (s : State) : State :=
  match nth s.srv.pools pool ⟨[], none⟩ with
  | ⟨q, some l⟩ =>
    if l.facets = [] ∧ l.train.isNone then
      let s := endRun pool s
      stepLaunchEnded l { s with srv := { s.srv with pools := s.srv.pools.set pool ⟨q, none⟩ } }
    else s
  | _ => s

/-- The program stops in a facet (R143): its claims go back, its status and index are reported. (DEDUCED: log entry 39) -/
def stopProgram (f st : Nat) (s : State) : State :=
  let q := s.sqr f
  let s := s.modSq f fun q => { q with ret := q.ret ++ q.ahead.toList, ahead := none }
  launchOver q.pool (leaveLaunch f st (some (st, f, q.index)) s)

/-! ### Tiles begin -/

/-- Whether the active context was loaded from the instruction's image (R140). -/
def Facet.configured (x : Facet) (i : Issued) : Bool := x.isValid x.active && decide (nth x.source x.active 0 = i.i.ctxAddr)

/-- The bundle written into the descriptor tables (R139, R140). -/
def Facet.putBundle (x : Facet) (b : Bundle) : Facet :=
  { x with desc := b.descs.foldl (fun m d => kput m (d.1 * 32 + d.2.1) d.2.2) x.desc }

/-- The tile claimed ahead starts where the facet is configured (R140): the first tile of an instruction waits for
quiescence and writes the bundle; an ATTENTION tile takes its epoch ticket (R218); the next claim goes out. -/
def tryStart (f : Nat) (s : State) : State :=
  let x := s.fac f
  let q := x.sq
  match q.cur, q.ahead, q.run with
  | some i, some t, none =>
    if x.configured i && (decide (q.ordinal ≠ 0) || x.quiescent) && x.pend.isNone then
      let x := if q.ordinal = 0 then x.putBundle (s.bundle i.i.descAddr) else x
      let tk := if i.i.op = 3 then some s.kvm.epoch else none
      let q := { q with ahead := none, run := some (t, tk), claiming := !q.exhausted && !q.standing }
      let s := s.setFac f { x with sq := q, ags := [] }
      if i.i.op = 3 then s.takeTicket else s
    else s
  | _, _, _ => s

/-- The staged copies for an instruction that every facet of its launch has completed are freed (R285). -/
def freeStaged (f : Nat) (s : State) : State :=
  match s.launchOf f with
  | none => s
  | some l => dropStaged (fun g => g.launch = l.id && l.facets.all fun h => g.index < (s.sqr h).index) s

/-- The instruction in hand completes once every tile claimed has finished and none is left (R140). A tile handed over
while the facet waited leaves the index where it was (R149). -/
def completeInstr (f : Nat) (s : State) : State :=
  let q := s.sqr f
  if q.cur.isSome && q.exhausted && q.run.isNone && q.ahead.isNone && !q.claiming then
    let c := match q.cur with
      | some i => i.i.counter
      | none => 64
    let next := if kget q.named c = some q.index then q.index + 1 else q.index
    freeStaged f ((s.modFac f fun x => { x with ring := none }).modSq f fun q => { q with cur := none, exhausted := false, ordinal := 0, index := next })
  else s

/-- A facet that stands down and holds nothing more leaves its launch (R150). -/
def settleDown (f : Nat) (s : State) : State :=
  let q := s.sqr f
  if q.standing && q.running && q.run.isNone && q.ahead.isNone && q.fin = [] && q.ret = [] then
    let s := (s.modFac f fun x => { x with ring := none }).modSq f fun q =>
      { q with running := false, waiting := false, cur := none, claiming := false, named := [], exhausted := false, ordinal := 0 }
    s.modLaunch q.pool fun l => { l with facets := l.facets.erase f }
  else s

/-! ### Instructions (R135, R140) -/

/-- Whether a facet may issue an instruction. -/
def State.mayIssue (s : State) (f : Nat) : Bool :=
  let q := s.sqr f
  decide (f < 72) && q.running && q.cur.isNone && !q.claiming && !q.waiting && !q.standing && !s.frozen f && (s.launchOf f).isSome

/-- Whether the tile counters a program named are drained for it (R149). -/
def State.drained (s : State) (pool : Nat) (e : Nat × Nat) : Bool :=
  let t := s.tc (ctrOf pool e.1)
  decide (t.state = 2) && decide (e.2 ≤ t.index)

/-- Whether a BARRIER or END may pass (R149). (DEDUCED: log entry 38) -/
def State.mayPass (s : State) (f : Nat) (i : Macro) : Bool :=
  let q := s.sqr f
  if i.op = 0x20 then match kget q.named i.counter with
    | some k => s.drained q.pool (i.counter, k)
    | none => true
  else q.named.all (s.drained q.pool)

/-- The status of a program at its END (R149). -/
def State.endStatus (s : State) (f : Nat) : Nat :=
  let q := s.sqr f
  (q.named.map fun e => (s.tc (ctrOf q.pool e.1)).status).foldl worse q.own

/-- A BARRIER or END passes. -/
def passWait (f : Nat) (i : Macro) (s : State) : State :=
  let q := s.sqr f
  if i.op = 0x3F then launchOver q.pool (leaveLaunch f (s.endStatus f) none s)
  else s.modSq f fun q => { q with waiting := false, cur := none, index := q.index + 1 }

/-- A facet begins to wait: its counters learn the order (R149). -/
def beginWait (f : Nat) (is : Issued) (s : State) : State :=
  let q := s.sqr f
  let cs := if is.i.op = 0x20 then [is.i.counter] else q.named.map (·.1)
  let s := s.modSq f fun q => { q with waiting := true, cur := some is }
  cs.foldl (fun s c => let n := ctrOf q.pool c
    s.setTc n { s.tc n with waiters := (s.tc n).waiters ++ [f] }) s

/-- The state of a (context, generation slot, layer) of the Reticle, by key. -/
def layerKey (c g l : Nat) : Nat := (2 * c + g) * 256 + l

/-- A layer's numerics state. -/
def State.rlayer (s : State) (k : Nat) : RLayer := kgetD s.rtc.layers k ⟨0, 0, 0, false, false, false, 0⟩

/-- Replaces a layer's numerics state. -/
def State.setRlayer (s : State) (k : Nat) (r : RLayer) : State := { s with rtc := { s.rtc with layers := kset s.rtc.layers k r } }

/-- A layer becomes DEGRADED (R69). -/
def degrade (c l k : Nat) (s : State) : State :=
  (s.setRlayer k { s.rlayer k with state := 4 }).raise E.precisionDegraded (ctx := c) (d0 := l)

/-- has_reserve as an issue leaves it (R68). -/
def noteReserve (c l k : Nat) (all : Bool) (s : State) : State :=
  let r := s.rlayer k
  if all then (if r.noReserve then s else s.setRlayer k { r with reserve := true })
  else
    let s := s.setRlayer k { r with reserve := false, noReserve := true }
    if r.state = 2 ∨ r.state = 3 then degrade c l k s else s

/-- The tensors of an instruction grouped by layer: whether every one of a layer names a reserve. -/
def State.noteReserves (s : State) (l : Launch) (is : Issued) : State :=
  let ts := (s.namedTensors is.i is.m is.n is.k).map fun p => s.tensor p.1
  ((ts.map (·.layer)).eraseDups).foldl (fun s ly =>
    noteReserve l.ctx ly (layerKey l.ctx l.gslot ly) ((ts.filter fun t => t.layer = ly).all fun t => t.reserve ≠ 0) s) s

/-- Whether a grouped GATED_FFN is held until its layer closes (R252). -/
def State.ffnHeld (s : State) (l : Launch) (i : Macro) : Bool :=
  i.op = 2 && i.grouped && l.train.isNone &&
    ((List.range (s.fld F.SEQ_CTX_SHAPE_exp_layers (0x40 * l.ctx))).any fun j =>
      decide (i.b = s.vle (s.launchTable l + 128 * j + 72) 8 + 64) &&
        !(s.prs.own.any fun o => o.closed && decide (o.ctx = l.ctx) && decide (o.step = nth l.xs 3 0) && decide (o.layer = j)))

/-- The ring of an instruction that issues (R283). -/
def bindRing (f : Nat) (l : Launch) (ix : Nat) (s : State) : State :=
  s.modFac f fun x => { x with ring := (s.streamEnt l.ctx l.prog ix).map StreamEnt.ring }

/-- R285: the stream entry with the lowest index above an issued instruction that stages a grouped GATED_FFN is staged,
once a launch. -/
def stageFor (l : Launch) (pool ix : Nat) (s : State) : State :=
  let es := (s.streamEnts l.ctx l.prog).filter fun e =>
    let i := macroOf (padTo 64 (s.vread (l.prog + 64 * e.index) 64).bytes)
    decide (ix < e.index) && decide (e.tiles ≠ 0) && decide (i.op = 2) && i.grouped
  match es.foldl (fun (a : Option StreamEnt) e => match a with
    | some b => if e.index < b.index then some e else a
    | none => some e) none with
  | none => s
  | some e =>
    if !s.flag F.TIER_COND_stage_en || l.staged.contains e.index then s
    else
      let s := s.modLaunch pool fun l => { l with staged := l.staged ++ [e.index] }
      let i := macroOf (padTo 64 (s.vread (l.prog + 64 * e.index) 64).bytes)
      let n := (s.dimVal l.xs i.n).1
      let k := (s.dimVal l.xs i.k).1
      stageTiles l e (fun ffn s => s.expertUnits ffn n k) (s.heldExperts (nth l.xs 4 0 + 128 * e.layer) e.tiles).zipIdx s

/-- An instruction that passed its checks goes on: registers change, a wait begins, or a claim goes out. -/
def goOn (f : Nat) (l : Launch) (is : Issued) (s : State) : State :=
  let i := is.i
  match i.op with
  | 0x10 => s.modSq f fun q => { q with xs := q.xs.set i.x i.a, index := q.index + 1 }
  | 0x11 => s.modSq f fun q => { q with xs := q.xs.set i.x (s.vle i.a 8), index := q.index + 1 }
  | 0x20 => if s.mayPass f i then passWait f i s else beginWait f is s
  | 0x3F => if s.mayPass f i then passWait f i s else beginWait f is s
  | _ =>
    let s := s.noteReserves l is
    let wide := match is.layer with
      | some y => l.wide.contains y
      | none => false
    let s := stageFor l (s.sqr f).pool (s.sqr f).index (bindRing f l (s.sqr f).index s)
    s.modSq f fun q => { q with cur := some { is with wide := wide }, claiming := true, ordinal := 0, exhausted := false, named := kset q.named i.counter q.index }

/-- An instruction issues in facet `f` (R140): fetched, checked, and taken up. `op` is the opcode of the command's row; an
instruction of another listed opcode leaves the facet as it is. (DEDUCED: log entry 32) -/
def issue (op f : Nat) (s : State) : State :=
  if !s.mayIssue f then s
  else
    match s.launchOf f with
    | none => s
    | some l =>
      let q := s.sqr f
      if 65536 ≤ q.index then stopProgram f St.range s
      else
        let a := q.prog + 64 * q.index
        match s.vread a 64 with
        | .fail va lv rs => stopProgram f St.range (s.mmuFault va lv rs f l.ctx)
        | .ok b bad =>
          let i := macroOf b
          if opcodes.contains i.op && decide (i.op ≠ op) then s
          else if s.ffnHeld l i then s
          else
            let j := s.judge l i q.xs q.index
            let rs := (a, 64) :: s.issueReads i j.issued.m j.issued.n j.issued.k
            if rs.any s.vheld then s.countHeld rs
            else
            let s := match j.fault with
              | some x => s.mmuFault x.1 x.2.1 x.2.2 f l.ctx
              | none => s
            match j.refusal with
            | some st => stopProgram f st s
            | none => if bad then stopProgram f St.uncorrected s else goOn f l j.issued s

/-- MATMUL (R135). (DEDUCED: log entry 32) -/
def execMatmul (f : Nat) (s : State) : Out := .next (s.on fun s => issue 1 f s)

/-- GATED_FFN (R135). -/
def execGatedFfn (f : Nat) (s : State) : Out := .next (s.on fun s => issue 2 f s)

/-- ATTENTION (R204). -/
def execAttention (f : Nat) (s : State) : Out := .next (s.on fun s => issue 3 f s)

/-- GATE_CAND (R164). -/
def execGateCand (f : Nat) (s : State) : Out := .next (s.on fun s => issue 4 f s)

/-- COPY (R135). -/
def execCopyTile (f : Nat) (s : State) : Out := .next (s.on fun s => issue 5 f s)

/-- SETX (R135). -/
def execSetx (f : Nat) (s : State) : Out := .next (s.on fun s => issue 0x10 f s)

/-- LOADX (R135). -/
def execLoadx (f : Nat) (s : State) : Out := .next (s.on fun s => issue 0x11 f s)

/-- BARRIER (R149). -/
def execBarrier (f : Nat) (s : State) : Out := .next (s.on fun s => issue 0x20 f s)

/-- END (R149). -/
def execEndInstr (f : Nat) (s : State) : Out := .next (s.on fun s => issue 0x3F f s)

/-- The waits of a facet end at every counter. -/
def State.unwait (s : State) (f : Nat) : State := { s with tctrs := s.tctrs.map fun t => { t with waiters := t.waiters.erase f } }

/-- BARRIER_RELEASE (R149): a waiting facet whose counters are drained goes on. -/
def barrierRelease (f : Nat) (s : State) : State :=
  let q := s.sqr f
  match q.cur with
  | some is => if q.waiting && q.running && s.mayPass f is.i then passWait f is.i (s.unwait f) else s
  | none => s

/-- BARRIER_RELEASE (R149). -/
def execBarrierRelease (f : Nat) (s : State) : Out := .next (s.alive fun s => if f < 72 then barrierRelease f s else s)

/-! ### Claims (R145, R146) -/

/-- A counter's answer to a claim. -/
inductive Claim where
  | tile (t : Nat)
  | exhausted
  | refused
  deriving DecidableEq, Repr

/-- A counter initialised by a claim (R146). -/
def Tctr.init (t : Tctr) (index : Nat) (i : Issued) : Tctr :=
  { t with state := if i.t = 0 then 2 else 1, index := index, m := i.m, n := i.n, k := i.k, t := i.t, next := 0, done := 0, ret := [],
           status := 0, biased := false }

/-- The next tile of a running counter. -/
def Tctr.hand (t : Tctr) : Claim × Tctr :=
  match t.ret with
  | r :: rest => (.tile r, { t with ret := rest })
  | [] => if t.next < t.t then (.tile t.next, { t with next := t.next + 1 }) else (.exhausted, t)

/-- R146. -/
def Tctr.claim (t : Tctr) (index : Nat) (i : Issued) : Claim × Tctr × Bool :=
  let fresh := decide (t.state = 0) || (decide (t.state = 2) && decide (t.index < index))
  if fresh then
    let u := t.init index i
    if u.state = 2 then (.exhausted, u, true) else (u.hand.1, u.hand.2, true)
  else if t.state = 2 then (.exhausted, t, false)
  else if index = t.index then (t.hand.1, t.hand.2, false)
  else if index < t.index then (.exhausted, t, false)
  else (.refused, t, false)

/-- The useful and padded rows of an instruction (R152). -/
def State.rowsOf (s : State) (i : Issued) : Nat × Nat :=
  if i.i.op = 3 ∨ i.i.op = 5 then (i.m, 0)
  else if i.i.grouped then
    let rs := (List.range i.m).map fun e => s.entryRows i e
    (rs.foldl (· + ·) 0, (rs.map fun r => ceilDiv r i.tm * i.tm - r).foldl (· + ·) 0)
  else (i.m, ceilDiv i.m i.tm * i.tm - i.m)

/-- TILE_CLAIM (R146): the answer of the counter to facet `f`'s claim. -/
def tileClaim (f : Nat) (s : State) : State :=
  let q := s.sqr f
  match q.cur with
  | none => s
  | some i =>
    if !q.claiming || !q.running then s
    else
      let n := ctrOf q.pool i.i.counter
      let a := (s.tc n).claim (kgetD q.named i.i.counter q.index) i
      let s := s.setTc n a.2.1
      let s := if a.2.2 then
          let r := s.rowsOf i
          let s := { s with cnts := kdel (kdel s.cnts (C.FCT_TC_USEFUL + 0x40 * n)) (C.FCT_TC_PADDED + 0x40 * n) }
          (s.bump (C.FCT_TC_USEFUL + 0x40 * n) r.1).bump (C.FCT_TC_PADDED + 0x40 * n) r.2
        else s
      match a.1 with
      | .tile t =>
        let c := a.2.1
        tryStart f (s.modSq f fun q => { q with claiming := false, ahead := some ⟨n, c.inc, c.index, t⟩, cur := some { i with m := c.m, n := c.n, k := c.k, t := c.t } })
      | .exhausted => completeInstr f (s.modSq f fun q => { q with claiming := false, exhausted := true })
      | .refused => stopProgram f St.state s

/-- TILE_CLAIM (R146). -/
def execTileClaim (f : Nat) (s : State) : Out := .next (s.alive fun s => if f < 72 then tileClaim f s else s)

/-- CONTEXT_SWITCH_EFFECT (R106): and, under the sequencer, the tile waiting for it starts. -/
def execContextSwitchEffect (f : Nat) (s : State) : Out := .next (s.alive fun s => tryStart f (switchEffect f s))

/-- A context load ends; one the sequencer asked for that fails stops the program (R143). (DEDUCED: log entry 39) -/
def loadDone (f : Nat) (s : State) : State :=
  let t := contextLoadDone f s
  let st := t.fld F.FCT_CTX_STATUS_status (fdi f)
  match (s.fac f).load with
  | some l => if l.bySeq && decide (0x10 ≤ st) && (s.sqr f).running then stopProgram f st t else t
  | none => t

/-- CONTEXT_LOAD_DONE (R105). -/
def execContextLoadDone (f : Nat) (s : State) : Out := .next (s.alive fun s => loadDone f s)

/-! ### Tile counters commanded (R151, R156) -/

/-- A counter set to FREE: claims still held from it become late (R151). -/
def Tctr.freed (t : Tctr) : Tctr := ⟨0, t.inc + 1, 0, 0, 0, 0, 0, 0, 0, [], 0, t.waiters, false⟩

/-- A write of 1 to FCT_TC_CMD.reset (R156): refused while the counter runs. -/
def tileCounterReset (org : Originator) (c : Nat) (s : State) : State :=
  let off := 0x3300014 + 0x40 * c
  if 64 ≤ c then s
  else s.gated org off fun s =>
    if !s.expertOk org then s.accessEvent org off 3
    else if (s.tc c).state = 1 then s.accessEvent org off 6 else s.setTc c (s.tc c).freed

/-- TILE_COUNTER_RESET (R156). -/
def execTileCounterReset (org : Originator) (c : Nat) (s : State) : Out := .next (s.on fun s => tileCounterReset org c s)

/-! ### Reports and returns (R147, R148) -/

/-- A tile reported finished at its counter. -/
def reportTile (t : Tile) (st : Nat) (s : State) : State :=
  let c := s.tc t.ctr
  if c.inc ≠ t.inc then s.raise E.lateCounterReport (d0 := t.ctr)
  else
    let done := c.done + 1
    s.setTc t.ctr { c with done := done, status := worse c.status st, state := if done = c.t then 2 else c.state }

/-- TILE_REPORT (R147): once the fence over the facet's remote writes has completed (R357). (DEDUCED: log entry 44) -/
def tileReport (f : Nat) (s : State) : State :=
  match (s.sqr f).fin with
  | [] => s
  | (t, st) :: rest => if s.fencing f then s else settleDown f (completeInstr f (tryStart f (reportTile t st (s.modSq f fun q => { q with fin := rest }))))

/-- TILE_REPORT (R147). -/
def execTileReport (f : Nat) (s : State) : Out := .next (s.alive fun s => if f < 72 then tileReport f s else s)

/-- A returned tile handed to a waiting facet (R149): the facet takes up its instruction again. (DEDUCED: log entry 39) -/
def handOver (w : Nat) (t : Tile) (s : State) : State :=
  match s.launchOf w with
  | none => s
  | some l =>
    let q := s.sqr w
    let i := macroOf (padTo 64 (s.vread (q.prog + 64 * t.index) 64).bytes)
    let c := s.tc t.ctr
    let is := (s.judge l i q.xs t.index).issued
    tryStart w ((bindRing w l t.index (s.unwait w)).modSq w fun q => { q with waiting := false, claiming := false, exhausted := true, ordinal := 0, ahead := some t, cur := some { is with m := c.m, n := c.n, k := c.k, t := c.t } })

/-- A tile returned to its counter: to the facet that began waiting first, or to the return list. -/
def returnTile (t : Tile) (s : State) : State :=
  let c := s.tc t.ctr
  if c.inc ≠ t.inc then s
  else
    match c.waiters with
    | w :: _ => handOver w t s
    | [] => s.setTc t.ctr { c with ret := c.ret ++ [t.tile] }

/-- TILE_RETURN (R148). -/
def tileReturn (f : Nat) (s : State) : State :=
  match (s.sqr f).ret with
  | [] => s
  | t :: rest =>
    let s := s.modFac f fun x => { x with ring := x.ring.map fun r => { r with units := r.units.filter fun u => u.1 ≠ t.tile } }
    settleDown f (returnTile t ((s.modSq f fun q => { q with ret := rest }).bump (C.FCT_TILES_RETURNED + fdi f)))

/-- TILE_RETURN (R148). -/
def execTileReturn (f : Nat) (s : State) : Out := .next (s.alive fun s => if f < 72 then tileReturn f s else s)

/-! ### Standing down, joining, launches (R150, R151, R251) -/

/-- Whether facet `f` is an ungated member of pool `p` that is not fenced. -/
def Facet.member (x : Facet) (p : Nat) : Bool := decide (x.pool = p) && decide (x.gated = 0) && !x.fenced

/-- The members of a pool. -/
def State.members (s : State) (p : Nat) : List Nat := (List.range 72).filter fun f => (s.fac f).member p

/-- Whether `f` is the last active facet of a pool whose launch runs. -/
def State.lastActive (s : State) (f : Nat) : Bool :=
  match s.launchOf f with
  | some l => l.facets.all fun g => g = f || (s.sqr g).standing
  | none => false

/-- STAND_DOWN_REQUEST (R150); for the last active facet of its pool's launch a gate request is withdrawn (R413). -/
def standDown (f : Nat) (who : StandDownBy) (s : State) : State :=
  let x := s.fac f
  let asked := match who with
    | .shutter => decide (x.gated = 1)
    | .focus => decide (x.pool = 3) || decide (x.pool = 4)
  if !asked then s
  else if s.lastActive f then s.modFac f fun x => if x.gated = 1 then { x with gated := 0 } else x
  else
    let s := s.modSq f fun q => { q with standing := true, claiming := false, waiting := false }
    settleDown f (s.unwait f)

/-- STAND_DOWN_REQUEST (R150). -/
def execStandDownRequest (f : Nat) (who : StandDownBy) (s : State) : Out := .next (s.alive fun s => if f < 72 then standDown f who s else s)

/-- The program of a launch begins in facet `f` at index 0 (R133, R151). -/
def enter (l : Launch) (pool f : Nat) (s : State) : State :=
  s.modSq f fun q => { q with running := true, waiting := false, standing := false, launch := l.id, ctx := l.ctx, pool := pool, prog := l.prog, index := 0, xs := l.xs, own := 0, cur := none, claiming := false, named := [], exhausted := false, ordinal := 0 }

/-- Whether a facet can take up a program: idle, quiescent, neither frozen nor gated nor fenced. -/
def State.idleFacet (s : State) (f : Nat) : Bool :=
  let x := s.fac f
  !x.sq.running && x.sq.run.isNone && x.sq.ahead.isNone && x.sq.fin = [] && x.sq.ret = [] && decide (x.gated = 0) && !x.fenced && !s.frozen f

/-- FACET_JOIN_POOL (R151, R263): a facet that moves joins its new pool once it is idle and quiescent; a member that runs
no program takes up its pool's launch. -/
def facetJoin (f : Nat) (s : State) : State :=
  let x := s.fac f
  if !s.idleFacet f then s
  else
    let moving := decide (x.pool = 3) || decide (x.pool = 4)
    let p := if x.pool = 3 then 0 else if x.pool = 4 then 1 else x.pool
    if 2 ≤ p || (moving && !x.quiescent) then s
    else
      let s := s.modFac f fun x => { x with pool := p, sq := { x.sq with standing := false } }
      let s := if moving && (List.range 72).all fun g => (s.fac g).pool ≠ 3 && (s.fac g).pool ≠ 4 then s.bump C.SEQ_FOCUS_MOVES else s
      match nth s.srv.pools p ⟨[], none⟩ with
      | ⟨_, some l⟩ =>
        if l.facets.contains f || (decide (l.facets = []) && !l.bare) then s
        else enter l p f (s.modLaunch p fun l => { l with facets := l.facets ++ [f], bare := false })
      | _ => s

/-- FACET_JOIN_POOL (R151). -/
def execFacetJoinPool (f : Nat) (s : State) : Out := .next (s.alive fun s => if f < 72 then facetJoin f s else s)

/-- LAUNCH_START (R251): the pool's next launch starts on its idle members, its counters set to FREE (R151). -/
def launchStart (p : Nat) (s : State) : State :=
  match nth s.srv.pools p ⟨[], none⟩ with
  | ⟨l :: rest, none⟩ =>
    let fs := (s.members p).filter s.idleFacet
    if fs = [] then s
    else
      let l := { l with facets := fs, began := s.us }
      let s := { s with srv := { s.srv with pools := s.srv.pools.set p ⟨rest, some l⟩ } }
      let s := (List.range 32).foldl (fun s c => s.setTc (ctrOf p c) { (s.tc (ctrOf p c)).freed with waiters := [] }) s
      fs.foldl (fun s f => enter l p f s) s
  | _ => s

/-- LAUNCH_START (R251). -/
def execLaunchStart (p : Nat) (s : State) : Out := .next (s.alive fun s => if p < 2 then launchStart p s else s)

end Sys2Proof.Machine
end

