-- ==== Sys2Proof/Machine/TileEnd.lean ====
section
/-!
DEFINITION. The end of a tile (R147): GATE_CAND's candidates (R165 to R168), the results and their checks, the draw of
R64; and the Reticle's samples, layer states and commands (R65 to R71, R76).
-/
namespace Sys2Proof.Machine

/-! ### The routing policy (R183) -/

/-- A context's policy: drop mode, renormalisation, spill depth, capacity factor, absolute capacity. -/
structure Policy where
  mode : Nat
  renorm : Bool
  depth : Nat
  factor : Nat
  abs : Nat

/-- The policy in force for context `c`. -/
def State.policy (s : State) (c : Nat) : Policy :=
  if s.flag F.PRS_POLICY_n_override (4 * c) then
    ⟨s.fld F.PRS_POLICY_n_drop_mode (4 * c), s.flag F.PRS_POLICY_n_renorm (4 * c), s.fld F.PRS_POLICY_n_spill_depth (4 * c),
      s.fld F.PRS_POLICY_n_cap_factor (4 * c), s.fld F.PRS_POLICY_n_cap_abs (4 * c)⟩
  else ⟨s.fld F.PRS_CTRL_drop_mode, s.flag F.PRS_CTRL_renorm, s.fld F.PRS_CTRL_spill_depth, s.fld F.PRS_CTRL_cap_factor,
    s.fld F.PRS_POLICY_n_cap_abs (4 * c)⟩

/-- d of R167. -/
def Policy.d (p : Policy) (k : Nat) : Nat := min p.depth (16 - k)

/-! ### Routing records (R161, R163) -/

/-- A layer routing record. -/
structure RouteRec where
  addr : Nat
  n : Nat
  k : Nat
  sigmoid : Bool
  disp : Nat
  ret : Nat
  rows : Nat
  nblk : Nat
  maxTok : Nat
  bias : Nat
  map : Nat
  stage : Nat
  combine : Nat
  locals : Nat
  dispArea : Nat
  retArea : Nat
  prob : Nat
  load : Nat

/-- The record at an address. -/
def State.route (s : State) (a : Nat) : RouteRec :=
  let b := padTo 128 (s.vread a 128).bytes
  ⟨a, leAt b 0 2 + 1, leAt b 2 1, tbit (leAt b 3 1) 0, leAt b 4 1, leAt b 5 1, leAt b 6 2, leAt b 8 2, leAt b 10 2, leAt b 16 8, leAt b 24 8,
    leAt b 32 8, leAt b 40 8, leAt b 48 8, leAt b 56 8, leAt b 64 8, leAt b 72 8, leAt b 80 8⟩

/-- Row data and metadata bytes of an area (R163). -/
def rowData (fmt nblk : Nat) : Nat := nblk * 16 * outWidth fmt
def rowMeta (nblk : Nat) : Nat := 16 + 16 * ceilDiv nblk 16

/-- The places of row `r`'s data and metadata in an area of `rows` rows. -/
def areaRow (base fmt nblk rows r : Nat) : Nat × Nat :=
  (base + r * rowData fmt nblk, base + rows * rowData fmt nblk + r * rowMeta nblk)

/-- A row's metadata. -/
def metaBytes (nblk base c home token slot state expert g : Nat) (es : List Nat) : List Byte :=
  padTo (rowMeta nblk) (toBytes 1 base ++ toBytes 1 c ++ toBytes 2 home ++ toBytes 4 token ++ toBytes 1 slot ++ toBytes 1 state ++
    toBytes 2 expert ++ toBytes 4 g ++ es.map (BitVec.ofNat 8))

/-! ### GATE_CAND tiles (R165 to R168) -/

/-- A pair ranks before another: a higher key first, equal keys by the lower index. -/
def rankBefore (a b : Nat × Nat) : Bool := decide (b.1 < a.1) || (decide (a.1 = b.1) && decide (a.2 < b.2))

/-- Inserts a pair into a ranked list. -/
def rankInsert (p : Nat × Nat) : List (Nat × Nat) → List (Nat × Nat)
  | [] => [p]
  | q :: l => if rankBefore p q then p :: q :: l else q :: rankInsert p l

/-- Pairs in rank order. -/
def ranked (l : List (Nat × Nat)) : List (Nat × Nat) := l.foldl (fun a p => rankInsert p a) []

/-- Step 4 of R165: a BF16 result saturated, −0 made +0; the second answer says that it saturated. -/
def bfLogit (v : Dy) : Nat × Bool :=
  let r := ffBF16.put 0 true v
  (if r.1 = 0x8000 then 0 else r.1, r.2)

/-- The ranking key of an expert from its accumulator value and bias (R165), with the saturations. -/
def keyOf (acc : Dy) (bias : Nat) : Nat × Nat :=
  let l := ffFP32.put 0 true acc
  let lv := ffFP32.val l.1
  let b := bfLogit (lv.add (ffFP32.val bias))
  let m := bfLogit lv
  (rankKey b.1 m.1, bit l.2 + bit b.2 + bit m.2)

/-- A bias entry as used, and whether it is invalid. -/
def biasUse (b : Nat) : Nat × Bool := if isNaN b || isInf b then (0, true) else (b, false)

/-- What a GATE_CAND tile gives beside its pieces. -/
structure GateOut where
  out : TileOut
  cands : List CandPacket

/-- The expert-stream carry of a token's slot: where it is read from and written to, none where it is not used. -/
def State.streamCarry (s : State) (l : Launch) (t layer : Nat) : Option (Nat × Nat × Nat) :=
  if l.prefill then none
  else
    let slot := s.mem.le 1 (areaTok l t) 4 % nSlots
    let pos := s.mem.le 1 (areaTok l t + 4) 4
    let c := s.sctx slot
    let len := s.sget slot D.length
    let n := s.carryLen c
    let part := fun j => s.ckpt c j + s.ckptS c + layer * n
    some (slot, if pos ≤ len then (s.carryArea c).1 + layer * n else part (pos - len - 1), part (pos - len))

/-- One token row staged for dispatch: requantised with its carry (R168). -/
def stageRow (i : Issued) (l : Launch) (r : RouteRec) (layer t : Nat) (a : ActRow) (s : State) : List Piece × State :=
  let vs := (a.blocks.map fun b => b.q.map fun q => (⟨if b.ex = 0 then 0 else q, (b.ex : Int) - 127⟩ : Dy)).flatten
  let w := outWidth r.disp
  let sc := if i.i.carry then s.streamCarry l t layer else none
  let zero := List.replicate vs.length 0
  let cin := match sc with
    | some (slot, from_, _) => bf16s vs.length (s.winRead slot from_ (2 * vs.length))
    | none => zero
  let k := carryRow w false vs cin
  let s := s.bump C.RTC_OUT_SAT k.2.2.2.2.2
  let s := match sc with
    | some (slot, _, dst) => (s.winWrite slot dst (bf16Bytes k.2.2.2.1)).bump C.RTC_CARRY_CLAMP k.2.2.2.2.1
    | none => s
  let place := areaRow r.stage r.disp r.nblk r.maxTok t
  let data := (k.2.2.1.map fun q => toBytes (16 * w) (packBits w q)).flatten
  ([(place.1, data, a.bad || a.poison), (place.2, metaBytes r.nblk k.1 (max 1 (k.1 - 20)) s.self t 0 0 0 0 k.2.1, a.bad || a.poison)], s)

/-- A GATE_CAND tile. (DEDUCED: log entry 43) -/
def gateTile (f : Nat) (l : Launch) (i : Issued) (tile : Nat) (s : State) : GateOut :=
  let r := s.route i.i.c
  let layer := (s.recordLayer l i.i.c).getD 0
  let nblk := ceilDiv i.k 128
  let t := s.liveTensor i.i.b i.wide
  let cols := (List.range i.n).map fun c => s.column t nblk i.n c
  let r0 := tile * i.tm
  let rows := (List.range (min i.tm (i.m - r0))).map fun x => (r0 + x, s.actRowAt i.i.actFmt i.i.a (r0 + x) i.k)
  let biases := (List.range i.n).map fun e => biasUse (if r.bias = 0 then 0 else s.vle (r.bias + 4 * e) 4)
  let len := r.k + (s.policy l.ctx).d r.k
  let keyed := rows.map fun x => (x.1, ((cols.zip biases).zipIdx).map fun (cb, e) => ((keyOf (accValue t cb.1 x.2).1 cb.2.1), e))
  let sats := (keyed.map fun x => (x.2.map fun p => p.1.2).foldl (· + ·) 0).foldl (· + ·) 0
  let cands := keyed.map fun x =>
    let top := (ranked (x.2.map fun p => (p.1.1, p.2))).take len
    (⟨f / 36, l.ctx, nth l.xs 3 0, layer, f, x.1, 0, 1, top⟩ : CandPacket)
  let m := matrixMeet f i.i.b (firstBad cols (rows.map (·.2))) (rows.any (·.2.poison) || cols.any fun c => c.any (·.2.2.2))
    ((rows.map (·.2.nonfin)).foldl (· + ·) 0) s
  let st := m.2.bump C.RTC_OUT_SAT sats
  let staged := rows.foldl (fun (acc : List Piece × State) x =>
    let p := stageRow i l r layer x.1 x.2 acc.2
    (acc.1 ++ p.1, p.2)) ([], st)
  let s := staged.2
  let n := ctrOf (s.sqr f).pool i.i.counter
  match biases.findIdx? (·.2) with
  | some e =>
    let s := if (s.tc n).biased then s else (s.setTc n { s.tc n with biased := true }).raise E.biasInvalid f l.ctx (d0 := e)
    ⟨⟨worse m.1 St.degraded, staged.1, s⟩, cands⟩
  | none => ⟨⟨m.1, staged.1, s⟩, cands⟩

/-! ### The combining instruction (R187, R188) -/

/-- The expert layer whose combine area instruction `k` of a program reads: it is the first GATED_FFN without grouping
after that layer's GATE_CAND. (DEDUCED: log entry 43) -/
def State.combineLayer (s : State) (l : Launch) (prog : Nat) : Nat → Option Nat
  | 0 => none
  | k + 1 =>
    let op := s.vle (prog + 64 * k) 1
    if op = 4 then s.recordLayer l (s.vle (prog + 64 * k + 56) 8)
    else if op = 2 ∧ s.vle (prog + 64 * k + 1) 1 % 2 = 0 then none
    else s.combineLayer l prog k

/-- The state bytes of a token's combine rows. -/
def State.combineStates (s : State) (r : RouteRec) (t : Nat) : List Nat :=
  (List.range r.k).map fun x => s.vle ((areaRow r.combine r.ret r.nblk (r.maxTok * r.k) (t * r.k + x)).2 + 9) 1

/-- Whether the data of a token's combine rows is poisoned (R187). -/
def State.combinePoison (s : State) (r : RouteRec) (t : Nat) : Bool :=
  (List.range r.k).any fun x => (s.vread (areaRow r.combine r.ret r.nblk (r.maxTok * r.k) (t * r.k + x)).1 (rowData r.ret r.nblk)).bad

/-- What a combining tile finds in its rows: whether a read is held (R188), and whether a row timed out (R189). -/
def State.combineMeet (s : State) (l : Launch) (q : Sqr) (i : Issued) (tile : Nat) : Bool × Bool :=
  if i.i.op ≠ 2 ∨ i.i.grouped ∨ l.train.isSome then (false, false)
  else match s.combineLayer l q.prog (kgetD q.named i.i.counter q.index) with
    | none => (false, false)
    | some j =>
      let r := s.route (s.launchTable l + 128 * j)
      let toks := (List.range (min i.tm (i.m - tile * i.tm))).map (tile * i.tm + ·)
      match s.prs.home.find? fun h => h.ctx = l.ctx && h.step = nth l.xs 3 0 && h.layer = j with
      | none => (true, false)
      | some h =>
        let sts := toks.map fun t => (s.combineStates r t, (kget h.toks t).isSome)
        (sts.any fun x => !x.2 || x.1.any (· % 4 ≠ 3), sts.any fun x => x.1.any (bits · 3 2 = 3))

/-! ### Multiply-accumulates (R152) -/

/-- Multiply-accumulates on valid and on padded operands of a tile. (DESIGN CHOICE: log entry 46) -/
def State.macs (s : State) (i : Issued) (tile : Nat) : Nat × Nat :=
  let ax := fun a => s.tileAxis i tile a
  if i.i.op = 3 then
    let p := (s.attTok i.i.a tile).pos + 1
    (i.n * p * (576 + 480), i.n * p * 64)
  else if i.i.op = 5 then (0, 0)
  else
    let rows := if i.i.grouped then
        let r := s.entryRows i tile
        (r, ceilDiv r i.tm * i.tm)
      else ((ax 0).2, (ax 0).1)
    let k := if i.i.op = 2 then 3 else 1
    (k * rows.1 * (ax 1).2 * (ax 2).2, k * (rows.2 * (ax 1).1 * (ax 2).1 - rows.1 * (ax 1).2 * (ax 2).2))

/-! ### Samples (R64 to R66) -/

/-- The layer and generation slot of a tile's tensors (R68), none for a tile the Reticle does not sample. -/
def State.tileLayer (s : State) (i : Issued) (tile : Nat) : Option Nat :=
  if i.i.op = 2 ∧ i.i.grouped then some (s.tensor (s.vle (s.vle (i.i.b + 32 * tile) 8) 8)).layer else i.layer

/-- The draw of a completed tile: the register moves; the tile is sampled where its low bits are zero. (DEDUCED: log entry 23) -/
def drawSample (die : Nat) (s : State) : Bool × State :=
  let v := Config.lfsrNext (nth s.rtc.lfsr die 1) % 2 ^ 32
  (s.flag F.RTC_CTRL_enable && decide (v % 2 ^ s.fld F.RTC_CTRL_sample_log2 = 0), { s with rtc := { s.rtc with lfsr := s.rtc.lfsr.set die v } })

/-- A piece as it will be written: space and offset here, or a global address beyond. -/
def State.pieceRec (f c : Nat) (s : State) (p : Piece) : List WrRec :=
  (pieces p.1 p.2.1.length).filterMap fun x =>
    match s.walk x.1 true with
    | .fail _ _ => none
    | .ok sp off pkg _ _ _ _ => some ⟨f, c, pkg, sp, off, slice p.2.1 (x.1 - p.1) x.2, p.2.2⟩

/-- Writes held outputs; a STORE of facet `f` carries the tag `f + 1` (R357). -/
def applyRec (s : State) (w : WrRec) : State :=
  if w.pkg = s.self then s.twrite w.sp w.off w.bytes w.poison
  else s.sendStore w.pkg (w.pkg * 2 ^ 56 + w.sp * 2 ^ 52 + w.off) w.bytes (w.facet + 1) (s.jobOf w.ctx) w.poison

/-- Candidate packets leave for the home Prism. -/
def sendCands (l : List CandPacket) (s : State) : State := l.foldl (fun s p => s.emit (.cand p)) s

/-- A tile's results: its status, pieces and candidates. -/
def runTile (f : Nat) (l : Launch) (i : Issued) (tile : Nat) (timedOut : Bool) (s : State) : GateOut :=
  if (s.tileAdapters i tile).any (s.adapterBad i (s.layersOf l.ctx)) then ⟨⟨St.format, [], s⟩, []⟩
  else
  let n := s.adaptedRows i tile
  let s := if n = 0 then s else s.bump C.SHD_ADAPTED_ROWS n
  match i.i.op with
  | 1 => ⟨matmulTile f i tile (s.rowDeltas i) s, []⟩
  | 2 =>
    let q := s.sqr f
    let own := (List.range (s.fld F.SEQ_CTX_SHAPE_exp_layers (0x40 * l.ctx))).find? fun j =>
      i.i.b = s.vle (s.launchTable l + 128 * j + 72) 8 + 64
    let home := if i.i.grouped ∨ l.train.isSome then none else s.combineLayer l q.prog (kgetD q.named i.i.counter q.index)
    let rows := (s.route (s.launchTable l + 128 * own.getD 0)).rows
    let o := ffnTile f i tile rows (fun t => match home with
      | some j => s.combinePoison (s.route (s.launchTable l + 128 * j)) t
      | none => false) s
    let o := if (if i.i.grouped then own.isSome else home.isSome) then combineClamps f l.ctx ((s.tileLayer i tile).getD 0) tile o else o
    ⟨{ o with status := if timedOut then worse o.status St.degraded else o.status }, []⟩
  | 3 => ⟨attentionTile f l i tile s, []⟩
  | 4 => gateTile f l i tile s
  | _ => ⟨copyTileOut i tile s, []⟩

/-- The epoch ticket of a tile goes back. -/
def giveBack (tk : Option Nat) (s : State) : State :=
  match tk with
  | some e => s.giveTicket e
  | none => s

/-- After a tile has ended: the next one starts, or the instruction completes (R140). -/
def nextTile (f : Nat) (s : State) : State :=
  completeInstr f (tryStart f (s.modSq f fun q => { q with ordinal := q.ordinal + 1 }))

/-- Event stamps within the last second, with one more. (DEDUCED: log entry 44) -/
def State.stamps (s : State) (l : List Nat) : List Nat := (l.filter fun t => s.us < t + 1000000) ++ [s.us]

/-- A CE event of a facet that counts toward its fence (R396). -/
def noteCe (f : Nat) (s : State) : State := { s with fences := { s.fences with ce := kset s.fences.ce f (s.stamps (kgetD s.fences.ce f [])) } }

/-- A UE event of a facet that counts toward its fence (R396). -/
def noteUe (f : Nat) (s : State) : State := { s with fences := { s.fences with ue := kset s.fences.ue f (s.stamps (kgetD s.fences.ue f [])) } }

/-- A tile that failed twice goes back to its counter (R63); its facet is to be fenced (R396). -/
def failTile (f cu : Nat) (t : Tile) (s : State) : State :=
  let s := (s.modSq f fun q => { q with ret := q.ret ++ [t] }).raise E.residueFailed f (d0 := cu)
  { s with fences := { s.fences with mis := insertNat s.fences.mis f } }

/-- A finished tile's outputs, or its place in the Reticle's queue (R64 to R66). -/
def settleTile (f : Nat) (l : Launch) (i : Issued) (t : Tile) (st : Nat) (outs : List Piece) (cands : List CandPacket) (s : State) : State :=
  let die := f / 36
  let d := drawSample die s
  let s := d.2
  let put := fun (s : State) => sendCands cands ((outs.map (s.pieceRec f l.ctx)).flatten.foldl applyRec s)
  let finish := fun (s : State) => s.modSq f fun q => { q with fin := q.fin ++ [(t, st)] }
  let ly := if i.i.op = 1 ∨ i.i.op = 2 ∨ i.i.op = 4 then s.tileLayer i t.tile else none
  match ly with
  | none => put (finish s)
  | some y =>
    if !d.1 || decide (0x10 ≤ st ∧ st < 0x20) then put (finish s)
    else if 16 ≤ (nth s.rtc.queue die []).length then put (finish (s.bump C.RTC_SKIPPED))
    else
      let k := layerKey l.ctx l.gslot y
      let r := s.rlayer k
      let exact := !r.reserve || r.samples % 2 = 0 || r.state = 3
      let s := s.setRlayer k { r with samples := r.samples + 1 }
      let q := fun (s : State) (x : Sample) => { s with rtc := { s.rtc with queue := s.rtc.queue.set die (nth s.rtc.queue die [] ++ [x]) } }
      if exact then q s ⟨l.ctx, l.gslot, y, f, t, st, true, (outs.map (s.pieceRec f l.ctx)).flatten, cands⟩
      else put (finish (q s ⟨l.ctx, l.gslot, y, f, t, st, false, [], []⟩))

/-- The results of a tile that passed its residue checks. -/
def endTile (f : Nat) (l : Launch) (i : Issued) (t : Tile) (sramUe timedOut : Bool) (s : State) : State :=
  let g := runTile f l i t.tile timedOut s
  let o := g.out
  let s := o.st
  let outs := if sramUe then o.outs.map fun p => (p.1, p.2.1, true) else o.outs
  let st := if sramUe then worse o.status St.uncorrected else o.status
  let s := if sramUe then noteUe f ((s.bump (C.FCT_SRAM_UE + fdi f)).raise E.sramUncorrected f) else s
  let wf := if i.i.op = 3 ∧ 0x10 ≤ st ∧ st < 0x20 then none else outs.findSome? fun p => s.writeFault p.1 p.2.1.length
  let s := match wf with
    | some x => s.mmuFault x.1 x.2.1 x.2.2 f l.ctx
    | none => s
  let st := if wf.isSome then worse st St.range else st
  let outs := if wf.isSome then [] else outs
  let mc := s.macs i t.tile
  let s := ((s.bump (C.FCT_TILES + fdi f)).bump (C.FCT_MAC_USEFUL + fdi f) mc.1).bump (C.FCT_MAC_PADDED + fdi f) mc.2
  let s := settleTile f l i t st outs g.cands s
  if i.i.op = 3 then attentionDone (s.sqr f).pool l i t.tile st s else s

/-- What a tile reads beside the pages it finds through its token entry: its tensors' stream and its activation rows, a
COPY's source, or an ATTENTION's record and entry. -/
def State.tileReads (s : State) (i : Issued) (tile : Nat) : List (Nat × Nat) :=
  match i.i.op with
  | 3 => [(i.i.b, 64), (i.i.a + 40 * tile, 40)]
  | 5 => [(i.i.a + 65536 * tile, min 65536 (i.m - 65536 * tile))]
  | _ =>
    let p := rowPitch i.i.actFmt (ceilDiv i.k 128)
    s.tileStream i tile ++
      (if i.i.grouped then [(s.vle (i.i.b + 32 * tile + 8) 8, s.entryRows i tile * (ceilDiv i.k 128 * 16 * outWidth i.i.actFmt))]
       else [(i.i.a + tile / i.nTiles * i.tm * p, min i.tm (i.m - tile / i.nTiles * i.tm) * p)])

/-- TILE_FINISH (R147): the running tile ends; a tile whose reads are held stays, but for a launch that was pre-empted or
torn down, where it ends with the launch's status and writes nothing. -/
def tileFinish (f : Nat) (meet : TileMeet) (s : State) : State :=
  let q := s.sqr f
  match q.run, q.cur, s.launchOf f with
  | some (t, tk), some i, some l =>
    let cm := s.combineMeet l q i t.tile
    let rs := s.tileReads i t.tile
    let held := (decide (i.i.op = 3) && s.attHeld l i t.tile) || rs.any s.vheld || cm.1
    if decide (0x20 ≤ l.status) && decide (l.status < 0x30) && q.standing && held && !s.frozen f then
      settleDown f (giveBack tk (s.modSq f fun q => { q with run := none, fin := q.fin ++ [(t, l.status)] }))
    else if s.frozen f || (decide (i.i.op = 3) && s.attHeld l i t.tile) then s
    else if rs.any s.vheld then s.countHeld rs
    else if cm.1 then s.bump C.PRS_HELD_READS
    else
      let s := giveBack tk ((s.modSq f fun q => { q with run := none }).bump C.RTC_RESIDUE (min 2 meet.residue))
      if 2 ≤ meet.residue then nextTile f (failTile f meet.cu t s)
      else
        let s := match meet.sramCe with
          | some u => noteCe f ((s.bump (C.FCT_SRAM_CE + fdi f)).raise E.sramCorrected f (d0 := u))
          | none => s
        let s := if meet.residue = 1 then noteCe f (s.raise E.residueCorrected f (d0 := meet.cu)) else s
        nextTile f (endTile f l i t meet.sramUe cm.2 s)
  | _, _, _ => s

/-- TILE_FINISH (R147). -/
def execTileFinish (f : Nat) (meet : TileMeet) (s : State) : Out := .next (s.alive fun s => if f < 72 then tileFinish f meet s else s)

/-! ### Layer states (R69, R70) -/

/-- Failures among the last `n` samples of a history. -/
def failures (hist n : Nat) : Nat := ((List.range n).filter (tbit hist)).length

/-- A layer in SUSPECT is judged (R69, R70). (DEDUCED: log entry 45) -/
def judgeLayer (c y k : Nat) (s : State) : State :=
  let r := s.rlayer k
  if r.state ≠ 1 then s
  else if s.fld F.RTC_PERSIST_fail_m ≤ failures r.hist (s.fld F.RTC_PERSIST_window_n) then
    if r.reserve && s.flag F.RTC_CTRL_auto_fallback && decide (s.rtc.window < s.fld F.RTC_CTRL_fallback_max) then
      let s := s.setRlayer k { r with state := 2 }
      { s with rtc := { s.rtc with window := s.rtc.window + 1 } }
    else degrade c y k s
  else if s.fld F.RTC_PERSIST_clear_run ≤ r.seen then s.setRlayer k { r with state := 0 }
  else s

/-- A sample result enters a layer's history; `seen` counts the passes since the last failure. -/
def feedLayer (c g y : Nat) (failed : Bool) (s : State) : State :=
  let k := layerKey c g y
  let r := s.rlayer k
  let r := { r with hist := (r.hist * 2 + bit failed) % 256, seen := if failed then 0 else min 15 (r.seen + 1) }
  let r := if r.state = 0 && failed then { r with state := 1 } else r
  judgeLayer c y k (s.setRlayer k r)

/-- Whether a fidelity sample fails (R67). -/
def State.fidelityFails (s : State) (c y : Nat) (r : SampleResult) : Bool :=
  let o := s.fld F.RTC_LAYER_tol_override (4 * (256 * c + y))
  let t := if o = 0 then s.fld F.RTC_TOL_tolerance else o
  if r.refSum = 0 then decide (r.diffSum ≠ 0) else decide (t * r.refSum < 2 ^ 16 * r.diffSum)

/-- A held tile's outputs are released and the tile is reported finished. -/
def releaseSample (x : Sample) (s : State) : State :=
  let s := sendCands x.cands (x.held.foldl applyRec s)
  s.modSq x.facet fun q => { q with fin := q.fin ++ [(x.tile, x.status)] }

/-- RETICLE_SAMPLE_DONE (R65 to R67). -/
def sampleDone (die : Nat) (r : SampleResult) (s : State) : State :=
  match nth s.rtc.queue die [] with
  | [] => s
  | x :: rest =>
    let s := ({ s with rtc := { s.rtc with queue := s.rtc.queue.set die rest } } : State).bump C.RTC_SAMPLES
    let has := (s.rlayer (layerKey x.ctx x.gslot x.layer)).reserve
    if x.exact then
      let s := if r.equal then releaseSample x s
        else
          let s := s.bump C.RTC_EXACT_MISMATCH
          if r.residueOk then noteCe x.facet ((releaseSample x s).raise E.reticleCorrected x.facet x.ctx (d0 := x.layer))
          else failTile x.facet 0 x.tile (s.bump C.RTC_RESIDUE)
      if has then s else feedLayer x.ctx x.gslot x.layer (!r.equal) s
    else
      let bad := s.fidelityFails x.ctx x.layer r
      let s := if bad then s.bump C.RTC_FIDELITY_FAIL else s
      if has then feedLayer x.ctx x.gslot x.layer bad s else s

/-- RETICLE_SAMPLE_DONE (R65). -/
def execReticleSampleDone (die : Nat) (r : SampleResult) (s : State) : Out := .next (s.alive fun s => sampleDone (die % 2) r s)

/-- FALLBACK_WINDOW_AGE (R70). -/
def execFallbackWindowAge (s : State) : Out := .next (s.on fun s => { s with rtc := { s.rtc with window := s.rtc.window - 1 } })

/-- The generation slot whose layer states a command reaches: the current generation's. (DEDUCED: log entry 60) -/
def State.curSlot (s : State) (c : Nat) : Nat :=
  match s.curGen c with
  | some g => (s.genSlot c g).getD 0
  | none => 0

/-- A write of RTC_CMD (R76): `ok` is the state the command acts from, `k` what it does. (DEDUCED: log entry 45) -/
def rtcCmd (org : Originator) (c y : Nat) (ok : RLayer → Bool) (k : RLayer → RLayer) (s : State) : State :=
  s.gated org 0x3400014 fun s =>
    let a := s.expertArg org 0x3400014 (c % 16)
    let b := a.2.expertArg org 0x3400014 (y % 256)
    let s := b.2
    let key := layerKey a.1 (s.curSlot a.1) b.1
    let st := firstOf [(decide (s.layersOf a.1 ≤ b.1), St.range), (!s.resident a.1 || !ok (s.rlayer key), St.state)]
    match st with
    | some st => s.setFld F.RTC_CMD_STATUS_status st
    | none => (s.setRlayer key (k (s.rlayer key))).setFld F.RTC_CMD_STATUS_status St.done

/-- FORCE_FALLBACK (R76): a DEGRADED layer with a reserve becomes PENDING. -/
def execForceFallback (org : Originator) (c y : Nat) (s : State) : Out :=
  .next (s.on fun s => rtcCmd org c y (fun r => decide (r.state = 4) && r.reserve) (fun r => { r with state := 2 }) s)

/-- RESTORE (R76): a layer in FALLBACK returns to NORMAL from the next step built. -/
def execRestoreLayer (org : Originator) (c y : Nat) (s : State) : Out :=
  .next (s.on fun s => rtcCmd org c y (fun r => decide (r.state = 3)) (fun r => { r with restoring := true }) s)

/-- CLEAR (R76): a DEGRADED layer returns to NORMAL. -/
def execClearLayer (org : Originator) (c y : Nat) (s : State) : Out :=
  .next (s.on fun s => rtcCmd org c y (fun r => decide (r.state = 4)) (fun r => { r with state := 0 }) s)

end Sys2Proof.Machine
end

