-- ==== Sys2Proof/Machine/Prism.lean ====
section
/-!
DEFINITION. Prism: merge and gate weights (R169, R170), dispatch (R171, R172), admission and the Beamsplitter (R173 to
R179), spill and END (R180 to R184), returns and weights (R185, R186), and the timeouts (R189).
-/
namespace Sys2Proof.Machine

/-! ### Home layers and owned layers -/

/-- The home layer of (context, step, layer). -/
def State.homeLayer (s : State) (c st y : Nat) : Option HomeLayer := s.prs.home.find? fun h => h.ctx = c && h.step = st && h.layer = y

/-- Changes a home layer. -/
def State.modHome (s : State) (c st y : Nat) (g : HomeLayer → HomeLayer) : State :=
  { s with prs := { s.prs with home := s.prs.home.map fun h => if h.ctx = c ∧ h.step = st ∧ h.layer = y then g h else h } }

/-- The owned layer of (context, step, layer). -/
def State.ownLayer (s : State) (c st y : Nat) : Option OwnLayer := s.prs.own.find? fun o => o.ctx = c && o.step = st && o.layer = y

/-- Changes an owned layer. -/
def State.modOwn (s : State) (c st y : Nat) (g : OwnLayer → OwnLayer) : State :=
  { s with prs := { s.prs with own := s.prs.own.map fun o => if o.ctx = c ∧ o.step = st ∧ o.layer = y then g o else o } }

/-- The built step a record of this home belongs to: a series of the context whose number it is. -/
def State.builtStep (s : State) (c st : Nat) : Option Step :=
  ([0, 1].filterMap fun k => (kget s.srv.series (2 * c + k)).bind (·.built)).find? fun x => x.num = st

/-- The record address of expert layer `y` in a live generation. -/
def State.recAddr (s : State) (c num y : Nat) : Option Nat :=
  match (s.genSlot c num).bind (s.gen c) with
  | some g => if y < s.fld F.SEQ_CTX_SHAPE_exp_layers (0x40 * c) then some (g.table + 128 * y) else none
  | none => none

/-! ### Gate weights (R170) -/

/-- The FP32 value of λ in a key. -/
def keyLam (key : Nat) : Nat := bfToF (ord16Inv key)

/-- EXP2((x − m) × LOG2E). -/
def expTerm (x m : Nat) : Nat := fexp2 (fmul (fsub x m) log2e)

/-- The gate weights of choices and spares from their λ. -/
def gateWeights (sigmoid : Bool) (choices spares : List Nat) : List Nat × List Nat :=
  if sigmoid then
    let g := fun x => fdiv 0x3F800000 (fadd 0x3F800000 (fexp2 (fmul (fneg x) log2e)))
    (choices.map g, spares.map g)
  else
    let m := rowMax choices
    let xs := choices.map fun x => expTerm x m
    let z := pairSum xs
    (xs.map fun x => fdiv x z, spares.map fun x => fdiv (expTerm x m) z)

/-! ### Outcomes and weights (R180, R186) -/

/-- Outcomes of a slot: 0 admitted, 1 dropped, 2 refused, 3 timed out. -/
def HomeTok.final (t : HomeTok) : Bool := t.slots.all (·.out.isSome)

/-- Writes a combine row's zeros, exponents C and outcome, with data and weight present. -/
def fillRow (r : RouteRec) (c t slot expert out home g : Nat) (s : State) : State :=
  let p := areaRow r.combine r.ret r.nblk (r.maxTok * r.k) (t * r.k + slot)
  let s := s.vwrite p.1 (List.replicate (rowData r.ret r.nblk) 0)
  s.vwrite p.2 (metaBytes r.nblk c c home t slot (3 + 4 * out) expert g (List.replicate r.nblk c))

/-- Sets the weight of an admitted row, keeping whether its data is there. -/
def weighRow (r : RouteRec) (t slot g : Nat) (s : State) : State :=
  let p := (areaRow r.combine r.ret r.nblk (r.maxTok * r.k) (t * r.k + slot)).2
  (s.vwrite (p + 9) (toBytes 1 (setBits (s.vle (p + 9) 1) 1 1 1))).vwrite (p + 12) (toBytes 4 g)

/-- The combine anchor C of a token, from its staging row (R168). -/
def State.anchorOf (s : State) (r : RouteRec) (t : Nat) : Nat := s.vle ((areaRow r.stage r.disp r.nblk r.maxTok t).2 + 1) 1

/-- A token's weights settled (R186). -/
def settleToken (h : HomeLayer) (t : Nat) (s : State) : State :=
  match kget h.toks t with
  | none => s
  | some k =>
    if k.settled || !k.merged || !k.final then s
    else
      let r := s.route h.recAddr
      let gs := k.slots.map fun x => if x.out = some 0 then x.g else 0
      let sum := pairSum gs
      let gs := if (s.policy h.ctx).renorm && !fle sum 0 then gs.map fun g => fdiv g sum else gs
      let s := if k.slots.all (·.out ≠ some 0) then s.bump C.PRS_ALL_DROPPED else s
      let c := s.anchorOf r t
      let s := (k.slots.zip gs).zipIdx.foldl (fun s x =>
        if x.1.1.out = some 0 then weighRow r t x.2 (gateInt x.1.2) s
        else fillRow r c t x.2 x.1.1.expert (x.1.1.out.getD 1) s.self 0 s) s
      s.modHome h.ctx h.step h.layer fun h => { h with toks := kset h.toks t { k with settled := true } }

/-- Records outcomes of a token's slots. -/
def HomeTok.record (k : HomeTok) (l : List (Nat × Nat)) : HomeTok :=
  { k with slots := k.slots.zipIdx.map fun (x, i) => match l.find? fun p => p.1 = i with
    | some p => { x with out := some p.2 }
    | none => x }

/-! ### Owners (R162, R171) -/

/-- The owner and local index of an expert under the map, none where the entry makes the choice refused. -/
def State.ownerOf (s : State) (r : RouteRec) (e : Nat) : Option (Nat × Nat) :=
  let x := s.vle (r.map + 8 * e) 8
  let mirror := bits x 15 8
  let sel := bits x 33 32
  let useMirror := decide (sel = 2) || (decide (sel = 1) && decide (72 ≤ s.self))
  if sel = 3 ∨ bits x 31 29 ≠ 0 ∨ bits x 63 34 ≠ 0 ∨ (useMirror ∧ mirror = 255) then none
  else some (if useMirror then mirror else x % 256, bits x 28 16)

/-- The mode a policy writes into a record. -/
def modeOf (m : Nat) : DropMode := if m = 0 then .drop else if m = 1 then .spill else .none

/-- The record of a token for its choices at one owner (R172). -/
def State.record (s : State) (h : HomeLayer) (r : RouteRec) (t : Nat) (mode : DropMode) (cs : List Choice) : DispRec :=
  let p := areaRow r.stage r.disp r.nblk r.maxTok t
  let row := s.vread p.1 (rowData r.disp r.nblk)
  let mt := padTo (rowMeta r.nblk) (s.vread p.2 (rowMeta r.nblk)).bytes
  ⟨h.ctx, mode, r.disp, h.layer, h.gen, h.step, s.self, leAt mt 0 1, leAt mt 1 1, t, r.nblk, h.cap, cs, row.bytes, slice mt 16 r.nblk, false⟩

/-! ### The owning Prism (R173 to R179) -/

/-- The number of a (generation, local expert) in an owned layer's tables. -/
def ownKey (gen loc : Nat) : Nat := gen * 8192 + loc

/-- Whether a step was given up by PREEMPT or a teardown (R294, R366). -/
def State.givenUp (s : State) (c st : Nat) : Bool :=
  match kget s.srv.series (2 * c + bit (tbit st 31)) with
  | some x => x.gone.contains st
  | none => false

/-- Why an owning Prism refuses a whole record (R173, R191, R294). -/
def State.recordRefusal (s : State) (spill : Bool) (r : DispRec) : Option Nat :=
  let ra := s.recAddr r.ctx r.generation r.layer
  let rec_ := s.route (ra.getD 0)
  firstOf [(r.rsv || (ra.isSome && decide (r.fmt ≠ rec_.disp)), St.format),
    (decide (s.fld F.SEQ_CTX_SHAPE_exp_layers (0x40 * r.ctx) ≤ r.layer) || r.choices = [] || decide (16 < r.choices.length) ||
      (spill && decide (r.choices.length ≠ 1)) || (ra.isSome && decide (r.nblk ≠ rec_.nblk)), St.range),
    (!s.resident r.ctx || ra.isNone || !s.flag F.PRS_CTRL_enable || s.givenUp r.ctx r.step, St.state)]

/-- What the admission of one choice does (R176): its outcome code of R173. -/
def admitCode (mode : DropMode) (n lim rows : Nat) : Nat :=
  match mode with
  | .drop => if n < lim then 0 else 1
  | .spill => if n < lim then 0 else 2
  | .none => if n < rows then 0 else 1

/-- A row fanned out to an admitted expert (R177): dispatch data and metadata, and the return row's metadata. -/
def fanOut (rec_ : RouteRec) (r : DispRec) (c : Choice) (row : Nat) (s : State) : State :=
  let region := fun base fmt => base + c.loc * (rec_.rows * (rowData fmt rec_.nblk + rowMeta rec_.nblk))
  let d := areaRow (region rec_.dispArea rec_.disp) rec_.disp rec_.nblk rec_.rows row
  let t := areaRow (region rec_.retArea rec_.ret) rec_.ret rec_.nblk rec_.rows row
  let mt := fun es => metaBytes rec_.nblk r.base r.c r.home r.token c.slot 0 c.expert 0 es
  let exps := r.exps.map BitVec.toNat
  ((s.vwrite d.1 (padTo (rowData rec_.disp rec_.nblk) r.data)).vwrite d.2 (mt exps)).vwrite t.2 (mt exps)

/-- Admits one choice; answers its outcome code. -/
def admitChoice (rec_ : RouteRec) (r : DispRec) (c : Choice) (s : State) : Nat × State :=
  match s.ownLayer r.ctx r.step r.layer with
  | none => (3, s)
  | some o =>
    let k := ownKey r.generation c.loc
    let n := kgetD o.count k 0
    let non := fun (s : State) => s.modOwn r.ctx r.step r.layer fun o => { o with non := kmod o.non k 0 (· + 1) }
    if 8192 ≤ c.loc ∨ s.vle (rec_.locals + 8 * c.loc) 8 = 0 then
      (3, (non (s.bump C.PRS_REFUSED)).raise E.routingRefused r.home r.ctx (d0 := r.layer) (d1 := St.range))
    else
      match admitCode r.mode n (min r.cap rec_.rows) rec_.rows with
      | 0 =>
        let s := s.modOwn r.ctx r.step r.layer fun o => { o with count := kset o.count k (n + 1) }
        (0, (fanOut rec_ r c n s).bump C.PRS_ADMITTED)
      | 1 =>
        let s := (non s).bump C.PRS_DROPPED
        (1, if r.mode = .none then (s.bump C.PRS_FORCED_DROP).raise E.forcedDrop r.home r.ctx (d0 := r.layer) (d1 := c.expert) else s)
      | m => (m, non s)

/-- The outcomes field of an ACK. -/
def packOutcomes (l : List (Nat × Nat)) : Nat := l.foldl (fun a p => a + p.2 * 4 ^ p.1) 0

/-- The choices of a record in ascending slot order. -/
def bySlot (l : List Choice) : List Choice :=
  (List.range 16).filterMap fun i => l.find? fun c => c.slot = i

/-- Opens an owned layer if it is not open, and notes a record of home `p` (R174). -/
def openOwn (c st y gen : Nat) (s : State) : State :=
  let s := if (s.ownLayer c st y).isSome then s
    else { s with prs := { s.prs with own := s.prs.own ++ [⟨c, st, y, [], [], [], [], [], false, false⟩] } }
  match s.recAddr c gen y with
  | some a => s.modOwn c st y fun o => { o with gens := kset o.gens gen a }
  | none => s

/-- Open layers of a context. -/
def State.openCount (s : State) (c : Nat) : Nat := (s.prs.own.filter fun o => o.ctx = c && !o.closed).length

/-- Whether a record waits in the inbox (R174). -/
def State.mustWait (s : State) (r : DispRec) : Bool :=
  (s.ownLayer r.ctx r.step r.layer).isNone && decide (4 ≤ s.openCount r.ctx)

/-- The ACK of a record. -/
def ackFor (self : Nat) (r : DispRec) (st : Nat) (l : List (Nat × Nat)) : AckRec :=
  ⟨r.ctx, r.layer, r.generation, r.step, self, r.token, st, r.choices.map (·.slot), packOutcomes l⟩

/-- An owning Prism takes a record that does not wait: refused, or admitted choice by choice; answers the ACK. -/
def takeRecord (spill : Bool) (r : DispRec) (s : State) : AckRec × State :=
  let ref := match s.recordRefusal spill r with
    | some st => some st
    | none => match s.ownLayer r.ctx r.step r.layer with
      | some o => if o.closed then some St.state else none
      | none => none
  let count := fun (s : State) =>
    s.modOwn r.ctx r.step r.layer fun o => if o.closed then o else { o with recv := kmod o.recv r.home 0 (· + 1) }
  match ref with
  | some st =>
    let s := if s.resident r.ctx && !s.givenUp r.ctx r.step && decide (r.layer < s.fld F.SEQ_CTX_SHAPE_exp_layers (0x40 * r.ctx)) then count (openOwn r.ctx r.step r.layer r.generation s) else s
    (ackFor s.self r st [], (s.bump C.PRS_REFUSED r.choices.length).raise E.routingRefused r.home r.ctx (d0 := r.layer) (d1 := st))
  | none =>
    let s := count (openOwn r.ctx r.step r.layer r.generation s)
    let rec_ := s.route ((s.recAddr r.ctx r.generation r.layer).getD 0)
    let x := (bySlot r.choices).foldl (fun (a : List (Nat × Nat) × State) c =>
      let y := admitChoice rec_ r c a.2
      (a.1 ++ [(c.slot, y.1)], y.2)) ([], s)
    (ackFor s.self r St.done x.1, x.2)

/-- The global expert of a local one, from the metadata of its first dispatch row. -/
def State.expertOf (s : State) (o : OwnLayer) (g j : Nat) : Nat :=
  let r := s.route ((kget o.gens g).getD 0)
  s.vle ((areaRow (r.dispArea + j * (r.rows * (rowData r.disp r.nblk + rowMeta r.nblk))) r.disp r.nblk r.rows 0).2 + 10) 2

/-- The problem table of a closed layer (R178). (DEDUCED: log entry 47) -/
def writeProblems (o : OwnLayer) (s : State) : State :=
  let gen := match s.builtStep o.ctx o.step with
    | some st => st.gen
    | none => match o.gens with
      | (g, _) :: _ => g
      | [] => 0
  match s.recAddr o.ctx gen o.layer with
  | none => s
  | some a =>
    let base := (s.route a).prob
    let es := o.count.filter fun e => e.2 ≠ 0
    let s := es.zipIdx.foldl (fun s x =>
      let g := x.1.1 / 8192
      let j := x.1.1 % 8192
      let r := s.route ((kget o.gens g).getD a)
      let region := fun b fmt => b + j * (r.rows * (rowData fmt r.nblk + rowMeta r.nblk))
      s.vwrite (base + 64 + 32 * x.2) (toBytes 8 (s.vle (r.locals + 8 * j) 8) ++ toBytes 8 (region r.dispArea r.disp) ++
        toBytes 8 (region r.retArea r.ret) ++ toBytes 2 x.1.2 ++ toBytes 2 0 ++ toBytes 4 (s.expertOf o g j))) s
    s.vwrite base (toBytes 4 es.length)

/-- The load table of a closed layer (R179). (DEDUCED: log entry 47) -/
def writeLoads (o : OwnLayer) (s : State) : State :=
  ((o.count.map (·.1) ++ o.non.map (·.1)).eraseDups).foldl (fun s k =>
    match kget o.gens (k / 8192) with
    | none => s
    | some a =>
      let p := (s.route a).load + 16 * (k % 8192)
      let add := fun q n => toBytes 8 (min satMax (s.vle q 8 + n))
      s.vwrite p (add p (kgetD o.count k 0) ++ add (p + 8) (kgetD o.non k 0))) s

/-- A layer closes (R178, R179). -/
def closeLayer (o : OwnLayer) (silent : Bool) (s : State) : State :=
  (writeLoads o (writeProblems o s)).modOwn o.ctx o.step o.layer fun o => { o with closed := true, silent := silent }

/-- Whether every END and every record it counts has arrived. -/
def State.layerFull (s : State) (o : OwnLayer) : Bool :=
  !o.closed && (s.serving o.ctx).all fun p => match kget o.ends p with
    | some n => decide (n ≤ kgetD o.recv p 0)
    | none => false

/-- Closes a layer that is full. -/
def tryClose (c st y : Nat) (s : State) : State :=
  match s.ownLayer c st y with
  | some o => if s.layerFull o then closeLayer o false s else s
  | none => s

/-! ### Acknowledgements, spill and END (R180 to R184) -/

/-- Counts a record sent by the home Prism. -/
def countSent (h : HomeLayer) (dst : Nat) (spill : Bool) (s : State) : State :=
  let s := s.modHome h.ctx h.step h.layer fun h => { h with sent := kmod h.sent dst 0 (· + 1), waitAcks := h.waitAcks + 1 }
  let s := s.bump C.PRS_RECORDS
  if spill then s.bump C.PRS_SPILLS else s

/-- The spill of slot `i` (R182): the next spare takes the slot; answers the record for its owner. -/
def spillSlot (h : HomeLayer) (t i : Nat) (s : State) : Option (Nat × DispRec) × State :=
  match (s.homeLayer h.ctx h.step h.layer).bind fun h => kget h.toks t with
  | none => (none, s)
  | some k =>
    let put := fun (s : State) (k : HomeTok) => s.modHome h.ctx h.step h.layer fun h => { h with toks := kset h.toks t k }
    match k.spares with
    | [] => (none, put s (k.record [(i, 1)]))
    | (key, e, g) :: rest =>
      let k := { k with spares := rest, slots := k.slots.set i ⟨key, e, g, none⟩ }
      let r := s.route h.recAddr
      match s.ownerOf r e with
      | none => (none, (put s (k.record [(i, 2)])).raise E.routingRefused s.self h.ctx (d0 := h.layer) (d1 := St.format))
      | some (p, loc) => (some (p, s.record h r t .spill [⟨e, loc, i⟩]), countSent h p true (put s k))

/-- The outcomes an ACK carries, as (slot, code of R173). -/
def ackOutcomes (a : AckRec) : List (Nat × Nat) :=
  a.slots.map fun i => (i, if a.status = St.done then a.outcomes / 4 ^ i % 4 else 3)

/-- Records an ACK's outcomes; answers the SPILL records to send (R180 to R182). -/
def noteAck (a : AckRec) (s : State) : List (Nat × DispRec) × State :=
  match s.homeLayer a.ctx a.step a.layer with
  | none => ([], s)
  | some h =>
    let os := ackOutcomes a
    let isSpill := decide ((s.policy a.ctx).mode = 1)
    let fin := os.filterMap fun o =>
      if o.2 = 0 then some (o.1, 0) else if o.2 = 3 then some (o.1, 2) else if o.2 = 2 ∧ isSpill then none else some (o.1, 1)
    let s := s.modHome a.ctx a.step a.layer fun h =>
      { h with waitAcks := h.waitAcks - 1, toks := match kget h.toks a.token with
        | some k => kset h.toks a.token (k.record fin)
        | none => h.toks }
    (os.filter fun o => o.2 = 2 && isSpill).foldl (fun (x : List (Nat × DispRec) × State) o =>
      let y := spillSlot h a.token o.1 x.2
      (x.1 ++ y.1.toList, y.2)) ([], s)

/-- Settles a token whose outcomes are final. -/
def trySettle (c st y t : Nat) (s : State) : State :=
  match s.homeLayer c st y with
  | some h => settleToken h t s
  | none => s

/-- Sends records to their owners; the home package's own choices go through its own Prism (R171). `fuel` bounds the
spares that one token can use. -/
def deliver : Nat → Bool → List (Nat × DispRec) → State → State
  | 0, _, _, s => s
  | n + 1, spill, l, s =>
    l.foldl (fun s p =>
      if p.1 ≠ s.self then s.sendPrism p.1 (.dispatch spill p.2)
      else if s.mustWait p.2 then { s with prs := { s.prs with inbox := s.prs.inbox ++ [p.2] } }
      else
        let x := takeRecord spill p.2 s
        let y := noteAck x.1 x.2
        let s := deliver n true y.1 y.2
        tryClose p.2.ctx p.2.step p.2.layer (trySettle p.2.ctx p.2.step p.2.layer p.2.token s)) s

/-- An ACK reaches its home: by the fabric, or in the package's own Prism. (DEDUCED: log entry 73) -/
def sendAck (home : Nat) (a : AckRec) (s : State) : State :=
  if home ≠ s.self then s.sendPrism home (.ack a)
  else
    let y := noteAck a s
    trySettle a.ctx a.step a.layer a.token (deliver 17 true y.1 y.2)

/-- Takes the records of the inbox that no longer wait, from the front, at most `n`. -/
def drainInbox : Nat → State → State
  | 0, s => s
  | n + 1, s =>
    match s.prs.inbox with
    | [] => s
    | r :: rest =>
      if s.mustWait r then s
      else
        let s := { s with prs := { s.prs with inbox := rest } }
        let x := takeRecord (decide (r.choices.length = 1 ∧ r.mode = .spill)) r s
        drainInbox n (tryClose r.ctx r.step r.layer (sendAck r.home x.1 x.2))

/-- After a layer may have closed: records that waited for it are taken. -/
def afterClose (s : State) : State := drainInbox s.prs.inbox.length s

/-- A DISPATCH or SPILL record arrives. -/
def recordArrives (spill : Bool) (r : DispRec) (s : State) : State :=
  if decide (s.prs.inbox ≠ [] ∧ s.prs.inbox.any (·.ctx = r.ctx)) || s.mustWait r then
    { s with prs := { s.prs with inbox := s.prs.inbox ++ [r] } }
  else
    let x := takeRecord spill r s
    afterClose (tryClose r.ctx r.step r.layer (sendAck r.home x.1 x.2))

/-- DISPATCH (R176). -/
def execDispatchRec (r : DispRec) (s : State) : Out := .next (s.alive fun s => recordArrives false r s)

/-- SPILL (R182). -/
def execSpillRec (r : DispRec) (s : State) : Out := .next (s.alive fun s => recordArrives true r s)

/-- ACK (R180). -/
def execAckRec (a : AckRec) (s : State) : Out := .next (s.alive fun s => afterClose (sendAck s.self a s))

/-- An END arrives (R178). (DEDUCED: log entry 43) -/
def endArrives (r : EndRec) (s : State) : State :=
  if !s.resident r.ctx || s.givenUp r.ctx r.step then s
  else
    let s := openOwn r.ctx r.step r.layer r.generation s
    let s := s.modOwn r.ctx r.step r.layer fun o => if o.closed then o else { o with ends := kset o.ends r.home r.count }
    afterClose (tryClose r.ctx r.step r.layer s)

/-- END_RECORD (R178). -/
def execEndRecord (r : EndRec) (s : State) : Out := .next (s.alive fun s => endArrives r s)

/-! ### Merge and dispatch (R168 to R171) -/

/-- cap of R175 for a step's T. -/
def State.capFor (s : State) (c k n t : Nat) : Nat :=
  let p := s.policy c
  if p.abs ≠ 0 then p.abs else min 65535 (ceilDiv (p.factor * k * t) (16 * n))

/-- The home layer of a packet, opened on its first one. -/
def openHome (c st y : Nat) (s : State) : State :=
  if (s.homeLayer c st y).isSome || s.givenUp c st then s
  else
    match s.builtStep c st with
    | none => s
    | some x =>
      match s.recAddr c x.gen y with
      | none => s
      | some a =>
        let r := s.route a
        { s with prs := { s.prs with home := s.prs.home ++ [⟨c, st, y, x.gen, a, x.tokens, s.capFor c r.k r.n x.total, [], [], 0, false⟩] } }

/-- Removes later pairs of an expert already named, and indices beyond N; answers whether any went. -/
def validPairs (n : Nat) (l : List (Nat × Nat)) : List (Nat × Nat) × Bool :=
  let ok := l.foldl (fun (a : List (Nat × Nat)) p => if n ≤ p.2 || a.any (fun q => q.2 = p.2) then a else a ++ [p]) []
  (ok, decide (ok.length ≠ l.length))

/-- Clears the state bytes of a token's combine rows as its area opens (R188). (DEDUCED: log entry 43) -/
def clearRows (r : RouteRec) (t : Nat) (s : State) : State :=
  (List.range r.k).foldl (fun s x =>
    s.vwrite ((areaRow r.combine r.ret r.nblk (r.maxTok * r.k) (t * r.k + x)).2 + 9) [0]) s

/-- A token merged (R169) and dispatched (R171). (DEDUCED: log entry 44) -/
def mergeToken (h : HomeLayer) (t : Nat) (k : HomeTok) (s : State) : State :=
  let r := s.route h.recAddr
  let p := s.policy h.ctx
  let rank := ranked k.pairs
  let choices := rank.take r.k
  let spares := (rank.drop r.k).take (p.d r.k)
  let g := gateWeights r.sigmoid (choices.map fun c => keyLam c.1) (spares.map fun c => keyLam c.1)
  let tie := match rank[r.k - 1]?, rank[r.k]? with
    | some a, some b => decide (a.1 = b.1)
    | _, _ => false
  let owners := choices.map fun c => s.ownerOf r c.2
  let slots := ((choices.zip g.1).zip owners).map fun x => (⟨x.1.1.1, x.1.1.2, x.1.2, if x.2.isNone then some 2 else none⟩ : HomeSlot)
  let k := { k with merged := true, slots := slots, spares := (spares.zip g.2).map fun x => (x.1.1, x.1.2, x.2) }
  let s := s.modHome h.ctx h.step h.layer fun h => { h with toks := kset h.toks t k }
  let s := s.bump C.PRS_TOKENS
  let s := if tie then s.bump C.PRS_TIES else s
  let s := clearRows r t s
  let s := (owners.filter (·.isNone)).foldl (fun s _ => s.raise E.routingRefused s.self h.ctx (d0 := h.layer) (d1 := St.format)) s
  let dsts := (owners.filterMap fun o => o.map (·.1)).eraseDups
  let recs := dsts.map fun d => (d, s.record h r t (modeOf p.mode)
    (((choices.zip owners).zipIdx).filterMap fun x => match x.1.2 with
      | some o => if o.1 = d then some (⟨x.1.1.2, o.2, x.2⟩ : Choice) else none
      | none => none))
  let s := recs.foldl (fun s x => countSent h x.1 false s) s
  trySettle h.ctx h.step h.layer t (deliver 18 false recs s)

/-- A candidate list arrives at the home Prism (R168, R169). (DEDUCED: log entry 43) -/
def candArrives (p : CandPacket) (s : State) : State :=
  let s := openHome p.ctx p.step p.layer s
  match s.homeLayer p.ctx p.step p.layer with
  | none => s
  | some h =>
    let k := kgetD h.toks p.token ⟨[], p.lists, [], false, [], [], false⟩
    if k.merged || k.lists.contains p.list then s
    else
      let v := validPairs (s.route h.recAddr).n (k.pairs ++ p.pairs)
      let k := { k with lists := k.lists ++ [p.list], pairs := v.1 }
      let s := s.modHome p.ctx p.step p.layer fun h => { h with toks := kset h.toks p.token k }
      let s := if v.2 then
          (s.modSq p.facet fun q => { q with own := worse q.own St.internal }).raise E.mergeInvalid p.facet p.ctx (d0 := p.layer) (d1 := p.token)
        else s
      if k.lists.length = k.total then afterClose (mergeToken h p.token k s) else s

/-- CANDIDATE_PACKET (R168). -/
def execCandidatePacket (p : CandPacket) (s : State) : Out := .next (s.alive fun s => candArrives p s)

/-- Whether a home layer's END may go (R184). -/
def HomeLayer.mayEnd (h : HomeLayer) : Bool :=
  !h.ended && decide (h.toks.length = h.m) && decide (h.waitAcks = 0) && h.toks.all fun t => t.2.merged && t.2.final

/-- LAYER_END_SEND (R184): END goes to every package that serves the context, this one included. -/
def layerEndSend (c st y : Nat) (s : State) : State :=
  let s := openHome c st y s
  match s.homeLayer c st y with
  | none => s
  | some h =>
    if !h.mayEnd then s
    else
      let s := s.modHome c st y fun h => { h with ended := true }
      (s.serving c).foldl (fun s p =>
        let r : EndRec := ⟨c, y, h.gen, st, s.self, kgetD h.sent p 0⟩
        if p = s.self then endArrives r s else s.sendPrism p (.fin r)) s

/-- LAYER_END_SEND (R184). -/
def execLayerEndSend (c st y : Nat) (s : State) : Out := .next (s.alive fun s => layerEndSend c st y s)

/-! ### Returns (R185) -/

/-- A RETURN arrives at the home Prism: the combine row is written and its data marked present. -/
def returnArrives (r : ReturnRec) (s : State) : State :=
  match s.homeLayer r.ctx r.step r.layer with
  | none => s
  | some h =>
    match (kget h.toks r.token).bind fun k => k.slots[r.slot]? with
    | none => s
    | some x =>
      if x.out = some 3 then s
      else
        let rec_ := s.route h.recAddr
        let p := areaRow rec_.combine rec_.ret rec_.nblk (rec_.maxTok * rec_.k) (r.token * rec_.k + r.slot)
        let es := r.exps.map BitVec.toNat
        let st := s.vle (p.2 + 9) 1
        let g := s.vle (p.2 + 12) 4
        let c := s.anchorOf rec_ r.token
        let s := (s.bump C.PRS_RETURNS).vwrite p.1 (padTo (rowData rec_.ret rec_.nblk) r.data) r.poison
        s.vwrite p.2 (metaBytes rec_.nblk c c s.self r.token r.slot (setBits st 0 0 1) r.expert g es)

/-- RETURN (R185). -/
def execReturnRec (r : ReturnRec) (s : State) : Out := .next (s.alive fun s => returnArrives r s)

/-- A return row's last block is written (R185): its RETURN record goes to the home its metadata names. -/
def returnRowWritten (c st y gen loc row : Nat) (s : State) : State :=
  match s.ownLayer c st y with
  | none => s
  | some o =>
    let k := ownKey gen loc
    if !o.closed || o.silent || kgetD o.count k 0 ≤ row then s
    else
      match kget o.gens gen with
      | none => s
      | some a =>
        let r := s.route a
        let p := areaRow (r.retArea + loc * (r.rows * (rowData r.ret r.nblk + rowMeta r.nblk))) r.ret r.nblk r.rows row
        let d := s.vread p.1 (rowData r.ret r.nblk)
        let m := padTo (rowMeta r.nblk) (s.vread p.2 (rowMeta r.nblk)).bytes
        let rr : ReturnRec := ⟨c, y, gen, st, s.self, leAt m 4 4, leAt m 8 1, leAt m 10 2, r.nblk, d.bad, d.bytes, slice m 16 r.nblk⟩
        let home := leAt m 2 2
        if home = s.self then returnArrives rr s else s.sendPrism home (.ret rr)

/-- RETURN_ROW_WRITTEN (R185). -/
def execReturnRowWritten (c st y gen loc row : Nat) (s : State) : Out := .next (s.alive fun s => returnRowWritten c st y gen loc row s)

/-! ### Timeouts (R189) -/

/-- CLOSE_TIMEOUT (R189). -/
def closeTimeout (c st y : Nat) (s : State) : State :=
  match s.ownLayer c st y with
  | none => s
  | some o =>
    if o.closed then s
    else
      let missing := (s.serving c).filter fun p => match kget o.ends p with
        | some n => decide (kgetD o.recv p 0 < n)
        | none => true
      let s := (closeLayer o true s).bump C.PRS_TIMEOUTS
      afterClose (s.raise E.closeTimeout (missing.head?.getD 0xFFFF) c (d0 := y) (d1 := missing.length))

/-- CLOSE_TIMEOUT (R189). -/
def execCloseTimeout (c st y : Nat) (s : State) : Out := .next (s.alive fun s => closeTimeout c st y s)

/-- RETURN_TIMEOUT (R189): the token's rows still incomplete fill as drops that timed out. -/
def returnTimeout (c st y t : Nat) (s : State) : State :=
  match s.homeLayer c st y with
  | none => s
  | some h =>
    match kget h.toks t with
    | none => s
    | some k =>
      let r := s.route h.recAddr
      let open_ := (s.combineStates r t).zipIdx.filter fun x => x.1 % 4 ≠ 3
      if !h.ended || open_ = [] then s
      else
        let s := open_.foldl (fun s x => fillRow r (s.anchorOf r t) t x.2 ((k.slots[x.2]?.map (·.expert)).getD 0) 3 s.self 0 s) s
        let s := s.modHome c st y fun h => { h with toks := kset h.toks t (k.record (open_.map fun x => (x.2, 3))) }
        (s.bump C.PRS_TIMEOUTS).raise E.returnTimeout (ctx := c) (d0 := y) (d1 := t)

/-- RETURN_TIMEOUT (R189). -/
def execReturnTimeout (c st y t : Nat) (s : State) : Out := .next (s.alive fun s => returnTimeout c st y t s)

/-- A committed step's layers are over. (DEDUCED: log entry 44) -/
def endStepLayers (c st : Nat) (s : State) : State :=
  { s with prs := { s.prs with home := s.prs.home.filter (fun h => !(decide (h.ctx = c) && decide (h.step = st))),
                               own := s.prs.own.filter fun o => !(decide (o.ctx = c) && decide (o.step = st) && o.closed) } }

end Sys2Proof.Machine
end

