-- ==== Sys2Proof/Machine/Serving.lean ====
section
/-!
DEFINITION. Aperture (R238 to R245): SUBMIT, CANCEL, budgets, the admission interval and waiting; weight generations
(R264, R526); and the command that brings a training launch (R253).
-/
namespace Sys2Proof.Machine

/-! ### Checks of a SUBMIT (R239) -/

/-- The RWL registers that configure context `c` for serving (R548). -/
def ctxRegs (c : Nat) : List Nat := [0, 4, 8, 0xC, 0x10, 0x14, 0x18, 0x1C, 0x20, 0x24].map fun o => 0x1000100 + 0x40 * c + o

/-- Whether `d` is the draft context of `c`. -/
def State.isDraftOf (s : State) (d c : Nat) : Bool :=
  decide (d < 16) && s.flag F.SEQ_CTX_CTRL_is_draft (0x40 * d) && decide (s.fld F.SEQ_CTX_CTRL_draft_of (0x40 * d) = c)

/-- The draft context of `c`, if it has one. -/
def State.draftOf (s : State) (c : Nat) : Option Nat := (List.range 16).find? fun d => s.isDraftOf d c

/-- Whether a context runs: its run bit. -/
def State.runs (s : State) (c : Nat) : Bool := s.flag F.SEQ_CTX_CTRL_run (0x40 * c)

/-- The current generation's entry of a context. -/
def State.curGenEnt (s : State) (c : Nat) : Option Gen := if (s.curGen c).isSome then s.gen c (s.curSlot c) else none

/-- The tokens a SUBMIT is charged. -/
def SubmitRec_res (r : SubmitRec) : Nat := r.promptLen + r.maxNew

/-- Whether the queue data of a SUBMIT lies where it may (R480). -/
def submitData (r : SubmitRec) : Bool :=
  (decide (r.promptLen = 0) || (qaddrOk r.promptAddr && qaddrOk (r.promptAddr + 4 * r.promptLen - 1))) &&
    (decide (r.maxNew = 0) || (qaddrOk r.outAddr && qaddrOk (r.outAddr + 4 * r.maxNew - 1)))

/-- The refusal of a SUBMIT before Aperture's decision (R239, R480, R270). (DEDUCED: log entry 54) -/
def State.submitRefusal (s : State) (r : SubmitRec) : Option Nat :=
  let c := r.ctx
  let n := r.slot
  let res := SubmitRec_res r
  let len := if r.new then 0 else s.sget n D.length
  let dn := r.draftSlot
  firstOf [
    (!s.isConfigured [0x1000000, 0x1000004] || !s.isConfigured (ctxRegs c), St.notReady),
    (decide (r.tenant < 4096) && !s.flag F.ADM_T_CTL_enable (16 * r.tenant), St.auth),
    (r.rsv || (!r.spec && (r.greedy || decide (r.draftCtx ≠ 0) || decide (dn ≠ 0))), St.format),
    (badSlot n || badSlot dn || decide (4096 ≤ r.tenant) || (if r.spec then decide (r.draftD = 0) || decide (8 < r.draftD) else decide (r.draftD ≠ 0)) ||
      decide (s.capOf r.tenant < res) || !submitData r ||
      (match s.curGenEnt c with
        | some g => decide (g.maxPos < len + r.promptLen + r.maxNew + r.draftD)
        | none => false), St.range),
    (!s.flag F.ADM_CTRL_enable || !s.resident c || !s.runs c || (r.new && !s.slotEmpty n) ||
      (!r.new && !s.slotIs n Sl.idle) || (kget s.kvm.moves n).isSome ||
      (decide (r.promptLen = 0) && decide (r.maxNew ≠ 0) && (r.new || decide (s.sget n D.lastToken = noToken))) ||
      (r.spec && (!s.isDraftOf r.draftCtx c || decide (dn = n) ||
        !((r.new && s.slotEmpty dn) || (!r.new && s.slotIs dn Sl.draft && decide (s.sget dn D.partner = n))))), St.state)]

/-! ### Aperture's decision (R241) -/

/-- What Aperture decides: refuse, accept, accept as borrowed, or displace a queued request and accept. -/
inductive Admission where
  | refuse
  | accept (borrowed : Bool)
  | displace (slot : Nat)
  deriving DecidableEq, Repr

/-- The decision for a request of `res` tokens. -/
def State.admission (s : State) (t res : Nat) : Admission :=
  let inB := decide ((res : Int) ≤ s.balOf t)
  let q := s.srv.queue.length
  if s.fld F.ADM_QCFG_qmax ≤ q then
    match inB, s.srv.queue.reverse.find? fun n => s.sflag n Fl.borrowed with
    | true, some n => .displace n
    | _, _ => .refuse
  else if inB then .accept false
  else if s.flag F.ADM_T_CTL_borrow (16 * t) && decide (q + s.fld F.ADM_QCFG_reserve < s.fld F.ADM_QCFG_qmax) &&
      decide (-(s.capOf t : Int) ≤ s.balOf t - res) then .accept true
  else .refuse

/-- The draft slot a SUBMIT names: DRAFT, and the request's seed for its passes (R236, R250). (DEDUCED: log entry 53) -/
def State.takeDraft (s : State) (r : SubmitRec) : State :=
  if r.spec then
    let s := if r.new then
        (s.sclear r.draftSlot).sputs r.draftSlot [(D.state, Sl.draft), (D.ctx, r.draftCtx), (D.tenant, r.tenant), (D.partner, r.slot)]
      else s
    s.sput r.draftSlot D.seed r.seed
  else s

/-- The queue a command came through. -/
def queueOf : CmdOrigin → Nat
  | .queue sq _ => sq
  | .boot => 0

/-- An admitted request: its descriptor written with state QUEUED, its charge taken (R235, R240, R241, R265). -/
def State.acceptReq (s : State) (o : CmdOrigin) (r : SubmitRec) (borrowed : Bool) : State :=
  let n := r.slot
  let before := s.sget n D.state
  let len := s.sget n D.length
  let prev := s.sget n D.prevToken
  let keep := s.sget n D.flags / 64 % 2 * 64
  let gen := if r.pin then (s.curGen r.ctx).getD 0 else s.sget n D.generation
  let fl := bit r.spec + 2 * bit r.greedy + 4 * bit r.pin + 8 * bit borrowed + keep
  let s := s.sputs n [(D.state, Sl.queued), (D.flags, fl), (D.ctx, r.ctx + 16 * (if r.spec then r.draftCtx else 0)), (D.draftD, r.draftD),
    (D.tenant, r.tenant), (D.generation, gen), (D.promptEnd, len + r.promptLen), (D.maxNew, r.maxNew), (D.generated, 0),
    (D.partner, if r.spec then r.draftSlot else 0), (D.stop0, r.stop0), (D.stop1, r.stop1), (D.promptBase, len),
    (D.promptAddr, r.promptAddr), (D.outAddr, r.outAddr), (D.seed, r.seed), (D.reqTag, r.reqTag), (D.res, SubmitRec_res r),
    (D.admitMs, s.ms), (D.queue, queueOf o), (D.notifyEvery, r.notifyEvery), (D.notified, 0),
    (D.baseToken, if len = 0 then noToken else prev)]
  let s := (s.takeDraft r).setBal r.tenant (s.balOf r.tenant - SubmitRec_res r)
  let s := { s with srv := { s.srv with reqs := kset s.srv.reqs n ⟨o, before, false⟩, queue := s.srv.queue ++ [n] } }
  let s := s.bump C.ADM_ADMITTED
  let s := if borrowed then s.bump C.ADM_BORROWED else s
  s.settle o 0x20

/-- SUBMIT (R239, R241). (DEDUCED: log entry 54) -/
def submit (o : CmdOrigin) (r : SubmitRec) (s : State) : State :=
  s.engine o 0x20 fun s =>
    match s.submitRefusal r with
    | some st => s.completeWith o 0x20 st (servingPayload st 5 0 0 r.reqTag)
    | none =>
      let res := SubmitRec_res r
      if res = 0 then s.completeWith o 0x20 St.done (servingPayload St.done 1 0 0 r.reqTag)
      else
        match s.admission r.tenant res with
        | .accept b => s.acceptReq o r b
        | .displace n => ((finishReq n St.busy 7 s).bump C.ADM_DISPLACED).acceptReq o r false
        | .refuse =>
          let h := s.retryHint (decide ((res : Int) ≤ s.balOf r.tenant)) r.tenant res
          (s.bump C.ADM_REFUSED).completeWith o 0x20 St.busy (servingPayload St.busy 5 h 0 r.reqTag)

/-- SUBMIT (R241). -/
def execSubmit (o : CmdOrigin) (r : SubmitRec) (s : State) : Out := .next (s.on fun s => submit o r s)

/-! ### CANCEL (R245) -/

/-- Whether a CANCEL record has a byte set that it does not use. -/
def cancelRsv (r : SubmitRec) : Bool :=
  r.rsv || r.spec || r.greedy || r.pin || r.new || decide (r.ctx ≠ 0) || decide (r.draftCtx ≠ 0) || decide (r.draftD ≠ 0) ||
    decide (r.draftSlot ≠ 0) || decide (r.promptLen ≠ 0) || decide (r.maxNew ≠ 0) || decide (r.stop0 ≠ 0) || decide (r.stop1 ≠ 0) ||
    decide (r.tenant ≠ 0) || decide (r.notifyEvery ≠ 0) || decide (r.promptAddr ≠ 0) || decide (r.outAddr ≠ 0) || decide (r.seed ≠ 0)

/-- CANCEL (R245). (DEDUCED: log entry 54) -/
def cancel (o : CmdOrigin) (r : SubmitRec) (s : State) : State :=
  s.engine o 0x21 fun s =>
    let n := r.slot
    let st := s.sget n D.state
    let live := decide (st = Sl.prefill) || decide (st = Sl.decode)
    let ref := firstOf [(cancelRsv r, St.format), (badSlot n, St.range),
      ((s.req n).isNone || !(live || decide (st = Sl.queued)) || decide (s.sget n D.reqTag ≠ r.reqTag), St.state)]
    match ref with
    | some st => s.completeWith o 0x21 st (servingPayload st 8 0 0 r.reqTag)
    | none =>
      let g := s.sget n D.generated
      let s := if live then s.setSflag n Fl.cancel true else finishReq n St.done 3 s
      s.completeWith o 0x21 St.done (servingPayload St.done 3 0 g r.reqTag)

/-- CANCEL (R245). -/
def execCancel (o : CmdOrigin) (r : SubmitRec) (s : State) : Out := .next (s.on fun s => cancel o r s)

/-! ### Ticks (R240, R242, R243) -/

/-- The tenants whose balance can change: those with a register written, a balance or a remainder. -/
def State.tenants (s : State) : List Nat :=
  let rs : List (Nat × Nat) := s.regs
  let a := (rs.filter fun e => decide (0x1110000 ≤ e.1) && decide (e.1 < 0x1120000)).map fun e => (e.1 - 0x1110000) / 16
  let b := s.srv.bal.map (·.1)
  let c := s.srv.acc.map (·.1)
  (a ++ b ++ c).eraseDups

/-- A tenant's millisecond (R240). -/
def budgetOf (s : State) (t : Nat) : State :=
  let a := kgetD s.srv.acc t 0 + s.rateOf t
  let b := min (s.capOf t : Int) (s.balOf t + (a / 1000 : Nat))
  let a := if b = s.capOf t then 0 else a % 1000
  ({ s with srv := { s.srv with acc := kset s.srv.acc t a } } : State).setBal t b

/-- BUDGET_TICK (R240). -/
def execBudgetTick (s : State) : Out := .next (s.on fun s => s.tenants.foldl budgetOf s)

/-- The interval of R243 from the request starts in the window. (DEDUCED: log entry 55) -/
def intervalOf (l : List Nat) : Nat :=
  match l with
  | a :: b :: rest => ((b :: rest).getLastD b - a) / (l.length - 1)
  | _ => 100000

/-- ADMISSION_INTERVAL_TICK (R243). (DEDUCED: log entry 55) -/
def admissionIntervalTick (s : State) : State :=
  let l := s.srv.starts.filter fun t => s.us ≤ t + 100000
  ({ s with srv := { s.srv with starts := l } } : State).setFld F.ADM_INTERVAL_interval (intervalOf l)

/-- ADMISSION_INTERVAL_TICK (R243). -/
def execAdmissionIntervalTick (s : State) : Out := .next (s.on fun s => admissionIntervalTick s)

/-- Whether a queued request has waited ADM_MAXWAIT (R242). -/
def State.waited (s : State) (n : Nat) : Bool :=
  decide (s.fld F.ADM_MAXWAIT_maxwait ≤ (s.ms + 2 ^ 32 - s.sget n D.admitMs) % 2 ^ 32)

/-- ADMISSION_WAIT_EXPIRE (R242). -/
def execAdmissionWaitExpire (s : State) : Out :=
  .next (s.on fun s => (s.srv.queue.filter s.waited).foldl (fun s n => (finishReq n St.busy 6 s).bump C.ADM_EXPIRED) s)

/-! ### Weight generations (R264) -/

/-- Whether a routing record fails R161. -/
def State.recordBad (s : State) (a : Nat) : Bool :=
  let b := padTo 128 (s.vread a 128).bytes
  let fmt := fun i => decide (leAt b i 1 = 7) || decide (leAt b i 1 = 8)
  decide (leAt b 2 1 = 0) || decide (16 < leAt b 2 1) || decide (2 ≤ leAt b 3 1) || !fmt 4 || !fmt 5 || decide (leAt b 6 2 = 0) ||
    decide (leAt b 8 2 = 0) || decide (128 < leAt b 8 2) || decide (leAt b 10 2 = 0) || decide (leAt b 12 4 ≠ 0) || (b.drop 88).any (· ≠ 0)

/-- The records of a table of context `c`. -/
def State.tableRecords (s : State) (c tbl : Nat) : List Nat :=
  (List.range (s.fld F.SEQ_CTX_SHAPE_exp_layers (0x40 * c))).map fun j => tbl + 128 * j

/-- The smallest max_tok among a table's records, 65,535 where it has none. -/
def State.minTok (s : State) (c tbl : Nat) : Nat :=
  ((s.tableRecords c tbl).map fun a => (s.route a).maxTok).foldl min 65535

/-- Whether a record differs from the current generation's of the same layer in N, k or nblk. -/
def State.recordDiffers (s : State) (cur : Option Gen) (tbl a : Nat) : Bool :=
  match cur with
  | none => false
  | some g =>
    let x := s.route a
    let y := s.route (g.table + (a - tbl))
    decide (x.n ≠ y.n) || decide (x.k ≠ y.k) || decide (x.nblk ≠ y.nblk)

/-- The generation a command carries. -/
def State.genOf (s : State) (r : GenRec) : Gen :=
  ⟨r.generation, r.routeTbl, r.decodeProg, r.prefillProg, r.maxPositions, s.minTok r.ctx r.routeTbl⟩

/-- How many generations of a context are live. -/
def State.liveGens (s : State) (c : Nat) : Nat := ((List.range 2).filter fun g => (s.gen c g).isSome).length

/-- STAGE_GEN refused. -/
def State.stageRefusal (s : State) (r : GenRec) : Option Nat :=
  let c := r.ctx
  let recs := s.tableRecords c r.routeTbl
  let readable := recs.all fun a => (s.vread (a % 2 ^ 52) 128).good
  firstOf [
    (r.rsv || (readable && recs.any fun a => s.recordBad a || s.recordDiffers (s.curGenEnt c) r.routeTbl a), St.format),
    (decide (16 ≤ c) || (match s.curGen c with
      | some g => !precedes 16 g r.generation
      | none => false) || !readable, St.range),
    (!s.resident c || decide (2 ≤ s.liveGens c) ||
      (s.dirLive.any fun i => decide (s.dirCtx i = c) && !precedes 16 (s.dget i X.generation) r.generation), St.state),
    (recs.any fun a => (s.vread (a % 2 ^ 52) 128).bad, St.uncorrected)]

/-- The layers of a generation slot start at NORMAL with a clear history (R71). (DEDUCED: log entry 60) -/
def State.clearLayers (s : State) (c g : Nat) : State :=
  { s with rtc := { s.rtc with layers := s.rtc.layers.filter fun e => e.1 / 256 ≠ 2 * c + g } }

/-- Puts a generation into a slot of a context. -/
def State.putGen (s : State) (c g : Nat) (x : Gen) : State := { s with srv := { s.srv with gens := kset s.srv.gens (2 * c + g) x } }

/-- The role of the other generation in SEQ_CTX_GEN_STATUS: 0 none, 1 staged, 2 old. -/
def State.otherRole (s : State) (c : Nat) : Nat := s.fld F.SEQ_CTX_GEN_STATUS_other (0x40 * c)

/-- STAGE_GEN's effect. -/
def stageEffect (r : GenRec) (s : State) : State :=
  let c := r.ctx
  let g := if (s.gen c 0).isNone then 0 else 1
  let s := s.putGen c g (s.genOf r)
  (s.setFld F.SEQ_CTX_GEN_other r.generation (0x40 * c)).setFld F.SEQ_CTX_GEN_STATUS_other 1 (0x40 * c)

/-- STAGE_GEN (R264). -/
def stageGen (o : CmdOrigin) (r : GenRec) (s : State) : State :=
  s.engine o 0x28 fun s => orElse o 0x28 (s.stageRefusal r) (fun s => (stageEffect r s).complete o 0x28 St.done) s

/-- STAGE_GEN (R264). -/
def execStageGen (o : CmdOrigin) (r : GenRec) (s : State) : Out := .next (s.on fun s => stageGen o r s)

/-- ACTIVATE_GEN's effect: the staged generation is current, the current one old. -/
def activateEffect (r : GenRec) (s : State) : State :=
  let c := r.ctx
  let old := s.fld F.SEQ_CTX_GEN_current (0x40 * c)
  let had := s.flag F.SEQ_CTX_GEN_STATUS_current_valid (0x40 * c)
  let s := ((s.setFld F.SEQ_CTX_GEN_current r.generation (0x40 * c)).setFld F.SEQ_CTX_GEN_STATUS_current_valid 1 (0x40 * c)).setFld
    F.SEQ_CTX_GEN_other (if had then old else 0) (0x40 * c)
  let s := s.setFld F.SEQ_CTX_GEN_STATUS_other (if had then 2 else 0) (0x40 * c)
  s.clearLayers c (s.curSlot c)

/-- ACTIVATE_GEN (R264). -/
def activateGen (o : CmdOrigin) (r : GenRec) (s : State) : State :=
  s.engine o 0x29 fun s =>
    let staged := decide (s.otherRole r.ctx = 1) && decide (s.fld F.SEQ_CTX_GEN_other (0x40 * r.ctx) = r.generation)
    orElse o 0x29 (firstOf [(r.rsv, St.format), (decide (16 ≤ r.ctx), St.range), (!s.resident r.ctx || !staged, St.state)])
      (fun s => (activateEffect r s).complete o 0x29 St.done) s

/-- ACTIVATE_GEN (R264). -/
def execActivateGen (o : CmdOrigin) (r : GenRec) (s : State) : Out := .next (s.on fun s => activateGen o r s)

/-- The requests pinned to a generation of a context (R265). -/
def State.pinnedTo (s : State) (c num : Nat) : Nat :=
  (s.srv.reqs.filter fun e => decide (s.sctx e.1 = c) && s.sflag e.1 Fl.pinned && decide (s.sget e.1 D.generation = num)).length

/-- Whether a built step of a context latched a generation. -/
def State.latchedBy (s : State) (c num : Nat) : Bool :=
  s.srv.series.any fun e => decide (e.1 / 2 = c) && match e.2.built with
    | some x => decide (x.gen = num)
    | none => false

/-- RETIRE_GEN's effect. -/
def retireGenEffect (c g : Nat) (s : State) : State :=
  let s := ({ s with srv := { s.srv with gens := kdel s.srv.gens (2 * c + g) } } : State).clearLayers c g
  (s.setFld F.SEQ_CTX_GEN_other 0 (0x40 * c)).setFld F.SEQ_CTX_GEN_STATUS_other 0 (0x40 * c)

/-- RETIRE_GEN (R264). -/
def retireGen (o : CmdOrigin) (r : GenRec) (s : State) : State :=
  s.engine o 0x2A fun s =>
    let c := r.ctx
    let g := s.genSlot c r.generation
    orElse o 0x2A (firstOf [(r.rsv, St.format), (decide (16 ≤ c), St.range),
      (!s.resident c || g.isNone || decide (s.curGen c = some r.generation) || decide (s.pinnedTo c r.generation ≠ 0) || s.latchedBy c r.generation, St.state)])
      (fun s => (retireGenEffect c (g.getD 0) s).complete o 0x2A St.done) s

/-- RETIRE_GEN (R264). -/
def execRetireGen (o : CmdOrigin) (r : GenRec) (s : State) : Out := .next (s.on fun s => retireGen o r s)

/-! ### Launches and training launches (R251, R253) -/

/-- The layers of a generation slot that use their wide reserve (R71). (DEDUCED: log entry 45) -/
def State.wideLayers (s : State) (c g : Nat) : List Nat :=
  (s.rtc.layers.filter fun e => decide (e.1 / 256 = 2 * c + g) && decide (e.2.state = 3)).map fun e => e.1 % 256

/-- A launch enqueued on a pool. -/
def State.enqueue (s : State) (pool : Nat) (l : Launch) : State :=
  let p := nth s.srv.pools pool ⟨[], none⟩
  { s with srv := { s.srv with nextLaunch := s.srv.nextLaunch + 1, pools := s.srv.pools.set pool { p with queue := p.queue ++ [{ l with id := s.srv.nextLaunch, at_ := s.us }] } } }

/-- Whether queue data can be read now (R479, R480): host memory only while the link is up. -/
def State.qreadable (s : State) (a : Nat) : Bool := decide (2 ^ 63 ≤ a) || s.flag F.HST_LINK_up

/-- Whether queue data holds poison. -/
def State.qpoison (s : State) (a n : Nat) : Bool := decide (2 ^ 63 ≤ a) && s.mem.poisoned 1 (a % 2 ^ 48) n

/-- The slots a TRAIN_LAUNCH names. -/
def State.trainSlots (s : State) (r : TrainRec) : List Nat := (List.range r.nslots).map fun i => ofBytes (s.qread (r.slots + 4 * i) 4)

/-- TRAIN_LAUNCH refused (R253). -/
def State.trainRefusal (s : State) (r : TrainRec) : Option Nat :=
  let ok := decide (r.nslots ≤ 65536) && qaddrOk r.xregs && qaddrOk (r.xregs + 127) && (decide (r.nslots = 0) || (qaddrOk r.slots && qaddrOk (r.slots + 4 * r.nslots - 1)))
  let ns := if ok then s.trainSlots r else []
  let here := s.qreadable r.xregs && (decide (r.nslots = 0) || s.qreadable r.slots)
  firstOf [(r.rsv || decide (1 < r.pool), St.format),
    (decide (16 ≤ r.ctx) || !ok || (here && (ns.any badSlot || decide (ns.eraseDups.length ≠ ns.length))), St.range),
    (!s.resident r.ctx || (here && ns.any fun n => !s.slotIs n Sl.idle || decide (s.sctx n ≠ r.ctx) || s.sflag n Fl.inStep), St.state),
    (!here || s.qpoison r.xregs 128 || (decide (r.nslots ≠ 0) && s.qpoison r.slots (4 * r.nslots)), St.uncorrected)]

/-- TRAIN_LAUNCH's effect. (DEDUCED: log entry 58) -/
def trainEffect (o : CmdOrigin) (r : TrainRec) (s : State) : State :=
  let ns := s.trainSlots r
  let xs := (List.range 16).map fun i => ofBytes (s.qread (r.xregs + 8 * i) 8)
  let s := ns.foldl (fun s n => s.setSflag n Fl.inStep true) s
  let g := s.curSlot r.ctx
  (s.enqueue r.pool ⟨0, r.ctx, 2, 0, g, r.prog, xs, some ⟨o, ns⟩, [], 0, none, 0, 0, s.wideLayers r.ctx g, [], [], false⟩).settle o 0x2C

/-- TRAIN_LAUNCH (R253). -/
def execTrainLaunch (o : CmdOrigin) (r : TrainRec) (s : State) : Out :=
  .next (s.on fun s => s.engine o 0x2C fun s => orElse o 0x2C (s.trainRefusal r) (trainEffect o r) s)

end Sys2Proof.Machine
end

