-- ==== Sys2Proof/Machine/Steps.lean ====
section
/-!
DEFINITION. Steps (R246 to R251, R258): building, the census, draft passes, the work lists and launches.
-/
namespace Sys2Proof.Machine

/-! ### Series -/

/-- A series of a context: 0 decode, 1 prefill. -/
def State.series (s : State) (c k : Nat) : Series := kgetD s.srv.series (2 * c + k) ⟨none, 0, [], false, false, false, [], none⟩

/-- Replaces a series. -/
def State.setSeries (s : State) (c k : Nat) (x : Series) : State := { s with srv := { s.srv with series := kset s.srv.series (2 * c + k) x } }

/-- Changes the built step of a series. -/
def State.modStep (s : State) (c k : Nat) (g : Step → Step) : State :=
  s.setSeries c k { s.series c k with built := (s.series c k).built.map g }

/-- The register that holds the last committed step of a series. -/
def stepReg (k : Nat) : FieldRef := if k = 0 then F.SEQ_CTX_STEP_DEC_step else F.SEQ_CTX_STEP_PRE_step

/-- The number of a series' next step (R246): bits [30:0] count from 0 and wrap; RECOVER may have set it (R388). (DEDUCED: log entry 77) -/
def State.nextStep (s : State) (c k : Nat) : Nat :=
  (s.series c k).next.getD <| (if (s.series c k).first then (s.fld (stepReg k) (0x40 * c) + 1) % 2 ^ 31 else 0) + 2 ^ 31 * k

/-- The slots of context `c` in state `st`, ascending. -/
def State.slotsIn (s : State) (c st : Nat) : List Nat := s.slotsInUse.filter fun n => s.slotIs n st && decide (s.sctx n = c)

/-- The state of the slots a series steps. -/
def seriesState (k : Nat) : Nat := if k = 0 then Sl.decode else Sl.prefill

/-! ### Latching (R265) and starting requests (R242) -/

/-- Whether a slot qualifies for generation `g` of its context. -/
def State.qualifies (s : State) (c n g : Nat) : Bool :=
  if s.sflag n Fl.pinned then decide (s.sget n D.generation = g) else decide (s.curGen c = some g)

/-- The ready slots of a series for generation `g`. -/
def State.ready (s : State) (c k g : Nat) : List Nat :=
  (s.slotsIn c (seriesState k)).filter fun n => !s.sflag n Fl.inStep && s.qualifies c n g

/-- The generation a step latches: its slot. -/
def State.latch (s : State) (c k : Nat) : Nat :=
  let cur := s.curSlot c
  match s.gen c (1 - cur) with
  | some o =>
    if decide (s.otherRole c = 2) && decide (s.ready c k o.num ≠ []) &&
      ((s.series c k).lastCur || decide (s.ready c k ((s.curGen c).getD 0) = [])) then 1 - cur else cur
  | none => cur

/-- Starts one queued request. -/
def startReq (s : State) (n : Nat) : State :=
  let st := if s.sget n D.length < s.sget n D.promptEnd then Sl.prefill else Sl.decode
  match s.req n with
  | none => s
  | some r =>
    ({ s with srv := { s.srv with reqs := kset s.srv.reqs n { r with started := true }, queue := s.srv.queue.erase n, starts := s.srv.starts ++ [s.us] } } : State).sput n D.state st

/-- Starts the queued requests of a context while it has room: in-budget ones first (R242). -/
def startQueued (c : Nat) (s : State) : State :=
  let q := s.srv.queue.filter fun n => s.sctx n = c
  let order := q.filter (fun n => !s.sflag n Fl.borrowed) ++ q.filter fun n => s.sflag n Fl.borrowed
  let room := s.fld F.SEQ_CTX_LIMITS_active_max (0x40 * c) - ((s.slotsIn c Sl.prefill).length + (s.slotsIn c Sl.decode).length)
  (order.take room).foldl startReq s

/-! ### Numerics states at a build (R69, R71) -/

/-- A layer at a step's build: PENDING becomes FALLBACK with its event, a restored layer NORMAL. -/
def stepLayer (c : Nat) (s : State) (k : Nat) : State :=
  let r := s.rlayer k
  let s := if r.state = 2 then (s.setRlayer k { r with state := 3 }).raise E.fallBack (ctx := c) (d0 := k % 256) else s
  let r := s.rlayer k
  if r.restoring && decide (r.state = 3) then s.setRlayer k { r with state := 0, restoring := false } else s

/-- The layers of a context as a step is built. (DEDUCED: log entry 45) -/
def stepLayers (c : Nat) (s : State) : State :=
  ((s.rtc.layers.filter fun e => e.1 / 512 = c).map fun e => e.1).foldl (stepLayer c) s

/-! ### The walk (R248) -/

/-- Whether a decode slot speculates in a step that can run draft passes. -/
def State.speculates (s : State) (pair : Option Nat) (n : Nat) : Bool := pair.isSome && s.sflag n Fl.spec

/-- The positions an entry would take with `room` left, none where they do not fit. -/
def State.entryLen (s : State) (c k : Nat) (pair : Option Nat) (n room : Nat) : Option Nat :=
  if k = 0 then
    let p := if s.speculates pair n then 1 + s.sget n D.draftD else 1
    if p ≤ room then some p else none
  else
    let p := min (min (s.fld F.SEQ_CTX_PREFILL_chunk (0x40 * c)) (s.sget n D.promptEnd - s.sget n D.length)) room
    if p = 0 then none else some p

/-- The entries of a walk over slots in order. -/
def State.walkSlots (s : State) (c k : Nat) (pair : Option Nat) : List Nat → Nat → List StepEnt
  | [], _ => []
  | n :: ns, room =>
    match s.entryLen c k pair n room with
    | none => []
    | some p =>
      let d := if k = 0 && s.speculates pair n then some (s.sget n D.partner % nSlots) else none
      ⟨n, s.sget n D.length, p, d, 0, 0, [], false, false⟩ :: State.walkSlots s c k pair ns (room - p)

/-- Slots in order from the rotating pointer, wrapping. -/
def rotate (ptr : Nat) (l : List Nat) : List Nat := l.filter (fun n => ptr ≤ n) ++ l.filter fun n => n < ptr

/-- Sets or clears in_step on the slots of entries. -/
def markStep (v : Bool) (es : List StepEnt) (s : State) : State :=
  es.foldl (fun s e =>
    let s := if e.slot < nSlots then s.setSflag e.slot Fl.inStep v else s
    match e.draft with
    | some d => s.setSflag d Fl.inStep v
    | none => s) s

/-! ### The census (R247) -/

/-- The other packages that serve a context. -/
def State.peersOf (s : State) (c : Nat) : List Nat := (s.serving c).filter (· ≠ s.self)

/-- The censuses held for a step, and those held for later ones; those for earlier steps go. -/
def splitLater (num : Nat) (l : List (Nat × Nat × Nat × Nat)) : List (Nat × Nat × Nat) × List (Nat × Nat × Nat × Nat) :=
  ((l.filter fun e => e.2.1 = num).map fun e => (e.1, e.2.2.1, e.2.2.2), l.filter fun e => precedes 31 num e.2.1)

/-- A step begins its census wait: its census goes to every other serving package, and the held ones are taken. -/
def beginCensus (c k : Nat) (x : Step) (s : State) : State :=
  let se := s.series c k
  let sp := splitLater x.num se.later
  let x := { x with census := sp.1.filter fun e => (s.peersOf c).contains e.1 }
  let s := s.setSeries c k { se with built := some x, later := sp.2, idle := false }
  (s.peersOf c).foldl (fun s p => s.sendWords p 0x23 [x.num, c, x.tokens, x.pmax]) s

/-- The sum of the positions of entries. -/
def entTokens (es : List StepEnt) : Nat := (es.map (·.k)).foldl (· + ·) 0

/-- Whether a DEMOTE or PREEMPT of a context is in progress: no step of it is built meanwhile (R291, R294). -/
def State.resHold (s : State) (c : Nat) : Bool :=
  let r := kgetD s.res.ctxs c ⟨none, false, none, none, none⟩
  r.demote.isSome || r.preempt.isSome

/-- Whether a step may be built for a series: the package and the context run, nothing built, no hold (R246, R267, R291,
R376, R380). -/
def State.mayBuild (s : State) (c : Nat) : Bool :=
  decide (c < 16) && !s.flag F.GLB_STATUS_fatal && s.resident c && s.runs c && (s.curGen c).isSome && !s.recoveryHold c && !s.resHold c

/-- The usable draft context of a target when a step is built (R258). -/
def State.usableDraft (s : State) (c : Nat) : Option Nat :=
  match s.draftOf c with
  | some d => if s.resident d && (s.curGen d).isSome && s.runs d then some d else none
  | none => none

/-- STEP_BUILD (R248): steps 1 to 6. The decode series of a draft context holds draft passes alone. -/
def buildStep (c k : Nat) (s : State) : State :=
  let s := ({ s with kvm := { s.kvm with wanted := s.kvm.wanted + 1 } } : State).advance
  let g := s.latch c k
  let isCur := decide (g = s.curSlot c)
  let s := stepLayers c (startQueued c s)
  match s.gen c g with
  | none => s
  | some gen =>
    let pair := if k = 0 then s.usableDraft c else none
    let lim := min (s.mmax c k) gen.minTok
    let es := s.walkSlots c k pair (rotate (s.series c k).ptr (s.ready c k gen.num)) lim
    let s := markStep true es s
    let ptr := match es.getLast? with
      | some e => (e.slot + 1) % nSlots
      | none => (s.series c k).ptr
    let s := s.setSeries c k { s.series c k with ptr := ptr, lastCur := isCur }
    let m := entTokens es
    let pmax := (es.map fun e => if e.draft.isSome then e.k - 1 else 0).foldl max 0
    let s := s.setFld F.SHD_CTX_ADP_N_valid (s.adapterCount c) (0x20 * c)
    beginCensus c k ⟨s.nextStep c k, gen.num, g, es, m, m, pmax, [], 0, pair, s.wideLayers c g, s.us, 255, 0, none⟩ s

/-- STEP_BUILD (R248). -/
def stepBuild (c k : Nat) (s : State) : State :=
  let x := s.series c k
  if !s.mayBuild c || x.built.isSome || x.idle || (decide (k = 0) && s.flag F.SEQ_CTX_CTRL_is_draft (0x40 * c)) then s else buildStep c k s

/-- STEP_BUILD (R248). -/
def execStepBuild (c k : Nat) (s : State) : Out := .next (s.on fun s => if k < 2 then stepBuild c k s else s)

/-- IDLE_WAIT_EXPIRE (R247): the next step of the series is built. -/
def idleWaitExpire (c k : Nat) (s : State) : State :=
  if (s.series c k).idle then stepBuild c k (s.setSeries c k { s.series c k with idle := false }) else s

/-- IDLE_WAIT_EXPIRE (R247). -/
def execIdleWaitExpire (c k : Nat) (s : State) : Out := .next (s.alive fun s => if k < 2 then idleWaitExpire c k s else s)

/-- STEP_CENSUS (R247). -/
def stepCensus (src step c tokens pmax : Nat) (s : State) : State :=
  if !decide (c < 16) || !(s.peersOf c).contains src then s
  else
    let k := bit (tbit step 31)
    let s := if 8 < pmax then s.raise E.fabricProtocol src c (d0 := 0x23) else s
    let p := min 8 pmax
    let x := s.series c k
    match x.built with
    | some b =>
      if b.num = step then
        if b.phase ≠ 0 ∨ b.census.any (fun e => e.1 = src) then s
        else s.modStep c k fun b => { b with census := b.census ++ [(src, tokens, p)] }
      else if precedes 31 b.num step && !(x.later.any fun e => e.1 = src && e.2.1 = step) then
        s.setSeries c k { x with later := x.later ++ [(src, step, tokens, p)] }
      else s
    | none =>
      if precedes 31 step (s.nextStep c k) || x.later.any (fun e => e.1 = src && e.2.1 = step) then s
      else s.setSeries c k { x with later := x.later ++ [(src, step, tokens, p)] }

/-- STEP_CENSUS (R247); a package in the lost mask is not heard (R379). -/
def execStepCensus (src step c tokens pmax : Nat) (s : State) : Out :=
  .next (s.alive fun s => if s.isLost src then s.bump C.FAB_HB_FENCED else stepCensus src step c tokens pmax s)

/-- CENSUS_TIMEOUT (R247): the censuses missing count as 0, each with its event. -/
def censusTimeout (c k : Nat) (s : State) : State :=
  match (s.series c k).built with
  | some b =>
    if b.phase ≠ 0 then s
    else
      let missing := (s.peersOf c).filter fun p => !b.census.any fun e => e.1 = p
      let s := s.modStep c k fun b => { b with census := b.census ++ missing.map fun p => (p, 0, 0) }
      missing.foldl (fun s p => (s.bump C.SEQ_CENSUS_TIMEOUT).raise E.censusTimeout p c (d0 := b.num)) s
  | none => s

/-- CENSUS_TIMEOUT (R247). -/
def execCensusTimeout (c k : Nat) (s : State) : Out := .next (s.alive fun s => if c < 16 ∧ k < 2 then censusTimeout c k s else s)

/-! ### Work lists (R249, R250) -/

/-- H of R250. -/
def sampleHash (seed p st : Nat) : Nat :=
  let m := 2 ^ 64
  let x := (seed + (4 * p + st + 1) * 0x9E3779B97F4A7C15) % m
  let x := (x ^^^ (x / 2 ^ 30)) * 0xBF58476D1CE4E5B9 % m
  let x := (x ^^^ (x / 2 ^ 27)) * 0x94D049BB133111EB % m
  x ^^^ (x / 2 ^ 31)

/-- A uniform of R250: bits [63:40]. -/
def uniform (seed p st : Nat) : Nat := sampleHash seed p st / 2 ^ 40

/-- The tier-1 offset of step area `a` of a context (R249). (DEDUCED: log entry 52) -/
def State.stepArea (s : State) (c a : Nat) : Nat :=
  s.fld64 F.SEQ_CTX_AREA_LO_base F.SEQ_CTX_AREA_HI_base (0x40 * c) + a * s.rd (F.SEQ_CTX_AREA_SIZE_size.off + 0x40 * c)

/-- The kind of a step's work lists: 0 decode, 1 prefill, 2 draft pass. -/
def Step.kind (x : Step) (k : Nat) : Nat := if x.pass ≠ 255 then 2 else k

/-- The area a step uses. -/
def Step.area (x : Step) (k : Nat) : Nat := if x.pass ≠ 255 then 2 + x.pass else k

/-- A token of a work list: slot, position, input, entry, flags. -/
structure WorkTok where
  slot : Nat
  pos : Nat
  tok : Nat
  ent : Nat
  flags : Nat

/-- The tokens of an entry with its inputs. -/
def State.entryToks (s : State) (kind : Nat) (e : StepEnt) (ix : Nat) (ins : List Nat) : List WorkTok :=
  ins.zipIdx.map fun (t, j) =>
    let last := decide (j + 1 = e.k)
    let want := if kind = 0 then true else if kind = 2 then last
      else last && decide (e.first + e.k = s.sget e.slot D.promptEnd) && decide (1 ≤ s.sget e.slot D.maxNew)
    ⟨e.slot, e.first + j, t, ix, bit (decide (j = 0)) + 2 * bit last + 4 * bit want⟩

/-- The bytes of a token entry. -/
def State.tokBytes (s : State) (kind : Nat) (w : WorkTok) : List Byte :=
  let seed := s.sget w.slot D.seed
  let us := if kind = 2 then 0 else uniform seed w.pos 0
  let ur := uniform seed w.pos (if kind = 2 then 2 else 1)
  toBytes 4 w.slot ++ toBytes 4 w.pos ++ toBytes 4 w.tok ++ toBytes 4 w.ent ++ toBytes 1 w.flags ++ toBytes 3 us ++ toBytes 3 ur ++ List.replicate 9 0

/-- The launch template of a context. (DEDUCED: log entry 52) -/
def State.template (s : State) (c : Nat) : List Byte := s.mem.read 1 (s.fld64 F.SEQ_CTX_TMPL_LO_base F.SEQ_CTX_TMPL_HI_base (0x40 * c)) 128

/-- The bytes of an ATTENTION token entry (R206, R249). -/
def attBytes (t : List Byte) (w : WorkTok) (i : Nat) : List Byte :=
  toBytes 4 w.slot ++ toBytes 4 w.pos ++ toBytes 8 1 ++ toBytes 8 (leAt t 0 8 + i * leAt t 8 4) ++ toBytes 8 (leAt t 16 8 + i * leAt t 24 4) ++
    toBytes 8 (leAt t 32 8 + i * leAt t 40 4)

/-- Writes the work lists of a step into its area, its sample records cleared. -/
def writeArea (c k : Nat) (x : Step) (ws : List WorkTok) (s : State) : State :=
  let kind := x.kind k
  let a := s.stepArea c (x.area k)
  let mm := s.mmax c kind
  let m := ws.length
  let hdr := toBytes 4 x.num ++ toBytes 2 x.gen ++ toBytes 1 kind ++ toBytes 1 x.pass ++ toBytes 4 m ++ toBytes 4 x.ents.length ++ toBytes 4 x.total ++
    toBytes 1 x.pmax ++ List.replicate 43 0
  let t := s.template c
  let s := s.twrite 1 a (hdr ++ (ws.map (s.tokBytes kind)).flatten)
  let s := s.twrite 1 (a + 64 + 32 * mm) (ws.zipIdx.map fun (w, i) => attBytes t w i).flatten
  s.twrite 1 (a + 64 + 72 * mm) (List.replicate (16 * m) 0)

/-- The launch of a step (R251). -/
def State.stepLaunch (s : State) (c k : Nat) (x : Step) (g : Gen) (m : Nat) : Launch :=
  let t := s.template c
  let xs := [s.stepArea c (x.area k), m, x.ents.length, x.num, g.table, x.kind k * 256 + x.pass] ++ (List.range 10).map fun i => leAt t (48 + 8 * i) 8
  ⟨0, c, k, x.pass, x.gslot, if k = 1 then g.prefill else g.decode, xs, none, [], 0, none, 0, 0, x.wide, [], [], false⟩

/-- Writes the work lists of a built step and enqueues its launch (R248 step 7). -/
def launchStep (c k : Nat) (ins : List (StepEnt × List Nat)) (s : State) : State :=
  match (s.series c k).built with
  | none => s
  | some x =>
    match s.gen c x.gslot with
    | none => s
    | some g =>
      let ents := ins.map (·.1)
      let x := { x with ents := ents, tokens := entTokens ents, phase := 2, left := 1 }
      let ws := (ins.zipIdx.map fun (e, i) => s.entryToks (x.kind k) e.1 i e.2).flatten
      let s := s.setSeries c k { s.series c k with built := some x }
      let s := writeArea c k x ws s
      s.enqueue k (s.stepLaunch c k x g ws.length)

/-! ### Pages and carries at a commit (R202, R255) -/

/-- The first position of the page at window page `w`, its layer and its capacity. -/
def State.pageFirst (s : State) (n w : Nat) : Nat := s.header n w 8 4
def State.pageLayer (s : State) (n w : Nat) : Nat := s.header n w 4 2
def State.pageCap (s : State) (n w : Nat) : Nat := capOfTag (s.header n w 0 1)

/-- A page at a commit from length `l` to `l2`: it is unmapped with fill 0; otherwise its fill and its carry change,
the carry being the initial one of the page after it where that was opened in this step. -/
def commitPage (c n l l2 : Nat) (s : State) (w : Nat) : State :=
  let first := s.pageFirst n w
  let cap := s.pageCap n w
  let fill := min cap (l2 - first)
  match s.pageFrame n w with
  | none => s
  | some f =>
    if fill = 0 then s.unmapPage n w
    else
      let p := s.frameLoc f
      let next := (s.pageFrame n (w + 1)).isSome && decide (s.pageFirst n (w + 1) = first + cap) && decide (s.pageLayer n (w + 1) = s.pageLayer n w) &&
        decide (l ≤ first + cap)
      let carry := if next then
          match s.pageFrame n (w + 1) with
          | some g => s.mem.read (s.frameLoc g).1 ((s.frameLoc g).2 + 384) 1152
          | none => List.replicate 1152 0
        else s.winRead n (s.ckpt c (l2 - 1 - l) + 1152 * s.pageLayer n w) 1152
      let s := s.twrite p.1 (p.2 + 2) (toBytes 2 fill)
      s.twrite p.1 (p.2 + 384) carry

/-- The latent pages of a slot that gained records or were opened from length `l` on. With nothing kept a page that held
records before stays as it is. -/
def State.commitPages (s : State) (n l l2 : Nat) : List Nat :=
  (s.latentPages n).filter fun w =>
    let first := s.pageFirst n w
    decide (l < first + s.pageCap n w) && (decide (l ≤ first) || decide (l < l2))

/-- A slot's pages, carries and length at a commit from `l` to `l2` (R255); `decode` says that its dispatch carries
change too. -/
def commitSlot (c n l l2 : Nat) (decode : Bool) (s : State) : State :=
  let s := (s.commitPages n l l2).foldl (commitPage c n l l2) s
  let a := s.carryArea c
  let s := if decode && decide (l < l2) && decide (a.2 ≠ 0) then s.winWrite n a.1 (s.winRead n (s.ckpt c (l2 - 1 - l) + s.ckptS c) a.2) else s
  s.sput n D.length l2

/-- The draft slot of an entry at the commit (R260). -/
def commitDraft (pair : Option Nat) (e : StepEnt) (l2 : Nat) (s : State) : State :=
  match e.draft, pair with
  | some q, some d =>
    let ld := s.sget q D.length
    let keep := max ld (min l2 e.dwritten)
    let s := if e.dwritten = 0 then s else (commitSlot d q ld keep true s).bump C.SEQ_POSITIONS (keep - ld)
    s.setSflag q Fl.inStep false
  | _, _ => s

/-- An entry given up before its launch, its request over: nothing of it is kept. (DEDUCED: log entry 56) -/
def giveUpEntry (pair : Option Nat) (s : State) (e : StepEnt) : State :=
  let s := commitDraft pair e 0 s
  if e.slot < nSlots then s.setSflag e.slot Fl.inStep false else s

/-- The entries of a step whose requests are still outstanding. -/
def liveEnts (x : Step) : List StepEnt := x.ents.filter fun e => decide (e.slot < nSlots) && !e.dead

/-- Gives up the entries whose requests are over. -/
def dropDead (x : Step) (s : State) : State := (x.ents.filter fun e => !decide (e.slot < nSlots) || e.dead).foldl (giveUpEntry x.pair) s

/-! ### Prompt reads (R248, R479) -/

/-- Whether a prompt read of an entry fails. -/
def State.promptFails (s : State) (e : StepEnt) : Bool :=
  let a := s.sget e.slot D.promptAddr + 4 * (e.first - s.sget e.slot D.promptBase)
  !s.qreadable a || s.qpoison a (4 * e.k)

/-- An entry whose prompt read failed: its request ends with the read's status, its slot IDLE. -/
def failPrompt (s : State) (n : Nat) : State := finishReq n St.uncorrected 8 (s.setSflag n Fl.inStep false)

/-- The inputs of a prefill entry. -/
def State.promptInputs (s : State) (e : StepEnt) : List Nat :=
  let a := s.sget e.slot D.promptAddr + 4 * (e.first - s.sget e.slot D.promptBase)
  (List.range e.k).map fun j => ofBytes (s.qread (a + 4 * j) 4)

/-- Takes the prefill entries whose prompt could be read, ending the others' requests. -/
def prefillLaunch (c : Nat) (s : State) : State :=
  match (s.series c 1).built with
  | none => s
  | some x =>
    let s := dropDead x s
    let es := liveEnts x
    let bad := es.filter s.promptFails
    let good := (es.filter fun e => !s.promptFails e).map fun e => (e, s.promptInputs e)
    drainKvm (launchStep c 1 good ((bad.map (·.slot)).foldl failPrompt s))

/-! ### Draft passes (R258) -/

/-- The input of a draft slot's pass 0 at position `j`, none where it cannot be read. (DEDUCED: log entry 56) -/
def State.catchUpTok (s : State) (n l j : Nat) : Option Nat :=
  let b := s.sget n D.promptBase
  let e := s.sget n D.promptEnd
  let rd := fun a => if s.qreadable a && !s.qpoison a 4 then some (ofBytes (s.qread a 4)) else none
  if j = l then some (s.sget n D.lastToken)
  else if j + 1 = l then some (s.sget n D.prevToken)
  else if j + 1 = b then some (s.sget n D.baseToken)
  else if j < b then none
  else if j < e then rd (s.sget n D.promptAddr + 4 * (j - b))
  else rd (s.sget n D.outAddr + 4 * (j - e))

/-- All values of a list of optional ones. -/
def allSome : List (Option Nat) → Option (List Nat)
  | [] => some []
  | none :: _ => none
  | some v :: l => (allSome l).map (v :: ·)

/-- The part a target entry takes in pass `p` with `room` positions left: first position and inputs. -/
def State.passPart (s : State) (d p room : Nat) (e : StepEnt) : Option (Nat × List Nat) :=
  match e.draft with
  | none => none
  | some q =>
    if e.isOver || decide (e.slot = noSlot) || decide (e.k - 1 ≤ p) then none
    else if p = 0 then
      let ld := s.sget q D.length
      let n := min (min (e.first + 1 - ld) (s.fld F.SEQ_CTX_PREFILL_chunk (0x40 * d))) room
      if n = 0 then none
      else match allSome ((List.range n).map fun i => s.catchUpTok e.slot e.first (ld + i)) with
        | some l => some (ld, l)
        | none => none
    else match e.drafts[p - 1]? with
      | some t => if e.drafts.length = p ∧ 1 ≤ room then some (e.first + p, [t.1]) else none
      | none => none

/-- The parts of every entry in order; an entry that takes none is over. -/
def State.passParts (s : State) (d p : Nat) : List StepEnt → Nat → List (StepEnt × Option (Nat × List Nat))
  | [], _ => []
  | e :: es, room =>
    let r := s.passPart d p room e
    let n := match r with
      | some x => x.2.length
      | none => 0
    (e, r) :: State.passParts s d p es (room - n)

/-- A target entry after its part in a pass was built. -/
def StepEnt.took (e : StepEnt) (p : Nat) (r : Option (Nat × List Nat)) : StepEnt :=
  match r with
  | none => { e with isOver := true }
  | some x =>
    { e with dfirst := if p = 0 then x.1 else e.dfirst, dwritten := x.1 + x.2.length,
             isOver := e.isOver || decide (x.1 + x.2.length ≠ e.first + p + 1) }

/-- The inputs of a target's entries once its drafts are made. -/
def State.verifyInputs (s : State) (e : StepEnt) : StepEnt × List Nat :=
  let l := s.sget e.slot D.lastToken :: e.drafts.map (·.1)
  ({ e with k := l.length }, l)

/-- The target's own launch, its drafts made (R258). -/
def verifyLaunch (c : Nat) (s : State) : State :=
  match (s.series c 0).built with
  | none => s
  | some x => launchStep c 0 ((liveEnts x).map s.verifyInputs) (dropDead x s)

/-- Builds draft pass `p` of target `c` in context `d`: a step of its decode series with its own census. -/
def buildPass (c d p : Nat) (x : Step) (s : State) : State :=
  let s := ({ s with kvm := { s.kvm with wanted := s.kvm.wanted + 1 } } : State).advance
  let s := stepLayers d s
  let g := s.curSlot d
  match s.gen d g with
  | none => verifyLaunch c s
  | some gen =>
    let parts := s.passParts d p x.ents (s.mmax d 2)
    let es := parts.filterMap fun e => e.2.bind fun r => e.1.draft.map fun q => (⟨q, r.1, r.2.length, none, 0, 0, r.2.map fun t => (t, 0), false, false⟩ : StepEnt)
    let s := s.setFld F.SHD_CTX_ADP_N_valid (s.adapterCount d) (0x20 * d)
    let s := s.modStep c 0 fun x => { x with pass := 255, phase := 1, ents := parts.map fun e => e.1.took p e.2 }
    let m := entTokens es
    let s := beginCensus d 0 ⟨s.nextStep d 0, gen.num, g, es, m, m, 0, [], 0, some c, s.wideLayers d g, s.us, p, 0, none⟩ s
    s.setSeries c 0 { s.series c 0 with built := (s.series c 0).built.map fun x => { x with left := p } }

/-- Begins pass `p` of a target where its draft context can still run it; otherwise the drafts end. -/
def beginPass (c p : Nat) (s : State) : State :=
  match (s.series c 0).built with
  | none => s
  | some x =>
    match x.pair with
    | none => verifyLaunch c s
    | some d =>
      if p < x.pmax && s.resident d && s.runs d && (s.curGen d).isSome && (s.series d 0).built.isNone then buildPass c d p x s
      else verifyLaunch c s

/-! ### STEP_LAUNCH_WRITE (R247, R249) -/

/-- Whether every census of a step has arrived. -/
def State.censusDone (s : State) (c : Nat) (x : Step) : Bool := (s.peersOf c).all fun p => x.census.any fun e => e.1 = p

/-- A step with T and P settled by its censuses. -/
def Step.counted (x : Step) : Step :=
  { x with total := x.tokens + (x.census.map fun e => e.2.1).foldl (· + ·) 0, pmax := min 8 ((x.census.map fun e => e.2.2).foldl max x.pmax) }

/-- The launch of a draft pass: its entries carry their inputs. (DEDUCED: log entry 53) -/
def passLaunch (d : Nat) (x : Step) (s : State) : State :=
  launchStep d 0 ((x.ents.filter fun e => e.slot < nSlots).map fun e => (e, e.drafts.map (·.1))) s

end Sys2Proof.Machine
end

