-- ==== Sys2Proof/Machine/Commit.lean ====
section
/-!
DEFINITION. Commits (R255 to R260): page fills and carries, outcomes, emission and acceptance; STEP_LAUNCH_WRITE,
DRAFT_PASS_NEXT, STEP_COMMIT and TRAIN_LAUNCH_END; and the Focus controller (R261 to R263).
-/
namespace Sys2Proof.Machine

/-! ### Outcomes (R256) -/

/-- A sample record of a step, its position in the work list with it. -/
structure SampleRec where
  token : Nat
  p : Nat
  valid : Bool
  status : Nat
  poison : Bool
  want : Bool
  us : Nat
  input : Nat

/-- Sample record `i` of a step area. (DEDUCED: log entry 56) -/
def State.sampleRec (s : State) (c kind a i : Nat) : SampleRec :=
  let t := a + 64 + 32 * i
  let r := a + 64 + 72 * s.mmax c kind + 16 * i
  ⟨s.mem.le 1 r 4, s.mem.le 1 (r + 4) 4, tbit (s.mem.le 1 (r + 8) 1) 0, s.mem.le 1 (r + 12) 1, s.mem.poisoned 1 r 16,
    tbit (s.mem.le 1 (t + 16) 1) 2, s.mem.le 1 (t + 17) 3, s.mem.le 1 (t + 8) 4⟩

/-- The status a record counts with. -/
def SampleRec.judged (r : SampleRec) : Nat := if r.poison then St.uncorrected else if r.want && !r.valid then worse r.status St.internal else r.status

/-- The outcome of an entry: all good, with whether any is degraded; not allocated; or an error. -/
inductive Verdict where
  | good (degraded : Bool)
  | busy
  | error (st : Nat)
  deriving DecidableEq, Repr

/-- The verdict of an entry's tokens: the worst of their statuses decides. (DEDUCED: log entry 56) -/
def verdict (rs : List SampleRec) : Verdict :=
  let w := (rs.map (·.judged)).foldl worse 0
  if w < 0x10 then .good (decide (w = St.degraded)) else if w = St.busy then .busy else .error w

/-! ### Emission and acceptance (R257, R259) -/

/-- Tokens emitted in order into slot `n`; answers how many and the reason that ended the request, if one did. -/
def emitTokens (n : Nat) : List Nat → State → Nat × Option Nat × State
  | [], s => (0, none, s)
  | t :: ts, s =>
    let g := s.sget n D.generated
    let s := s.qwrite (s.sget n D.outAddr + 4 * g) (toBytes 4 t)
    let s := (s.sput n D.generated (g + 1)).sput n D.lastToken t
    if t ≠ noToken ∧ (t = s.sget n D.stop0 ∨ t = s.sget n D.stop1) then (1, some 0, s)
    else if s.sget n D.maxNew ≤ g + 1 then (1, some 1, s)
    else
      let r := emitTokens n ts s
      (r.1 + 1, r.2.1, r.2.2)

/-- How many drafts are accepted (R259): `j` is the offset of the target record that judges the next one. -/
def accepted (greedy : Bool) (rs : List SampleRec) : List (Nat × Nat) → Nat → Nat
  | [], _ => 0
  | (t, q) :: ds, j =>
    match rs[j]? with
    | none => 0
    | some r =>
      let ok := if greedy then decide (t = r.token) else fle (fmulDy q ⟨r.us, -24⟩) r.p
      if ok then accepted greedy rs ds (j + 1) + 1 else 0

/-- The tokens a decode or verify entry offers. -/
def offered (e : StepEnt) (rs : List SampleRec) (a : Nat) : List Nat :=
  (e.drafts.take a).map (·.1) ++ (match rs[a]? with
    | some r => [r.token]
    | none => [])

/-- What an entry's commit found: kept count, the reason and status that end its request. -/
structure Kept where
  h : Nat
  ended : Option (Nat × Nat)

/-- The kept count of an entry whose tokens are good, with its emission (R257). (DEDUCED: log entry 58) -/
def keepEntry (k : Nat) (e : StepEnt) (rs : List SampleRec) (s : State) : Kept × State :=
  let n := e.slot
  if k = 1 then
    if e.first + e.k < s.sget n D.promptEnd then (⟨e.k, none⟩, s)
    else if s.sget n D.maxNew = 0 then (⟨e.k, some (St.done, 2)⟩, s.sput n D.lastToken noToken)
    else
      let r := emitTokens n ((rs.getLast?.map fun x => x.token).toList) (s.sput n D.state Sl.decode)
      (⟨e.k, r.2.1.map fun x => (St.done, x)⟩, r.2.2)
  else
    let a := accepted (s.sflag n Fl.greedy) rs e.drafts 0
    let s := (s.bump C.SEQ_DRAFTED e.drafts.length).bump C.SEQ_ACCEPTED a
    let r := emitTokens n (offered e rs a) s
    (⟨r.1, r.2.1.map fun x => (St.done, x)⟩, r.2.2)

/-- How a step commits: by its statuses, with nothing kept, or stopped by a launch with a status. -/
inductive CommitMode where
  | normal
  | zero
  | stopped (st : Nat)
  deriving DecidableEq, Repr

/-- One entry of a step commits (R255 to R260). (DEDUCED: log entry 56) -/
def commitEntry (c k : Nat) (x : Step) (mode : CommitMode) (e : StepEnt) (rs : List SampleRec) (s : State) : State :=
  let n := e.slot
  if nSlots ≤ n then (commitDraft x.pair e 0 s).bump C.SEQ_NOT_STEPPED
  else
    let l := s.sget n D.length
    let r : Kept × State := match (if e.dead then .zero else mode : CommitMode) with
      | .zero => (⟨0, none⟩, s)
      | .stopped st => (⟨0, some (st, 8)⟩, s)
      | .normal => match verdict rs with
        | .good dg => keepEntry k e rs (if dg then s.setSflag n Fl.degraded true else s)
        | .busy => (⟨0, none⟩, s)
        | .error st => (⟨0, some (st, 8)⟩, s)
    let h := r.1.h
    let s := r.2
    let s := if h = 0 then s.bump C.SEQ_NOT_STEPPED else s.bump C.SEQ_POSITIONS h
    let s := commitSlot c n l (l + h) (decide (k = 0)) s
    let s := commitDraft x.pair e (l + h) s
    let s := if 0 < h then s.sput n D.prevToken ((rs[h - 1]?.map fun x => x.input).getD noToken) else s
    let s := if s.sflag n Fl.pinned then s else s.sput n D.generation x.gen
    let s := s.setSflag n Fl.inStep false
    match r.1.ended with
    | some (st, why) => finishReq n st why s
    | none => if e.dead then s else if s.sflag n Fl.cancel then finishReq n St.done 3 s else progressReq n s

/-- The entries of a step commit in order, each with its sample records. -/
def commitEntries (c k a : Nat) (x : Step) (mode : CommitMode) : List StepEnt → Nat → State → State
  | [], _, s => s
  | e :: es, i, s =>
    let rs := (List.range e.k).map fun j => s.sampleRec c (x.kind k) a (i + j)
    commitEntries c k a x mode es (i + e.k) (commitEntry c k x mode e rs s)

/-- The mirror changes of a step's entries, taken before they commit. -/
def State.stepChanges (s : State) (c k : Nat) (x : Step) : List MirChange :=
  (x.ents.filter fun e => e.slot < nSlots).map fun e => ⟨e.slot, c, some (s.sget e.slot D.length), decide (k = 0)⟩

/-- A step of a series is over: its number is the last committed, its layers close, waiting commands go on. -/
def stepOver (c k : Nat) (x : Step) (idle : Bool) (s : State) : State :=
  let se := s.series c k
  let s := s.setSeries c k { se with built := none, first := true, idle := idle, next := none }
  let s := (s.setFld (stepReg k) x.num (0x40 * c)).bump C.SEQ_STEPS
  let s := if k = 0 then { s with srv := { s.srv with tdec := max s.srv.tdec (s.us - x.at_) } } else s
  endStepLayers c x.num s

/-- Commits a built step (R255, R380): under recovery hold nothing is kept. -/
def commitStep (c k : Nat) (mode : CommitMode) (idle : Bool) (s : State) : State :=
  match (s.series c k).built with
  | none => s
  | some x =>
    let mode := if s.recoveryHold c then .zero else mode
    let ch := s.stepChanges c k x
    let s := commitEntries c k (s.stepArea c (x.area k)) x mode x.ents 0 s
    let s := match mode, x.stopped with
      | .stopped _, some y => (s.setFld F.SEQ_CTX_CTRL_run 0 (0x40 * c)).raise E.launchStopped y.2.1 c (d0 := y.2.2) (d1 := y.1)
      | _, _ => s
    let s := stepOver c k x idle s
    mirrorCommit c k x.num ch (drainKvm s)

/-- STEP_COMMIT (R255, R386): every launch of the step has ended, and no mirror peer holds the commit. -/
def stepCommit (c k : Nat) (s : State) : State :=
  match (s.series c k).built with
  | none => s
  | some x =>
    if x.phase ≠ 2 ∨ x.left ≠ 0 ∨ x.pass ≠ 255 ∨ s.flag F.GLB_STATUS_fatal ∨ s.mirrorHeld c then s
    else
      let mode : CommitMode := match x.stopped with
        | some y => .stopped y.1
        | none => .normal
      commitStep c k mode false s

/-- STEP_COMMIT (R255). -/
def execStepCommit (c k : Nat) (s : State) : Out := .next (s.on fun s => if c < 16 ∧ k < 2 then stepCommit c k s else s)

/-! ### STEP_LAUNCH_WRITE and DRAFT_PASS_NEXT -/

/-- STEP_LAUNCH_WRITE (R247, R249): the launches, or the commit of an empty step at once. -/
def stepLaunchWrite (c k : Nat) (s : State) : State :=
  match (s.series c k).built with
  | none => s
  | some x =>
    if x.phase ≠ 0 ∨ !s.censusDone c x ∨ s.flag F.GLB_STATUS_fatal then s
    else
      let x := x.counted
      let s := s.setSeries c k { s.series c k with built := some x }
      if x.total = 0 then
        if x.pass = 255 then (if s.mirrorHeld c then s else commitStep c k .zero true s)
        else s.modStep c k fun x => { x with phase := 2, left := 0 }
      else if x.pass ≠ 255 then passLaunch c x s
      else if k = 1 then prefillLaunch c s
      else if x.pair.isSome then beginPass c 0 s
      else verifyLaunch c (s.modStep c 0 fun x => { x with pmax := 0 })

/-- STEP_LAUNCH_WRITE (R249). -/
def execStepLaunchWrite (c k : Nat) (s : State) : Out := .next (s.on fun s => if c < 16 ∧ k < 2 then stepLaunchWrite c k s else s)

/-- The draft an entry gained in pass `p`: its sample where the pass reached its position and the status is good. -/
def gained (p : Nat) (e : StepEnt) (found : List (Nat × StepEnt × SampleRec)) : StepEnt :=
  if e.isOver then e
  else match found.find? fun x => e.draft = some x.1 with
    | some (_, y, r) =>
      if y.first + y.k = e.first + p + 1 ∧ r.valid ∧ !r.poison ∧ r.status < 0x10 then { e with drafts := e.drafts ++ [(r.token, r.p)] } else { e with isOver := true }
    | none => { e with isOver := true }

/-- The last sample of each entry of a pass. -/
def State.passSamples (s : State) (d a : Nat) : List StepEnt → Nat → List (Nat × StepEnt × SampleRec)
  | [], _ => []
  | e :: es, i => (e.slot, e, s.sampleRec d 2 a (i + e.k - 1)) :: State.passSamples s d a es (i + e.k)

/-- A pass completed: its step counts as committed; a launch that stopped takes its context's run (R256). (DEDUCED: log entry 53) -/
def endPass (d : Nat) (y : Step) (s : State) : State :=
  let s := match y.stopped with
    | some z => (s.setFld F.SEQ_CTX_CTRL_run 0 (0x40 * d)).raise E.launchStopped z.2.1 d (d0 := z.2.2) (d1 := z.1)
    | none => s
  stepOver d 0 y false s

/-- DRAFT_PASS_NEXT (R258). (DEDUCED: log entry 53) -/
def draftPassNext (c : Nat) (s : State) : State :=
  match (s.series c 0).built with
  | none => s
  | some x =>
    match x.pair with
    | none => s
    | some d =>
      match (s.series d 0).built with
      | none => s
      | some y =>
        if x.phase ≠ 1 ∨ y.pair ≠ some c ∨ y.pass = 255 ∨ y.phase ≠ 2 ∨ y.left ≠ 0 ∨ s.flag F.GLB_STATUS_fatal then s
        else
          let found := if y.stopped.isSome then [] else s.passSamples d (s.stepArea d (y.area 0)) y.ents 0
          let s := endPass d y s
          let s := s.modStep c 0 fun x => { x with ents := x.ents.map fun e => gained y.pass e found }
          beginPass c (y.pass + 1) s

/-- DRAFT_PASS_NEXT (R258). -/
def execDraftPassNext (c : Nat) (s : State) : Out := .next (s.on fun s => if c < 16 then draftPassNext c s else s)

/-! ### Training launches end (R253) -/

/-- The positions a training launch wrote in every layer of a slot from its length `l` on. (DEDUCED: log entry 56) -/
def State.trainKept (s : State) (l : Launch) (n len : Nat) : Nat :=
  ((List.range (s.layersOf l.ctx)).map fun y => l.reached n y len - len).foldl min 65536

/-- A named slot commits. -/
def trainSlot (l : Launch) (good : Bool) (s : State) (n : Nat) : State :=
  let len := s.sget n D.length
  let h := if good && decide (l.wrote ≠ []) then s.trainKept l n len else 0
  let s := commitSlot l.ctx n len (len + h) false s
  let s := if 0 < h ∧ !s.sflag n Fl.pinned then s.sput n D.generation (s.launchGen l) else s
  (s.bump C.SEQ_POSITIONS h).setSflag n Fl.inStep false

/-- A training launch that left its pool with a status: its slots commit and its command completes. -/
def trainDone (l : Launch) (st : Nat) (s : State) : State :=
  match l.train with
  | none => s
  | some t =>
    let ch := t.slots.map fun n => (⟨n, l.ctx, some (s.sget n D.length), false⟩ : MirChange)
    let s := t.slots.foldl (trainSlot l (decide (st < 0x10))) s
    let idx := match l.stop with
      | some y => y.2.2
      | none => 0
    let s := drainKvm (s.complete t.org 0x2C st (res := idx))
    if s.mirrors l.ctx then (mirrorChanges ch s).2 else s

/-- A pool's running launch leaves it. -/
def clearPool (pool : Nat) (s : State) : State :=
  let s := endRun pool s
  { s with srv := { s.srv with pools := s.srv.pools.set pool ⟨(nth s.srv.pools pool ⟨[], none⟩).queue, none⟩ } }

/-- A training launch is over with a status. -/
def trainOver (pool : Nat) (l : Launch) (st : Nat) (s : State) : State := trainDone l st (clearPool pool s)

/-- TRAIN_LAUNCH_END (R253). -/
def trainLaunchEnd (c : Nat) (s : State) : State :=
  (List.range 2).foldl (fun s p =>
    match (nth s.srv.pools p ⟨[], none⟩).run with
    | some l => if l.ctx = c ∧ l.facets = [] ∧ !l.bare ∧ l.train.isSome ∧ !s.flag F.GLB_STATUS_fatal ∧ !s.mirrorHeld c then trainOver p l l.status s else s
    | none => s) s

/-- TRAIN_LAUNCH_END (R253). -/
def execTrainLaunchEnd (c : Nat) (s : State) : Out := .next (s.on fun s => trainLaunchEnd c s)

/-! ### The Focus controller (R262, R263) -/

/-- The prefill positions of QUEUED and PREFILL slots not yet committed. -/
def State.prefillBacklog (s : State) : Nat :=
  ((s.slotsInUse.filter fun n => s.slotIs n Sl.queued || s.slotIs n Sl.prefill).map fun n => s.sget n D.promptEnd - s.sget n D.length).foldl (· + ·) 0

/-- The facets a move takes from pool `p`: two per die in descending number, the rest from the other die. -/
def State.moveFacets (s : State) (p : Nat) : List Nat :=
  let m := (s.members p).reverse
  let a := (m.filter fun f => f < 36).take 2
  let b := (m.filter fun f => 36 ≤ f).take 2
  (a ++ b ++ m.filter fun f => !(a ++ b).contains f).take 4

/-- A move of 4 facets begins: toward decode from the prefill pool, or toward prefill. -/
def moveToward (decode : Bool) (s : State) : State :=
  (s.moveFacets (if decode then 1 else 0)).foldl (fun s f => s.modFac f fun x => { x with pool := if decode then 3 else 4 }) s

/-- Whether a move is in progress. (DEDUCED: log entry 57) -/
def State.moving (s : State) : Bool := (List.range 72).any fun f => decide ((s.fac f).pool = 3) || decide ((s.fac f).pool = 4)

/-- The direction the adaptive controller takes: 0 none, 1 toward prefill, 2 toward decode. (DEDUCED: log entry 57) -/
def State.focusToward (s : State) : Nat :=
  let np := (s.members 1).length
  let nd := (s.members 0).length
  let t := s.fld F.SEQ_FOCUS_TGT_target
  let band := s.fld F.SEQ_FOCUS_CTRL_band
  if t * (100 + band) < 100 * s.srv.tdec ∧ s.fld F.SEQ_FOCUS_LIM_np_min + 4 ≤ np then 2
  else if 256 * s.fld F.SEQ_FOCUS_TGT_q_hi < s.prefillBacklog ∧ 100 * s.srv.tdec < t * (100 - band) ∧ s.fld F.SEQ_FOCUS_LIM_nd_min + 4 ≤ nd then 1
  else 0

/-- FOCUS_PERIOD (R262). (DEDUCED: log entry 57) -/
def focusPeriod (s : State) : State :=
  let s := if s.flag F.SEQ_FOCUS_CTRL_enable then
      let hold := s.srv.hold - 1
      let s := { s with srv := { s.srv with hold := hold } }
      let d := s.focusToward
      if d = 0 ∨ (0 < hold ∧ d ≠ s.srv.toward) ∨ s.moving then s
      else
        let s := moveToward (decide (d = 2)) s
        { s with srv := { s.srv with toward := d, hold := s.fld F.SEQ_FOCUS_CTRL_hold_periods } }
    else
      let np := (s.members 1).length
      let want := s.fld F.SEQ_FOCUS_LIM_np_fixed
      if s.moving ∨ np = want then s else moveToward (decide (want < np)) s
  { s with srv := { s.srv with tdec := 0 } }

/-- FOCUS_PERIOD (R262). -/
def execFocusPeriod (s : State) : Out := .next (s.alive fun s => focusPeriod s)

end Sys2Proof.Machine
end

