-- ==== Sys2Proof/Machine/Residency.lean ====
section
/-!
DEFINITION. Tier 2's training and scrub (R275, R279); the RES commands (R287 to R292), PREEMPT (R294), semaphores (R296,
R297) and the interference window (R298).
-/
namespace Sys2Proof.Machine

/-! ### Tiers (R275, R278, R279) -/

/-- The modules a population code names (R275). -/
def modulesOf (code : Nat) : Nat := if code = 0 then 0 else if code = 1 then 0xFF else 0xFFFF

/-- TIER2_TRAINING_DONE (R275): `modules` are the modules found, as TIER_T2_STATUS.modules shows them. (DEDUCED: log entry 66) -/
def tier2TrainingDone (modules : Nat) (channelsOk : Bool) (s : State) : State :=
  if s.boot.t2Done || s.boot.image.isNone then s
  else
    let m := modules % 2 ^ 16
    let ok := decide (m = modulesOf s.boot.t2Code) && channelsOk
    let s := ({ s with boot := { s.boot with t2Done := true } } : State).setFld F.TIER_T2_STATUS_modules m
    if s.boot.t2Code = 0 then
      let s := s.setFld F.TIER_T2_STATUS_enabled 0
      if m = 0 then s else s.raise E.tier2Disabled (d0 := m)
    else if ok then s.setFld F.TIER_T2_STATUS_enabled 1
    else (s.setFld F.TIER_T2_STATUS_enabled 0).raise E.tier2Disabled (d0 := m)

/-- TIER2_TRAINING_DONE (R275). -/
def execTier2TrainingDone (modules : Nat) (channelsOk : Bool) (s : State) : Out := .next (s.on fun s => tier2TrainingDone modules channelsOk s)

/-- The channel of a tier-2 offset (R276), for 64 channels or 32. (DEDUCED: log entry 66) -/
def channelOf (wide : Bool) (a : Nat) : Nat :=
  if wide then bits a 13 8 ^^^ bits a 19 14 ^^^ bits a 25 20 else bits a 12 8 ^^^ bits a 17 13 ^^^ bits a 22 18

/-- The unit of a memory event (R511). -/
def State.memUnit (s : State) (tier off : Nat) : Nat :=
  256 * tier + (if tier = 1 then stackOf off else channelOf (decide (s.boot.t2Code ≠ 1)) off)

/-- A 64-byte read of tier 1 or 2 that found symbols in error (R278): one is corrected, more poison the line. -/
def symbolError (tier off symbols : Nat) (s : State) : State :=
  if symbols = 0 then s
  else if symbols = 1 then
    (s.bump (if tier = 1 then C.TIER_T1_CE else C.TIER_T2_CE)).raise E.memoryCorrected (s.memUnit tier off) (d0 := off)
  else
    let s := { s with mem := s.mem.markPoison tier off 64 }
    (s.bump (if tier = 1 then C.TIER_T1_UE else C.TIER_T2_UE)).raise E.memoryUncorrected (s.memUnit tier off) (d0 := off)

/-- Whether scrubs are paused: tiers in self-refresh, from P2 on (R416). -/
def State.scrubPaused (s : State) : Bool := decide (2 ≤ s.fld F.PWR_STATE_state)

/-- TIER_SCRUB_READ (R279): one line of tier 1 or of installed tier 2. -/
def tierScrubRead (tier line symbols : Nat) (s : State) : State :=
  let off := 64 * line
  if s.scrubPaused || !s.flag F.TIER_SCRUB_enable || !(tier = 1 || tier = 2) || !s.inSpace tier off 64 || s.readHeld tier off 64 then s
  else symbolError tier off symbols (s.tread tier off 64)

/-- TIER_SCRUB_READ (R279). -/
def execTierScrubRead (tier line symbols : Nat) (s : State) : Out := .next (s.on fun s => tierScrubRead tier line symbols s)

/-! ### Weight ranges (R288 to R290) -/

/-- A resident context's commands. -/
def State.resCtx (s : State) (c : Nat) : ResCtx := kgetD s.res.ctxs c ⟨none, false, none, none, none⟩

/-- Changes them. -/
def State.modRes (s : State) (c : Nat) (g : ResCtx → ResCtx) : State := { s with res := { s.res with ctxs := kset s.res.ctxs c (g (s.resCtx c)) } }

/-- The address of page `p` of a context's weight range. -/
def weightVa (c p : Nat) : Nat := 2 ^ 51 + c * 2 ^ 47 + p * 65536

/-- The pages of a context's weight range. -/
def State.weightPages (s : State) (c : Nat) : Nat := s.fld F.RES_CTX_WSIZE_pages (0x80 * c)

/-- The place of the level-3 entry of a page of the weight range, none where a table above it is not valid. -/
def State.weightEntry (s : State) (c p : Nat) : Option (Nat × Nat) :=
  let va := weightVa c p
  let e1 := s.get8 (s.l1Place va)
  if (tableFault e1).isSome then none
  else
    let e2 := s.get8 (under e1 (bits va 41 29))
    if (tableFault e2).isSome then none else some (under e2 (bits va 28 16))

/-- Whether every level-2 entry of the weight range is valid. -/
def State.weightTables (s : State) (c : Nat) : Bool :=
  (List.range (ceilDiv (s.weightPages c) 8192)).all fun t => (s.weightEntry c (8192 * t)).isSome

/-- Rewrites the entries of the weight range: page `p` gets `g p`; cached copies go (R215). -/
def mapWeights (c : Nat) (g : Nat → Nat → Nat) (s : State) : State :=
  ((List.range (s.weightPages c)).foldl (fun s p => match s.weightEntry c p with
    | some pl => s.put8 pl (g p (s.get8 pl))
    | none => s) s).dropCached

/-- A weight page's entry to a tier: valid, neither writable nor kv (R289). -/
def State.weightLeaf (s : State) (tier base p : Nat) : Nat := 1 + tier * 16 + s.self * 256 + (base + 65536 * p)

/-- The weight range reads from the weight share, or from the tier-2 image. -/
def mapToShare (c : Nat) (s : State) : State := mapWeights c (fun p _ => s.weightLeaf 1 (s.shareBase c) p) s
def mapToImage (c : Nat) (s : State) : State := mapWeights c (fun p _ => s.weightLeaf 2 (s.imageBase c) p) s

/-- Whether an overlapping weight share of another context is PROMOTING or PROMOTED. -/
def State.shareTaken (s : State) (c : Nat) : Bool :=
  (List.range 16).any fun d => decide (d ≠ c) && decide (2 ≤ s.resState d) && overlap (s.shareBase c) (s.weightLen c) (s.shareBase d) (s.weightLen d)

/-- Whether a load of a context's shards is in progress (R313). -/
def State.loading (s : State) (c : Nat) : Bool := s.shd.loads.any fun l => decide (l.op = 0x40) && decide (l.ctx = c)

/-- Sets a context's state. -/
def State.setRes (s : State) (c st : Nat) : State := s.setFld F.RES_CTX_STATE_state st (0x80 * c)

/-! ### LOAD_CTX (R289) -/

/-- LOAD_CTX refused. (DEDUCED: log entry 65) -/
def State.loadCtxRefusal (s : State) (r : GenRec) : Option Nat :=
  let c := r.ctx
  let recs := s.tableRecords c r.routeTbl
  let readable := recs.all fun a => (s.vread (a % 2 ^ 52) 128).good
  firstOf [
    (decide (r.home = 2) && !s.flag F.TIER_T2_STATUS_enabled, St.notReady),
    (r.rsv || !(r.home = 1 || r.home = 2) || (readable && recs.any s.recordBad), St.format),
    (decide (16 ≤ c) || decide (s.weightPages c = 0) || !s.weightTables c || !readable || (decide (r.home = 2) && decide (s.t2Cap < s.imageBase c + s.weightLen c)) ||
      (decide (r.home = 1) && decide (6291456 < s.weightPages c)), St.range),
    (decide (s.resState c ≠ 0) || s.loading c, St.state),
    (decide (r.home = 1) && s.shareTaken c, St.busy),
    (recs.any fun a => (s.vread (a % 2 ^ 52) 128).bad, St.uncorrected)]

/-- LOAD_CTX's effect: entries written, the first generation current, run 0. -/
def loadCtxEffect (r : GenRec) (s : State) : State :=
  let c := r.ctx
  let s := if r.home = 1 then mapToShare c s else mapToImage c s
  let s := (({ s with srv := { s.srv with gens := kdel s.srv.gens (2 * c + 1) } } : State).putGen c 0 (s.genOf r)).clearLayers c 0
  let s := s.clearLayers c 1
  let s := ((s.setFld F.SEQ_CTX_GEN_current r.generation (0x40 * c)).setFld F.SEQ_CTX_GEN_other 0 (0x40 * c)).setFld F.SEQ_CTX_GEN_STATUS_current_valid 1 (0x40 * c)
  let s := (s.setFld F.SEQ_CTX_GEN_STATUS_other 0 (0x40 * c)).setFld F.SEQ_CTX_CTRL_run 0 (0x40 * c)
  (s.setRes c (if r.home = 1 then 3 else 1)).setFld F.RES_CTX_STATE_home r.home (0x80 * c)

/-- LOAD_CTX handled. -/
def loadCtx (o : CmdOrigin) (r : GenRec) (s : State) : State :=
  orElse o 0x30 (s.loadCtxRefusal r) (fun s => (loadCtxEffect r s).complete o 0x30 St.done) s

/-! ### Semaphores (R296, R297) -/

/-- Semaphore `n`. -/
def State.sem (s : State) (n : Nat) : Sem := kgetD s.res.sems n ⟨none, none, []⟩

/-- Replaces semaphore `n`. -/
def State.setSem (s : State) (n : Nat) (x : Sem) : State :=
  { s with res := { s.res with sems := if x = ⟨none, none, []⟩ then kdel s.res.sems n else kset s.res.sems n x } }

/-- A semaphore goes to its oldest waiter, whose ACQUIRE completes, or becomes FREE. -/
def grantSem (n : Nat) (s : State) : State :=
  let x := s.sem n
  match x.wait with
  | [] => s.setSem n { x with holder := none }
  | (c, o, _) :: rest => (s.setSem n { x with holder := some c, wait := rest }).complete o 0x38 St.done

/-- Waiting ACQUIREs of a context leave every FIFO (R296). -/
def dropWaiters (c : Nat) (s : State) : State :=
  let gone := (s.res.sems.map fun e => (e.2.wait.filter fun w => w.1 = c).map fun w => w.2.1).flatten
  let s := (s.res.sems.map (·.1)).foldl (fun s n => s.setSem n { s.sem n with wait := (s.sem n).wait.filter fun w => w.1 ≠ c }) s
  gone.foldl (fun s o => s.complete o 0x38 St.preempt) s

/-- Every semaphore a context holds is released (R292, R296). -/
def releaseAll (c : Nat) (s : State) : State :=
  ((s.res.sems.filter fun e => e.2.holder = some c).map (·.1)).foldl (fun s n => grantSem n s) s

/-- The checks of ACQUIRE and RELEASE. -/
def State.semRefusal (s : State) (c n : Nat) (rsv : Bool) : Option Nat :=
  firstOf [(rsv, St.format), (decide (16 ≤ c) || decide (4096 ≤ n), St.range), (!s.resident c, St.state)]

/-- ACQUIRE handled (R296). -/
def acquire (o : CmdOrigin) (c n : Nat) (wait rsv : Bool) (s : State) : State :=
  orElse o 0x38 (s.semRefusal c n rsv) (fun s =>
    let x := s.sem n
    if x.broken = some c then (s.setSem n { x with broken := none }).complete o 0x38 St.preempt
    else match x.holder with
      | none => (s.setSem n { x with holder := some c }).complete o 0x38 St.done
      | some h =>
        if h = c ∨ x.wait.any (fun w => w.1 = c) then s.complete o 0x38 St.state
        else if !wait || decide (16 ≤ x.wait.length) then s.complete o 0x38 St.busy
        else (s.setSem n { x with wait := x.wait ++ [(c, o, s.us)] }).settle o 0x38) s

/-- RELEASE handled (R296). -/
def release (o : CmdOrigin) (c n : Nat) (rsv : Bool) (s : State) : State :=
  orElse o 0x39 (s.semRefusal c n rsv) (fun s =>
    let x := s.sem n
    if x.broken = some c then (s.setSem n { x with broken := none }).complete o 0x39 St.preempt
    else if x.holder = some c then (grantSem n s).complete o 0x39 St.done
    else s.complete o 0x39 St.state) s

/-- SEM_HORIZON_EXPIRE (R297): a semaphore still held by a pre-empted context goes to its oldest waiter. -/
def semHorizon (n : Nat) (s : State) : State :=
  let x := s.sem n
  match x.holder, x.wait with
  | some h, _ :: _ =>
    if (s.resCtx h).preemptAt.isSome then (grantSem n (s.setSem n { x with broken := some h })).bump C.RES_REVOKED else s
  | _, _ => s

/-- SEM_HORIZON_EXPIRE (R297). -/
def execSemHorizonExpire (n : Nat) (s : State) : Out := .next (s.on fun s => semHorizon n s)

/-! ### Stopping a context's launches and steps (R294, R366) -/

/-- Whether a launch belongs to a context: its own, or a draft pass made for its step. -/
def State.launchFor (s : State) (c : Nat) (l : Launch) : Bool :=
  decide (l.ctx = c) || (decide (l.pass ≠ 255) && match (s.series l.ctx 0).built with
    | some x => decide (x.pass ≠ 255) && decide (x.pair = some c)
    | none => false)

/-- A queued launch is removed with a status. -/
def dropQueued (st : Nat) (s : State) (l : Launch) : State := trainDone l st (s.addWall l.ctx (s.sinceIn l.at_))

/-- The queued launches of a context leave a pool. -/
def dropLaunches (c st : Nat) (s : State) (p : Nat) : State :=
  let x := nth s.srv.pools p ⟨[], none⟩
  let gone := x.queue.filter (s.launchFor c)
  let s := { s with srv := { s.srv with pools := s.srv.pools.set p { x with queue := x.queue.filter fun l => !s.launchFor c l } } }
  gone.foldl (dropQueued st) s

/-- A facet discards the tile it claimed ahead and takes no more; with `now` it drops its running tile too. -/
def abandonFacet (now : Bool) (s : State) (f : Nat) : State :=
  let q := s.sqr f
  let n := q.ahead.toList.length + (if now then q.run.toList.length else 0)
  let s := if n = 0 then s else s.bump (C.RES_CTX_ABANDONED + 0x80 * q.ctx) n
  let s := match now, q.run with
    | true, some (_, some e) => s.giveTicket e
    | _, _ => s
  let s := s.modSq f fun q => { q with ahead := none, standing := true, claiming := false, waiting := false, run := if now then none else q.run, fin := if now then [] else q.fin, ret := if now then [] else q.ret }
  settleDown f (s.unwait f)

/-- The running launch of a context in a pool stops with a status. -/
def stopLaunch (c st : Nat) (now : Bool) (s : State) (p : Nat) : State :=
  match (nth s.srv.pools p ⟨[], none⟩).run with
  | none => s
  | some l =>
    if s.launchFor c l then l.facets.foldl (abandonFacet now) (s.modLaunch p fun l => { l with status := worse l.status st }) else s

/-- Prism gives a built step up: END with the records already sent for each open layer where `send` says so, its combine
areas and owned layers discarded, its later records refused. -/
def giveUpStep (c : Nat) (send : Bool) (s : State) (k : Nat) : State :=
  match (s.series c k).built with
  | none => s
  | some x =>
    let s := s.setSeries c k { s.series c k with gone := (s.series c k).gone ++ [x.num] }
    let hs := s.prs.home.filter fun h => decide (h.ctx = c) && decide (h.step = x.num) && !h.ended
    let s := if send then hs.foldl (fun s h => (s.peersOf c).foldl (fun s p => s.sendPrism p (.fin ⟨c, h.layer, h.gen, h.step, s.self, kgetD h.sent p 0⟩)) s) s else s
    { s with prs := { home := s.prs.home.filter (fun h => !(decide (h.ctx = c) && decide (h.step = x.num))),
                      own := s.prs.own.filter fun o => !(decide (o.ctx = c) && decide (o.step = x.num)),
                      inbox := s.prs.inbox.filter fun r => !(decide (r.ctx = c) && decide (r.step = x.num)) } }

/-- The draft context whose series now carries a pass made for a context. -/
def State.passFor (s : State) (c : Nat) : Option Nat :=
  (List.range 16).find? fun d => match (s.series d 0).built with
    | some x => decide (x.pass ≠ 255) && decide (x.pair = some c)
    | none => false

/-- Everything of a context stops: run 0, launches removed or stopping, steps given up. (DEDUCED: log entry 65) -/
def stopContext (c st : Nat) (now send : Bool) (s : State) : State :=
  let s := s.setFld F.SEQ_CTX_CTRL_run 0 (0x40 * c)
  let s := [0, 1].foldl (dropLaunches c st) s
  let s := [0, 1].foldl (stopLaunch c st now) s
  let s := [0, 1].foldl (giveUpStep c send) s
  match s.passFor c with
  | some d => giveUpStep d send s 0
  | none => s

/-- Whether every facet has left a context's launches. -/
def State.launchesQuiet (s : State) (c : Nat) : Bool :=
  s.srv.pools.all fun p => match p.run with
    | some l => !s.launchFor c l || decide (l.facets = [])
    | none => true

/-- The stopped launch of a context leaves its pool. -/
def clearStopped (c st : Nat) (s : State) (p : Nat) : State :=
  match (nth s.srv.pools p ⟨[], none⟩).run with
  | some l => if s.launchFor c l ∧ l.facets = [] then trainDone l (worse l.status st) (clearPool p s) else s
  | none => s

/-- A pass abandoned in its draft context: it counts as over, and the target goes on without further drafts. -/
def dropPass (d : Nat) (s : State) : State :=
  match (s.series d 0).built with
  | some x => if x.pass = 255 then s else stepOver d 0 x false s
  | none => s

/-- Commits a context's built steps with nothing kept (R294 step 5). A pass made for it, or in it, is over; the target of
a pass in it goes on. -/
def zeroSteps (c : Nat) (s : State) : State :=
  let target := match (s.series c 0).built with
    | some x => if x.pass = 255 then none else x.pair
    | none => none
  let s := match s.passFor c with
    | some d => dropPass d s
    | none => s
  let s := match target with
    | some t => beginPass t 8 (dropPass c s)
    | none => commitStep c 0 .zero false s
  commitStep c 1 .zero false s

/-- The stopped launches of a context go and its steps commit with nothing kept. -/
def endContext (c st : Nat) (s : State) : State := zeroSteps c ([0, 1].foldl (clearStopped c st) s)

/-! ### UNLOAD_CTX, PROMOTE, DEMOTE, PREEMPT (R290 to R294) -/

/-- Whether no step of a context is built. -/
def State.noSteps (s : State) (c : Nat) : Bool := (s.series c 0).built.isNone && (s.series c 1).built.isNone

/-- The promotion copy of a context stops: its PROMOTE completes with a status the spec does not state. (DEDUCED: log entry 65) -/
def stopPromotion (c : Nat) (s : State) : State :=
  match (s.resCtx c).promote with
  | none => s
  | some o =>
    let x := s.fresh
    (x.2.modRes c fun r => { r with promote := none, copyPoison := false }).complete o 0x32 (x.1 % 256)

/-- The shard-table entries, by index, whose state byte is not FREE. -/
def State.shdBase (s : State) : Nat := s.fld64 F.SHD_TABLE_LO_base F.SHD_TABLE_HI_base
def State.shdGet (s : State) (i o n : Nat) : Nat := s.mem.le 1 (s.shdBase + 128 * i + o) n
def State.shdPut (s : State) (i o : Nat) (bs : List Byte) : State := { s with mem := s.mem.write 1 (s.shdBase + 128 * i + o) bs }
def State.shdUsed (s : State) : List Nat :=
  if s.isConfigured [0x1500008, 0x150000C] then (usedEntries s.mem.t1 s.shdBase 128 16384).filter fun i => s.shdGet i 112 1 ≠ 0 else []

/-- UNLOAD_CTX's effect (R292, R313). (DEDUCED: log entry 65) -/
def unloadEffect (c : Nat) (s : State) : State :=
  let ns := s.slotsInUse.filter fun n => s.sget n D.state ≠ Sl.free && s.sctx n = c
  let s := mirrorSlots c ns (unloadLatent c (stopPromotion c s))
  let s := { s with srv := { s.srv with gens := kdel (kdel s.srv.gens (2 * c)) (2 * c + 1) } }
  let s := ((s.clearLayers c 0).clearLayers c 1).wr (F.SEQ_CTX_GEN_current.off + 0x40 * c) 0
  let s := (s.setFld F.SEQ_CTX_GEN_STATUS_current_valid 0 (0x40 * c)).setFld F.SEQ_CTX_GEN_STATUS_other 0 (0x40 * c)
  let s := releaseAll c (dropWaiters c s)
  let s := (s.shdUsed.filter fun i => s.shdGet i 113 1 % 16 = c).foldl (fun s i => s.shdPut i 112 [0]) s
  let s := mapWeights c (fun _ e => e / 2 * 2) s
  let s := dropStaged (fun g => g.ctx = c) s
  let s := { s with res := { s.res with ctxs := kdel s.res.ctxs c } }
  (s.setRes c 0).setFld F.RES_CTX_STATE_home 0 (0x80 * c)

/-- UNLOAD_CTX handled (R292, R313). -/
def unloadCtx (o : CmdOrigin) (c : Nat) (rsv : Bool) (s : State) : State :=
  orElse o 0x31 (firstOf [(rsv, St.format), (decide (16 ≤ c), St.range), (!s.resident c || s.runs c || !s.noSteps c || s.loading c, St.state)])
    (fun s => (unloadEffect c s).complete o 0x31 St.done) s

/-- PROMOTE handled (R290, R313). -/
def promote (o : CmdOrigin) (c : Nat) (rsv : Bool) (s : State) : State :=
  orElse o 0x32 (firstOf [(rsv, St.format), (decide (16 ≤ c), St.range), (decide (s.resState c ≠ 1) || s.loading c, St.state), (s.shareTaken c, St.busy)])
    (fun s =>
      let s := mapToShare c ((s.setRes c 2).setFld F.RES_CTX_FRONT_pages 0 (0x80 * c))
      (s.modRes c fun r => { r with promote := some o, copyPoison := false }).settle o 0x32) s

/-- DEMOTE handled (R291). -/
def demote (o : CmdOrigin) (c : Nat) (rsv : Bool) (s : State) : State :=
  orElse o 0x33 (firstOf [(rsv, St.format), (decide (16 ≤ c), St.range), (decide (s.resState c ≠ 3) || decide (s.fld F.RES_CTX_STATE_home (0x80 * c) ≠ 2), St.state)])
    (fun s => (mapToImage c (s.modRes c fun r => { r with demote := some o })).settle o 0x33) s

/-- PREEMPT handled (R294). -/
def preempt (o : CmdOrigin) (c : Nat) (rsv : Bool) (s : State) : State :=
  orElse o 0x34 (firstOf [(rsv, St.format), (decide (16 ≤ c), St.range), (!s.resident c, St.state)])
    (fun s =>
      let s := s.modRes c fun r => { r with preempt := some o, preemptAt := if r.preemptAt.isNone then some s.us else r.preemptAt }
      (dropWaiters c (stopContext c St.preempt false true s)).settle o 0x34) s

/-! ### One command at a time (R287) -/

/-- Whether the MC is occupied: a DEMOTE or PREEMPT has not completed. (DEDUCED: log entry 65) -/
def State.resBusy (s : State) : Bool := s.res.ctxs.any fun e => e.2.demote.isSome || e.2.preempt.isSome

/-- The op of a RES command. -/
def ResCmd_op : ResCmd → Nat
  | .load _ => 0x30
  | .unload _ _ => 0x31
  | .promote _ _ => 0x32
  | .demote _ _ => 0x33
  | .preempt _ _ => 0x34
  | .acquire _ _ _ _ => 0x38
  | .release _ _ _ => 0x39

/-- A RES command handled. -/
def resHandle (o : CmdOrigin) (x : ResCmd) (s : State) : State :=
  match x with
  | .load r => loadCtx o r s
  | .unload c v => unloadCtx o c v s
  | .promote c v => promote o c v s
  | .demote c v => demote o c v s
  | .preempt c v => preempt o c v s
  | .acquire c n w v => acquire o c n w v s
  | .release c n v => release o c n v s

/-- The commands that wait are handled in order of arrival, at most `n`, until one occupies the MC. -/
def drainRes : Nat → State → State
  | 0, s => s
  | n + 1, s =>
    if s.resBusy then s
    else match s.res.queue with
      | [] => s
      | (o, x) :: rest => drainRes n (resHandle o x { s with res := { s.res with queue := rest } })

/-- A RES command arrives. A PREEMPT makes its context pre-empted from its arrival (R297). (DEDUCED: log entry 65) -/
def resCmd (o : CmdOrigin) (x : ResCmd) (s : State) : State :=
  s.engine o (ResCmd_op x) fun s =>
    if s.resBusy || decide (s.res.queue ≠ []) then
      let s := { s with res := { s.res with queue := s.res.queue ++ [(o, x)] } }
      match x with
      | .preempt c _ => if s.resident c then s.modRes c fun r => { r with preemptAt := some s.us } else s
      | _ => s
    else resHandle o x s

/-- LOAD_CTX (R289). -/
def execLoadCtx (o : CmdOrigin) (r : GenRec) (s : State) : Out := .next (s.on fun s => resCmd o (.load r) s)

/-- UNLOAD_CTX (R292). -/
def execUnloadCtx (o : CmdOrigin) (c : Nat) (rsv : Bool) (s : State) : Out := .next (s.on fun s => resCmd o (.unload c rsv) s)

/-- PROMOTE (R290). -/
def execPromote (o : CmdOrigin) (c : Nat) (rsv : Bool) (s : State) : Out := .next (s.on fun s => resCmd o (.promote c rsv) s)

/-- DEMOTE (R291). -/
def execDemote (o : CmdOrigin) (c : Nat) (rsv : Bool) (s : State) : Out := .next (s.on fun s => resCmd o (.demote c rsv) s)

/-- PREEMPT (R294). -/
def execPreempt (o : CmdOrigin) (c : Nat) (rsv : Bool) (s : State) : Out := .next (s.on fun s => resCmd o (.preempt c rsv) s)

/-- ACQUIRE (R296). -/
def execAcquire (o : CmdOrigin) (c n : Nat) (wait rsv : Bool) (s : State) : Out := .next (s.on fun s => resCmd o (.acquire c n wait rsv) s)

/-- RELEASE (R296). -/
def execRelease (o : CmdOrigin) (c n : Nat) (rsv : Bool) (s : State) : Out := .next (s.on fun s => resCmd o (.release c n rsv) s)

/-! ### Completions -/

/-- One page of the promotion copy; poisoned lines are written poisoned. -/
def copyPage (c : Nat) (s : State) (p : Nat) : State :=
  let a := s.imageBase c + 65536 * p
  let b := s.shareBase c + 65536 * p
  let s := s.tread 2 a 65536
  if s.mem.poisoned 2 a 65536 then
    (List.range 1024).foldl (fun s k => s.twrite 1 (b + 64 * k) (s.mem.read 2 (a + 64 * k) 64) (s.mem.poisoned 2 (a + 64 * k) 64))
      (s.modRes c fun r => { r with copyPoison := true })
  else s.twrite 1 b (s.mem.read 2 a 65536)

/-- PROMOTE_FRONT_ADVANCE (R290): the next pages of a promotion are copied; a page under a load waits (R309). -/
def promoteFront (c pages : Nat) (s : State) : State :=
  let f := s.fld F.RES_CTX_FRONT_pages (0x80 * c)
  let n := min pages (s.weightPages c - f)
  if !decide (c < 16) || decide (s.resState c ≠ 2) then s
  else if s.loadHeld 2 (s.imageBase c + 65536 * f) (65536 * n) then s.bump C.SHD_HELD_READS
  else ((List.range n).foldl (fun s i => copyPage c s (f + i)) s).setFld F.RES_CTX_FRONT_pages (f + n) (0x80 * c)

/-- PROMOTE_FRONT_ADVANCE (R290). -/
def execPromoteFrontAdvance (c pages : Nat) (s : State) : Out := .next (s.on fun s => promoteFront c pages s)

/-- PROMOTE_COPY_DONE (R290): the copy has reached the end of the range. -/
def promoteCopyDone (c : Nat) (s : State) : State :=
  let r := s.resCtx c
  match r.promote with
  | none => s
  | some o =>
    if s.fld F.RES_CTX_FRONT_pages (0x80 * c) < s.weightPages c then s
    else
      let s := (s.modRes c fun r => { r with promote := none, copyPoison := false }).setRes c 3
      (s.bump C.RES_PROMOTIONS).complete o 0x32 (if r.copyPoison then St.uncorrected else St.done)

/-- PROMOTE_COPY_DONE (R290). -/
def execPromoteCopyDone (c : Nat) (s : State) : Out := .next (s.on fun s => if c < 16 then promoteCopyDone c s else s)

/-- DEMOTE_COMPLETE (R291): every step built before the DEMOTE has committed. -/
def demoteComplete (c : Nat) (s : State) : State :=
  match (s.resCtx c).demote with
  | none => s
  | some o =>
    if !s.noSteps c then s
    else
      let s := ((s.modRes c fun r => { r with demote := none }).setRes c 1).complete o 0x33 St.done
      drainRes s.res.queue.length s

/-- DEMOTE_COMPLETE (R291). -/
def execDemoteComplete (c : Nat) (s : State) : Out := .next (s.on fun s => if c < 16 then demoteComplete c s else s)

/-- PREEMPT_COMPLETE (R294): the context's facets have stopped; its steps commit with nothing kept. -/
def preemptComplete (c : Nat) (s : State) : State :=
  match (s.resCtx c).preempt with
  | none => s
  | some o =>
    if !s.launchesQuiet c || s.mirrorHeld c then s
    else
      let s := endContext c St.preempt s
      let s := ((s.modRes c fun r => { r with preempt := none }).bump C.RES_PREEMPTS).complete o 0x34 St.done
      drainRes s.res.queue.length s

/-- PREEMPT_COMPLETE (R294). -/
def execPreemptComplete (c : Nat) (s : State) : Out := .next (s.on fun s => if c < 16 then preemptComplete c s else s)

/-! ### The interference window (R298) -/

/-- The slowdown from W and Q + A in ns. (DESIGN CHOICE: log entry 64) -/
def slowdown (w qa : Nat) : Nat := if w = 0 then 256 else min 65535 (ceilDiv (256 * w) (max (w - qa) 1))

/-- A context at a window's end: A is a free value. (DESIGN CHOICE: log entry 64) -/
def windowCtx (s : State) (c : Nat) : State :=
  let w := kgetD s.res.wall c 0
  let x := s.fresh
  let qa := if w = 0 then 0 else kgetD s.res.interf c 0 + x.1
  let v := slowdown w qa
  let s := (x.2.setFld F.RES_CTX_SLOW_slowdown v (0x80 * c)).bump (C.RES_CTX_WALL + 0x80 * c) w
  let s := s.bump (C.RES_CTX_INTERF + 0x80 * c) qa
  let t := s.fld F.RES_CTX_SLOW_threshold (0x80 * c)
  if t ≠ 0 ∧ t < v then s.raise E.interference (ctx := c) (d0 := v) else s

/-- INTERFERENCE_WINDOW (R298): launches still queued or running count up to now. -/
def interferenceWindow (s : State) : State :=
  let s := s.srv.pools.foldl (fun s p => chargeRun p ((p.queue ++ p.run.toList).foldl (fun s l => s.addWall l.ctx (s.sinceIn l.at_)) s)) s
  let s := (List.range 16).foldl windowCtx s
  { s with res := { s.res with wall := [], interf := [], since := s.us } }

/-- INTERFERENCE_WINDOW (R298). -/
def execInterferenceWindow (s : State) : Out := .next (s.on fun s => interferenceWindow s)

end Sys2Proof.Machine
end

