-- ==== Sys2Proof/Machine/Shards.lean ====
section
/-!
DEFINITION. Weight shards: loading and fetching (R304 to R314), format 1 (R317), scrub (R315, R316), reads of host memory
(R479), and bulk reads served (R362).
-/
namespace Sys2Proof.Machine

/-! ### Manifest entries (R305, R306) -/

/-- The fields of a manifest entry. -/
def bindOf (e : List Byte) : ShardBind :=
  ⟨leAt e 0 1, leAt e 1 1, leAt e 8 8, leAt e 16 8, leAt e 24 8, leAt e 32 8, leAt e 64 48,
    decide (leAt e 2 6 ≠ 0) || decide (leAt e 40 24 ≠ 0) || decide (leAt e 112 16 ≠ 0)⟩

/-- The bytes of a chunk. -/
def chunkBytes : Nat := 0x400000

/-- The digests of a payload's chunks. -/
def chunkSums : Nat → List Byte → List Nat
  | 0, _ => []
  | n + 1, bs => Config.sha384 (bs.take chunkBytes) :: chunkSums n (bs.drop chunkBytes)

/-- The digest of a shard from its binding and its chunks' digests. (DESIGN CHOICE: log entry 12) -/
def shardDigest (binding : List Byte) (sums : List Nat) : Nat := Config.sha384 (binding ++ (sums.map (toBytes 48)).flatten)

/-! ### The checks of R308 -/

/-- The queue pair a storage source names, with its port. -/
def LoadSource_qp : LoadSource → Option (Nat × Nat)
  | .storage p q _ => some (p, q)
  | _ => none

/-- Whether the named storage port is down. -/
def State.portDown (s : State) (x : LoadSource) : Bool :=
  match x with
  | .storage p _ _ => !decide (p < 2) || !s.flag F.ETH_P_STATUS_up (0x10000 * p)
  | _ => false

/-- Whether a source cannot be read from: a queue pair that is not set up, or a fabric address outside another package's
tiers 1 and 2. (DEDUCED: log entry 16) -/
def State.sourceBad (s : State) (x : LoadSource) (addr : Nat) : Bool :=
  match x with
  | .storage p q _ => !decide (q < 64) || decide (s.qpState p q ≠ 1)
  | .fabric => decide (addr / 2 ^ 56 = s.self) || !(decide (bits addr 55 52 = 1) || decide (bits addr 55 52 = 2))
  | _ => false

/-- Whether the shard table is configured (R548). -/
def State.shdReady (s : State) : Bool := s.isConfigured [0x1500008, 0x150000C]

/-- Where a shard of context `c` lies in a tier. -/
def State.shardDst (s : State) (c tier off : Nat) : Nat := (if tier = 1 then s.shareBase c else s.imageBase c) + off

/-- Whether a manifest entry's address names nothing that can be read. -/
def entryUnreachable (a : Nat) : Bool := decide (a % 8 ≠ 0) || !qaddrOk a || !qaddrOk (a + 127)

/-- The refusals that need no entry. -/
def State.shardEarly (s : State) (r : ShardRec) : Option Nat :=
  firstOf [
    (s.portDown r.source || (decide (r.tier = 2) && !s.flag F.TIER_T2_STATUS_enabled) || !s.shdReady, St.notReady),
    (r.rsv || !(decide (r.tier = 1) || decide (r.tier = 2)) || decide (r.source = .reserved), St.format),
    (entryUnreachable r.entryAddr, St.range)]

/-- Whether format and kind of an entry can be taken. -/
def State.bindBad (s : State) (b : ShardBind) : Bool :=
  b.rsv || decide (1 < b.kind) ||
    !(decide (b.format = 2) || (decide (b.format = 1) && s.flag F.SHD_CTRL_compat_en && decide (b.modelId = 0) && decide (b.digest = 0)))

/-- The model a context checks its shards against. -/
def State.ctxModel (s : State) (c : Nat) : Nat := s.fld64 F.SHD_CTX_MODEL_LO_model F.SHD_CTX_MODEL_HI_model (0x20 * c)

/-- LOAD_SHARD refused, its entry read (R308). (DEDUCED: log entry 67) -/
def State.shardRefusal (s : State) (r : ShardRec) (b : ShardBind) : Option Nat :=
  let c := r.ctx
  let dst := s.shardDst c r.tier b.offset
  firstOf [
    (s.bindBad b, St.format),
    (decide (16 ≤ c) || s.sourceBad r.source r.srcAddr || decide (b.offset % 256 ≠ 0) || decide (b.length % 256 ≠ 0) || decide (2 ^ 32 < b.length) ||
      decide (s.weightLen c < b.offset + b.length), St.range),
    ((decide (s.resState c = 0) && decide (s.weightPages c = 0)) || (decide (r.tier = 1) && (decide (s.resState c = 1) || decide (s.resState c = 2))) ||
      (decide (r.tier = 2) && decide (s.resState c = 2)) || (decide (b.format = 2) && decide (s.ctxModel c ≠ 0) && decide (b.modelId ≠ s.ctxModel c)) ||
      s.loadHeld r.tier dst b.length, St.state),
    (decide (b.length ≠ 0) && (decide (32 ≤ s.shd.loads.length) || decide (16384 ≤ s.shdUsed.length) || (decide (r.tier = 1) && s.shareTaken c)), St.busy)]

/-! ### Reading the payload (R311, R362) -/

/-- A load's queue pair. -/
def Load_qp (l : Load) : Option (Nat × Nat) := LoadSource_qp l.src

/-- Whether a load is the first of its queue pair, which serves one at a time. -/
def State.loadActive (s : State) (l : Load) : Bool :=
  match Load_qp l with
  | none => true
  | some q => match s.shd.loads.find? fun x => Load_qp x = some q with
    | some x => x.id = l.id
    | none => false

/-- Changes a load. -/
def State.modLoad (s : State) (id : Nat) (g : Load → Load) : State :=
  { s with shd := { s.shd with loads := s.shd.loads.map fun (l : Load) => if l.id = id then g l else l } }

/-- READ requests of a load, at most `n`, each of at most 1 MiB. -/
def rdmaReads (p q key id : Nat) : Nat → State → State
  | 0, s => s
  | n + 1, s =>
    match s.shd.loads.find? fun l => l.id = id with
    | none => s
    | some l =>
      let k := min 0x100000 (l.len - l.asked)
      if k = 0 then s
      else rdmaReads p q key id n ((s.emit (.rdma p q 0 [l.addr + l.asked, k, key])).modLoad id fun l => { l with asked := l.asked + k })

/-- A load asks for more of its payload where it may: up to 16 READs outstanding on an unpaused queue pair that is in
RTS, or one bulk read of at most 1 MiB. A queue pair that has left RTS fails it. (DEDUCED: log entry 67) -/
def pumpLoad (s : State) (l : Load) : State :=
  if l.failed || !s.loadActive l then s
  else match l.src with
    | .storage p q key =>
      if s.qpState p q ≠ 1 then s.failLoad l.id
      else if (s.ethPort p).paused then s
      else rdmaReads p q key l.id (16 - ceilDiv (l.asked - l.landed) 0x100000) s
    | .fabric =>
      if l.asked ≠ l.landed ∨ l.asked = l.len then s
      else
        let k := min 0x100000 (l.len - l.asked)
        (s.modLoad l.id fun l => { l with asked := l.asked + k }).newReq
          ⟨6, l.addr / 2 ^ 56, l.addr + l.asked, k, s.self * 2 ^ 56 + l.tier * 2 ^ 52 + l.dst + l.asked, 0, .load l.id l.asked, s.us, 0, false, 0, false, []⟩
    | _ => s.modLoad l.id fun l => { l with asked := l.len }

/-- Every load asks for what it may. -/
def pumpLoads (s : State) : State := s.shd.loads.foldl (fun s l => match s.shd.loads.find? fun x => x.id = l.id with
  | some x => pumpLoad s x
  | none => s) s

/-- Bytes of a payload arrive in order: written at the destination, held for their hash. -/
def landBytes (l : Load) (bs : List Byte) (s : State) : State :=
  let bs := bs.take (l.asked - l.landed)
  (s.twrite l.tier (l.dst + l.landed) bs).landed l.id bs

/-! ### LOAD_SHARD and FETCH accepted (R309, R314) -/

/-- The lowest FREE entry of the shard table. -/
def State.freeEntry (s : State) : Nat :=
  let u := s.shdUsed
  ((List.range (u.length + 1)).find? fun i => !u.contains i).getD 0

/-- The entries of a context and tier that a range overlaps. -/
def State.shardsOver (s : State) (c tier off n : Nat) : List Nat :=
  s.shdUsed.filter fun i => decide (s.shdGet i 113 1 = c + 16 * tier) && overlap (s.shdGet i 24 8) (s.shdGet i 32 8) off n

/-- An accepted load (R309). -/
def acceptShard (o : CmdOrigin) (r : ShardRec) (e : List Byte) (s : State) : State :=
  let b := bindOf e
  let s := (s.shardsOver r.ctx r.tier b.offset b.length).foldl (fun s i => s.shdPut i 112 [0]) s
  let i := s.freeEntry
  let s := s.shdPut i 0 (slice e 0 112 ++ toBytes 1 1 ++ toBytes 1 (r.ctx + 16 * r.tier) ++ List.replicate 14 0)
  let l : Load := ⟨s.shd.next, o, 0x40, r.ctx, r.tier, s.shardDst r.ctx r.tier b.offset, b.length, i, 0, r.source, r.srcAddr, decide (b.format = 2), 0, 0, [], [],
    false, 0⟩
  pumpLoads (({ s with shd := { s.shd with next := s.shd.next + 1, loads := s.shd.loads ++ [l] } } : State).settle o 0x40)

/-- LOAD_SHARD goes on once its entry is read. -/
def shardEntry (o : CmdOrigin) (r : ShardRec) (e : List Byte) (s : State) : State :=
  let b := bindOf e
  orElse o 0x40 (s.shardRefusal r b) (fun s => if b.length = 0 then s.complete o 0x40 St.done else acceptShard o r e s) s

/-- LOAD_SHARD: an entry in tier 1 is read at once, one in host memory is asked for. (DEDUCED: log entry 67) -/
def loadShard (o : CmdOrigin) (r : ShardRec) (s : State) : State :=
  orElse o 0x40 (s.shardEarly r) (fun s =>
    if r.entryAddr / 2 ^ 63 = 1 then
      let a := r.entryAddr % 2 ^ 48
      let s := s.tread 1 a 128
      if s.mem.poisoned 1 a 128 then s.complete o 0x40 St.uncorrected else shardEntry o r (s.mem.read 1 a 128) s
    else { s with shd := { s.shd with next := s.shd.next + 1, asks := kset s.shd.asks s.shd.next (o, r) } }) s

/-- LOAD_SHARD (R309). -/
def execLoadShard (o : CmdOrigin) (r : ShardRec) (s : State) : Out := .next (s.on fun s => s.engine o 0x40 (loadShard o r))

/-- FETCH refused (R314). -/
def State.fetchRefusal (s : State) (r : FetchRec) : Option Nat :=
  firstOf [
    (s.portDown r.source || !s.shdReady, St.notReady),
    (r.rsv || decide (r.source = .reserved) || decide (r.source = .hostMem), St.format),
    (s.sourceBad r.source r.srcAddr || decide (r.dst % 256 ≠ 0) || decide (r.length % 256 ≠ 0) || decide (2 ^ 30 < r.length) || decide (r.digestAddr % 8 ≠ 0) ||
      !s.inSpace 1 r.dst r.length || !s.inSpace 1 r.digestAddr 48 || overlap r.dst r.length r.digestAddr 48, St.range),
    (s.loadHeld 1 r.dst r.length ||
      ((List.range 16).any fun c => decide (2 ≤ s.resState c) && overlap (s.shareBase c) (s.weightLen c) r.dst r.length), St.state),
    (decide (r.length ≠ 0) && decide (32 ≤ s.shd.loads.length), St.busy)]

/-- FETCH checked and started. (DEDUCED: log entry 67) -/
def fetch (o : CmdOrigin) (r : FetchRec) (s : State) : State :=
  orElse o 0x42 (s.fetchRefusal r) (fun s =>
    if r.length = 0 then s.complete o 0x42 St.done
    else
      let l : Load := ⟨s.shd.next, o, 0x42, 16, 1, r.dst, r.length, 0, r.digestAddr, r.source, r.srcAddr, true, 0, 0, [], [], false, 0⟩
      pumpLoads (({ s with shd := { s.shd with next := s.shd.next + 1, loads := s.shd.loads ++ [l] } } : State).settle o 0x42)) s

/-- FETCH (R314). -/
def execFetch (o : CmdOrigin) (r : FetchRec) (s : State) : Out := .next (s.on fun s => s.engine o 0x42 (fetch o r))

/-! ### The storage transport (R311, R490 to R492) -/

/-- The load a queue pair serves. -/
def State.qpLoad (s : State) (p q : Nat) : Option Load := s.shd.loads.find? fun l => Load_qp l = some (p, q)

/-- A load's transport fails; the queue pair enters ERROR. -/
def transportFail (p q : Nat) (l : Load) (s : State) : State := pumpLoads ((s.failLoad l.id).setQpState p q 2)

/-- A CNP for a response with ECN CE, at most once per 50 µs. -/
def sendCnp (p q : Nat) (s : State) : State :=
  let x := s.qp p q
  if since50 s.us x.cnpSent then (s.setQp p q { x with cnpSent := some s.us }).emit (.rdma p q 1 []) else s

/-- RDMA_READ_RESPONSE (R311). -/
def rdmaResponse (r : RdmaResp) (s : State) : State :=
  match s.qpLoad r.port r.qp with
  | none => s
  | some l =>
    if !r.icrcOk || s.qpState r.port r.qp ≠ 1 || decide (l.asked ≤ l.landed) || l.failed then s
    else if r.nak then transportFail r.port r.qp l s
    else
      let s := if r.ecnCe then sendCnp r.port r.qp s else s
      pumpLoads (landBytes l r.data (s.bump (C.ETH_P_RX_PAYLOAD + 0x10000 * r.port) (r.data.length / 256)))

/-- RDMA_READ_RESPONSE (R311). -/
def execRdmaReadResponse (r : RdmaResp) (s : State) : Out := .next (s.on fun s => rdmaResponse r s)

/-- RDMA_ACK_TIMEOUT (R311): the READs not answered are issued again, up to retry_cnt times. -/
def rdmaAckTimeout (p q : Nat) (s : State) : State :=
  match s.qpLoad p q with
  | none => s
  | some l =>
    if l.asked ≤ l.landed ∨ l.failed then s
    else if l.retry < bits (s.rd (qpOff p q 0)) 13 11 then pumpLoads (s.modLoad l.id fun l => { l with asked := l.landed, retry := l.retry + 1 })
    else transportFail p q l s

/-- RDMA_ACK_TIMEOUT (R311). -/
def execRdmaAckTimeout (p q : Nat) (s : State) : Out := .next (s.on fun s => rdmaAckTimeout p q s)

/-- INCOMING_RDMA_REQUEST (R311): answered with a remote-access-error NAK, and counted as no response (R490). (DEDUCED: log entry 69) -/
def execIncomingRdmaRequest (p q : Nat) (s : State) : Out :=
  .next (s.on fun s => if p < 2 ∧ q < 64 then (s.emit (.rdma p q 2 [])).bump (C.ETH_P_DISCARDED + 0x10000 * p) else s)

/-- A PFC frame pauses or resumes transmission on the one priority the port's registers name (R490). -/
def pfcFrame (p prio : Nat) (pause : Bool) (s : State) : State :=
  if p < 2 ∧ s.fld F.ETH_P_CTRL_pfc_prio (0x10000 * p) = prio ∧ s.flag F.ETH_P_CTRL_pfc_en (0x10000 * p) then
    let s := { s with eth := s.eth.set p { s.ethPort p with paused := pause } }
    if pause then s else pumpLoads s
  else s

/-- PFC_PAUSE_FRAME (R490). -/
def execPfcPauseFrame (p prio : Nat) (pause : Bool) (s : State) : Out := .next (s.on fun s => pfcFrame p prio pause s)

/-- QP_TO_RESET (R491): refused with REJ_STATE while the queue pair serves a load. -/
def qpToReset (org : Originator) (p q : Nat) (s : State) : State :=
  if p < 2 ∧ q < 64 then
    s.gated org (qpOff p q 0) fun s =>
      if (s.qpLoad p q).isSome then s.setQpStatus p q St.state else (s.setQpStatus p q St.done).setQpState p q 0
  else s

/-- QP_TO_RESET (R491). -/
def execQpToReset (org : Originator) (p q : Nat) (s : State) : Out := .next (s.on fun s => qpToReset org p q s)

/-! ### Bulk reads served (R362) -/

/-- The flits of 256 bytes of a range that hold a poisoned line. -/
def State.poisonFlits (s : State) (sp off n : Nat) : List Nat :=
  (List.range (ceilDiv n 256)).filter fun i => s.mem.poisoned sp (off + 256 * i) (min 256 (n - 256 * i))

/-- Answers a BULK_READ: BULK_DATA of at most 4 KiB each, then the RESPONSE of kind 3. -/
def answerBulk (s : State) (x : PktHdr × BulkReq) : State :=
  let h := x.1
  let r := x.2
  let sp := bits r.addr 55 52
  let off := r.addr % 2 ^ 52
  let bs := s.mem.read sp off r.len
  let bad := s.mem.poisoned sp off r.len
  let s := s.tread sp off r.len
  let s := (List.range (ceilDiv r.len 4096)).foldl (fun s i =>
    let d := slice bs (4096 * i) 4096
    s.post (s.header346 h.src 0x07 h.rtag h.job (1 + ceilDiv d.length 256)) (.bulk ⟨r.addr, d.length, r.retAddr, 4096 * i, d, s.poisonFlits sp (off + 4096 * i) d.length⟩)) s
  let s := s.post (s.header346 h.src 0x04 h.rtag h.job 1) (.resp ⟨if bad then St.uncorrected else St.done, 3, r.addr, 0, [], bad⟩)
  s.performed h.src s.self 4 h.seq

/-- The BULK_READs whose data is no longer held are answered. -/
def serveBulks (s : State) : State :=
  let ok := fun (x : PktHdr × BulkReq) => !s.readHeld (bits x.2.addr 55 52) (x.2.addr % 2 ^ 52) x.2.len
  (s.fab.bulks.filter ok).foldl answerBulk { s with fab := { s.fab with bulks := s.fab.bulks.filter fun x => !ok x } }

/-! ### Completion (R306, R310, R317) -/

/-- CHUNK_HASH_DONE (R306): the next chunk of a native load is hashed once all its bytes have landed. -/
def chunkHashDone (id : Nat) (s : State) : State :=
  match s.shd.loads.find? fun l => l.id = id with
  | none => s
  | some l =>
    let n := min chunkBytes (l.len - chunkBytes * l.sums.length)
    if l.op = 0x40 ∧ l.native ∧ n ≠ 0 ∧ n ≤ l.buf.length then
      s.modLoad id fun l => { l with sums := l.sums ++ [Config.sha384 (l.buf.take n)], buf := l.buf.drop n }
    else s

/-- CHUNK_HASH_DONE (R306). -/
def execChunkHashDone (id : Nat) (s : State) : Out := .next (s.on fun s => chunkHashDone id s)

/-- A load leaves: its requests go, the next load of its queue pair begins, and reads held for it are served. -/
def endLoad (id : Nat) (s : State) : State :=
  let mine := fun (r : FabReq) => match r.use with
    | .load i _ => decide (i = id)
    | _ => false
  let s := { s with shd := { s.shd with loads := s.shd.loads.filter fun l => l.id ≠ id },
                    fab := { s.fab with reqs := s.fab.reqs.filter fun e => !mine e.2 } }
  serveBulks (pumpLoads s)

/-- The destination rewritten poisoned (R310). -/
def poisonRange (sp off n : Nat) (s : State) : State :=
  let s := { s with mem := s.mem.markPoison sp off n }
  s.bump (if sp = 1 then C.TIER_T1_WRITE else C.TIER_T2_WRITE) (lineCount off n)

/-- The shard's event: unit the entry, d0 the model, d1 the shard. -/
def State.shardEvent (s : State) (code i c : Nat) (st : Nat := 0) : State := s.raise code i c (s.shdGet i 8 8) (s.shdGet i 16 8) st

/-- SHARD_LOAD_COMPLETE (R310, R317). (DEDUCED: log entry 67) -/
def shardComplete (l : Load) (s : State) : State :=
  let i := l.entry
  if l.failed then
    let s := (poisonRange l.tier l.dst l.len (s.shdPut i 112 [0])).shardEvent E.shardTransport i l.ctx St.uncorrected
    endLoad l.id ((s.bump C.SHD_TRANSPORT_FAIL).complete l.org 0x40 St.uncorrected)
  else if !l.native then
    let s := ((s.shdPut i 112 [4]).shardEvent E.unverifiedShard i l.ctx).bump C.SHD_UNVERIFIED
    endLoad l.id ((s.bump C.SHD_LOADS).complete l.org 0x40 St.degraded)
  else if shardDigest (s.mem.read 1 (s.shdBase + 128 * i) 64) l.sums = s.shdGet i 64 48 then
    endLoad l.id ((((s.shdPut i 112 [2]).shdPut i 120 (toBytes 8 s.ms)).bump C.SHD_LOADS).complete l.org 0x40 St.done)
  else
    let s := (poisonRange l.tier l.dst l.len (s.shdPut i 112 [0])).shardEvent E.shardDigest i l.ctx St.integrity
    endLoad l.id ((s.bump C.SHD_DIGEST_FAIL).complete l.org 0x40 St.integrity)

/-- Whether a load's payload has landed and been hashed. -/
def Load_ready (l : Load) : Bool :=
  l.failed || (decide (l.landed = l.len) && (decide (l.op = 0x42) || !l.native || decide (l.sums.length = ceilDiv l.len chunkBytes)))

/-- SHARD_LOAD_COMPLETE (R310). -/
def execShardLoadComplete (id : Nat) (s : State) : Out :=
  .next (s.on fun s => match s.shd.loads.find? fun l => l.id = id with
    | some l => if l.op = 0x40 ∧ Load_ready l then shardComplete l s else s
    | none => s)

/-- FETCH_COMPLETE (R314): the run's digest against the one in tier 1; a poisoned digest cannot be read. -/
def fetchComplete (l : Load) (s : State) : State :=
  let bad := l.failed || s.mem.poisoned 1 l.digestAt 48
  let st := if bad then St.uncorrected else if Config.sha384 l.buf = s.mem.le 1 l.digestAt 48 then St.done else St.integrity
  let s := if st = St.done then s else (poisonRange 1 l.dst l.len s).raise E.fetchFailed (d0 := l.dst) (d1 := st) (status := st)
  endLoad l.id (s.complete l.org 0x42 st)

/-- FETCH_COMPLETE (R314). -/
def execFetchComplete (id : Nat) (s : State) : Out :=
  .next (s.on fun s => match s.shd.loads.find? fun l => l.id = id with
    | some l => if l.op = 0x42 ∧ Load_ready l then fetchComplete l s else s
    | none => s)

/-! ### Scrub (R315, R316) -/

/-- The first VALID entry at index `i` or above. -/
def State.nextValid (s : State) (i : Nat) : Option Nat :=
  (s.shdUsed.filter fun j => decide (i ≤ j) && decide (s.shdGet j 112 1 = 2)).foldl (fun a j => match a with
    | none => some j
    | some k => some (min j k)) none

/-- A pass begins. -/
def startPass (s : State) : State := { s with shd := { s.shd with scrub := s.nextValid 0, due := false } }

/-- SHARD_SCRUB_PASS (R315): a pass starts; while one runs it is overrun, once, and the next waits. -/
def shardScrubPass (s : State) : State :=
  if !s.flag F.SHD_SCRUB_enable then s
  else if s.shd.scrub.isNone then startPass s
  else
    let s := (s.setFld F.SHD_STATUS_overrun 1).raise E.scrubOverrun
    { s with shd := { s.shd with due := true } }

/-- SHARD_SCRUB_PASS (R315). -/
def execShardScrubPass (s : State) : Out := .next (s.on fun s => shardScrubPass s)

/-- The copies of an entry at rest, as (tier, offset): the one it names, and the share of a context promoted from tier 2. -/
def State.shardCopies (s : State) (i : Nat) : List (Nat × Nat) :=
  let c := s.shdGet i 113 1 % 16
  let t := s.shdGet i 113 1 / 16
  let off := s.shdGet i 24 8
  (t, s.shardDst c t off) ::
    (if t = 2 ∧ s.resState c = 3 ∧ s.fld F.RES_CTX_STATE_home (0x80 * c) = 2 then [(1, s.shardDst c 1 off)] else [])

/-- What the check of a copy finds: 0 good, 1 a mismatch, 2 an uncorrected line. -/
def State.copyFault (s : State) (i : Nat) (p : Nat × Nat) : Nat :=
  let n := s.shdGet i 32 8
  if s.mem.poisoned p.1 p.2 n then 2
  else if shardDigest (s.mem.read 1 (s.shdBase + 128 * i) 64) (chunkSums (ceilDiv n chunkBytes) (s.mem.read p.1 p.2 n)) = s.shdGet i 64 48 then 0
  else 1

/-- A copy checked, poisoned where it fails; answers the reason kept so far. -/
def checkCopy (i : Nat) (a : Nat × State) (p : Nat × Nat) : Nat × State :=
  let n := a.2.shdGet i 32 8
  let s := (a.2.tread p.1 p.2 n).bump C.SHD_SCRUB_BYTES (n / 256)
  let f := s.copyFault i p
  if f = 0 then (a.1, s) else (if a.1 = 0 then f else a.1, poisonRange p.1 p.2 n s)

/-- One entry checked (R316). (DEDUCED: log entry 67) -/
def scrubEntry (i : Nat) (s : State) : State :=
  let a := (s.shardCopies i).foldl (checkCopy i) (0, s)
  if a.1 = 0 then a.2.shdPut i 120 (toBytes 8 s.ms)
  else
    let s := (((a.2.shdPut i 112 [3]).shdPut i 114 (toBytes 1 a.1)).bump C.SHD_SCRUB_FAIL).shardEvent E.scrubBad i (s.shdGet i 113 1 % 16)
    if s.shd.bad.length < 64 then { s with shd := { s.shd with bad := s.shd.bad ++ [i] } } else s

/-- The pass goes on to the next VALID entry, or ends; one that was due then starts. -/
def scrubOn (i : Nat) (s : State) : State :=
  match s.nextValid (i + 1) with
  | some j => { s with shd := { s.shd with scrub := some j } }
  | none => if s.shd.due then startPass s else { s with shd := { s.shd with scrub := none } }

/-- SHARD_SCRUB_CHECK (R315, R316): an entry that is no longer VALID is abandoned; reads held by a load wait. -/
def shardScrubCheck (s : State) : State :=
  match s.shd.scrub with
  | none => s
  | some i =>
    if s.shdGet i 112 1 ≠ 2 then scrubOn i s
    else if (s.shardCopies i).any fun p => s.readHeld p.1 p.2 (s.shdGet i 32 8) then s.bump C.SHD_HELD_READS
    else scrubOn i (scrubEntry i s)

/-- SHARD_SCRUB_CHECK (R316). -/
def execShardScrubCheck (s : State) : Out := .next (s.on fun s => if s.scrubPaused then s else shardScrubCheck s)

/-- The value of SHD_BAD. -/
def State.badWord (s : State) : Nat :=
  match s.shd.bad with
  | i :: _ => i + 2 ^ 31
  | [] => 0

/-- SHD_BAD_READ (R323): the oldest BAD entry is returned and popped. -/
def shdBadRead (org : Originator) (s : State) : State :=
  if s.mayRead org 0x1500014 then
    if s.served 0x1500014 then
      ({ s with shd := { s.shd with bad := s.shd.bad.drop 1 } }.setLatch org 0x1500014 0).emit (.readData org 0x1500014 s.badWord)
    else (s.setLatch org 0x1500014 0).emit (.readData org 0x1500014 0)
  else s

/-- SHD_BAD_READ (R323). -/
def execShdBadRead (org : Originator) (s : State) : Out := .next (s.on fun s => shdBadRead org s)

/-! ### Device reads of host memory (R479) -/

/-- The next host address of a load's payload. -/
def Load_at (l : Load) : Nat := l.addr + l.landed

/-- Host memory holds what a completion brought. -/
def State.hostHolds (s : State) (a : Nat) (bs : List Byte) : State := { s with mem := { s.mem with host := cellsWrite 0 s.mem.host a bs } }

/-- The prefill entry of a slot in a step built and not launched. -/
def State.promptEntry (s : State) (n : Nat) : Option StepEnt :=
  match (s.series (s.sctx n) 1).built with
  | some x => if x.phase = 0 then x.ents.find? fun e => decide (e.slot = n) && !e.dead else none
  | none => none

/-- HOST_READ_TIMEOUT (R479): the data counts as poisoned, and the operation that needed it ends with ERR_UNCORRECTED. (DEDUCED: log entry 69) -/
def hostReadTimeout (u : HostReadUse) (s : State) : State :=
  match u with
  | .sqEntry n => sqFetch n false s
  | .prompt n =>
    let s := s.bump C.HST_CPL_TIMEOUT
    match s.promptEntry n with
    | some _ => failPrompt (s.modStep (s.sctx n) 1 fun x => { x with ents := x.ents.filter fun e => e.slot ≠ n }) n
    | none => s
  | .manifest id =>
    let s := s.bump C.HST_CPL_TIMEOUT
    match kget s.shd.asks id with
    | some (o, _) => ({ s with shd := { s.shd with asks := kdel s.shd.asks id } } : State).complete o 0x40 St.uncorrected
    | none => s
  | .payload id =>
    let s := s.bump C.HST_CPL_TIMEOUT
    match s.shd.loads.find? fun l => decide (l.id = id) && decide (l.src = .hostMem) with
    | some l => s.failLoad l.id
    | none => s
  | .other => s.bump C.HST_CPL_TIMEOUT

/-- HOST_READ_TIMEOUT (R479). -/
def execHostReadTimeout (u : HostReadUse) (s : State) : Out := .next (s.on fun s => hostReadTimeout u s)

/-- HOST_READ_COMPLETION (R479): what it brings is what host memory holds at the address read. (DESIGN CHOICE: log entry 68) -/
def hostReadCompletion (u : HostReadUse) (data : List Byte) (s : State) : State :=
  match u with
  | .sqEntry n =>
    if s.fetchPick = some n then sqFetch n true (s.hostHolds ((s.sq n).base + 128 * s.fld F.HQ_SQ_STATUS_head (qdi n)) (data.take 128)) else s
  | .prompt n =>
    match s.promptEntry n with
    | some e =>
      let a := s.sget n D.promptAddr + 4 * (e.first - s.sget n D.promptBase)
      if a / 2 ^ 63 = 0 then s.hostHolds a (data.take (4 * e.k)) else s
    | none => s
  | .manifest id =>
    match kget s.shd.asks id with
    | some (o, r) =>
      let s := ({ s with shd := { s.shd with asks := kdel s.shd.asks id } } : State).hostHolds r.entryAddr (data.take 128)
      shardEntry o r (padTo 128 (data.take 128)) s
    | none => s
  | .payload id =>
    match s.shd.loads.find? fun l => decide (l.id = id) && decide (l.src = .hostMem) with
    | some l => if l.failed then s else landBytes l data (s.hostHolds (Load_at l) (data.take (l.asked - l.landed)))
    | none => s
  | .other => s

/-- HOST_READ_COMPLETION (R479). -/
def execHostReadCompletion (u : HostReadUse) (data : List Byte) (s : State) : Out := .next (s.on fun s => hostReadCompletion u data s)

end Sys2Proof.Machine
end

