-- ==== Sys2Proof/Machine/Fabric.lean ====
section
/-!
DEFINITION. Packets at their destination: loads, stores and atomics (R351 to R354, R358), gateways (R359 to R361), bulk
transfers (R362), answers, time-outs and retries (R352, R363, R364), acknowledgements and fences (R350, R357), and
teardown (R365 to R367).
-/
namespace Sys2Proof.Machine

/-! ### Requests checked (R35, R354) -/

/-- Whether the target space has finished start-up. -/
def State.spaceReady (s : State) (sp : Nat) : Bool := decide (sp ≠ 2) || s.boot.t2Done

/-- Whether `n` bytes at an offset exist in a space of R35; tier 2 before its training counts with the capacity named. (DEDUCED: log entry 66) -/
def State.offsetOk (s : State) (sp off n : Nat) : Bool :=
  if sp = 3 then decide (off + n ≤ 0x4000000)
  else if sp = 2 && !s.boot.t2Done then decide (off + n ≤ t2CapOf s.boot.t2Code)
  else s.inSpace sp off n

/-- The checks of R35, in the order of its fields. (DEDUCED: log entry 74) -/
def State.addrRefusal (s : State) (addr n : Nat) : Option Nat :=
  if addr / 2 ^ 56 ≠ s.self then some St.range
  else if 4 ≤ bits addr 55 52 then some St.format
  else if !s.offsetOk (bits addr 55 52) (addr % 2 ^ 52) n then some St.range
  else none

/-- Whether an ATOMIC's operation, width and alignment are listed (R353). -/
def atomicOk (aop len addr : Nat) : Bool :=
  decide (1 ≤ aop) && decide (aop ≤ 0xB) && (decide (len = 4) || (decide (len = 8) && decide (aop ≠ 2))) && decide (addr % len = 0)

/-- Whether an operation stores nothing but waits for its space (R354). -/
def waitsForSpace (ptype : Nat) : Bool := decide (ptype = 2) || decide (ptype = 5)

/-- A LOAD, STORE or ATOMIC refused (R35, R354). (DEDUCED: log entry 74) -/
def State.memRefusal (s : State) (h : PktHdr) (r : MemReq) : Option Nat :=
  let sp := bits r.addr 55 52
  let off := r.addr % 2 ^ 52
  match s.addrRefusal r.addr r.len with
  | some st => some st
  | none => firstOf [
      (!waitsForSpace h.ptype && !s.spaceReady sp, St.notReady),
      (decide (sp = 3) && !(if h.ptype = 1 then s.mayRead (.remote h.src) off else s.mayWrite (.remote h.src) off), St.auth),
      (r.rsv || (decide (h.ptype = 3) && decide (r.len ≠ 0) && (!atomicOk r.aop r.len r.addr || decide (sp = 3))) || (decide (h.ptype ≠ 3) && (decide (r.aop ≠ 0) || r.noReturn)), St.format),
      (decide (256 < r.len) || decide (256 < r.addr % 256 + r.len), St.range)]

/-- A bulk request refused (R354, R362). (DEDUCED: log entry 73) -/
def State.bulkRefusal (s : State) (h : PktHdr) (r : BulkReq) : Option Nat :=
  let sp := bits r.addr 55 52
  match s.addrRefusal r.addr r.len with
  | some st => some st
  | none => firstOf [
      (!waitsForSpace h.ptype && !s.spaceReady sp, St.notReady),
      (!(decide (sp = 1) || decide (sp = 2)) || decide (r.addr % 256 ≠ 0) || decide (r.len % 256 ≠ 0) ||
        decide ((if h.ptype = 5 then 4096 else 0x100000) < r.len), St.range)]

/-! ### Answers (R352, R361) -/

/-- The kind of a RESPONSE to a request. -/
def respKind (ptype : Nat) (noReturn : Bool) : Nat :=
  if ptype = 1 then 0 else if ptype = 6 then 3 else if ptype = 3 then (if noReturn then 2 else 1) else 2

/-- An answer goes to the requester: as a RESPONSE packet, or, for an entry this gateway performs on its own package, as an
entry to the near gateway. -/
def respond (h : PktHdr) (b : RespBody) (s : State) : State :=
  if h.src ≠ s.self then s.post (s.header346 h.src 0x04 h.rtag h.job (dataFlits b.data.length)) (.resp b)
  else match kget s.fab.reqs h.rtag with
    | some r => match r.use with
      | .gateway x e => ({ s with fab := { s.fab with reqs := kdel s.fab.reqs h.rtag } } : State).addEntry x 1 (answerEntry 0x81 b.status b.old b.data e)
      | .load _ _ => s
    | none => s

/-- An operation is performed: acknowledged to its source, or its PERFORMED entry goes back (R350, R361). -/
def doneOp (h : PktHdr) (s : State) : State :=
  if h.src ≠ s.self then s.performed h.src s.self (clsOf h.ptype) h.seq
  else match kget s.fab.reqs h.rtag with
    | some r => match r.use with
      | .gateway x e => ({ s with fab := { s.fab with reqs := kdel s.fab.reqs h.rtag } } : State).addEntry x 1 (answerEntry 0x82 0 0 [] e)
      | .load _ _ => s
    | none => s

/-- The home agent's input of a requester: the group port toward it, 8 for another group, 12 for this package. (DEDUCED: log entry 30) -/
def State.homeInput (s : State) (src : Nat) : Nat :=
  if src = s.self then 12 else if src / 9 = s.self / 9 then groupPort s.me (src % 9) else 8

/-- The first byte and the length an operation reaches. -/
def HomeOp_span : HomeOp → Nat × Nat
  | .mem _ r => (r.addr, r.len)
  | .bulk _ r => (r.addr, r.len)

/-- The operations waiting for a line. -/
def State.lineDepth (s : State) (a : Nat) : Nat :=
  (s.fab.home.map fun e => (e.2.filter fun o => overlap (HomeOp_span o).1 (HomeOp_span o).2 (a / 64 * 64) 64).length).foldl (· + ·) 0

/-- R358: a line with more operations waiting than the threshold. -/
def hotLine (a : Nat) (s : State) : State :=
  let d := s.lineDepth a
  if d ≤ s.fld F.FAB_HOT_threshold then s
  else
    let off := a % 2 ^ 52 / 64 * 64
    let s := if s.flag F.FAB_HOT_LINE_HI_valid then s.setFld F.FAB_HOT_DEPTH_peak (satBits 16 (max d (s.fld F.FAB_HOT_DEPTH_peak)))
      else (((s.wr F.FAB_HOT_LINE_LO_line.off (off % 2 ^ 32)).setFld F.FAB_HOT_LINE_HI_line (off / 2 ^ 32)).setFld F.FAB_HOT_LINE_HI_space (bits a 55 52)).setFld F.FAB_HOT_LINE_HI_valid 1
        |>.setFld F.FAB_HOT_DEPTH_peak (satBits 16 d)
    if s.fab.hotAt = some s.ms then s
    else (({ s with fab := { s.fab with hotAt := some s.ms } } : State).bump C.FAB_HOT_EVENTS).raise E.hotSpot (d0 := off) (d1 := bits a 55 52)

/-- An operation joins the home agent's queue of an input (R355). -/
def toHome (o : HomeOp) (src : Nat) (s : State) : State :=
  let i := s.homeInput src
  hotLine (HomeOp_span o).1 { s with fab := { s.fab with home := kmod s.fab.home i [] (· ++ [o]) } }

/-- A refused MMIO access of a remote package is counted, and a refused write raises the register-access event (R456,
R457). (DEDUCED: log entry 30) -/
def remoteRefused (h : PktHdr) (r : MemReq) (st : Nat) (s : State) : State :=
  if st ≠ St.auth then s
  else
    let s := s.bump C.SEC_REMOTE_REFUSED
    if h.ptype = 1 then s else s.accessEvent (.remote h.src) (r.addr % 2 ^ 26) 5

/-- Bulk data written at a global address: the flits marked poisoned leave their lines poisoned (R550). -/
def State.bulkInto (s : State) (addr : Nat) (r : BulkReq) : State :=
  let s := s.twrite (bits addr 55 52) (addr % 2 ^ 52) r.data
  r.poison.foldl (fun s i => { s with mem := s.mem.markPoison (bits addr 55 52) (addr % 2 ^ 52 + 256 * i) (slice r.data (256 * i) 256).length }) s

/-- A request taken at its destination: refused, done where it is empty, or handed to the home agent. -/
def takeMem (h : PktHdr) (r : MemReq) (s : State) : State :=
  match s.memRefusal h r with
  | some st => doneOp h (respond h ⟨st, respKind h.ptype r.noReturn, r.addr, 0, [], false⟩ (remoteRefused h r st s))
  | none =>
    if r.len = 0 then
      doneOp h (if h.ptype = 2 ∨ (h.ptype = 3 ∧ r.noReturn) then s else respond h ⟨St.done, respKind h.ptype false, r.addr, 0, [], false⟩ s)
    else toHome (.mem h r) h.src s

/-- A request for another group's package at its near gateway (R359): it joins the batch to the far gateway, and this
gateway takes the destination's part. -/
def takeNear (h : PktHdr) (ptype : Nat) (r : MemReq) (s : State) : State :=
  match s.pairLink h.src h.dst with
  | none => s
  | some (m, q) =>
    if m ≠ s.me ∨ h.src / 9 ≠ s.self / 9 then s
    else
      let a := admitPkt h ptype h.dst s
      if a.1 then
        ({ a.2 with fab := { a.2.fab with near := a.2.fab.near ++ [h] } } : State).addEntry (a.2.fld F.FAB_P_PEER_package (pdi q)) 0 (entryOf h r)
      else a.2

/-- A LOAD, STORE or ATOMIC packet. -/
def memPacket (ptype : Nat) (h : PktHdr) (r : MemReq) (s : State) : State :=
  if h.dst = s.self then
    let a := admitPkt h ptype s.self s
    if a.1 then takeMem h r a.2 else a.2
  else if h.dst / 9 ≠ s.self / 9 ∧ h.dst < 144 then takeNear h ptype r s
  else s

/-- LOAD (R354). -/
def execFabLoad (h : PktHdr) (r : MemReq) (s : State) : Out := .next (s.on fun s => memPacket 1 h r s)

/-- STORE (R354). -/
def execFabStore (h : PktHdr) (r : MemReq) (s : State) : Out := .next (s.on fun s => memPacket 2 h r s)

/-- ATOMIC (R353). -/
def execFabAtomic (h : PktHdr) (r : MemReq) (s : State) : Out := .next (s.on fun s => memPacket 3 h r s)

/-! ### Atomics (R353) -/

/-- A number of `n` bytes as two's complement. -/
def asSigned (n v : Nat) : Int := if v < 2 ^ (8 * n - 1) then v else (v : Int) - 2 ^ (8 * n)

/-- The value an ATOMIC leaves: operation, width, previous value, opnd0 and opnd1. -/
def atomicNew (aop n v a b : Nat) : Nat :=
  let m := 2 ^ (8 * n)
  let a := a % m
  let b := b % m
  match aop with
  | 1 => (v + a) % m
  | 2 => fadd v a
  | 3 => a
  | 4 => if v = b then a else v
  | 5 => if asSigned n a < asSigned n v then a else v
  | 6 => if asSigned n v < asSigned n a then a else v
  | 7 => min v a
  | 8 => max v a
  | 9 => v &&& a
  | 10 => v ||| a
  | _ => v ^^^ a

/-! ### Bulk transfers (R362) -/

/-- BULK_WRITE (R362): its data goes to the home agent. -/
def bulkWrite (h : PktHdr) (r : BulkReq) (s : State) : State :=
  if h.dst ≠ s.self then s
  else
    let a := admitPkt h 5 s.self s
    if !a.1 then a.2
    else match a.2.bulkRefusal h r with
      | some st => doneOp h (respond h ⟨st, 2, r.addr, 0, [], false⟩ a.2)
      | none => if r.len = 0 then doneOp h a.2 else toHome (.bulk h r) h.src a.2

/-- BULK_WRITE (R362). -/
def execBulkWrite (h : PktHdr) (r : BulkReq) (s : State) : Out := .next (s.on fun s => bulkWrite h r s)

/-- BULK_READ (R362): answered, held where a load holds the data (R309), or refused while 256 are in the table. -/
def bulkRead (h : PktHdr) (r : BulkReq) (s : State) : State :=
  if h.dst ≠ s.self then s
  else
    let a := admitPkt h 6 s.self s
    let s := a.2
    let refuse := fun (st : Nat) => doneOp h (respond h ⟨st, 3, r.addr, 0, [], false⟩ s)
    if !a.1 then s
    else match s.bulkRefusal h r with
      | some st => refuse st
      | none =>
        if r.len = 0 then refuse St.done
        else if 256 ≤ s.fab.bulks.length then refuse St.busy
        else if s.readHeld (bits r.addr 55 52) (r.addr % 2 ^ 52) r.len then
          { (s.bump C.SHD_HELD_READS) with fab := { (s.bump C.SHD_HELD_READS).fab with bulks := (s.bump C.SHD_HELD_READS).fab.bulks ++ [(h, r)] } }
        else answerBulk s (h, r)

/-- BULK_READ (R362). -/
def execBulkRead (h : PktHdr) (r : BulkReq) (s : State) : Out := .next (s.on fun s => bulkRead h r s)

/-- BULK_DATA (R362): written at the return address; without its request it is late. -/
def bulkData (h : PktHdr) (r : BulkReq) (s : State) : State :=
  if h.dst ≠ s.self then s
  else
    let a := admitPkt h 7 s.self s
    if !a.1 then a.2
    else
      let s := a.2.performed h.src s.self 4 h.seq
      match kget s.fab.reqs h.rtag with
      | some q =>
        if q.kind = 6 ∧ r.off + r.data.length ≤ q.len then
          let s := s.bulkInto (q.ret + r.off) r
          pumpLoads ((s.modReq h.rtag fun q => { q with parts := kset q.parts r.off r.data }).sweepReqs)
        else s.bump C.FAB_LATE
      | none => s.bump C.FAB_LATE

/-- BULK_DATA (R362). -/
def execBulkData (h : PktHdr) (r : BulkReq) (s : State) : Out := .next (s.on fun s => bulkData h r s)

/-! ### Responses, retries and time-outs (R352, R363, R364) -/

/-- The watched peer becomes SUSPECT (R378). -/
def suspectPeer (p : Nat) (s : State) : State :=
  if p < 144 ∧ s.fld F.FAB_HB_STATE_p_state (4 * p) = 1 then
    ((s.setFld F.FAB_HB_STATE_p_state 2 (4 * p)).bump C.FAB_HB_SUSPECT).raise E.peerSuspect p
  else s

/-- Whether a request has waited 1 s in all (R363). -/
def State.waitedOut (s : State) (r : FabReq) : Bool := decide (r.at_ + 1000000 ≤ s.us)

/-- A refused store at its source: its tile takes the status, and the event names destination and address (R354). (DEDUCED: log entry 74) -/
def storeRefused (tag : Nat) (r : RespBody) (s : State) : State :=
  (s.tagStatus tag r.status).raise E.remoteStoreRefused (r.addr / 2 ^ 56) (d0 := r.addr) (status := r.status)

/-- A RESPONSE for a request of this package (R352). -/
def answered (tag : Nat) (q : FabReq) (r : RespBody) (s : State) : State :=
  if (decide (r.status = St.notReady) || (decide (r.status = St.busy) && decide (q.kind = 6))) && !s.waitedOut q then
    s.modReq tag fun q => { q with backing := true, status := r.status, ended := false }
  else match q.use with
    | .gateway x e => ({ s with fab := { s.fab with reqs := kdel s.fab.reqs tag } } : State).addEntry x 1 (answerEntry 0x81 r.status r.old r.data e)
    | .load _ _ => pumpLoads ((s.modReq tag fun q => { q with ended := true, status := worse q.status r.status }).sweepReqs)

/-- RESPONSE (R352): the request of its tag, a refused store, or a late one. -/
def fabResponse (h : PktHdr) (r : RespBody) (s : State) : State :=
  if h.dst ≠ s.self then s
  else
    let a := admitPkt h 4 s.self s
    if !a.1 then a.2
    else
      let s := a.2.performed h.src s.self 1 h.seq
      match kget s.fab.reqs h.rtag with
      | some q => answered h.rtag q r s
      | none => if r.kind = 2 ∨ (r.kind = 4 ∧ h.rtag ≤ 72) then storeRefused h.rtag r s else s.bump C.FAB_LATE

/-- RESPONSE (R352). -/
def execFabResponse (h : PktHdr) (r : RespBody) (s : State) : Out := .next (s.on fun s => fabResponse h r s)

/-- Whether a request awaits an answer that can time out (R364). -/
def FabReq_timed (r : FabReq) : Bool :=
  decide (r.kind = 1) || decide (r.kind = 6) || (decide (r.kind = 3) && (match r.use with
    | .gateway _ e => !e.noReturn
    | .load _ _ => true))

/-- FABRIC_REQUEST_TIMEOUT (R364): the poison response, the event, and suspicion of the peer (R378). -/
def requestTimeout (tag : Nat) (s : State) : State :=
  match kget s.fab.reqs tag with
  | none => s
  | some r =>
    if !FabReq_timed r then s
    else
      let s := (s.modReq tag fun r => { r with ended := true, backing := false, status := St.uncorrected }).finishReq tag
      suspectPeer r.dst (pumpLoads ((s.bump C.FAB_TIMEOUTS).raise E.fabricTimeout r.dst (d0 := r.job)))

/-- FABRIC_REQUEST_TIMEOUT (R364). -/
def execFabricRequestTimeout (tag : Nat) (s : State) : Out := .next (s.on fun s => requestTimeout tag s)

/-- RETRY_BACKOFF_EXPIRE (R363): the request goes again, or ends with its last status after 1 s. -/
def retryExpire (tag : Nat) (s : State) : State :=
  match kget s.fab.reqs tag with
  | none => s
  | some r =>
    if !r.backing then s
    else if s.waitedOut r then pumpLoads ((s.modReq tag fun r => { r with backing := false, ended := true }).finishReq tag)
    else
      let s := (s.modReq tag fun r => { r with backing := false, status := 0, tries := r.tries + 1, parts := [] }).bump C.FAB_NOT_READY
      pumpLoads ((s.issueReq tag).sweepReqs)

/-- RETRY_BACKOFF_EXPIRE (R363). -/
def execRetryBackoffExpire (tag : Nat) (s : State) : Out := .next (s.on fun s => retryExpire tag s)

/-! ### Gateways (R359 to R361) -/

/-- One packet of a send stream is acknowledged by its number. -/
def ackOne (d c q : Nat) (s : State) : State :=
  let x := s.sendOf d c
  (s.setSend d c { x with unacked := x.unacked.filter fun u => u.1 ≠ q }).flush d c

/-- The taken packet an entry answers. -/
def State.nearPkt (s : State) (e : GwEntry) : Option PktHdr := s.fab.near.find? fun h => h.src = e.src && h.dst = e.dst && h.seq = e.seq

/-- The original packet of an entry is acknowledged to its source. -/
def nearDone (e : GwEntry) (s : State) : State :=
  if e.src = s.self then ackOne e.dst 0 e.seq s
  else match s.nearPkt e with
    | none => s
    | some h => ({ s with fab := { s.fab with near := s.fab.near.erase h } } : State).performed h.src h.dst 0 h.seq

/-- A forward entry at the far gateway: issued natively with this package as its source, or taken here. -/
def forwardEntry (near : Nat) (s : State) (e : GwEntry) : State :=
  let tag := s.fab.tag
  let q : FabReq := ⟨e.op, e.dst, e.addr, e.len, 0, e.job, .gateway near e, s.us, 0, false, 0, false, []⟩
  if e.dst = s.self then
    let s := { s with fab := { s.fab with reqs := kset s.fab.reqs tag q, tag := if tag + 1 < 2 ^ 32 then tag + 1 else 0x1000 } }
    let h := { s.header346 s.self e.op tag e.job 1 with dst := s.self }
    takeMem h ⟨e.addr, e.len, if e.op = 3 then e.aux else 0, e.noReturn, e.opnd0, e.opnd1, e.data, false, e.poison⟩ s
  else (s.newReq q).sweepReqs

/-- A return entry at the near gateway: a PERFORMED entry acknowledges, a RESPONSE entry answers and acknowledges. -/
def returnEntry (s : State) (e : GwEntry) : State :=
  if e.op = 0x82 then nearDone e s
  else
    let b : RespBody := ⟨e.aux, 4, e.addr, e.opnd0, e.data, decide (e.aux = St.uncorrected)⟩
    let s := if e.src = s.self then (if 0x10 ≤ e.aux then storeRefused e.rtag b s else s.bump C.FAB_LATE)
      else match s.nearPkt e with
        | some h => s.post (s.header346 e.src 0x04 e.rtag e.job (dataFlits e.data.length)) (.resp { b with kind := if 0x10 ≤ e.aux then 4 else respKind h.ptype false })
        | none => s
    nearDone e s

/-- GW_BATCH (R360): its entries in order. -/
def gwBatch (h : PktHdr) (es : List GwEntry) (s : State) : State :=
  if h.dst ≠ s.self then s
  else
    let a := admitPkt h 8 s.self s
    if !a.1 then a.2
    else es.foldl (fun s e => if e.op < 0x80 then forwardEntry h.src s e else returnEntry s e) (a.2.performed h.src s.self 5 h.seq)

/-- GW_BATCH (R360). -/
def execGwBatch (h : PktHdr) (es : List GwEntry) (s : State) : Out := .next (s.on fun s => gwBatch h es s)

/-- GW_BATCH_CLOSE (R360). -/
def execGwBatchClose (y dir : Nat) (s : State) : Out := .next (s.on fun s => if dir < 2 then s.closeBatch y dir else s)

/-! ### Acknowledgements (R350) -/

/-- The requests forwarded as stores or posted atomics that an acknowledgement covers return PERFORMED (R361). -/
def ackedTag (s : State) (tag : Nat) : State :=
  match kget s.fab.reqs tag with
  | none => s
  | some r => match r.use with
    | .gateway x e =>
      if FabReq_timed r then s else ({ s with fab := { s.fab with reqs := kdel s.fab.reqs tag } } : State).addEntry x 1 (answerEntry 0x82 0 0 [] e)
    | .load _ _ => s

/-- One class of an E2E_ACK: every number below the base is acknowledged. -/
def ackClass (about c base : Nat) (s : State) : State :=
  match kget s.fab.sends (8 * about + c) with
  | none => s
  | some x =>
    let gone := x.unacked.filter fun u => precedes 32 u.1 base
    if gone = [] then s
    else
      let s := s.setSend about c { x with unacked := x.unacked.filter fun u => !precedes 32 u.1 base }
      ((gone.map fun u => u.2.2).foldl ackedTag s).flush about c

/-- E2E_ACK (R350). -/
def e2eAck (src about : Nat) (bases : List Nat) (s : State) : State :=
  if s.isLost src then s.bump C.FAB_HB_FENCED
  else mirrorPump (pumpLoads (((List.range 6).foldl (fun s c => ackClass about c (nth bases c 0) s) s).sweepReqs))

/-- E2E_ACK (R350). -/
def execE2eAck (src about : Nat) (bases : List Nat) (s : State) : Out := .next (s.on fun s => e2eAck src about bases s)

/-- E2E_ACK_DELAY_EXPIRE (R350). -/
def execE2eAckDelayExpire (src : Nat) (s : State) : Out := .next (s.on fun s => if (kget s.fab.pend src).isSome then s.sendAck src else s)

/-! ### Fences (R357) -/

/-- The streams a fence covers, each up to its last packet issued. -/
def State.fenceOver (s : State) (d : Nat) : List (Nat × Nat × Nat) :=
  (s.fab.sends.filter fun e => (d = 255 || e.1 / 8 = d) && (e.1 % 8 = 0 || e.1 % 8 = 4)).map fun e =>
    (e.1 / 8, e.1 % 8, (e.2.next + e.2.wait.length) % 2 ^ 32)

/-- FAB_FENCE.go written (R357, R370). -/
def fabFence (org : Originator) (d : Nat) (s : State) : State :=
  s.gated org 0x1800034 fun s =>
    if s.flag F.FAB_FENCE_STATUS_busy then s.setFld F.FAB_FENCE_STATUS_status St.busy
    else ({ s with fab := { s.fab with fence := some ⟨(s.fenceOver (d % 256)), St.done⟩ } } : State).setFld F.FAB_FENCE_STATUS_busy 1

/-- FAB_FENCE (R357). -/
def execFabFence (org : Originator) (d : Nat) (s : State) : Out := .next (s.on fun s => fabFence org d s)

/-- The commanded fence ends with a status. -/
def endFence (st : Nat) (s : State) : State :=
  (({ s with fab := { s.fab with fence := none } } : State).setFld F.FAB_FENCE_STATUS_status st).setFld F.FAB_FENCE_STATUS_busy 0

/-- FENCE_COMPLETE (R357). -/
def fenceComplete (s : State) : State :=
  match s.fab.fence with
  | none => s
  | some f => if f.open_.all s.fenceMet then endFence f.status s else s

/-- FENCE_COMPLETE (R357). -/
def execFenceComplete (s : State) : Out := .next (s.on fun s => fenceComplete s)

/-- The destinations a facet's remote writes are open to. -/
def State.openFor (s : State) (f : Nat) : List Nat :=
  ((s.fab.sends.filter fun e => (e.2.unacked.any fun u => u.2.2 = f + 1) || e.2.wait.any fun w => ownTag w.1 = f + 1).map fun e => e.1 / 8).eraseDups

/-- The tags of a facet's packets are dropped: no fence waits for them any more. -/
def dropTags (tag : Nat) (s : State) : State :=
  { s with fab := { s.fab with sends := s.fab.sends.map fun e => (e.1, { e.2 with
      unacked := e.2.unacked.map (fun u => if u.2.2 = tag then (u.1, u.2.1, 0) else u),
      wait := e.2.wait.map fun w => if ownTag w.1 = tag then ({ w.1 with rtag := 0 }, w.2) else w }) } }

/-- FENCE_TIMEOUT (R357): the commanded fence, or the implicit one of a facet, ends with ERR_UNCORRECTED. -/
def fenceTimeout (who : Option Nat) (s : State) : State :=
  match who with
  | none =>
    match s.fab.fence with
    | none => s
    | some f =>
      let l := ((f.open_.filter fun e => !s.fenceMet e).map (·.1)).eraseDups
      if l = [] then s else (endFence St.uncorrected s).raise E.fenceTimeout (l.headD 255) (d0 := l.length)
  | some f =>
    let l := s.openFor f
    if 72 ≤ f ∨ l = [] then s
    else (dropTags (f + 1) (s.tagStatus (f + 1) St.uncorrected)).raise E.fenceTimeout (l.headD 255) (d0 := l.length)

/-- FENCE_TIMEOUT (R357). -/
def execFenceTimeout (who : Option Nat) (s : State) : Out := .next (s.on fun s => fenceTimeout who s)

/-! ### The lost mask (R379, R386, R444) -/

/-- Mirror peer `i` is suspended (R386): what it was not sent is given up, and its groups go on from the last published. (DESIGN CHOICE: log entry 59) -/
def suspendMirror (i : Nat) (s : State) : State :=
  if s.mirSuspended i then s
  else mirrorSafe (((s.setMirPeer i (s.mirPeer i).cut).setFld F.KVM_MIR_STATUS_suspended (s.fld F.KVM_MIR_STATUS_suspended ||| 2 ^ i)).raise E.mirrorSuspended (nth s.mirPeers i 255) (d0 := i))

/-- A package enters the lost mask: its mirrors are suspended and its transaction ends. -/
def addLost (p : Nat) (s : State) : State :=
  if s.isLost p || decide (144 ≤ p) then s
  else
    let o := F.FAB_LOSTn_lost.off + 4 * (p / 32)
    let s := (s.wr o (s.rd o ||| 2 ^ (p % 32))).abortTxnOf (.remote p)
    ((List.range s.mirPeers.length).filter fun i => nth s.mirPeers i 255 = p).foldl (fun s i => if s.flag F.KVM_MIR_CTRL_enable then suspendMirror i s else s) s

/-! ### Teardown (R365 to R367) -/

/-- Step 1 of R366 for one dead package: its packets and streams go, and what waits on it ends with ABORT_TEARDOWN. -/
def buryPackage (d : Nat) (s : State) : State :=
  let tags := ((s.fab.sends.filter fun e => e.1 / 8 = d).map fun e => (e.2.unacked.map (fun u => u.2.2)) ++ e.2.wait.map fun w => ownTag w.1).flatten
  let s := tags.foldl (fun s t => s.tagStatus t St.teardown) s
  let reqs := (s.fab.reqs.filter fun e => e.2.dst = d).map (·.1)
  let keep := fun (f : FabPort) => { f with outq := (f.outq.map fun (e : Nat × List OutPkt) => (e.1, e.2.filter fun x => x.hdr.dst ≠ d)).filter fun e => e.2 ≠ [] }
  let sends : KMap SendStream := s.fab.sends.filter fun e => e.1 / 8 ≠ d
  let recvs : KMap RecvStream := s.fab.recvs.filter fun e => e.1 / 2048 ≠ d && e.1 / 8 % 256 ≠ d
  let batches : KMap (List GwEntry) := (s.fab.batches.map fun (e : Nat × List GwEntry) => (e.1, e.2.filter fun g => g.src ≠ d && g.dst ≠ d)).filter fun e => e.1 / 2 ≠ d && !e.2.isEmpty
  let fence := s.fab.fence.map fun (f : Fence) => if f.open_.any fun e => e.1 = d then (⟨f.open_.filter fun e => e.1 ≠ d, worse f.status St.teardown⟩ : Fence) else f
  let s := { s with fab := { s.fab with ports := s.fab.ports.map keep, sends := sends, recvs := recvs, batches := batches, fence := fence } }
  let s := { s with fab := { s.fab with pend := kdel s.fab.pend d, routes := kdel s.fab.routes d, near := s.fab.near.filter fun h => h.src ≠ d && h.dst ≠ d, bulks := s.fab.bulks.filter fun x => x.1.src ≠ d } }
  let s := s.setFld F.FAB_EPOCH_p_draining 0 (4 * d)
  let s := reqs.foldl (fun s t => (s.modReq t fun r => { r with ended := true, backing := false, status := worse r.status St.teardown }).finishReq t) s
  addLost d s

/-- Step 2 of R366 for one context. -/
def tearContext (s : State) (c : Nat) : State :=
  let s := s.setFld F.FAB_CTX_JOB_torn 1 (8 * c)
  let s := endContext c St.teardown (stopContext c St.teardown true false s)
  freeReserve c { s with prs := { home := s.prs.home.filter fun h => h.ctx ≠ c, own := s.prs.own.filter fun o => o.ctx ≠ c,
                                  inbox := s.prs.inbox.filter fun r => r.ctx ≠ c } }

/-- Step 3 of R366: the job's operations end with ABORT_TEARDOWN. -/
def tearJob (j : Nat) (s : State) : State :=
  ((s.fab.reqs.filter fun e => e.2.job = j).map (·.1)).foldl
    (fun s t => (s.modReq t fun r => { r with ended := true, backing := false, status := worse r.status St.teardown }).finishReq t) s

/-- A vector forwarded on every ACTIVE port but the one it came on (R365). -/
def forwardVector (from_ : Option Nat) (v : TdVector) (s : State) : State :=
  let h : PktHdr := ⟨255, s.self, 0x02, 5, false, 0, 0, 0, 0, 255, 0, 1, false⟩
  ((List.range 12).filter fun p => s.portActive p && decide (from_ ≠ some p)).foldl (fun s p => (s.emit (.packet h (.vector v))).putOut p 12 h) s

/-- A vector acted on (R366). -/
def actVector (from_ : Option Nat) (v : TdVector) (s : State) : State :=
  let s := { s with fab := { s.fab with nonces := (s.fab.nonces ++ [v.nonce]).drop (s.fab.nonces.length + 1 - 64) } }
  let s := forwardVector from_ v (s.bump C.FAB_TEARDOWNS)
  let s := ((List.range 144).filter fun p => tbit v.dead p && decide (p ≠ s.self)).foldl (fun s p => buryPackage p s) s
  let s := if v.job = 0 then s
    else tearJob v.job (((List.range 16).filter fun c => s.fld F.FAB_CTX_JOB_job (8 * c) = v.job).foldl tearContext s)
  let s := pumpLoads s
  ((((s.setFld F.FAB_TD_STATUS_nonce v.nonce).setFld F.FAB_TD_INFO_job v.job).setFld F.FAB_TD_INFO_reason v.reason).setFld F.FAB_TD_INFO_done 1)

/-- TEARDOWN_VECTOR (R365): a remembered nonce, or nonce 0, is discarded. (DESIGN CHOICE: log entry 25) -/
def teardownVector (arr : TdArrival) (v : TdVector) (s : State) : State :=
  let act := fun (from_ : Option Nat) (s : State) => if v.nonce = 0 ∨ s.fab.nonces.contains v.nonce then s else actVector from_ v s
  match arr with
  | .port p => act (some p) s
  | .window org => s.gated org 0x1800080 (act none)

/-- TEARDOWN_VECTOR (R365). -/
def execTeardownVector (arr : TdArrival) (v : TdVector) (s : State) : Out := .next (s.on fun s => teardownVector arr v s)

end Sys2Proof.Machine
end

