-- ==== Sys2Proof/Machine/PowerThermal.lean ====
section
/-!
DEFINITION. Power and temperature: the estimator and the capping loop (R406 to R411), the Shutter (R412, R413), operating
points (R414, R415), power states (R416 to R418) and thermal control (R419 to R421).
-/
namespace Sys2Proof.Machine

/-! ### Dies and facets -/

/-- The facets of a die. -/
def dieFacets (d : Nat) : List Nat := (List.range 36).map (36 * d + ·)

/-- Whether a pool has a running or queued launch. -/
def State.poolBusy (s : State) (p : Nat) : Bool :=
  match nth s.srv.pools p ⟨[], none⟩ with
  | ⟨q, r⟩ => decide (q ≠ []) || r.isSome

/-- Whether facet `f` is ungated and not asked to gate. -/
def State.ungated (s : State) (f : Nat) : Bool := decide ((s.fac f).gated = 0)

/-- The ungated members of pool `p` in die `d`. -/
def State.dieMembers (s : State) (d p : Nat) : List Nat := (dieFacets d).filter fun f => (s.fac f).member p

/-- The point of a die (R414). -/
def pointField (d : Nat) : FieldRef := if d = 0 then F.PWR_OPP_STATUS_point0 else F.PWR_OPP_STATUS_point1

/-- The phase of a die (R415). -/
def phaseField (d : Nat) : FieldRef := if d = 0 then F.PWR_OPP_STATUS_phase0 else F.PWR_OPP_STATUS_phase1

/-- The cycle skip of a die (R409). -/
def skipField (d : Nat) : FieldRef := if d = 0 then F.PWR_SHUT_STATUS_skip0 else F.PWR_SHUT_STATUS_skip1

/-- The setpoint code of an operating point in a die (R414, R530), less its fused trim of up to 30 mV. -/
def vidCode (d p : Nat) : Nat := nth [10, 14, 22, 30, 38, 46, 53, 60] p 10 - Config.voltageTrim d % 7

/-- The code a die requests now. -/
def State.vid (s : State) (d : Nat) : Nat := if d = 0 then s.pins.vid0 else s.pins.vid1

/-- Drives a die's code. -/
def State.setVid (s : State) (d v : Nat) : State :=
  { s with pins := if d = 0 then { s.pins with vid0 := v } else { s.pins with vid1 := v } }

/-- The voltage requested for a die in mV. (DESIGN CHOICE: log entry 79) -/
def State.millivolts (s : State) (d : Nat) : Nat := 550 + 5 * s.vid d

/-! ### The estimator (R406, R407) -/

/-- A weight. -/
def State.weight (s : State) (k : Nat) : Nat := s.fld F.PWR_W_k_weight (4 * k)

/-- The temperature of a sensor in 1/16 °C as the register holds it. -/
def State.temp (s : State) (n : Nat) : Nat := s.fld F.PWR_TEMP_n_temp (4 * n)

/-- A 16-bit temperature as an ordered number: 0 °C at 2^15. -/
def tempKey (t : Nat) : Nat := (t + 2 ^ 15) % 2 ^ 16

/-- The hottest of some sensors. -/
def State.hottest (s : State) (l : List Nat) : Nat := l.foldl (fun a n => if tempKey a < tempKey (s.temp n) then s.temp n else a) 0x8000

/-- Σ n_k × E_k in pJ. -/
def State.dynamic (s : State) (counts : List Nat) : Nat := ((List.range 9).map fun k => nth counts k 0 * s.weight k).foldl (· + ·) 0

/-- Powers are held in units of 1/`pwrDen` µW, in which every term of R406 but the leakage factor is whole. -/
def pwrDen : Nat := 850 ^ 3 * 2 * 10 ^ 6 * 40

/-- The dynamic power of a block at `mv` mV. -/
def dynPower (pj mv : Nat) : Nat := pj * mv ^ 2 * (850 * 10 ^ 6 * 40)

/-- Leakage of `w` mW, `q` fortieths of it, at a factor in millionths and `mv` mV. (DESIGN CHOICE: log entry 79) -/
def leakPower (w q factor mv : Nat) : Nat := w * 1000 * q * factor * mv ^ 3 * 2

/-- The leakage of a die: each facet by its sensor, a gated one 2.5 %, and the rest by the die's hottest sensor. -/
def State.dieLeak (s : State) (d : Nat) : Nat :=
  let mv := s.millivolts d
  ((dieFacets d).map fun f => leakPower (s.weight 9) (if (s.fac f).gated < 2 then 40 else 1) (Config.leakFactor d (s.temp (f / 2))) mv).foldl (· + ·) 0 +
    leakPower (s.weight 10) 40 (Config.leakFactor d (s.hottest ((List.range 18).map (18 * d + ·)))) mv

/-- The Lanirin lanes in ACTIVE. -/
def State.lanes (s : State) : Nat :=
  ((List.range 12).map fun p => if s.portActive p then (match s.fld F.FAB_P_STATUS_width (0x10000 * p) with | 0 => 0 | 1 => 8 | _ => 4) else 0).foldl (· + ·) 0

/-- The power state (R416). -/
def State.pstate (s : State) : Nat := s.fld F.PWR_STATE_state

/-- The fixed power. -/
def State.fixedPower (s : State) : Nat :=
  (s.weight 11 * s.lanes + s.weight 12 * (if s.pstate < 2 then 8 else 0) + s.weight 13) * 1000 * pwrDen

/-- The estimated power of a die. -/
def State.diePower (s : State) (x : PowerSample) (d : Nat) : Nat :=
  dynPower (s.dynamic (if d = 0 then x.counts0 else x.counts1)) (s.millivolts d) + s.dieLeak d

/-- P̂ in units of 1/`pwrDen` µW. (DESIGN CHOICE: log entry 79) -/
def State.estimate (s : State) (x : PowerSample) : Nat :=
  s.diePower x 0 + s.diePower x 1 + dynPower (s.dynamic x.countsIod) 850 + s.fixedPower

/-! ### Gate requests (R411) -/

/-- The facets of a die that a class of R411 offers. -/
def State.gateClass (s : State) (d c : Nat) : List Nat :=
  let m := fun (p : Nat) => s.dieMembers d p
  match c with
  | 0 => (dieFacets d).filter fun f => (decide ((s.fac f).member 0) && !s.poolBusy 0) || (decide ((s.fac f).member 1) && !s.poolBusy 1)
  | 1 => if s.fld F.PWR_SHUT_dec_floor / 2 < (m 0).length then m 0 else []
  | 2 => if 1 < (m 1).length then m 1 else []
  | _ => if 1 < (m 0).length then m 0 else []

/-- DBG_CTRL.keep_awake acts at D1 or above (R466). (DEDUCED: log entry 81) -/
def State.keptAwake (s : State) : Bool := s.flag F.DBG_CTRL_keep_awake && decide (s.sec.level ≠ 0)

/-- The next facet of a die to be gated; a package kept awake takes none of class 1 (R466). -/
def State.gateNext (s : State) (d : Nat) : Option Nat :=
  (if s.keptAwake then [1, 2, 3] else [0, 1, 2, 3]).findSome? fun c => (s.gateClass d c).getLast?

/-- Requests the gating of up to `n` facets of a die. -/
def requestGates (d : Nat) : Nat → State → State
  | 0, s => s
  | n + 1, s => match s.gateNext d with
    | some f => requestGates d n (s.modFac f fun x => { x with gated := 1 })
    | none => s

/-- The facets of a die in the order in which they ungate: prefill members while the prefill pool has work, decode members
while theirs has, then the rest. (DEDUCED: log entry 81) -/
def State.ungateOrder (s : State) (d : Nat) (ok : Facet → Bool) : List Nat :=
  let l := (dieFacets d).filter fun f => ok (s.fac f)
  let of_ := fun (p : Nat) => l.filter fun f => decide ((s.fac f).pool = p) && s.poolBusy p
  of_ 1 ++ of_ 0 ++ l.filter fun f => !(of_ 1).contains f && !(of_ 0).contains f

/-- The facet whose gating the Shutter would undo next, of a pool with work. -/
def State.ungateNext (s : State) (d : Nat) : Option Nat :=
  (s.ungateOrder d fun x => (decide (x.gated = 1) || decide (x.gated = 2)) && !x.fenced).find? fun f => s.poolBusy (s.fac f).pool

/-- Asks for a facet to ungate; a gating still asked for is withdrawn and the facet claims again (R413). -/
def requestUngate (f : Nat) (s : State) : State :=
  s.modFac f fun x => if x.gated = 1 then { x with gated := 0, sq := { x.sq with standing := false } }
    else if x.gated = 2 then { x with gated := 4 } else x

/-! ### The capping loop (R409) -/

/-- A fraction in lowest terms. -/
def reduce (q : Nat × Nat) : Nat × Nat := (q.1 / Nat.gcd q.1 q.2, q.2 / Nat.gcd q.1 q.2)

/-- A + (P̂ − A) × 2 µs ÷ τ, in µW. (DESIGN CHOICE: log entry 79) -/
def nextAverage (a : Nat × Nat) (p tau : Nat) : Nat × Nat :=
  reduce (a.1 * (50 * tau - 1) * pwrDen + p * a.2, a.2 * (50 * tau) * pwrDen)

/-- Whether a die's skip is held at 12/16 by temperature (R420). -/
def State.critDie (s : State) (d : Nat) : Bool :=
  s.pwr.crit.any fun n => decide (36 ≤ n ∧ n < 40) || decide (n / 18 = d ∧ n < 36)

/-- Sets a die's cycle skip, at most 12, and 12 under crit. (DEDUCED: log entry 80) -/
def setSkip (d v : Nat) (s : State) : State := s.setFld (skipField d) (if s.critDie d then 12 else min v 12)

/-- Watts in µW. -/
def watts (w : Nat) : Nat := w * 10 ^ 6

/-- Further facets of a die to gate: min(gate_max, ⌈(A − cap_set) ÷ Pf⌉), with Pf the die's power by its ungated facets. -/
def State.gateCount (s : State) (d power : Nat) : Nat :=
  let a := s.pwr.avg
  let u := ((dieFacets d).filter s.ungated).length
  let n := if power = 0 then s.fld F.PWR_SHUT_gate_max
    else ceilDiv ((a.1 - watts (s.fld F.PWR_CAP_cap_set) * a.2) * pwrDen * u) (a.2 * power)
  min (s.fld F.PWR_SHUT_gate_max) n

/-- Whether A + Pf lies below cap_set − ungate_margin. -/
def State.ungateRoom (s : State) (d power : Nat) : Bool :=
  let a := s.pwr.avg
  let u := max 1 ((dieFacets d).filter s.ungated).length
  decide (a.1 * pwrDen * u + power * a.2 < watts (s.fld F.PWR_CAP_cap_set - s.fld F.PWR_CAP2_ungate_margin) * a.2 * pwrDen * u)

/-- What a sample does to one die. (DESIGN CHOICE: log entry 79; DEDUCED: log entry 80) -/
def capDie (p power : Nat) (s : State) (d : Nat) : State :=
  let isOver := decide (watts (s.fld F.PWR_CAP_peak_limit) * pwrDen < p)
  let high := decide (watts (s.fld F.PWR_CAP_cap_set) * s.pwr.avg.2 < s.pwr.avg.1)
  let s := if isOver then setSkip d (s.fld (skipField d) + 4) s else s
  let s := if high then requestGates d (s.gateCount d power) (setSkip d (s.fld (skipField d) + 1) s) else s
  let s := if !isOver && !high then setSkip d (s.fld (skipField d) - 1) s else s
  if decide (s.pstate = 0) && decide (s.fld (skipField d) = 0) && s.ungateRoom d power then
    match s.ungateNext d with
    | some f => requestUngate f s
    | none => s
  else s

/-- The energy of a sample joins PWR_ENERGY in mJ. (DESIGN CHOICE: log entry 79) -/
def countEnergy (p : Nat) (s : State) : State :=
  let e := s.pwr.energy + 2 * p
  let s := s.bump C.PWR_ENERGY (e / (10 ^ 9 * pwrDen))
  { s with pwr := { s.pwr with energy := e % (10 ^ 9 * pwrDen) } }

/-- POWER_SAMPLE (R406, R409). -/
def powerSample (x : PowerSample) (s : State) : State :=
  let p := s.estimate x
  let d0 := s.diePower x 0
  let d1 := s.diePower x 1
  let s := countEnergy p (s.setFld F.PWR_EST_sample (satBits 11 (p / watts pwrDen)))
  let s := if s.flag F.PWR_CTRL_cap_en then
      let s := { s with pwr := { s.pwr with avg := nextAverage s.pwr.avg p (s.fld F.PWR_CAP2_tau) } }
      let s := s.setFld F.PWR_EST_average (satBits 11 (s.pwr.avg.1 / watts s.pwr.avg.2))
      capDie p d1 (capDie p d0 s 0) 1
    else s
  s.bump C.PWR_SKIP_SAMPLES (bit (s.fld (skipField 0) ≠ 0) + bit (s.fld (skipField 1) ≠ 0))

/-- POWER_SAMPLE (R409). -/
def execPowerSample (x : PowerSample) (s : State) : Out := .next (s.on fun s => powerSample x s)

/-! ### The Shutter (R412, R413) -/

/-- What gating loses (R107, R124). -/
def Facet.gateOff (x : Facet) : Facet := { x with gated := 2, lregs := [], accs := [], rows := [], desc := [], dstage := [], ags := [] }

/-- Whether a facet holds no work and may be gated: stood down, quiescent, in no spill, scan, load or pending switch. -/
def Facet.gatable (x : Facet) : Bool :=
  x.quiescent && !x.sq.running && x.sq.run.isNone && x.sq.ahead.isNone && x.sq.fin = [] && x.sq.ret = [] &&
    x.spill.isNone && decide (x.scan = 0) && x.pend.isNone && x.load.isNone && !x.fenced

/-- SHUTTER_GATE (R412). -/
def shutterGate (f : Nat) (s : State) : State :=
  let x := s.fac f
  if x.gated = 1 ∧ x.gatable then (s.setFac f x.gateOff).bump C.PWR_GATES else s

/-- SHUTTER_GATE (R412). -/
def execShutterGate (f : Nat) (s : State) : Out := .next (s.alive fun s => if f < 72 then shutterGate f s else s)

/-- SHUTTER_UNGATE_START (R412): the facet whose turn it is in its die, within ungate_inflight. (DEDUCED: log entry 81) -/
def ungateStart (f : Nat) (s : State) : State :=
  let d := f / 36
  let busy := ((dieFacets d).filter fun g => decide ((s.fac g).gated = 3)).length
  if decide (busy < s.fld F.PWR_SHUT_ungate_inflight) && decide ((s.ungateOrder d fun x => decide (x.gated = 4)).head? = some f) then
    s.modFac f fun x => { x with gated := 3 }
  else s

/-- SHUTTER_UNGATE_START (R412). -/
def execShutterUngateStart (f : Nat) (s : State) : Out := .next (s.alive fun s => if f < 72 then ungateStart f s else s)

/-- SHUTTER_UNGATE_DONE (R412): the facet is ungated and joins its pool's launch (R151). -/
def ungateDone (f : Nat) (s : State) : State :=
  let x := s.fac f
  if x.gated = 3 then facetJoin f ((s.setFac f { x with gated := 0, sq := { x.sq with standing := false } }).bump C.PWR_UNGATES) else s

/-- SHUTTER_UNGATE_DONE (R412). -/
def execShutterUngateDone (f : Nat) (s : State) : Out := .next (s.alive fun s => if f < 72 then ungateDone f s else s)

/-! ### Operating points (R414, R415) -/

/-- The phase code of a launch: 0 decode, 1 prefill, 2 verify, 3 train. -/
def State.phaseOf (s : State) (l : Launch) : Nat :=
  if l.train.isSome || tbit (s.fld F.PWR_TRAIN_ctx_mask) l.ctx then 3
  else if l.series = 1 then 1
  else if l.pass ≠ 255 then 2
  else match (s.series l.ctx 0).built with
    | some x => if 1 ≤ x.pmax then 2 else 0
    | none => 0

/-- The point of a phase. -/
def State.phasePoint (s : State) (ph : Nat) : Nat := s.fld F.PWR_OPP_ph_point (4 * ph)

/-- The ungated facets of a die that run a launch of a phase. -/
def State.phaseFacets (s : State) (d ph : Nat) : Nat :=
  ((dieFacets d).filter fun f => decide ((s.fac f).gated < 2) && (s.fac f).sq.running && (match s.launchOf f with
    | some l => decide (s.phaseOf l = ph)
    | none => false)).length

/-- The phase a die takes at an evaluation. (DEDUCED: log entry 82) -/
def State.diePhase (s : State) (d : Nat) : Nat :=
  let n := s.phaseFacets d
  let better := fun (a b : Nat) => decide (n a < n b) || (decide (n a = n b) && decide (s.phasePoint a < s.phasePoint b))
  let best := [1, 2, 3].foldl (fun a b => if better a b then b else a) 0
  if n best ≠ 0 then best
  else if (s.shd.loads.any fun l => l.op = 0x40) || (List.range 16).any fun c => decide (s.fld F.RES_CTX_STATE_state (0x80 * c) = 2) then 4 else 5

/-- A die moves toward its phase's point under its thermal limit; a rising point takes its voltage first. (DEDUCED: log entry 82) -/
def movePoint (d : Nat) (s : State) : State :=
  let want := min (s.phasePoint (s.fld (phaseField d))) (nth s.pwr.limit d 7)
  let now := s.fld (pointField d)
  if s.pstate ≠ 0 ∨ (want = now ∧ s.vid d = vidCode d now) then { s with pwr := { s.pwr with target := s.pwr.target.set d none } }
  else
    let s := { s with pwr := { s.pwr with target := s.pwr.target.set d (some want) } }
    if now < want ∧ s.pins.vidEn then s.setVid d (vidCode d want) else s

/-- OPP_EVALUATE (R415). (DEDUCED: log entry 82) -/
def oppEvaluate (d : Nat) (s : State) : State :=
  let ph := s.diePhase d
  let same := decide (nth s.pwr.chosen d none = some ph)
  let s := { s with pwr := { s.pwr with chosen := s.pwr.chosen.set d (some ph) } }
  if same then movePoint d (s.setFld (phaseField d) ph) else s

/-- OPP_EVALUATE (R415). -/
def execOppEvaluate (d : Nat) (s : State) : Out := .next (s.alive fun s => if d < 2 then oppEvaluate d s else s)

/-- OPP_CHANGE_COMPLETE (R415). -/
def oppChange (d : Nat) (s : State) : State :=
  match nth s.pwr.target d none with
  | none => s
  | some p =>
    let was := s.fld (pointField d)
    let s := { s with pwr := { s.pwr with target := s.pwr.target.set d none } }
    let s := if s.pins.vidEn then s.setVid d (vidCode d p) else s
    (s.setFld (pointField d) p).bump C.PWR_OPP_CHANGES (bit (was ≠ p))

/-- OPP_CHANGE_COMPLETE (R415). -/
def execOppChangeComplete (d : Nat) (s : State) : Out := .next (s.alive fun s => if d < 2 then oppChange d s else s)

/-! ### Power states (R416 to R418) -/

/-- The wake time of a state in µs (R416). -/
def wakeTime (d : Nat) : Nat := nth [0, 8, 25, 150, 400] d 400

/-- Whether the package is idle (R417). -/
def State.idle (s : State) : Bool :=
  s.srv.pools.all (fun p => decide (p.queue = []) && p.run.isNone) &&
  s.srv.series.all (fun e => match e.2.built with
    | some x => decide (x.total = 0)
    | none => true) &&
  decide (s.srv.queue = []) && decide (s.shd.loads = []) && decide (s.shd.asks = []) &&
  (List.range 16).all (fun c => decide (s.fld F.RES_CTX_STATE_state (0x80 * c) ≠ 2)) &&
  decide (s.kvm.moves = []) && decide (s.kvm.waiting = []) && decide (s.mir.unsafe_ = []) &&
  s.facets.all (fun x => decide (x.scan ≤ 1)) && s.fab.fence.isNone

/-- The deepest state the tolerance and max_state allow. (DEDUCED: log entry 83) -/
def State.deepest (s : State) : Nat :=
  if s.fld F.PWR_LTR_tolerance = 0 then 0
  else ((List.range 5).filter fun d => decide (wakeTime d ≤ s.fld F.PWR_LTR_tolerance) && decide (d ≤ s.fld F.PWR_STATE_max_state)).getLast?.getD 0

/-- A facet gated for a power state, or asked to gate where it is not quiescent. -/
def sleepFacet (s : State) (f : Nat) : State :=
  let x := s.fac f
  if x.gated = 2 ∨ x.fenced then s
  else if x.gated = 4 then s.setFac f { x with gated := 2 }
  else if x.gatable then (s.setFac f { x.gateOff with pool := if x.pool = 3 then 0 else if x.pool = 4 then 1 else x.pool }).bump C.PWR_GATES
  else if x.gated = 0 then s.setFac f { x with gated := 1 }
  else s

/-- A die at point 0. -/
def restDie (s : State) (d : Nat) : State :=
  let s := { s with pwr := { s.pwr with target := s.pwr.target.set d none } }
  let s := if s.pins.vidEn then s.setVid d (vidCode d 0) else s
  (s.setFld (pointField d) 0).bump C.PWR_OPP_CHANGES (bit (s.fld (pointField d) ≠ 0))

/-- IDLE_ENTRY (R417): the package has been idle for entry_delay; one kept awake stays in P0 (R466). (DEDUCED: log entry 83) -/
def idleEntry (s : State) : State :=
  let d := s.deepest
  if s.keptAwake || !s.idle || decide (d ≤ s.pstate) then s
  else [0, 1].foldl restDie (((List.range 72).foldl sleepFacet s).setFld F.PWR_STATE_state d |>.bump C.PWR_STATE_ENTRIES)

/-- IDLE_ENTRY (R417). -/
def execIdleEntry (s : State) : Out := .next (s.alive idleEntry)

/-- WAKE (R418): the package returns to P0 and every facet the Shutter gated is to ungate. (DEDUCED: log entry 83) -/
def wake (s : State) : State :=
  if s.pstate = 0 then s
  else (List.range 72).foldl (fun s f => if (s.fac f).fenced then s else requestUngate f s) (s.setFld F.PWR_STATE_state 0)

/-- WAKE (R418). -/
def execWake (s : State) : Out := .next (s.alive wake)

/-! ### Thermal control (R419 to R421) -/

/-- Whether a temperature is at or above a threshold in °C. -/
def atLeast (t c : Nat) : Bool := decide (2 ^ 15 + 16 * c ≤ tempKey t)

/-- A sensor in a set of those past a threshold: it enters at the threshold and leaves below the threshold less 5 °C. (DEDUCED: log entry 84) -/
def latch (n t c : Nat) (l : List Nat) : List Nat :=
  if atLeast t c then insertNat l n else if atLeast t (c - 5) then l else l.erase n

/-- The group of a sensor: CD0, CD1, IOD, or a stack of its own. -/
def sensorGroup (n : Nat) : Nat := if n < 36 then n / 18 else if n < 40 then 2 else n

/-- Whether any sensor of a group is in a set. -/
def inGroup (g : Nat) (l : List Nat) : Bool := l.any fun n => decide (sensorGroup n = g)

/-- Whole degrees of the hottest sensor of a group, in two's complement. -/
def State.groupMax (s : State) (l : List Nat) : Nat := (tempKey (s.hottest l) / 16 + 2 ^ 12 - 2 ^ 11) % 256

/-- The dies under crit hold a skip of 12/16 and gate down to the limits of R411; with the loop off a released die skips
nothing. -/
def critDies (s : State) : State :=
  [0, 1].foldl (fun s d =>
    if s.critDie d then requestGates d 36 (setSkip d 12 s)
    else if s.flag F.PWR_CTRL_cap_en then s else setSkip d 0 s) s

/-- THERMAL_SENSOR_UPDATE (R420). (DEDUCED: log entry 80; DEDUCED: log entry 84) -/
def sensorUpdate (n t : Nat) (s : State) : State :=
  let t := t % 2 ^ 16
  let s := s.setFld F.PWR_TEMP_n_temp t (4 * n)
  let s := ((s.setFld F.PWR_TEMP_MAX_cd0 (s.groupMax (List.range 18))).setFld F.PWR_TEMP_MAX_cd1 (s.groupMax ((List.range 18).map (18 + ·)))).setFld F.PWR_TEMP_MAX_iod
    (s.groupMax [36, 37, 38, 39]) |>.setFld F.PWR_TEMP_MAX_stacks (s.groupMax ((List.range 8).map (40 + ·)))
  let old := s.pwr
  let g := sensorGroup n
  let enter := fun (was now : List Nat) (k : Nat) (s : State) =>
    if inGroup g now && !inGroup g was then s.raise E.thermal n (d0 := k) else s
  if n < 40 then
    let crit := latch n t (s.fld F.PWR_THERM_crit) old.crit
    let hot := if n < 36 then latch n t (s.fld F.PWR_THERM_throttle) old.hot else old.hot
    let s := { s with pwr := { s.pwr with hot := hot, crit := crit } }
    let s := enter old.crit crit 1 (enter old.hot hot 0 s)
    if crit = old.crit then s else critDies s
  else
    let stackHot := latch n t (s.fld F.PWR_THERM_stack_throttle) old.stackHot
    enter old.stackHot stackHot 2 { s with pwr := { s.pwr with stackHot := stackHot } }

/-- THERMAL_SENSOR_UPDATE (R420). -/
def execThermalSensorUpdate (n t : Nat) (s : State) : Out := .next (s.on fun s => if n < 48 then sensorUpdate n t s else s)

/-- THROTTLE_STEP (R420): a millisecond of a die that is throttled, or that is being released. -/
def throttleStep (d : Nat) (s : State) : State :=
  let hot := inGroup d s.pwr.hot
  let s := if hot || s.critDie d then s.bump C.PWR_THROTTLE_MS else s
  let lim := nth s.pwr.limit d 7
  let set := fun (l r : Nat) (s : State) => { s with pwr := { s.pwr with limit := s.pwr.limit.set d l, release := s.pwr.release.set d r } }
  if hot then movePoint d (set (min lim (s.fld (pointField d)) - 1) 0 s)
  else if 7 ≤ lim then s
  else if 10 ≤ nth s.pwr.release d 0 + 1 then movePoint d (set (lim + 1) 0 s)
  else set lim (nth s.pwr.release d 0 + 1) s

/-- THROTTLE_STEP (R420). -/
def execThrottleStep (d : Nat) (s : State) : Out := .next (s.alive fun s => if d < 2 then throttleStep d s else s)

/-- THERMAL_TRIP (R421): THERM_TRIP_N falls, and an FE event; every clock of facets and Prism stops. (DEDUCED: log entry 84) -/
def execThermalTrip (n : Nat) (s : State) : Out :=
  .next (s.aon fun s =>
    if n < 48 then ({ s with pins := { s.pins with thermTripN := false } } : State).on fun s => s.raise E.thermalTrip n else s)

end Sys2Proof.Machine
end

