-- ==== Sys2Proof/Machine/Recovery.lean ====
section
/-!
DEFINITION. Failures and recovery: heartbeats and liveness (R376 to R381), mirrors at their peer (R385 to R387), restart
commands (R388 to R390), and the fencing of facets (R396 to R399).
-/
namespace Sys2Proof.Machine

/-! ### Heartbeats (R377) -/

/-- The lost mask as one number. -/
def State.lostMask (s : State) : Nat := ((List.range 5).map fun i => s.rd (F.FAB_LOSTn_lost.off + 4 * i) * 2 ^ (32 * i)).foldl (· + ·) 0

/-- The other members of the own group. -/
def State.members9 (s : State) : List Nat := ((List.range 9).filter fun m => m ≠ s.me).map fun m => s.self / 9 * 9 + m

/-- The global ports in ACTIVE. -/
def State.globalPorts (s : State) : List Nat := [8, 9, 10, 11].filter s.portActive

/-- The far end of a global port. -/
def State.farEnd (s : State) (q : Nat) : Nat := s.fld F.FAB_P_PEER_package (pdi q)

/-- The state the package sends: ISOLATED until cleared, else DEGRADED with a fenced facet, a spared port or a suspended
mirror. -/
def State.selfState (s : State) : Nat :=
  if s.fld F.FAB_HB_STATUS_self = 3 then 3
  else if s.facets.any (·.fenced) || (List.range 12).any (fun p => s.portActive p && s.flag F.FAB_P_LANE_failed (pdi p)) ||
    s.flag F.KVM_MIR_STATUS_suspended then 1
  else 0

/-- Sends one HEARTBEAT with a state to every peer watched. -/
def sendHeartbeats (st : Nat) (s : State) : State :=
  let ws := [s.fab.periods % 2 ^ 32, st, s.appliance, s.lostMask]
  let s := s.members9.foldl (fun s d => s.sendWords d 0x21 ws) s
  s.globalPorts.foldl (fun s q => s.depart q 255 (s.header346 (s.farEnd q) 0x21 0 0 1) (.words ws)) s

/-- The state, missed count and received count of a peer. -/
def State.missed (s : State) (p : Nat) : Nat := s.fld F.FAB_HB_STATE_p_missed (4 * p)
def setPeer (p st : Nat) (s : State) : State := s.setFld F.FAB_HB_STATE_p_state st (4 * p)

/-- A peer becomes LOST (R378): counted, with its event, and in the lost mask. -/
def losePeer (p : Nat) (s : State) : State :=
  if p < 144 ∧ s.peerState p ≠ 0 ∧ s.peerState p ≠ 3 then addLost p (((setPeer p 3 s).bump C.FAB_HB_LOST).raise E.peerLost p) else s

/-- The peers watched: those held in a state. -/
def State.watched (s : State) : List Nat := (List.range 144).filter fun p => s.peerState p ≠ 0

/-- R381: the package is isolated once every peer has been SUSPECT or LOST for lost_n periods. -/
def isolate (s : State) : State :=
  let l := s.watched
  let n := if l ≠ [] ∧ l.all (fun p => s.peerState p ≠ 1) then s.fab.alone + 1 else 0
  let s := { s with fab := { s.fab with alone := n } }
  if s.fld F.FAB_HB_lost_n ≤ n ∧ s.fld F.FAB_HB_STATUS_self ≠ 3 then
    (List.range 16).foldl (fun s c => s.setFld F.SEQ_CTX_CTRL_run 0 (0x40 * c)) ((s.setFld F.FAB_HB_STATUS_self 3).raise E.isolated)
  else s

/-- HEARTBEAT_TICK (R377): one period. (DEDUCED: log entry 75) -/
def heartbeatTick (s : State) : State :=
  if !s.flag F.FAB_HB_enable || !s.identReady then s
  else
    let s := { s with fab := { s.fab with periods := (s.fab.periods + 1) % 2 ^ 32 } }
    let s := (s.members9 ++ s.globalPorts.map s.farEnd).foldl (fun s p => if p < 144 ∧ s.peerState p = 0 ∧ p ≠ s.self then setPeer p 1 s else s) s
    let s := s.setFld F.FAB_HB_STATUS_self s.selfState
    let s := sendHeartbeats (s.fld F.FAB_HB_STATUS_self) s
    let s := s.watched.foldl (fun s p => s.setFld F.FAB_HB_STATE_p_missed (satBits 8 (s.missed p + 1)) (4 * p)) s
    isolate s

/-- HEARTBEAT_TICK (R377). -/
def execHeartbeatTick (s : State) : Out := .next (s.alive heartbeatTick)

/-- The lost fields of the own group's ALIVE members that name a peer. -/
def State.namedBy (s : State) (p : Nat) : Nat :=
  (s.members9.filter fun q => decide (s.peerState q = 1) && tbit (kgetD s.fab.named q 0) p).length

/-- What a HEARTBEAT of a compatible peer does (R378, R379, R393). (DEDUCED: log entry 75) -/
def heardFrom (src : Nat) (m : HbMsg) (s : State) : State :=
  let s := if s.isLost src then s.bump C.FAB_HB_FENCED else s
  if s.peerState src = 0 then s
  else
    let s := (s.setFld F.FAB_HB_STATE_p_missed 0 (4 * src)).setFld F.FAB_HB_STATE_p_count (m.count % 2 ^ 16) (4 * src)
    if m.state = 2 then losePeer src s
    else if s.peerState src = 3 then s
    else
      let s := { setPeer src 1 s with fab := { (setPeer src 1 s).fab with named := kset s.fab.named src m.lost } }
      let s := ((List.range 144).filter fun p => tbit m.lost p && decide (p ≠ s.self)).foldl (fun s p => addLost p s) s
      ((List.range 144).filter fun p => decide (s.peerState p = 2) && decide (2 ≤ s.namedBy p)).foldl (fun s p => losePeer p s) s

/-- HEARTBEAT (R377 to R379): one of another appliance, or with a state the format does not have, is discarded. -/
def heartbeat (src : Nat) (m : HbMsg) (s : State) : State :=
  if 144 ≤ src then s
  else if m.appliance ≠ s.appliance ∨ 3 < m.state then s.protocolEvent src 0x21
  else heardFrom src m s

/-- HEARTBEAT (R378). -/
def execHeartbeat (src : Nat) (m : HbMsg) (s : State) : Out := .next (s.alive fun s => heartbeat src m s)

/-- PEER_SUSPECT_TIMEOUT (R378): suspect_n periods have passed without a HEARTBEAT. -/
def execPeerSuspectTimeout (p : Nat) (s : State) : Out := .next (s.alive fun s => suspectPeer p s)

/-- PEER_LOST_TIMEOUT (R378): lost_n periods have passed without a HEARTBEAT of a SUSPECT peer. -/
def execPeerLostTimeout (p : Nat) (s : State) : Out := .next (s.alive fun s => if s.peerState p = 2 then losePeer p s else s)

/-- HB_CLEAR (R378, R379): out of the lost mask, and LOST becomes SUSPECT. (DEDUCED: log entry 75) -/
def hbClear (org : Originator) (p : Nat) (s : State) : State :=
  s.gated org 0x1802420 fun s =>
    if 144 ≤ p then s
    else
      let o := F.FAB_LOSTn_lost.off + 4 * (p / 32)
      let s := if s.isLost p then s.wr o (s.rd o - 2 ^ (p % 32)) else s
      if s.peerState p = 3 then ((setPeer p 2 s).setFld F.FAB_HB_STATE_p_missed 0 (4 * p)).bump C.FAB_HB_SUSPECT else s

/-- HB_CLEAR (R378). -/
def execHbClear (org : Originator) (p : Nat) (s : State) : Out := .next (s.on fun s => hbClear org p s)

/-- ISOLATE_CLEAR (R381). (DEDUCED: log entry 75) -/
def isolateClear (org : Originator) (s : State) : State :=
  s.gated org 0x1802420 fun s =>
    let s := { s with fab := { s.fab with alone := 0 } }
    let s := if s.fld F.FAB_HB_STATUS_self = 3 then s.setFld F.FAB_HB_STATUS_self 0 else s
    s.setFld F.FAB_HB_STATUS_self s.selfState

/-- ISOLATE_CLEAR (R381). -/
def execIsolateClear (org : Originator) (s : State) : Out := .next (s.on fun s => isolateClear org s)

/-! ### The fatal condition (R376) -/

/-- FATAL_STOP (R376): a FATAL HEARTBEAT to every peer watched, then every port is DOWN, and an open transaction ends. (DEDUCED: log entry 37) -/
def fatalStop (s : State) : State :=
  let open_ := (List.range 12).filter fun p => s.portState p ≠ 0 && s.portState p ≠ 7
  if !s.flag F.GLB_STATUS_fatal then s
  else
    let s := s.abortTxn
    if open_ = [] then s
    else
      let s := sendHeartbeats 2 s
      open_.foldl (fun s p => closePort p 7 (s.modPort p fun f => { f with outq := [], kept := [], again := [] }))
        ((List.range 12).foldl (fun s p => s.modPort p fun f => { f with outq := [], kept := [], again := [] }) s)

/-- FATAL_STOP (R376). -/
def execFatalStop (s : State) : Out := .next (s.on fun s => fatalStop s)

/-! ### The mirror table of a peer (R385, R387) -/

/-- The byte distance of incoming ring `n`'s registers. -/
def ringDi (n : Nat) : Nat := 16 * n

/-- Whether incoming ring `n` is in use, and its source. -/
def State.ringOn (s : State) (n : Nat) : Bool :=
  decide (n < 4) && s.flag F.KVM_MIR_IN_SRC_valid (ringDi n) && s.flag F.KVM_MIR_IN_SIZE_size (ringDi n)
def State.ringSource (s : State) (n : Nat) : Nat := s.fld F.KVM_MIR_IN_SRC_source (ringDi n)

/-- The place of a slot's entry of the mirror table. -/
def State.mirPlace (s : State) (n slot : Nat) : Nat :=
  s.fld64 F.KVM_MIR_TABLE_LO_base F.KVM_MIR_TABLE_HI_base + 256 * (262144 * n + slot)

/-- Reads and writes a field of an entry. -/
def State.mirGet (s : State) (n slot off len : Nat) : Nat := s.mem.le 1 (s.mirPlace n slot + off) len
def State.mirPut (s : State) (n slot off : Nat) (bs : List Byte) : State := { s with mem := s.mem.write 1 (s.mirPlace n slot + off) bs }

/-- The state of an entry: 0 NONE, 1 LIVE, 2 BROKEN. -/
def State.mirState (s : State) (n slot : Nat) : Nat := s.mirGet n slot 160 1

/-- Level-3 table `t` of an entry. -/
def State.mirTable (s : State) (n slot t : Nat) : Nat := s.mirGet n slot (128 + 4 * t) 4

/-- An entry as NONE. -/
def mirNone : List Byte := List.replicate 128 0 ++ List.replicate 32 0xFF ++ List.replicate 96 0

/-- An entry becomes LIVE where it was NONE. -/
def State.mirOpen (s : State) (n slot : Nat) : State :=
  if s.mirState n slot = 0 then (s.mirPut n slot 0 mirNone).mirPut n slot 160 [1] else s

/-- The pages mapped in a shadow table, with the frames. -/
def State.shadowPages (s : State) (f : Nat) : List (Nat × Nat) :=
  let e := s.tableEntry f
  (usedEntries (s.mem.cells (s.frameLoc f).1) (s.frameLoc f).2 8 8192).filterMap fun i =>
    let x := s.get8 (under e i)
    if x % 2 = 1 then (s.frameAt (bits x 7 4) (entryBase x)).map fun g => (i, g) else none

/-- The level-3 tables an entry holds, with their place in the window. -/
def State.mirTables (s : State) (n slot : Nat) : List (Nat × Nat) :=
  (List.range 8).filterMap fun t => let f := s.mirTable n slot t; if f = noFrame then none else some (t, f)

/-- Frees an entry with its shadow frames (R217). -/
def State.mirDrop (s : State) (n slot : Nat) : State :=
  if s.mirState n slot = 0 then s
  else
    let s := (s.mirTables n slot).foldl (fun s x =>
      ((s.shadowPages x.2).foldl (fun s p => s.unmapFrame p.2) s).quarantine x.2) s
    s.mirPut n slot 0 mirNone

/-- A failed allocation makes an entry BROKEN (R387). -/
def State.mirBreak (s : State) (n slot : Nat) : State :=
  ((s.mirPut n slot 160 [2]).bump C.KVM_MIR_BROKEN).raise E.mirrorBroken (s.ringSource n) (d0 := slot)

/-- The frame of a shadow page, its table and itself allocated where missing. -/
def State.shadowPage (s : State) (n slot w ctx : Nat) : Option Nat × State :=
  let t := w / 8192
  let r := if s.mirTable n slot t = noFrame then
      (match s.alloc .free1 3 ctx with
        | (none, s) => (none, s)
        | (some f, s) => (some f, ({ s with mem := s.mem.zero (s.frameLoc f).1 (s.frameLoc f).2 65536 } : State).mirPut n slot (128 + 4 * t) (toBytes 4 f)))
    else (some (s.mirTable n slot t), s)
  match r with
  | (none, s) => (none, s)
  | (some tf, s) =>
    let p := under (s.tableEntry tf) (w % 8192)
    let e := s.get8 p
    if e % 2 = 1 then (s.frameAt (bits e 7 4) (entryBase e), s)
    else match s.alloc .free1 1 ctx with
      | (none, s) => (none, s)
      | (some f, s) =>
        let s := { s with mem := s.mem.zero (s.frameLoc f).1 (s.frameLoc f).2 65536 }
        (some f, (s.put8 p (s.kvEntry f true)).mapFrame f)

/-- Bytes written into a shadow page; a failed allocation breaks the entry. -/
def shadowWrite (n slot w ctx off : Nat) (bs : List Byte) (s : State) : State :=
  if s.mirState n slot = 2 then s
  else match s.shadowPage n slot w ctx with
    | (none, s) => s.mirBreak n slot
    | (some f, s) => s.twrite (s.frameLoc f).1 ((s.frameLoc f).2 + off) bs

/-- What an entry does to its slot. -/
def applyKind (n : Nat) (e : MirEntry) (s : State) : State :=
  match e.kind with
  | 1 =>
    let b := nth [0, 640, 448, 320] (leAt e.payload 0 1) 0
    shadowWrite n e.slot e.page e.ctx (1536 + e.first * b) (slice e.payload 1536 (e.n * b))
      (shadowWrite n e.slot e.page e.ctx 0 (padTo 1536 (e.payload.take 1536)) s)
  | 2 => s.mirPut n e.slot 0 (padTo 128 (e.payload.take 128))
  | 3 =>
    let a := (s.carryArea e.ctx).1
    (pieces a e.payload.length).foldl (fun s p =>
      shadowWrite n e.slot (p.1 / 65536) e.ctx (p.1 % 65536) (slice e.payload (p.1 - a) p.2) s) s
  | 4 => s.mirDrop n e.slot
  | _ => s

/-- One entry applied (R387): a seed opens a BROKEN entry anew; without one a BROKEN entry is left alone. (DEDUCED: log entry 76) -/
def applyEntry (n : Nat) (e : MirEntry) (s : State) : State :=
  if e.kind = 5 then s
  else
    let s := if e.seed && decide (s.mirState n e.slot = 2) then s.mirDrop n e.slot else s
    if s.mirState n e.slot = 2 ∧ e.kind ≠ 4 then s
    else
      let s := applyKind n e (if e.kind = 4 then s else s.mirOpen n e.slot)
      if e.kind = 4 then s else s.mirPut n e.slot 164 (toBytes 4 e.group)

/-- The write offset ring `n`'s publish word names. -/
def State.ringPublished (s : State) (n : Nat) : Nat :=
  s.mem.le 1 (s.fld64 F.KVM_MIR_IN_LO_base F.KVM_MIR_IN_HI_base (ringDi n)) 4

/-- MIRROR_ENTRY_APPLY (R385): the next published entry of a ring; after a COMMIT the source's acknowledgement word takes
the consume offset and the group. (DEDUCED: log entry 76) -/
def mirrorEntryApply (n : Nat) (e : MirEntry) (s : State) : State :=
  let at_ := (nth s.mir.took n (256, 0)).1
  if !s.ringOn n || decide (at_ = s.ringPublished n) || decide (nSlots ≤ e.slot) then s
  else
    let len := ceilDiv (64 + e.payload.length) 256 * 256
    let size := s.fld F.KVM_MIR_IN_SIZE_size (ringDi n) * 65536
    let next := (if size < at_ + len then 256 else at_) + len
    let s := (applyEntry n e s).bump C.KVM_MIR_APPLIED
    let g := if e.kind = 5 then e.group else (nth s.mir.took n (256, 0)).2
    let s := { s with mir := { s.mir with took := s.mir.took.set n (next, g) } }
    if e.kind = 5 then
      let src := s.ringSource n
      s.sendStore src (src * 2 ^ 56 + 2 ^ 52 + Config.ackWord src) (toBytes 8 (next + g * 2 ^ 32)) 0 0
    else s

/-- MIRROR_ENTRY_APPLY (R385). -/
def execMirrorEntryApply (n : Nat) (e : MirEntry) (s : State) : Out := .next (s.alive fun s => mirrorEntryApply n e s)

/-- MIRROR_TIMEOUT (R386). -/
def execMirrorTimeout (i : Nat) (s : State) : Out :=
  .next (s.on fun s => if s.flag F.KVM_MIR_CTRL_enable ∧ i < s.mirPeers.length then suspendMirror i s else s)

/-! ### Restart commands (R388 to R390) -/

/-- RECOVER refused. -/
def State.recoverRefusal (s : State) (r : RecoverRec) : Option Nat :=
  firstOf [(r.rsv, St.format),
    (decide (16 ≤ r.ctx) || tbit r.dead s.self || tbit r.nextDecode 31 || !tbit r.nextPrefill 31, St.range),
    (!s.resident r.ctx || !s.flag F.FAB_CTX_JOB_torn (8 * r.ctx) || !s.flag F.FAB_TD_INFO_done || s.runs r.ctx, St.state)]

/-- The copy_sel an expert-map entry takes, where it changes: 2 mirror, 0 primary, 3 neither. (DEDUCED: log entry 77) -/
def copySel (dead x : Nat) : Option Nat :=
  let p := tbit dead (x % 256)
  let none_ := decide (bits x 15 8 = 255)
  let m := tbit dead (bits x 15 8)
  if p && (none_ || m) then some 3 else if p then some 2 else if m && !none_ then some 0 else none

/-- One expert-map entry (R388 step 1); an expert with no copy left raises its event. -/
def recoverEntry (c dead layer map e : Nat) (s : State) : State :=
  match s.walk (map + 8 * e) false with
  | .ok sp off pkg _ _ _ _ =>
    if pkg ≠ s.self then s
    else
      let x := s.mem.le sp off 8
      match copySel dead x with
      | none => s
      | some v =>
        let s := s.twrite sp off (toBytes 8 (setBits x 33 32 v))
        if v = 3 then s.raise E.expertLost 0xFFFF c e layer else s
  | _ => s

/-- The expert maps of a generation, each changed once. -/
def recoverGen (c dead : Nat) (a : List Nat × State) (g : Nat) : List Nat × State :=
  match a.2.gen c g with
  | none => a
  | some x => (a.2.tableRecords c x.table).zipIdx.foldl (fun (a : List Nat × State) ri =>
      let r := a.2.route ri.1
      if !(a.2.vread ri.1 128).good || a.1.contains r.map then a
      else (r.map :: a.1, (List.range r.n).foldl (fun s e => recoverEntry c dead ri.2 r.map e s) a.2)) a

/-- RECOVER's effect (R388). (DEDUCED: log entry 77) -/
def recoverEffect (r : RecoverRec) (s : State) : State :=
  let c := r.ctx
  let s := ([0, 1].foldl (recoverGen c r.dead) (([] : List Nat), s)).2
  let s := (List.range 5).foldl (fun s i =>
    let o := F.RES_CTX_SERVEn_serve.off + 0x80 * c + 4 * i
    s.wr o (s.rd o - (s.rd o &&& bits r.dead (32 * i + 31) (32 * i)))) s
  (s.setSeries c 0 { s.series c 0 with next := some r.nextDecode }).setSeries c 1 { (s.series c 1) with next := some r.nextPrefill }

/-- RECOVER (R388). -/
def execRecover (o : CmdOrigin) (r : RecoverRec) (s : State) : Out :=
  .next (s.on fun s => s.engine o 0x52 fun s => orElse o 0x52 (s.recoverRefusal r) (fun s => (recoverEffect r s).complete o 0x52 St.done) s)

/-- The incoming ring of a source. -/
def State.ringOf (s : State) (src : Nat) : Option Nat := (List.range 4).find? fun n => s.ringOn n && decide (s.ringSource n = src)

/-- The slots with an entry in ring `n`'s part of the mirror table, ascending. -/
def State.mirSlots (s : State) (n : Nat) : List Nat :=
  (usedEntries s.mem.t1 (s.mirPlace n 0) 256 nSlots).filter fun k => s.mirState n k ≠ 0

/-- The entries of context `c` in a state. -/
def State.mirOf (s : State) (n c st : Nat) : List Nat :=
  (s.mirSlots n).filter fun k => decide (s.mirState n k = st) && decide (s.mirGet n k 2 1 % 16 = c)

/-- Up to `k` empty slots from slot `n` on, trying at most `fuel`. -/
def emptyFrom (s : State) : Nat → Nat → Nat → List Nat
  | 0, _, _ => []
  | fuel + 1, k, n =>
    if k = 0 ∨ nSlots ≤ n then []
    else if s.slotEmpty n then n :: emptyFrom s fuel (k - 1) (n + 1) else emptyFrom s fuel k (n + 1)

/-- The lowest `k` empty slots, as many as there are. -/
def State.lowestEmpty (s : State) (k : Nat) : List Nat := emptyFrom s (k + s.slotsInUse.length) k 0

/-- ADOPT_ALL refused. -/
def State.adoptRefusal (s : State) (r : AdoptRec) : Option Nat :=
  firstOf [(r.rsv, St.format),
    (decide (16 ≤ r.ctx) || !qaddrOk r.resultAddr || (s.ringOf r.source).isNone, St.range),
    (!s.isLost r.source || !s.resident r.ctx, St.state),
    (match s.ringOf r.source with
      | some n => decide ((s.lowestEmpty (s.mirOf n r.ctx 1).length).length < (s.mirOf n r.ctx 1).length)
      | none => false, St.busy)]

/-- The fields an adopted slot keeps of the mirrored descriptor (R389). (DEDUCED: log entry 77) -/
def adoptedDesc (d : List Byte) : List Byte :=
  let at_ := fun (f : DField) => slice d f.1 f.2
  [1, 0] ++ toBytes 1 (leAt d 2 1 % 16) ++ [0] ++ toBytes 2 0 ++ at_ D.generation ++ at_ D.length ++ toBytes 8 0 ++ at_ D.generated ++ at_ D.lastToken ++ at_ D.prevToken ++
    toBytes 40 0 ++ at_ D.reqTag ++ toBytes 48 0

/-- One entry adopted into slot `k`: its tables are installed, its frames take the context, its descriptor is written, and
the entry is free; false where no table could be allocated, which breaks the entry. -/
def adoptSlot (n c src k : Nat) (s : State) : Bool × State :=
  let ts := s.mirTables n src
  let place := fun (s : State) (t : Nat) => under (s.get8 (s.l1Place (pageVa k 0))) (bits (pageVa k (t * 8192)) 41 29)
  let r := if ts = [] then (some 0, s) else s.ensure (s.l1Place (pageVa k 0)) c
  match r with
  | (none, s) => (false, s.mirBreak n src)
  | (some _, s) =>
    let d := s.mem.read 1 (s.mirPlace n src) 128
    let s := ts.foldl (fun s x =>
      let s := (s.shadowPages x.2).foldl (fun s p => s.pput p.2 P.ctx c) (s.pput x.2 P.ctx c)
      s.put8 (place s x.1) (s.tableEntry x.2)) s
    let s := { s.dropCached with mem := s.dropCached.mem.write 1 (s.seqOff k) (adoptedDesc d) }
    (true, s.mirPut n src 0 mirNone)

/-- ADOPT_ALL's effect (R389). (DEDUCED: log entry 77) -/
def adoptEffect (r : AdoptRec) (n : Nat) (s : State) : State :=
  let live := s.mirOf n r.ctx 1
  let s := s.bump C.KVM_MIR_BROKEN (s.mirOf n r.ctx 2).length
  let a := (live.zip (s.lowestEmpty live.length)).foldl (fun (a : List (Nat × Nat) × State) p =>
    let x := adoptSlot n r.ctx p.1 p.2 a.2
    (if x.1 then a.1 ++ [p] else a.1, x.2)) ([], s)
  let s := a.2.bump C.KVM_ADOPTED a.1.length
  let s := s.qwrite r.resultAddr (toBytes 4 a.1.length ++ (a.1.map fun p => toBytes 4 p.1 ++ toBytes 4 p.2).flatten)
  mirrorSlots r.ctx (a.1.map (·.2)) s

/-- ADOPT_ALL (R389). -/
def execAdoptAll (o : CmdOrigin) (r : AdoptRec) (s : State) : Out :=
  .next (s.on fun s => s.engine o 0x51 fun s => orElse o 0x51 (s.adoptRefusal r)
    (fun s => (adoptEffect r ((s.ringOf r.source).getD 0) s).complete o 0x51 St.done) s)

/-- DROP_MIRROR (R390). -/
def execDropMirror (o : CmdOrigin) (src : Nat) (rsv : Bool) (s : State) : Out :=
  .next (s.on fun s => s.engine o 0x53 fun s => orElse o 0x53 (firstOf [(rsv, St.format), (!s.flag F.KVM_MIR_CTRL_enable, St.state)])
    (fun s => (((List.range 4).filter fun n => s.ringOn n && decide (s.ringSource n = src)).foldl
      (fun s n => (s.mirSlots n).foldl (fun s k => s.mirDrop n k) s) s).complete o 0x53 St.done) s)

/-- RESYNC's effect: the slots of a context are to be seeded at every peer, and a suspended peer begins anew (R386). (DEDUCED: log entry 76) -/
def resyncEffect (c : Nat) (s : State) : State :=
  let reseed := fun (x : MirPeer × Nat) => ({ x.1 with seeded := if s.mirSuspended x.2 then [] else x.1.seeded.filter fun n => s.sctx n ≠ c } : MirPeer)
  let s := { s with mir := { s.mir with peers := s.mir.peers.zipIdx.map reseed } }
  s.setFld F.KVM_MIR_STATUS_suspended 0

/-- RESYNC (R390). -/
def execResync (o : CmdOrigin) (c : Nat) (rsv : Bool) (s : State) : Out :=
  .next (s.on fun s => s.engine o 0x54 fun s => orElse o 0x54
    (firstOf [(rsv, St.format), (decide (16 ≤ c), St.range), (!s.flag F.KVM_MIR_CTRL_enable, St.state)])
    (fun s => (resyncEffect c s).complete o 0x54 St.done) s)

/-! ### Fencing (R396 to R399) -/

/-- The events of a facet within the last second. -/
def State.recent (s : State) (m : KMap (List Nat)) (f : Nat) : Nat := ((kgetD m f []).filter fun t => s.us < t + 1000000).length

/-- Whether a reason of FCT_FENCE_STATUS calls for an automatic fence (R396). -/
def State.fenceDue (s : State) (f reason : Nat) : Bool :=
  s.flag F.FCT_FENCE_CFG_auto (fdi f) &&
    ((decide (reason = 1) && s.fences.mis.contains f) ||
     (decide (reason = 2) && decide (s.fld F.FCT_FENCE_CFG_ce_limit (fdi f) ≤ s.recent s.fences.ce f)) ||
     (decide (reason = 3) && decide (s.fld F.FCT_FENCE_CFG_ue_limit (fdi f) ≤ s.recent s.fences.ue f)))

/-- The unfenced facets of a die. -/
def State.unfenced (s : State) (d : Nat) : Nat := ((dieFacets d).filter fun f => !(s.fac f).fenced).length

/-- The fence counts of a facet begin anew. -/
def clearFences (f : Nat) (s : State) : State :=
  { s with fences := ⟨kdel s.fences.ce f, kdel s.fences.ue f, s.fences.mis.erase f⟩ }

/-- A facet's claimed tiles go back to their counters (R148, R397). (DEDUCED: log entry 78) -/
def returnAll (f : Nat) (s : State) : State :=
  let q := s.sqr f
  let s := match q.run with
    | some (_, tk) => giveBack tk s
    | none => s
  let ts := (q.run.map (·.1)).toList ++ q.ahead.toList ++ q.ret
  let s := s.modSq f fun q => { q with run := none, ahead := none, ret := [], claiming := false, waiting := false }
  ts.foldl (fun s t => (returnTile t s).bump (C.FCT_TILES_RETURNED + fdi f)) (s.unwait f)

/-- A facet leaves its launch at a fence; one that leaves it without facets makes it wait for others. (DESIGN CHOICE: log entry 35; DEDUCED: log entry 78) -/
def fenceLeave (f : Nat) (s : State) : State :=
  let q := s.sqr f
  let s := s.modSq f fun q => { q with running := false, standing := false, cur := none, named := [], exhausted := false, ordinal := 0 }
  if q.running then
    s.modLaunch q.pool fun l => if l.id = q.launch then { l with facets := l.facets.erase f, bare := decide (l.facets.erase f = []) } else l
  else s

/-- R397 step 4: a pool left empty while a launch runs takes 4 facets from the other. -/
def refillPool (s : State) (p : Nat) : State :=
  match (nth s.srv.pools p ⟨[], none⟩).run with
  | some l => if s.members p = [] ∧ (l.bare ∨ l.facets ≠ []) ∧ !s.moving then moveToward (decide (p = 0)) s else s
  | none => s

/-- The fence carried out (R397). -/
def fenceAction (f reason : Nat) (s : State) : State :=
  let s := fenceLeave f (returnAll f s)
  let x := s.fac f
  let s := if 2 ≤ x.scan then s.fresh.2.scanStatus f (s.fresh.1 % 256) else s
  let s := s.setFac f { x.emptied.gateOff with pool := 2, fenced := true, ring := none, scan := 0, pend := none, load := none }
  let s := [0, 1].foldl refillPool s
  (((s.setFld F.FCT_FENCE_STATUS_reason reason (fdi f)).bump (C.FCT_FENCES + fdi f)).raise E.facetFenced f (d0 := reason))

/-- An automatic fence: not made where the die would keep fewer than 4 unfenced facets (R396). (DEDUCED: log entry 78) -/
def autoFence (f reason : Nat) (s : State) : State :=
  if (s.fac f).fenced || !s.fenceDue f reason then s
  else if s.unfenced (f / 36) ≤ 4 then (clearFences f s).raise E.fenceRefused f
  else fenceAction f reason s

/-- FENCE (R397). (DEDUCED: log entry 78) -/
def fenceFacet (f : Nat) (cause : FenceCause) (s : State) : State :=
  match cause with
  | .auto reason => s.alive fun s => autoFence f reason s
  | .command org =>
    s.gated org (fctOff f 0x40) fun s =>
      (if (s.fac f).fenced then s else fenceAction f 4 s).setFld F.FCT_FENCE_STATUS_status St.done (fdi f)

/-- FENCE (R397). -/
def execFenceFacet (f : Nat) (cause : FenceCause) (s : State) : Out := .next (s.on fun s => if f < 72 then fenceFacet f cause s else s)

/-- UNFENCE (R399). (DEDUCED: log entry 78) -/
def unfence (org : Originator) (f : Nat) (s : State) : State :=
  s.gated org (fctOff f 0x40) fun s =>
    let x := s.fac f
    if !x.fenced then s.setFld F.FCT_FENCE_STATUS_status St.state (fdi f)
    else
      let s := clearFences f (s.setFac f { x with fenced := false, pool := 1, gated := if s.pstate = 0 then 4 else 2, valid := List.replicate 4 false })
      s.setFld F.FCT_FENCE_STATUS_status St.done (fdi f)

/-- UNFENCE (R399). -/
def execUnfenceFacet (org : Originator) (f : Nat) (s : State) : Out := .next (s.on fun s => if f < 72 then unfence org f s else s)

end Sys2Proof.Machine
end

