-- ==== Sys2Proof/Machine/Security.lean ====
section
/-!
DEFINITION. Security and debug (R451 to R474): lifecycle, keys and fuses, sessions, debug levels, the Loupe, JTAG and
test mode.
-/
namespace Sys2Proof.Machine

/-! ### Session messages (R458 to R460) -/

/-- Writes a byte list into a register window, a word at a time. -/
def writeWindow : Nat → Nat → Nat → List Byte → State → State
  | 0, _, _, _, s => s
  | n + 1, base, i, l, s => writeWindow n base (i + 1) (l.drop 4) (s.wr (base + 4 * i) (leAt l 0 4))

/-- Reads a register window as bytes. -/
def readWindow : Nat → Nat → State → List Byte
  | 0, _, _ => []
  | n + 1, base, s => toBytes 4 (s.rd base) ++ readWindow n (base + 4) s

/-- A response of R458: op + 0x80, status, session, tag, args, body. -/
def rspBytes (op status session tag args body : Nat) : List Byte :=
  toBytes 1 (op + 0x80) ++ toBytes 1 status ++ toBytes 2 session ++ toBytes 4 tag ++ toBytes 8 args ++ toBytes 112 body

/-- Sends a response to the originator of a session message: the mailbox window for the host, a vendor-defined message
for an SMBus endpoint (R496), the SEC_MBOX register for JTAG. -/
def sessionReply (org : Originator) (op : Nat) (m : SessMsg) (status : Nat) (s : State) (session args body : Nat := 0) : State :=
  let l := rspBytes op status (if session = 0 then m.session else session) m.tag args body
  match org with
  | .smbus e => s.emit (.smbus e (l.map (·.toNat)))
  | .jtag => { s with sec := { s.sec with jtagRsp := l } }
  | _ => (writeWindow 32 0x200180 0 l s).setFld F.SEC_MBOX_STATUS_busy 0 |>.setFld F.SEC_MBOX_CMD_go 0

/-- A request of a session's originator restarts its idle time (R462). -/
def touchSession (org : Originator) (s : State) : State :=
  { s with sec := { s.sec with sess := s.sec.sess.map fun e => e.map fun x => if x.isOpen && decide (x.org = org) then { x with stamp := s.us } else x } }

/-- Authority for a role: an open session of the originator that holds it, or sessionless use in BLANK (R456, R458). -/
def State.sessAuth (s : State) (org : Originator) (num role : Nat) : Bool :=
  if num = 0 then s.blank && (match org with | .host => true | .smbus _ => true | .jtag => true | _ => false)
  else match s.sessionOf org num with
    | some e => tbit e.roles role
    | none => false

/-- Whether a session slot is usable in the lifecycle state (R451). -/
def State.slotUsable (s : State) (n : Nat) : Bool :=
  if s.sec.lifecycle = 0 then true else if s.sec.lifecycle = 3 then n = 0 else decide (1 ≤ n)

/-- A slot as read: in test mode the key store is disconnected and reads as zero (R471). -/
def State.keyRead (s : State) (k : KeySlot) : KeySlot := if s.sec.testMode then { k with key := 0 } else k

/-- Session slot `n`. -/
def State.keySlot (s : State) (n : Nat) : KeySlot := s.keyRead (nth s.sec.keys n ⟨0, 0, 0⟩)

/-- Image slot `n`. -/
def State.imgSlot (s : State) (n : Nat) : KeySlot := s.keyRead (nth s.sec.imgKeys n ⟨0, 0, 0⟩)

/-- Whether session slot `n` is locked (R463). -/
def State.locked (s : State) (n : Nat) : Bool := (nth s.sec.locks n (0, 0)).1 ≠ 0

/-- Seconds of lockout left on slot `n`: at least 1 while the slot is locked. -/
def State.lockLeft (s : State) (n : Nat) : Nat :=
  let (secs, at_) := nth s.sec.locks n (0, 0)
  if secs = 0 then 0 else max 1 (secs - (s.us - at_) / 1000000)

/-! ### Ends of sessions (R462, R466, R446) -/

/-- Sets the debug level, raising the event and turning off a Loupe selection above it (R466, R468). -/
def setLevel (level by_ : Nat) (s : State) : State :=
  if s.sec.level = level then s
  else
    let s := { s with sec := { s.sec with level := level, levelBy := if level = 0 then 0 else by_ } }
    let s := (s.setFld F.DBG_LEVEL_level level).setFld F.DBG_LEVEL_session (if level = 0 then 0 else by_)
    let s := s.setFld F.GLB_STATUS_debug level
    let s := (s.raise E.debugLevel by_ (d0 := level)).bump C.DBG_LEVEL_CHANGES
    let sel := s.fld F.DBG_LOUPE_select
    if level = 0 ∨ (level < 2 ∧ 0x80 ≤ sel) then { s with sec := { s.sec with loupeOn := false } } else s

/-- Clears EXPERT_EN (R446). -/
def clearExpert (s : State) : State :=
  ({ s with sec := { s.sec with expertBy := 0 } }).setFld F.CFG_LEVEL_expert_en 0 |>.setFld F.CFG_LEVEL_session 0
    |>.setFld F.GLB_STATUS_expert_en 0

/-- Ends the session of an entry: what it set is released, and a transaction of its SMBus endpoint aborts (R444). -/
def endEntry (i : Nat) (s : State) : State :=
  match nth s.sec.sess i none with
  | none => s
  | some e =>
    let s := { s with sec := { s.sec with sess := s.sec.sess.set i none } }
    let s := if e.isOpen && decide (s.sec.level ≠ 0) && decide (s.sec.levelBy = e.number) then setLevel 0 e.number s else s
    let s := if e.isOpen && decide (s.sec.expertBy = e.number) && s.flag F.CFG_LEVEL_expert_en then clearExpert s else s
    match e.org with
    | .smbus a => if e.isOpen then s.abortTxnOf (.smbus a) else s
    | _ => s

/-- Ends every session that meets a condition. -/
def endSessions (p : Sess → Bool) (s : State) : State :=
  (List.range 4).foldl (fun s i => match nth s.sec.sess i none with
    | some e => if p e then endEntry i s else s
    | none => s) s

/-! ### OPEN, AUTH, CLOSE (R461 to R463) -/

/-- Byte `i` of the args. -/
def sarg (m : SessMsg) (i : Nat) : Nat := m.args / 256 ^ i % 256

/-- The lowest unused session number (R461). -/
def State.freeNumber (s : State) : Nat :=
  ((List.range 255).map (· + 1)).find? (fun n => !(s.sec.sess.filterMap id).any fun e => e.number = n) |>.getD 0

/-- The first free session entry. -/
def State.freeSession (s : State) : Option Nat := (List.range 4).find? fun i => (nth s.sec.sess i none).isNone

/-- OPEN's refusal under R460. -/
def openRefusal (org : Originator) (m : SessMsg) (s : State) : Option Nat :=
  let slot := sarg m 0
  let roles := sarg m 1
  firstOf
    [ (!s.boot.mcUp, St.notReady)
    , (decide (slot < 8) && (s.locked slot || !s.slotUsable slot ||
        (decide ((s.keySlot slot).state = 1) && decide ((s.keySlot slot).roles &&& roles ≠ roles))), St.auth)
    , (decide (m.status ≠ 0) || decide (m.session ≠ 0) || decide (m.args / 65536 ≠ 0) || decide (m.body ≠ 0) || decide (64 ≤ roles), St.format)
    , (decide (8 ≤ slot), St.range)
    , (decide ((s.keySlot slot).state ≠ 1) || (s.sec.sess.filterMap id).any (fun e => decide (e.org = org)), St.state)
    , (s.freeSession.isNone, St.busy) ]

/-- OPEN's effect: a session number, a nonce, a challenge pending. -/
def openEffect (org : Originator) (m : SessMsg) (s : State) : State :=
  let n := s.freeNumber
  let (v, s) := s.fresh
  let nonce := v % 2 ^ 256
  match s.freeSession with
  | none => s
  | some i =>
    let s := { s with sec := { s.sec with sess := s.sec.sess.set i (some ⟨n, org, sarg m 0, sarg m 1, nonce, false, s.us⟩) } }
    sessionReply org 0x01 m St.done s n 0 nonce

/-- OPEN (R461). -/
def openSession (org : Originator) (m : SessMsg) (s : State) : State :=
  match openRefusal org m s with
  | some st => sessionReply org 0x01 m st s 0 (if decide (sarg m 0 < 8) && s.locked (sarg m 0) then s.lockLeft (sarg m 0) else 0)
  | none => openEffect org m s

/-- OPEN (R461). -/
def execOpenSession (org : Originator) (m : SessMsg) (s : State) : Out := .next (s.reach org fun s => openSession org m s)

/-- The originator code and endpoint ID of the AUTH string (R461). -/
def authOrigin : Originator → Nat × Nat
  | .host => (0, 0)
  | .smbus e => (1, e)
  | _ => (2, 0)

/-- The 57-byte string of R461. -/
def authString (part : Nat) (e : Sess) : List Byte :=
  [0x53, 0x5A, 0x34, 0x38, 0x39, 0x36, 0x2D, 0x41, 0x55, 0x54, 0x48] ++ toBytes 32 e.nonce ++ toBytes 8 part ++
    toBytes 1 e.slot ++ toBytes 1 e.roles ++ toBytes 2 e.number ++ toBytes 1 (authOrigin e.org).1 ++ toBytes 1 (authOrigin e.org).2

/-- The 59-byte string of the confirmation (R461). -/
def confString (r : Nat) : List Byte :=
  [0x53, 0x5A, 0x34, 0x38, 0x39, 0x36, 0x2D, 0x43, 0x4F, 0x4E, 0x46] ++ toBytes 48 r

/-- The entry index of a session number. -/
def State.entryOf (s : State) (num : Nat) : Option Nat :=
  (List.range 4).find? fun i => match nth s.sec.sess i none with
    | some e => e.number = num
    | none => false

/-- The seconds a slot is locked for after its `n`th failure in a row (R463). -/
def lockSeconds (n : Nat) : Nat := if 3 ≤ n then 2 ^ (min n 19 - 3) else 0

/-- A failed AUTH (R461, R463): the number is freed, the failure counts, the third or later locks the slot. -/
def authFail (i : Nat) (e : Sess) (s : State) : State :=
  let n := satBits 5 (nth s.sec.fails e.slot 0 + 1)
  let s := { s with sec := { s.sec with sess := s.sec.sess.set i none, fails := s.sec.fails.set e.slot n } }
  let s := s.bump C.SEC_AUTH_FAIL
  if 3 ≤ n then
    let s := { s with sec := { s.sec with locks := s.sec.locks.set e.slot (lockSeconds n, s.us) } }
    (s.bump C.SEC_LOCKOUTS).raise E.sessionLockout e.slot (d0 := lockSeconds n)
  else s

/-- AUTH's refusal under R460. -/
def authRefusal (org : Originator) (m : SessMsg) (s : State) : Option Nat :=
  let e := (s.entryOf m.session).bind fun i => nth s.sec.sess i none
  firstOf
    [ (!s.boot.mcUp, St.notReady)
    , ((match e with | some x => decide (x.org ≠ org) || s.locked x.slot | none => false), St.auth)
    , (decide (m.status ≠ 0) || decide (m.args ≠ 0) || decide (2 ^ 384 ≤ m.body), St.format)
    , ((match e with | some x => x.isOpen | none => true), St.state) ]

/-- AUTH (R461): a matching response opens the session with the requested roles. (DESIGN CHOICE: log entry 12) -/
def authSession (org : Originator) (m : SessMsg) (s : State) : State :=
  match authRefusal org m s with
  | some st => sessionReply org 0x02 m st s
  | none =>
    match s.entryOf m.session with
    | none => s
    | some i =>
      match nth s.sec.sess i none with
      | none => s
      | some e =>
        let key := (s.keySlot e.slot).key
        if Config.hmac384 key (ofBytes (authString s.sec.partId e)) = m.body then
          let s := { s with sec := { s.sec with sess := s.sec.sess.set i (some { e with isOpen := true, stamp := s.us }),
                                                fails := s.sec.fails.set e.slot 0 } }
          sessionReply org 0x02 m St.done (s.bump C.SEC_AUTH_OK) m.session e.roles (Config.hmac384 key (ofBytes (confString m.body)) % 2 ^ 384)
        else sessionReply org 0x02 m St.auth (authFail i e s)

/-- AUTH (R461). -/
def execAuthSession (org : Originator) (m : SessMsg) (s : State) : Out := .next (s.reach org fun s => authSession org m s)

/-- CLOSE's refusal. -/
def closeRefusal (org : Originator) (m : SessMsg) (s : State) : Option Nat :=
  firstOf
    [ (!s.boot.mcUp, St.notReady)
    , ((s.sessionOf org m.session).isNone, St.auth)
    , (decide (m.status ≠ 0) || decide (m.args ≠ 0) || decide (m.body ≠ 0), St.format) ]

/-- CLOSE (R462). -/
def closeSession (org : Originator) (m : SessMsg) (s : State) : State :=
  match closeRefusal org m s with
  | some st => sessionReply org 0x03 m st s
  | none => sessionReply org 0x03 m St.done (endSessions (fun e => decide (e.number = m.session) && e.isOpen) s)

/-- CLOSE (R462). -/
def execCloseSession (org : Originator) (m : SessMsg) (s : State) : Out := .next (s.reach org fun s => closeSession org m s)

/-! ### SET_DEBUG and SET_EXPERT (R465, R466, R446) -/

/-- Whether a session, or sessionless use in BLANK, reaches a debug level (R465). -/
def State.levelAuth (s : State) (org : Originator) (num level : Nat) : Bool :=
  if num = 0 then s.sessAuth org 0 roleObserve && decide (level ≤ 1)
  else match s.sessionOf org num with
    | none => false
    | some e =>
      let lower := decide (s.sec.levelBy = num) && decide (level ≤ s.sec.level)
      let role := if level = 2 then tbit e.roles roleInvasive
        else if level = 1 then tbit e.roles roleObserve || tbit e.roles roleInvasive
        else true
      let slot0 := if s.sec.lifecycle = 3 then decide (e.slot = 0)
        else if s.sec.lifecycle = 0 ∧ level = 2 then decide (e.slot = 0) else true
      lower || (role && slot0)

/-- SET_DEBUG's refusal under R460. (DESIGN CHOICE: log entry 18) -/
def setDebugRefusal (org : Originator) (m : SessMsg) (s : State) : Option Nat :=
  let level := sarg m 0
  firstOf
    [ (!s.boot.mcUp, St.notReady)
    , (decide (level ≤ 2) && !s.levelAuth org m.session level || (decide (2 < level) && !s.sessAuth org m.session roleObserve), St.auth)
    , (decide (m.status ≠ 0) || decide (256 ≤ m.args) || decide (m.body ≠ 0), St.format)
    , (decide (2 < level), St.range)
    , (decide (s.sec.lifecycle = 2) && decide (level = 2) && !s.allAbsent, St.state)
    , (decide (s.sec.level ≠ 0) && decide (s.sec.levelBy ≠ m.session), St.busy) ]

/-- SET_DEBUG (R466). -/
def setDebug (org : Originator) (m : SessMsg) (s : State) : State :=
  match setDebugRefusal org m s with
  | some st => sessionReply org 0x04 m st s
  | none => sessionReply org 0x04 m St.done (setLevel (sarg m 0) m.session s)

/-- SET_DEBUG (R466). -/
def execSetDebug (org : Originator) (m : SessMsg) (s : State) : Out := .next (s.reach org fun s => setDebug org m (touchSession org s))

/-- SET_EXPERT's refusal. -/
def setExpertRefusal (org : Originator) (m : SessMsg) (s : State) : Option Nat :=
  firstOf
    [ (!s.boot.mcUp, St.notReady)
    , (!s.sessAuth org m.session roleExpert, St.auth)
    , (decide (m.status ≠ 0) || decide (2 ≤ m.args) || decide (m.body ≠ 0), St.format)
    , (s.flag F.CFG_LEVEL_expert_en && decide (s.sec.expertBy ≠ m.session), St.busy) ]

/-- EXPERT_EN set by a session (R446). -/
def setExpertEn (num : Nat) (s : State) : State :=
  ({ s with sec := { s.sec with expertBy := num } }).setFld F.CFG_LEVEL_expert_en 1 |>.setFld F.CFG_LEVEL_session num
    |>.setFld F.GLB_STATUS_expert_en 1

/-- SET_EXPERT (R446). -/
def setExpert (org : Originator) (m : SessMsg) (s : State) : State :=
  match setExpertRefusal org m s with
  | some st => sessionReply org 0x05 m st s
  | none => sessionReply org 0x05 m St.done (if sarg m 0 = 1 then setExpertEn m.session s else clearExpert s)

/-- SET_EXPERT (R446). -/
def execSetExpert (org : Originator) (m : SessMsg) (s : State) : Out := .next (s.reach org fun s => setExpert org m (touchSession org s))

/-! ### Fuse writes (R452 to R455) -/

/-- The prime of P-384. (PRESUMED: log entry 13) -/
def p384P : Nat := 2 ^ 384 - 2 ^ 128 - 2 ^ 96 + 2 ^ 32 - 1

/-- The constant b of P-384. (PRESUMED: log entry 13) -/
def p384B : Nat := 0xb3312fa7e23ee7e4988e056be3f82d19181d9c6efe8141120314088f5013875ac656398d8a2ed19d2a85c8edd3ec2aef

/-- Whether a 96-byte key, x then y, is a point on P-384. (PRESUMED: log entry 13) -/
def onP384 (k : Nat) : Bool :=
  let x := k % 2 ^ 384
  let y := k / 2 ^ 384
  decide (x < p384P) && decide (y < p384P) && decide (y * y % p384P = (x * x * x + (p384P - 3) * x + p384B) % p384P)

/-- The number of ACTIVE session slots from 1 to 7 holding provision, without `out`. -/
def State.provisionSlots (s : State) (out : Nat) : Nat :=
  ((List.range 8).filter fun n => n ≠ out && decide ((s.keySlot n).state = 1) && decide (1 ≤ n) && tbit (s.keySlot n).roles roleProvision).length

/-- The number of ACTIVE image slots from 1 to 4, without `out`. -/
def State.activeImages (s : State) (out : Nat) : Nat :=
  ((List.range 5).filter fun n => n ≠ out && decide (1 ≤ n) && decide ((s.imgSlot n).state = 1)).length

/-- The state precondition of an advance (R452). -/
def State.advanceOk (s : State) : Bool :=
  if s.sec.lifecycle = 0 then decide (0 < s.provisionSlots 8)
  else if s.sec.lifecycle = 1 then decide (0 < s.activeImages 8) &&
    (match s.sec.imgSlot with | some n => decide (1 ≤ n) && decide ((s.imgSlot n).state = 1) | none => false)
  else s.allAbsent

/-- The refusal rows common to the provisioning ops: `fmt`, `rng` and `sta` say what R460 asks of this op. -/
def fuseRefusal (org : Originator) (m : SessMsg) (fmt rng sta : Bool) (s : State) : Option Nat :=
  firstOf
    [ (!s.boot.mcUp, St.notReady)
    , (!s.sessAuth org m.session roleProvision, St.auth)
    , (decide (m.status ≠ 0) || fmt, St.format)
    , (rng, St.range)
    , (sta, St.state)
    , (s.sec.fuse.isSome, St.busy) ]

/-- Starts a fuse write; its response follows when it is done (R455). -/
def startFuse (op : Nat) (org : Originator) (m : SessMsg) (w : FuseOp) (s : State) : State :=
  let s := { s with sec := { s.sec with fuse := some (w, org, m, op) } }
  if org = .host then s.setFld F.SEC_MBOX_STATUS_busy 1 else s

/-- A provisioning op: refused, or its fuse write starts. -/
def fuseCmd (op : Nat) (org : Originator) (m : SessMsg) (fmt rng sta : Bool) (w : FuseOp) (s : State) : State :=
  match fuseRefusal org m fmt rng sta s with
  | some st => sessionReply org op m st s
  | none => startFuse op org m w s

/-- KEY_WRITE (R453). -/
def keyWrite (org : Originator) (m : SessMsg) (s : State) : State :=
  let slot := sarg m 0
  fuseCmd 0x06 org m (decide (65536 ≤ m.args) || decide (64 ≤ sarg m 1) || decide (2 ^ 384 ≤ m.body))
    (decide (slot = 0) || decide (7 < slot)) (decide ((s.keySlot slot).state ≠ 0)) (.key slot (sarg m 1) m.body) s

/-- KEY_WRITE (R453). -/
def execKeyWrite (org : Originator) (m : SessMsg) (s : State) : Out := .next (s.reach org fun s => keyWrite org m (touchSession org s))

/-- KEY_REVOKE (R453). -/
def keyRevoke (org : Originator) (m : SessMsg) (s : State) : State :=
  let slot := sarg m 0
  fuseCmd 0x07 org m (decide (256 ≤ m.args) || decide (m.body ≠ 0)) (decide (slot = 0) || decide (7 < slot))
    ((decide ((s.keySlot slot).state ≠ 1) && decide ((s.keySlot slot).state ≠ 3)) ||
      (decide (s.sec.lifecycle = 2) && decide (s.provisionSlots slot = 0))) (.keyRevoke slot) s

/-- KEY_REVOKE (R453). -/
def execKeyRevoke (org : Originator) (m : SessMsg) (s : State) : Out := .next (s.reach org fun s => keyRevoke org m (touchSession org s))

/-- IMGKEY_WRITE (R454). -/
def imgkeyWrite (org : Originator) (m : SessMsg) (s : State) : State :=
  let slot := sarg m 0
  fuseCmd 0x08 org m (decide (256 ≤ m.args) || decide (2 ^ 768 ≤ m.body) || !onP384 m.body) (decide (slot = 0) || decide (4 < slot))
    (decide ((s.imgSlot slot).state ≠ 0)) (.imgKey slot m.body) s

/-- IMGKEY_WRITE (R454). -/
def execImgkeyWrite (org : Originator) (m : SessMsg) (s : State) : Out := .next (s.reach org fun s => imgkeyWrite org m (touchSession org s))

/-- IMGKEY_REVOKE (R454). -/
def imgkeyRevoke (org : Originator) (m : SessMsg) (s : State) : State :=
  let slot := sarg m 0
  fuseCmd 0x09 org m (decide (256 ≤ m.args) || decide (m.body ≠ 0)) (decide (slot = 0) || decide (4 < slot))
    ((decide ((s.imgSlot slot).state ≠ 1) && decide ((s.imgSlot slot).state ≠ 3)) ||
      (decide (s.sec.lifecycle = 2) && decide (s.activeImages slot = 0))) (.imgRevoke slot) s

/-- IMGKEY_REVOKE (R454). -/
def execImgkeyRevoke (org : Originator) (m : SessMsg) (s : State) : Out := .next (s.reach org fun s => imgkeyRevoke org m (touchSession org s))

/-- SVN_ADVANCE (R460): a value not above the fused one completes DONE with no effect. -/
def svnAdvance (org : Originator) (m : SessMsg) (s : State) : State :=
  let v := m.args % 2 ^ 32
  let fmt := decide (2 ^ 32 ≤ m.args) || decide (m.body ≠ 0)
  let rng := decide (64 < v) || decide (s.fld F.CFG_IMG_SVN_svn < v)
  match fuseRefusal org m fmt rng false s with
  | some st => sessionReply org 0x0A m st s
  | none => if v ≤ s.sec.svn then sessionReply org 0x0A m St.done s else startFuse 0x0A org m (.svn v) s

/-- SVN_ADVANCE (R460). -/
def execSvnAdvance (org : Originator) (m : SessMsg) (s : State) : Out := .next (s.reach org fun s => svnAdvance org m (touchSession org s))

/-- LIFECYCLE_ADVANCE (R452). -/
def lifecycleAdvance (org : Originator) (m : SessMsg) (s : State) : State :=
  let t := sarg m 0
  fuseCmd 0x0B org m (decide (256 ≤ m.args) || decide (m.body ≠ 0)) (decide (t ≠ s.sec.lifecycle + 1) || decide (3 < t)) (!s.advanceOk) (.lifecycle t) s

/-- LIFECYCLE_ADVANCE (R452). -/
def execLifecycleAdvance (org : Originator) (m : SessMsg) (s : State) : Out := .next (s.reach org fun s => lifecycleAdvance org m (touchSession org s))

/-- Sets a slot's state to REVOKED. -/
def revokeSlot (l : List KeySlot) (n : Nat) : List KeySlot := l.set n { nth l n ⟨0, 0, 0⟩ with state := 2 }

/-- What a completed fuse write changes. -/
def applyFuse (w : FuseOp) (s : State) : State :=
  match w with
  | .key n k r => { s with sec := { s.sec with keys := s.sec.keys.set n ⟨k, r, 1⟩ } }
  | .keyRevoke n => { s with sec := { s.sec with keys := revokeSlot s.sec.keys n } }
  | .imgKey n k => { s with sec := { s.sec with imgKeys := s.sec.imgKeys.set n ⟨k, 0, 1⟩ } }
  | .imgRevoke n => { s with sec := { s.sec with imgKeys := revokeSlot s.sec.imgKeys n } }
  | .svn v => { s with sec := { s.sec with svn := v } }
  | .lifecycle c =>
    let s := { s with sec := { s.sec with lifecycle := c } }
    if c = 3 then
      { s with sec := { s.sec with keys := [1, 2, 3, 4, 5, 6, 7].foldl revokeSlot s.sec.keys, imgKeys := [1, 2, 3, 4].foldl revokeSlot s.sec.imgKeys } }
    else s

/-- What follows the response: a lifecycle advance ends every session, the debug level and EXPERT_EN (R452); a
revocation ends the sessions of its slot (R462). -/
def afterFuse (w : FuseOp) (s : State) : State :=
  match w with
  | .lifecycle c => (clearExpert (setLevel 0 s.sec.levelBy (endSessions (fun _ => true) s))).raise E.keyStore (d0 := c)
  | .keyRevoke n => endSessions (fun e => e.slot = n) s
  | _ => s

/-- FUSE_WRITE_DONE (R455). -/
def fuseDone (s : State) : State :=
  match s.sec.fuse with
  | none => s
  | some (w, org, m, op) => afterFuse w (sessionReply org op m St.done (applyFuse w { s with sec := { s.sec with fuse := none } }))

/-- FUSE_WRITE_DONE (R455). -/
def execFuseWriteDone (s : State) : Out := .next (s.on fun s => fuseDone s)

/-- A loss of power during a fuse write leaves the slot it was writing BROKEN (R455). (DEDUCED: log entry 85) -/
def fuseLost (s : State) : State :=
  match s.sec.fuse with
  | some (.key n _ _, _) => { s with sec := { s.sec with fuse := none, keys := s.sec.keys.set n { nth s.sec.keys n ⟨0, 0, 0⟩ with state := 3 } } }
  | some (.keyRevoke n, _) => { s with sec := { s.sec with fuse := none, keys := s.sec.keys.set n { nth s.sec.keys n ⟨0, 0, 0⟩ with state := 3 } } }
  | some (.imgKey n _, _) => { s with sec := { s.sec with fuse := none, imgKeys := s.sec.imgKeys.set n { nth s.sec.imgKeys n ⟨0, 0, 0⟩ with state := 3 } } }
  | some (.imgRevoke n, _) => { s with sec := { s.sec with fuse := none, imgKeys := s.sec.imgKeys.set n { nth s.sec.imgKeys n ⟨0, 0, 0⟩ with state := 3 } } }
  | _ => { s with sec := { s.sec with fuse := none } }

/-! ### Expiries (R461 to R463) -/

/-- CHALLENGE_EXPIRE (R461): the pending challenge of an entry ends. -/
def challengeExpire (i : Nat) (s : State) : State :=
  match nth s.sec.sess i none with
  | some e => if e.isOpen then s else { s with sec := { s.sec with sess := s.sec.sess.set i none } }
  | none => s

/-- CHALLENGE_EXPIRE (R461). -/
def execChallengeExpire (i : Nat) (s : State) : Out := .next (s.on fun s => challengeExpire i s)

/-- SESSION_IDLE_TIMEOUT (R462). -/
def sessionIdle (i : Nat) (s : State) : State :=
  match nth s.sec.sess i none with
  | some e => if e.isOpen then endEntry i s else s
  | none => s

/-- SESSION_IDLE_TIMEOUT (R462). -/
def execSessionIdleTimeout (i : Nat) (s : State) : Out := .next (s.on fun s => sessionIdle i s)

/-- SESSION_LOCKOUT_EXPIRE (R463). -/
def lockExpire (n : Nat) (s : State) : State := { s with sec := { s.sec with locks := s.sec.locks.set n (0, 0) } }

/-- SESSION_LOCKOUT_EXPIRE (R463). -/
def execSessionLockoutExpire (n : Nat) (s : State) : Out := .next (s.aon fun s => lockExpire n s)

/-! ### JTAG (R469 to R471) -/

/-- TRST (R462, R469): the TAP is reset to IDCODE and a JTAG session ends. -/
def trst (s : State) : State :=
  let s := endSessions (fun e => decide (e.org = .jtag)) s
  ({ s with sec := { s.sec with jtag := 0x01 } }).setFld F.DBG_JTAG_STATUS_instruction 0x01

/-- TRST (R462). -/
def execTrst (s : State) : Out := .next (s.aon fun s => trst s)

/-- Whether the package is held in reset. -/
def State.inReset (s : State) : Bool := decide (s.power = .inReset)

/-- Whether a slot-0 session is open. -/
def State.slot0Session (s : State) : Bool := (s.sec.sess.filterMap id).any fun e => e.isOpen && decide (e.slot = 0)

/-- Whether TEST_MODE is permitted (R471): BLANK or RETURNED, a slot-0 session at D2, held in reset. (DEDUCED: log entry 27) -/
def State.testModeOk (s : State) : Bool :=
  (s.sec.lifecycle == 0 || s.sec.lifecycle == 3) && s.slot0Session && decide (2 ≤ s.sec.level) && s.inReset

/-- The instructions of R470. -/
def jtagListed (c : Nat) : Bool := [0x01, 0x02, 0x03, 0x04, 0x05, 0x06, 0x07, 0x20, 0x21, 0x30, 0xFF].contains c

/-- Whether an instruction is permitted (R470). (DEDUCED: log entry 27) -/
def State.jtagOk (s : State) (c : Nat) : Bool :=
  if c = 0x21 then decide (1 ≤ s.sec.level)
  else if c = 0x30 then s.testModeOk
  else if 0x03 ≤ c ∧ c ≤ 0x07 then s.inReset || decide (2 ≤ s.sec.level)
  else true

/-- JTAG_INSTRUCTION (R470): the loaded instruction takes effect, or acts as BYPASS. -/
def jtagInstruction (code : Nat) (s : State) : State :=
  let c := code % 256
  let s := s.setFld F.DBG_JTAG_STATUS_instruction c
  if !jtagListed c then { s with sec := { s.sec with jtag := 0xFF } }
  else if s.jtagOk c then { s with sec := { s.sec with jtag := c } }
  else ({ s with sec := { s.sec with jtag := 0xFF } }).setFld F.DBG_JTAG_STATUS_refused 1

/-- JTAG_INSTRUCTION (R470). -/
def execJtagInstruction (code : Nat) (s : State) : Out := .next (s.aon fun s => jtagInstruction code s)

/-- TEST_MODE (R471): where permitted, the key store reads as zero from then on, all SRAM is cleared and the internal
scan chains go to the TAP; else BYPASS with refused set. -/
def testMode (s : State) : State :=
  if s.testModeOk then
    let s := { s with sec := { s.sec with testMode := true, jtag := 0x30 }, mem := { s.mem with t0 := [], p0 := [] } }
    s.setFld F.DBG_JTAG_STATUS_instruction 0x30
  else jtagInstruction 0x30 s

/-- TEST_MODE (R471). -/
def execTestMode (s : State) : Out := .next (s.aon fun s => testMode s)

/-! ### The Loupe (R467, R468) -/

/-- The level a selection needs; none for a code that is not listed. -/
def loupeLevel (sel : Nat) : Option Nat :=
  if [0x01, 0x10, 0x20, 0x21, 0x40, 0x50, 0x51, 0x60].contains sel then some 1
  else if sel = 0x80 ∨ sel = 0x90 then some 2 else none

/-- The range of the unit field of a selection (R474). -/
def loupeUnitOk (sel unit : Nat) : Bool :=
  if sel = 0x20 then decide (unit < 16) else if sel = 0x40 then decide (unit < 12)
  else if sel = 0x50 ∨ sel = 0x51 ∨ sel = 0x80 then decide (unit < 72)
  else if sel = 0x90 then decide (unit < 8) else true

/-- A write of DBG_LOUPE (R468): accepted at D1 or above, range-checked, refused for its level or an unknown code. -/
def loupeSelect (org : Originator) (value : Nat) (s : State) : State :=
  s.gated org 0x600008 fun s =>
    let sel := value % 256
    let unit := value / 256 % 256
    let div := value / 65536 % 256
    if div < 4 || !loupeUnitOk sel unit then s.accessEvent org 0x600008 2
    else match loupeLevel sel with
      | none => s.setFld F.DBG_LOUPE_STATUS_status St.format
      | some l =>
        if s.sec.level < l then s.setFld F.DBG_LOUPE_STATUS_status St.auth
        else
          let s := (s.wr 0x600008 (value % 2 ^ 25)).setFld F.DBG_LOUPE_STATUS_status St.done
          { s with sec := { s.sec with loupeOn := tbit value 24 } }

/-- LOUPE_SELECT (R468). -/
def execLoupeSelect (org : Originator) (value : Nat) (s : State) : Out := .next (s.on fun s => loupeSelect org value s)

/-- A frame of the Loupe (R467): byte 0 is 0xA0 plus the frame counter modulo 16, bytes 1 to 4 the probe word. -/
def loupeFrame (probe : Nat) (s : State) : State :=
  let n := s.sec.loupeFrame
  let s := s.emit (.loupe ((0xA0 + n % 16) :: (toBytes 4 probe).map (·.toNat)))
  ({ s with sec := { s.sec with loupeFrame := (n + 1) % 2 ^ 32 } }).setFld F.DBG_LOUPE_STATUS_frame ((n + 1) % 16)

end Sys2Proof.Machine
end

