-- ==== Sys2Proof/Machine/Reset.lean ====
section
/-!
DEFINITION. Supplies and resets (R426 to R429, R421, R449): what each reset clears and what the AON domain keeps.
-/
namespace Sys2Proof.Machine

/-- The security state that a package reset leaves: fuses, failure counts and lockout timers (R428, R463), the TAP
(R469), test mode (R471). A fuse write in progress goes on in the AON domain and ends without a response. -/
def secKept (s : State) : Sec :=
  let s := match s.sec.fuse with
    | some (w, _) => applyFuse w { s with sec := { s.sec with fuse := none } }
    | none => s
  { State.reset.sec with
    lifecycle := s.sec.lifecycle, svn := s.sec.svn, partId := s.sec.partId, keys := s.sec.keys, imgKeys := s.sec.imgKeys,
    fails := s.sec.fails, locks := s.sec.locks, jtag := s.sec.jtag, jtagRsp := s.sec.jtagRsp, testMode := s.sec.testMode }

/-- The pins after a package reset: inputs and the THERM_TRIP_N latch stay. -/
def pinsKept (s : State) : Pins :=
  { State.reset.pins with
    vddAon := s.pins.vddAon, pwrOk := s.pins.pwrOk, sysRstN := s.pins.sysRstN, perstN := s.pins.perstN,
    thermTripN := s.pins.thermTripN, smbAddr := s.pins.smbAddr }

/-- A package reset (R428): every domain but AON as after power-on, FAULT_N released, CLK_RST_CAUSE kept with the cause's
bit set; the flash and host memory are not the package's. The package is held in reset. (DESIGN CHOICE: log entry 3; DEDUCED: log entry 85) -/
def packageReset (cause : FieldRef) (s : State) : State :=
  ({ State.reset with
      pending := s.pending, free := s.free, us := s.us, out := s.out, power := .inReset, pins := pinsKept s
      regs := [(0x400004, s.rd 0x400004)], sec := secKept s
      mem := { State.reset.mem with host := s.mem.host, flash := s.mem.flash } } : State).setFld cause 1

/-- What outlasts the loss of VDD_AON: the fuses, a slot being written then being BROKEN (R455), and what lies outside the
package; the model's own fields stay. -/
def coldState (s : State) : State :=
  let t := fuseLost s
  { State.reset with
    pending := s.pending, free := s.free, out := s.out
    sec := { State.reset.sec with lifecycle := t.sec.lifecycle, svn := t.sec.svn, partId := t.sec.partId, keys := t.sec.keys, imgKeys := t.sec.imgKeys }
    mem := { State.reset.mem with host := s.mem.host, flash := s.mem.flash } }

/-- POWER_ON_RESET (R428): VDD_AON rises, and everything but the fuses is reset. -/
def execPowerOnReset (s : State) : Out := .next (coldState s)

/-- VDD_AON_REMOVAL (R421): the package is unpowered, and THERM_TRIP_N is released. -/
def execVddAonRemoval (s : State) : Out :=
  .next { coldState s with power := .unpowered, pins := { State.reset.pins with vddAon := false } }

/-- Start-up begins at t0 (R426). (DEDUCED: log entry 85) -/
def beginStartUp (s : State) : State :=
  if s.sec.testMode then s
  else { s with power := .running, boot := { s.boot with t0 := s.us }, pins := { s.pins with pwrOk := true, sysRstN := true } }

/-- START_UP (R426): PWR_OK and SYS_RST_N are both high; the straps of the SMBus address are sampled (R493). A package in
test mode leaves it only by a power-on reset (R471). (DEDUCED: log entry 27) -/
def execStartUp (smbAddr : Nat) (s : State) : Out :=
  .next (if s.power = .inReset then beginStartUp { s with pins := { s.pins with smbAddr := smbAddr % 8 } } else s)

/-- SYS_RST_PULSE (R426): a package reset while PWR_OK is high, and start-up again from the pulse's end. -/
def execSysRstPulse (s : State) : Out :=
  .next (s.on fun s => beginStartUp (packageReset F.CLK_RST_CAUSE_sys_rst s))

/-- PWR_OK_LOSS (R427): package reset; the package stays in reset until PWR_OK rises. -/
def execPwrOkLoss (s : State) : Out :=
  .next (s.on fun s => packageReset F.CLK_RST_CAUSE_pwr_ok_loss { s with pins := { s.pins with pwrOk := false } })

/-- A write of CLK_RST_CMD (R449): a wrong key discards it with the register-access event; cmd is an expert field. -/
def resetCmd (org : Originator) (value : Nat) (s : State) : State :=
  s.gated org 0x400000 fun s =>
    if bits value 31 24 ≠ 0xD1 then s.accessEvent org 0x400000 6
    else
      let a := s.expertArg org 0x400000 (bits value 1 0)
      if a.1 = 1 then beginStartUp (packageReset F.CLK_RST_CAUSE_software a.2) else a.2

/-- PACKAGE_RESET_CMD (R449). -/
def execPackageResetCmd (org : Originator) (value : Nat) (s : State) : Out := .next (s.on fun s => resetCmd org value s)

/-- The registers outside the blocks of a PCIe reset: the queue and MSI-X registers (block 7) and the host port's (20),
but for the identity of HST_ID. (PRESUMED: log entry 86) -/
def withoutHost (m : KMap Nat) : KMap Nat := m.filter fun e => (blockNum e.1 ≠ 7 && blockNum e.1 ≠ 20) || decide (e.1 = 0x3800000)

/-- Whether a PCIe reset takes the link down: a function-level reset and a return from D3hot leave it up. (PRESUMED: log entry 86) -/
def linkFalls : PcieResetKind → Bool
  | .flr => false
  | .d3hotReturn => false
  | _ => true

/-- A PCIe reset (R428, R429): the queues must be configured again, completions of commands in flight will be discarded,
the host's transaction aborts (R444) and its sessions end (R462). (PRESUMED: log entry 86) -/
def pcieReset (kind : PcieResetKind) (s : State) : State :=
  let link := s.rd F.HST_LINK_up.off
  let s := endSessions (fun e => decide (e.org = .host)) (s.abortTxnOf .host)
  let s := { s with
    regs := withoutHost s.regs, hq := State.reset.hq, hst := State.reset.hst
    latches := s.latches.filter fun l => decide (l.org ≠ Originator.host)
    pins := { s.pins with perstN := decide (kind ≠ PcieResetKind.perst) && s.pins.perstN } }
  let s := if linkFalls kind then s else s.wr F.HST_LINK_up.off link
  s.setFld F.CLK_RST_CAUSE_perst 1

/-- PCIE_RESET (R429). -/
def execPcieReset (kind : PcieResetKind) (s : State) : Out := .next (s.on fun s => pcieReset kind s)

/-- A microsecond of the AON time passes while VDD_AON is present (R508). (DESIGN CHOICE: log entry 1) -/
def tick (s : State) : State := s.aon fun s => { s with us := s.us + 1 }

end Sys2Proof.Machine
end

