-- ==== Sys2Proof/Machine/Transactions.lean ====
section
/-!
DEFINITION. Configuration transactions (R441 to R446, R548): staging, the commit checks of each chapter, the commit's
effects, and their commands.
-/
namespace Sys2Proof.Machine

/-! ### Register layouts and staged values -/

/-- The fields of a mask entry of R520, for a code of R511. -/
def maskFields : List FieldDef := [fd 0 0 .rw 1, fd 1 1 .rw 0, fd 2 2 .rw 0, fd 14 4 .rw 0]

/-- The code whose mask entry lies at an offset. -/
def maskCode (off : Nat) : Option Nat := if 0x510000 ≤ off ∧ off < 0x550000 then some ((off - 0x510000) / 4) else none

/-- The fields of the register at an aligned offset; none where the offset is unmapped (R505). -/
def regFields (off : Nat) : Option (List FieldDef) :=
  match maskCode off with
  | some c => some (if isEvent c then maskFields else [])
  | none =>
    match findReg off with
    | some (r, _) => some r.fields
    | none => if isCounterLo off || (decide (4 ≤ off) && isCounterLo (off - 4)) then some [] else none

/-- The bits of a field. -/
def FieldDef.mask (f : FieldDef) : Nat := (2 ^ (f.hi - f.lo + 1) - 1) * 2 ^ f.lo

/-- The bits of the fields that satisfy `p`. -/
def fieldsMask (p : FieldDef → Bool) (l : List FieldDef) : Nat := ((l.filter p).map (·.mask)).foldl (· + ·) 0

/-- `old` with the bits of `mask` taken from `new`. -/
def mixBits (old new mask : Nat) : Nat := (old &&& (2 ^ 32 - 1 - mask % 2 ^ 32)) ||| (new &&& (mask % 2 ^ 32))

/-- The RWL bits of a register. -/
def rwlMask (off : Nat) : Nat := fieldsMask (fun f => f.ty = .rwl) ((regFields off).getD [])

/-- The value and mask staged for a register. -/
def State.stagedAt (s : State) (off : Nat) : Nat × Nat := kgetD s.txn.staged off (0, 0)

/-- The present value of a register (R441): staged bits over the committed value. -/
def State.present (s : State) (off : Nat) : Nat := mixBits (s.rd off) (s.stagedAt off).1 (s.stagedAt off).2

/-- Stages bits of a register; a 8,193rd register is dropped, and the first such offset recorded (R442). -/
def State.stage (s : State) (off v mask : Nat) : State :=
  if (kget s.txn.staged off).isNone && decide (8192 ≤ s.txn.staged.length) then
    let s := if s.txn.overflow then s else s.setFld F.CFG_TXN_FAIL_offset off
    ({ s with txn := { s.txn with overflow := true } }).setFld F.CFG_TXN_STATUS_overflow 1
  else
    let x := s.stagedAt off
    let s := { s with txn := { s.txn with staged := kset s.txn.staged off (mixBits x.1 v mask, x.2 ||| mask) } }
    s.setFld F.CFG_TXN_STATUS_staged s.txn.staged.length

/-- The registers with staged RWL bits, ascending. -/
def State.stagedRwl (s : State) : List Nat := (s.txn.staged.filter fun e => decide (e.2.2 &&& rwlMask e.1 ≠ 0)).map (·.1)

/-- The state with its registers as the commit would leave them (R443). -/
def State.ifCommitted (s : State) : State :=
  { s with regs := s.txn.staged.foldl (fun m e => kset m e.1 (mixBits (s.rd e.1) e.2.1 e.2.2)) s.regs }

/-! ### Commit conditions -/

/-- The staged RWL registers in `[lo, hi)`. -/
def stagedIn (l : List Nat) (lo hi : Nat) : List Nat := l.filter fun o => decide (lo ≤ o) && decide (o < hi)

/-- The failures of a condition: its status at its lowest staged register. (DEDUCED: log entry 88) -/
def failAt (l : List Nat) (bad : Bool) (st : Nat) : List (Nat × Nat) :=
  match l with
  | [] => []
  | o :: _ => if bad then [(st, o)] else []

/-- Ranges `(start, length)` overlap. -/
def meets (a b : Nat × Nat) : Bool := overlap a.1 a.2 b.1 b.2

/-- KVM registers: refused while any frame is LIVE (R230). -/
def kvmChecks (s : State) (l : List Nat) : List (Nat × Nat) :=
  failAt (stagedIn l 0x1300000 0x1300030) (s.framesInUse.any fun f => s.pget f P.state = 1) St.state

/-- Mirror registers: refused while mirroring is enabled (R400). -/
def mirrorChecks (s : State) (l : List Nat) : List (Nat × Nat) :=
  failAt (stagedIn l 0x1300204 0x1300260) (s.flag F.KVM_MIR_CTRL_enable) St.state

/-- Whether draft context `d` has a smaller decode_max than its target `t` (R267); `s` is as the commit would leave it. -/
def draftBelow (s : State) (d t : Nat) : Bool :=
  decide (d ≠ t) && s.flag F.SEQ_CTX_CTRL_is_draft (0x40 * d) && decide (s.fld F.SEQ_CTX_CTRL_draft_of (0x40 * d) = t) &&
    decide (s.fld F.SEQ_CTX_LIMITS_decode_max (0x40 * d) < s.fld F.SEQ_CTX_LIMITS_decode_max (0x40 * t))

/-- The range conditions of R267 on context `n`. -/
def seqRange (s : State) (n : Nat) : Bool :=
  let d := 0x40 * n
  decide (s.fld F.SEQ_CTX_AREA_SIZE_size d < 64 + 88 * max (s.fld F.SEQ_CTX_LIMITS_decode_max d) (s.fld F.SEQ_CTX_PREFILL_prefill_max d)) ||
    decide (65536 < s.fld F.SEQ_CTX_CKPT_page d + 9 * s.fld F.SEQ_CTX_CKPT_stride d) ||
    decide (s.fld F.SEQ_CTX_CKPT_stride d * 65536 < s.ckptS n + s.fld F.SEQ_CTX_SHAPE_exp_layers d * s.carryLen n) ||
    (List.range 16).any fun m => draftBelow s m n || draftBelow s n m

/-- SEQ_CTX registers (R267): refused while run is 1. (DEDUCED: log entry 88) -/
def seqChecks (c : State) (l : List Nat) : List (Nat × Nat) :=
  (List.range 16).flatMap fun n =>
    let o := stagedIn l (0x1000100 + 0x40 * n) (0x1000140 + 0x40 * n)
    let run := c.flag F.SEQ_CTX_CTRL_run (0x40 * n)
    failAt o run St.state ++ failAt o (!run && seqRange c n) St.range

/-- A context's tier-0 share in 16 KiB units. -/
def share0 (s : State) (n : Nat) : Nat × Nat := (s.fld F.RES_CTX_T0_base (0x80 * n), s.fld F.RES_CTX_T0_size (0x80 * n))

/-- A context's fixed tier-1 share in bytes. -/
def shareFix (s : State) (n : Nat) : Nat × Nat :=
  (65536 * s.fld F.RES_CTX_T1FIX_base (0x80 * n), 65536 * s.fld F.RES_CTX_T1FIX_SIZE_size (0x80 * n))

/-- A context's weight share in tier 1. -/
def shareW (s : State) (n : Nat) : Nat × Nat :=
  (65536 * s.fld F.RES_CTX_T1W_base (0x80 * n), 65536 * s.fld F.RES_CTX_WSIZE_pages (0x80 * n))

/-- The tables and pools in tier 1 that are configured or staged (R288, R548). -/
def systemRanges (s : State) (l : List Nat) : List (Nat × Nat) :=
  let used := fun (offs : List Nat) => s.isConfigured offs || offs.any l.contains
  (if used [0x1300000, 0x1300004, 0x1300008, 0x1300010, 0x1300014, 0x1300018] then
    [(s.fld64 F.KVM_POOL1_BASE_LO_base F.KVM_POOL1_BASE_HI_base, 65536 * s.fld F.KVM_POOL1_COUNT_count)] else []) ++
  (if used [0x1300020, 0x1300024] then
    [(s.fld64 F.KVM_PFT_BASE_LO_base F.KVM_PFT_BASE_HI_base, 16 * (s.fld F.KVM_POOL1_COUNT_count + s.fld F.KVM_POOL2_COUNT_count))] else []) ++
  (if used [0x1300028, 0x130002C] then [(s.fld64 F.KVM_DIR_BASE_LO_base F.KVM_DIR_BASE_HI_base, 2 ^ 21)] else []) ++
  (if used [0x1000000, 0x1000004] then [(s.fld64 F.SEQ_TABLE_LO_base F.SEQ_TABLE_HI_base, 2 ^ 25)] else [])

/-- Whether the image of context `n` runs beyond the tier 2 that TIER_T2_CFG names (R288). -/
def imageBeyond (s : State) (n : Nat) : Bool :=
  let pop := s.fld F.TIER_T2_CFG_population
  decide (pop ≠ 0) &&
    decide (t2CapOf pop < 65536 * (s.fld F.RES_CTX_T2_base (0x80 * n) + s.fld F.RES_CTX_WSIZE_pages (0x80 * n)))

/-- The range conditions of R288 on context `n`. -/
def resRange (s : State) (sys : List (Nat × Nat)) (n : Nat) : Bool :=
  let top := 0x6000000000
  let fix := shareFix s n
  let w := shareW s n
  let others := (List.range 16).filter (· ≠ n)
  decide (top < fix.1 + fix.2) || decide (top < w.1 + w.2) || imageBeyond s n ||
    decide (2048 < (share0 s n).1 + (share0 s n).2) ||
    others.any (fun m => meets (share0 s n) (share0 s m)) ||
    (List.range 72).any (fun f => meets (share0 s n) (s.fld F.FCT_SPILL_base (fdi f), s.fld F.FCT_SPILL_size (fdi f))) ||
    meets fix w || others.any (fun m => meets fix (shareFix s m) || meets fix (shareW s m) || meets w (shareFix s m)) ||
    sys.any (fun r => meets fix r || meets w r) ||
    !tbit (s.rd (0x1601028 + 0x80 * n + 4 * (s.self / 32))) (s.self % 32) ||
    decide (2 ^ 32 < 16384 * s.fld F.RES_CTX_CARRY_offset (0x80 * n) + s.fld F.SEQ_CTX_SHAPE_exp_layers (0x40 * n) * s.carryLen n)

/-- RES_CTX registers (R288): refused for a context that is not ABSENT. (DEDUCED: log entry 88) -/
def resChecks (c : State) (l : List Nat) : List (Nat × Nat) :=
  (List.range 16).flatMap fun n =>
    let o := stagedIn l (0x1601000 + 0x80 * n) (0x1601080 + 0x80 * n)
    let used := decide (c.resState n ≠ 0)
    failAt o used St.state ++ failAt o (!used && resRange c (systemRanges c l) n) St.range

/-- SHD registers (R322); the table is judged as committed. -/
def shdChecks (s : State) (l : List Nat) : List (Nat × Nat) :=
  failAt (stagedIn l 0x1500008 0x1500010) (s.shdUsed ≠ []) St.state ++
    (List.range 16).flatMap fun n => failAt (stagedIn l (0x1500100 + 0x20 * n) (0x1500120 + 0x20 * n)) (decide (s.resState n ≠ 0)) St.state

/-- FAB_CRED (R370) and FAB_CTX_RSV (R368). -/
def fabChecks (c : State) (l : List Nat) : List (Nat × Nat) :=
  let c0 := c.fld F.FAB_CRED0_c0
  let c1 := c.fld F.FAB_CRED0_c1
  let c2 := c.fld F.FAB_CRED1_c2
  let c3 := c.fld F.FAB_CRED1_c3
  let c5 := c.fld F.FAB_CRED2_c5
  let sum := fun (r : FieldRef) => ((List.range 16).map fun n => c.fld r (8 * n)).foldl (· + ·) 0
  failAt (stagedIn l 0x1800018 0x1800024)
      (decide (c5 < 2) || decide (4096 < 2 * (c0 + c1) + 5 * (c2 + c3 + c.fld F.FAB_CRED2_c4 + c5))) St.range ++
    failAt (stagedIn l 0x1800800 0x1800880)
      (decide (c2 < 2 * sum F.FAB_CTX_RSV_r2) || decide (c3 < 2 * sum F.FAB_CTX_RSV_r3)) St.range

/-- Every failing condition of the open transaction as (status, lowest offset). (DEDUCED: log entry 88) -/
def State.commitFails (s : State) : List (Nat × Nat) :=
  let c := s.ifCommitted
  let l := s.stagedRwl
  (if s.txn.overflow then [(St.range, s.fld F.CFG_TXN_FAIL_offset)] else []) ++
    kvmChecks s l ++ mirrorChecks c l ++ seqChecks c l ++ resChecks c l ++ shdChecks s l ++ fabChecks c l

/-- The failure a COMMIT reports: the first status under R13, at the lowest offset with it. -/
def firstFail : List (Nat × Nat) → Option (Nat × Nat)
  | [] => none
  | (st, o) :: l =>
    match firstFail l with
    | none => some (st, o)
    | some (t, p) =>
      if refusalRank t < refusalRank st then some (t, p)
      else if st = t then some (st, min o p) else some (st, o)

/-! ### Applying -/

/-- A registered reservation takes hold, or is freed (R368). (DEDUCED: log entry 88) -/
def holdReserve (n : Nat) (s : State) : State :=
  if s.flag F.SEQ_CTX_CTRL_run (0x40 * n) && decide (s.fld F.FAB_CTX_RSV_r2 (8 * n) + s.fld F.FAB_CTX_RSV_r3 (8 * n) ≠ 0) then
    s.setFld F.FAB_CTX_RSV_held 1 (8 * n)
  else s

/-- What follows the new values: the pool registers start the table's initialisation (R216), reservations change (R368),
gateway routes are planned anew (R345), ports in HOLD are checked again (R369). (DEDUCED: log entry 48) -/
def afterCommit (l : List Nat) (s : State) : State :=
  let s := if stagedIn l 0x1300000 0x1300028 = [] then s else { s with kvm := { s.kvm with init := true, ready := false } }
  let s := ((List.range 16).filter fun n => l.contains (0x1800804 + 8 * n)).foldl (fun s n => holdReserve n (freeReserve n s)) s
  let s := if stagedIn l 0x1800100 0x1800200 = [] then s else planRoutes s
  recheckHold s

/-- Applies the staged RWL bits and closes the transaction (R443, R548). -/
def State.applyStaged (s : State) : State :=
  let l := s.stagedRwl
  let regs := s.txn.staged.foldl (fun m e => kset m e.1 (mixBits (s.rd e.1) e.2.1 (e.2.2 &&& rwlMask e.1))) s.regs
  let s := { s with regs := regs, boot := { s.boot with configured := l.foldl insertNat s.boot.configured } }
  afterCommit l (s.closeTxn.bump C.CFG_COMMITS)

/-- The commit of the open transaction (R443): its status and the state after it. -/
def State.commit (s : State) : Nat × State :=
  match firstFail s.commitFails with
  | some (st, o) => (st, ((s.setFld F.CFG_TXN_FAIL_offset o).closeTxn).bump C.CFG_COMMIT_FAIL)
  | none => (St.done, s.applyStaged)

/-! ### The commands (R442, R444, R446) -/

/-- Opens a transaction for an owner. -/
def openTxn (org : Originator) (s : State) : State :=
  let s := { s with txn := ⟨true, org, [], false⟩ }
  let s := ((s.setFld F.CFG_TXN_STATUS_state 1).setFld F.CFG_TXN_STATUS_owner (ownerCode org)).setFld F.CFG_TXN_STATUS_staged 0
  (s.setFld F.CFG_TXN_STATUS_overflow 0).setFld F.CFG_TXN_OWNER_id (s.ownerId org)

/-- Writes the status of a transaction command. -/
def txnStatus (st : Nat) (s : State) : State := s.setFld F.CFG_TXN_STATUS_status st

/-- BEGIN. -/
def beginTxn (org : Originator) (s : State) : State :=
  s.gated org 0x100000 fun s =>
    match firstOf [(!s.flag F.GLB_STATUS_config_ready, St.notReady), (s.txn.isOpen, St.busy)] with
    | some st => txnStatus st s
    | none => txnStatus St.done (openTxn org s)

/-- BEGIN (R442). -/
def execBeginTxn (org : Originator) (s : State) : Out := .next (s.on fun s => beginTxn org s)

/-- COMMIT or ABORT of a transaction: refused where none is open or another owns it. -/
def endTxn (org : Originator) (k : State → State) (s : State) : State :=
  s.gated org 0x100000 fun s =>
    match firstOf [(s.txn.isOpen && decide (s.txn.owner ≠ org), St.auth), (!s.txn.isOpen, St.state)] with
    | some st => txnStatus st s
    | none => k s

/-- COMMIT. -/
def commitTxn (org : Originator) (s : State) : State := endTxn org (fun s => txnStatus s.commit.1 s.commit.2) s

/-- COMMIT (R443). -/
def execCommitTxn (org : Originator) (s : State) : Out := .next (s.on fun s => commitTxn org s)

/-- ABORT. -/
def abortTxn (org : Originator) (s : State) : State := endTxn org (fun s => txnStatus St.done s.abortTxn) s

/-- ABORT (R442). -/
def execAbortTxn (org : Originator) (s : State) : Out := .next (s.on fun s => abortTxn org s)

/-- TRANSACTION_TIMEOUT (R444): open for CFG_TXN_TMO.timeout. -/
def txnTimeout (s : State) : State :=
  if s.txn.isOpen then s.abortTxn.raise E.transactionTimeout (ownerCode s.txn.owner) (d0 := s.fld F.CFG_TXN_OWNER_id) else s

/-- TRANSACTION_TIMEOUT (R444). -/
def execTransactionTimeout (s : State) : Out := .next (s.on fun s => txnTimeout s)

/-- A write of 1 to CFG_LEVEL.drop. -/
def expertDrop (org : Originator) (s : State) : State := s.gated org 0x100014 clearExpert

/-- EXPERT_DROP (R446). -/
def execExpertDrop (org : Originator) (s : State) : Out := .next (s.on fun s => expertDrop org s)

end Sys2Proof.Machine
end

