-- ==== Sys2Proof/Machine/View.lean ====
section
/-!
DEFINITION. What registers read as (R10, R441): the stored fields with staged values over them, and the read-only fields
that show the state of their blocks.
-/
namespace Sys2Proof.Machine

/-- Bits `32 i` to `32 i + 31` of a set of numbers. -/
def mapWord (i : Nat) (p : Nat → Bool) : Nat :=
  ((List.range 32).map fun b => bit (p (32 * i + b)) * 2 ^ b).foldl (· + ·) 0

/-- How many numbers below `n` satisfy `p`. -/
def countTo (n : Nat) (p : Nat → Bool) : Nat := ((List.range n).filter p).length

/-- Block GLB (R508): the copies in GLB_STATUS and the AON times. -/
def viewGlb (s : State) (o v : Nat) : Nat :=
  if o = 0x8 then
    setBits (setBits (setBits v 4 4 (s.fld F.EVT_ALERT_pending)) 7 5 s.pstate) 9 8 s.sec.lifecycle
  else if o = 0x10 then s.us % 2 ^ 32
  else if o = 0x14 then s.us / 2 ^ 32 % 2 ^ 32
  else if o = 0x18 then s.ms
  else v

/-- The origin code of a session (R473). -/
def sessOrigin : Originator → Nat
  | .host => 0
  | .jtag => 2
  | _ => 1

/-- SEC_SESS_n and SEC_SESS_IDLE_n. -/
def viewSess (s : State) (i : Nat) (idle : Bool) : Nat :=
  match nth s.sec.sess i none with
  | none => 0
  | some e =>
    if idle then min 600 ((s.us - e.stamp) / 1000000)
    else e.number + sessOrigin e.org * 2 ^ 8 + (if e.isOpen then e.roles * 2 ^ 16 else 0) + e.slot * 2 ^ 24 + bit e.isOpen * 2 ^ 27

/-- Block SEC (R473). -/
def viewSec (s : State) (o v : Nat) : Nat :=
  let a := o - 0x200000
  if a = 0 then s.sec.lifecycle + s.sec.svn * 2 ^ 8
  else if a = 4 then s.sec.partId % 2 ^ 32
  else if a = 8 then s.sec.partId / 2 ^ 32 % 2 ^ 32
  else if 0x10 ≤ a ∧ a < 0x30 then
    let n := (a - 0x10) / 4
    (s.keySlot n).state + (s.keySlot n).roles * 2 ^ 8 + nth s.sec.fails n 0 * 2 ^ 16
  else if 0x30 ≤ a ∧ a < 0x44 then (s.imgSlot ((a - 0x30) / 4)).state
  else if 0x50 ≤ a ∧ a < 0x70 then satBits 17 (s.lockLeft ((a - 0x50) / 4))
  else if 0x80 ≤ a ∧ a < 0xA0 then viewSess s ((a - 0x80) / 8) (decide (a % 8 = 4))
  else if a = 0xA0 ∨ a = 0xA4 then v - (v &&& 0x800044)
  else v

/-- Whether a facet shows as gated. -/
def State.showsGated (s : State) (f : Nat) : Bool := decide (f < 72) && decide (2 ≤ (s.fac f).gated)

/-- Block PWR (R423): the Shutter's maps. -/
def viewPwr (s : State) (o v : Nat) : Nat :=
  if o = 0x300014 then
    setBits (setBits v 6 0 (countTo 72 s.showsGated)) 14 8 (countTo 72 fun f => decide ((s.fac f).gated = 1))
  else if 0x300018 ≤ o ∧ o < 0x300024 then mapWord ((o - 0x300018) / 4) s.showsGated
  else v

/-- CLK_STATUS (R449): the PLLs of running domains are locked from configuration ready on. (DESIGN CHOICE: log entry 87) -/
def viewClk (s : State) (o v : Nat) : Nat :=
  if o = 0x400008 then
    if s.flag F.GLB_STATUS_config_ready then
      0x1F + bit (s.flag F.TIER_T2_STATUS_enabled) * 2 ^ 5 + bit (s.flag F.HST_LINK_up) * 2 ^ 6 +
        bit (s.flag F.ETH_P_CTRL_enable || s.flag F.ETH_P_CTRL_enable 0x10000) * 2 ^ 7 + 0xFF00
    else 0
  else v

/-- The bytes of EVT_LAST. -/
def State.lastRecord (s : State) : List Byte :=
  match s.evt.last with
  | some (q, e) => recordBytes q e
  | none => []

/-- Block EVT (R520), the mask entries' fixed bits included (R518). -/
def viewEvt (s : State) (o v : Nat) : Nat :=
  match maskCode o with
  | some c => if isEvent c then s.maskOf c else 0
  | none =>
    if o = 0x500014 then s.evt.tail
    else if o = 0x500018 then setBits (setBits v 8 0 s.evt.early.length) 10 10 (bit s.ringActive)
    else if 0x500040 ≤ o ∧ o < 0x500080 then leAt s.lastRecord (o - 0x500040) 4
    else v

/-- Block HQ: the pending-bit array (R489). -/
def viewHq (s : State) (o v : Nat) : Nat :=
  if 0x890000 ≤ o ∧ o < 0x890100 then mapWord ((o - 0x890000) / 4) s.hst.pba.contains else v

/-- The requests of a context pinned to its old generation (R269). -/
def State.pinnedOld (s : State) (c : Nat) : Nat :=
  if s.fld F.SEQ_CTX_GEN_STATUS_other (0x40 * c) = 2 then
    s.pinnedTo c (s.fld F.SEQ_CTX_GEN_other (0x40 * c))
  else 0

/-- Block SEQ (R268, R269). -/
def viewSeq (s : State) (o v : Nat) : Nat :=
  if o = 0x100001C then
    (s.members 1).length + bit s.moving * 2 ^ 7 + (s.members 0).length * 2 ^ 8 + s.srv.toward * 2 ^ 16 + s.srv.hold * 2 ^ 24
  else if 0x1000020 ≤ o ∧ o < 0x100002C then
    mapWord ((o - 0x1000020) / 4) fun f => decide (f < 72) && [1, 3].contains (s.fac f).pool
  else if 0x1000100 ≤ o ∧ o < 0x1000500 then
    let c := (o - 0x1000100) / 0x40
    let a := o % 0x40
    if a = 0x2C then setBits v 31 8 (s.pinnedOld c)
    else if a = 0x38 then (s.slotsIn c Sl.prefill).length + (s.slotsIn c Sl.decode).length
    else v
  else v

/-- A balance in two's complement. -/
def word32 (i : Int) : Nat := (i % 2 ^ 32).toNat

/-- Block ADM (R270). -/
def viewAdm (s : State) (o v : Nat) : Nat :=
  if o = 0x110000C then
    s.srv.queue.length + (s.srv.queue.filter fun n => s.sflag n Fl.borrowed).length * 2 ^ 16
  else if 0x1110000 ≤ o ∧ o < 0x1120000 ∧ o % 16 = 8 then word32 (s.balOf ((o - 0x1110000) / 16))
  else v

/-- Block PRS (R192, R194). -/
def viewPrs (s : State) (o v : Nat) : Nat :=
  if o = 0x1200014 then
    setBits (setBits v 6 0 (s.prs.own.filter fun l => !l.closed).length) 15 8 s.prs.home.length
  else if 0x1200100 ≤ o ∧ o < 0x1200300 then
    match s.gen ((o - 0x1200100) / 32) (o / 16 % 2) with
    | none => 0
    | some g => if o % 16 = 0 then g.num % 2 ^ 16 + 2 ^ 16
      else if o % 16 = 8 then g.table % 2 ^ 32 else if o % 16 = 12 then g.table / 2 ^ 32 % 2 ^ 32 else 0
  else v

/-- Block KVM (R231). -/
def viewKvm (s : State) (o v : Nat) : Nat :=
  if o = 0x1300034 then s.kvm.f1.n
  else if o = 0x1300038 then s.kvm.f2.n
  else if o = 0x130003C then s.kvm.q.n
  else if o = 0x1300040 then s.kvm.epoch % 2 ^ 32
  else if o = 0x1300044 then s.kvm.oldest % 2 ^ 32
  else if o = 0x1300048 then (if s.isConfigured [0x1300028, 0x130002C] then s.dirLive.length else 0)
  else if o = 0x130004C then s.expiredWord
  else v

/-- Block SHD (R323). -/
def viewShd (s : State) (o v : Nat) : Nat :=
  if o = 0x1500010 then
    setBits (setBits (setBits v 5 0 s.shd.loads.length) 6 6 (bit s.shd.scrub.isSome)) 22 8 s.shdUsed.length
  else if o = 0x1500014 then s.badWord
  else v

/-- Block RES (R301, R302). -/
def viewRes (s : State) (o v : Nat) : Nat :=
  if o = 0x1600004 then
    countTo 16 (fun c => decide (s.resState c ≠ 0)) + (s.res.sems.filter fun e => e.2.holder.isSome).length * 2 ^ 16
  else if 0x1608000 ≤ o ∧ o < 0x160C000 then
    let x := s.sem ((o - 0x1608000) / 4)
    bit x.holder.isSome + x.holder.getD 0 * 2 ^ 4 + x.broken.getD 0 * 2 ^ 8 + bit x.broken.isSome * 2 ^ 12 + x.wait.length * 2 ^ 16
  else v

/-- Block FAB (R339, R370, R372). (DEDUCED: log entry 89) -/
def viewFab (s : State) (o v : Nat) : Nat :=
  if o = 0x1800000 then setBits (setBits v 11 8 (s.self % 9)) 15 12 (s.self / 9)
  else if 0x1810000 ≤ o ∧ o < 0x18D0000 then
    let p := (o - 0x1810000) / 0x10000
    let a := o % 0x10000
    if a = 4 ∧ p < 8 then (s.peerOf p).1 + (s.peerOf p).2 * 2 ^ 8 + 2 ^ 12
    else if a = 0xC then (s.fport p).kept.length
    else v
  else v

/-- FCT_STATUS (R119). -/
def fctStatus (s : State) (f : Nat) : Nat :=
  let x := s.fac f
  x.active + bit x.pend.isSome * 2 ^ 2 + ((x.pend.map (·.1)).getD 0) * 2 ^ 3 + bit x.quiescent * 2 ^ 5 + bit (s.frozen f) * 2 ^ 6 +
    bit (s.showsGated f) * 2 ^ 7 + bit x.fenced * 2 ^ 8 + mapWord 0 (fun i => nth x.valid i false) * 2 ^ 9 + x.ext.length * 2 ^ 16

/-- FCT_SEQ_STATUS (R154). -/
def seqStatus (q : Sqr) : Nat :=
  bit q.running + bit q.waiting * 2 ^ 1 + bit q.standing * 2 ^ 2 + q.status % 256 * 2 ^ 8 + q.index % 2 ^ 16 * 2 ^ 16

/-- A facet's registers and windows (R119 to R122, R154, R155). -/
def viewFacet (s : State) (f a v : Nat) : Nat :=
  let x := s.fac f
  if a = 4 then fctStatus s f
  else if a = 0x30 then seqStatus x.sq
  else if a = 0x38 then x.sq.prog % 2 ^ 32
  else if a = 0x3C then x.sq.prog / 2 ^ 32 % 2 ^ 32
  else if 0x200 ≤ a ∧ a < 0x280 then nth x.sq.xs ((a - 0x200) / 8) 0 / 2 ^ (32 * (a / 4 % 2)) % 2 ^ 32
  else if 0x10000 ≤ a ∧ a < 0x14000 then ofBytes (cellsRead 0 x.slots (a - 0x10000) 4)
  else if 0x20000 ≤ a ∧ a < 0x24000 then leAt (x.descAt ((a - 0x20000) / 0x800) (a % 0x800 / 64)) (a % 64) 4
  else v

/-- A tile counter's registers (R156). -/
def viewTc (t : Tctr) (a v : Nat) : Nat :=
  if a = 0 then t.state + t.status % 256 * 2 ^ 8 + t.index % 2 ^ 16 * 2 ^ 16
  else if a = 4 then t.t else if a = 8 then t.next else if a = 0xC then t.done else if a = 0x10 then t.ret.length else v

/-- Block FCT. -/
def viewFct (s : State) (o v : Nat) : Nat :=
  if o < 0x3200000 then viewFacet s ((o - 0x2000000) / 0x40000) (o % 0x40000) v
  else if 0x3300000 ≤ o ∧ o < 0x3301000 then viewTc (s.tc ((o - 0x3300000) / 0x40)) (o % 0x40) v
  else v

/-- Whether an entry of the layer array exists (R77). -/
def State.layerEntry (s : State) (i : Nat) : Bool := s.resident (i / 256) && decide (i % 256 < s.layersOf (i / 256))

/-- Block RTC (R75, R77). (DEDUCED: log entry 60) -/
def viewRtc (s : State) (o v : Nat) : Nat :=
  if o = 0x3400010 then
    let w := satBits 8 s.rtc.window
    w + bit (decide (w = s.fld F.RTC_CTRL_fallback_max)) * 2 ^ 8 + ((s.rtc.queue.map (·.length)).foldl max 0) * 2 ^ 16
  else if 0x3410000 ≤ o ∧ o < 0x3414000 then
    let i := (o - 0x3410000) / 4
    if s.layerEntry i then
      let r := s.rlayer (layerKey (i / 256) (s.curSlot (i / 256)) (i % 256))
      v + r.state + bit r.reserve * 2 ^ 3 + r.hist % 256 * 2 ^ 8
    else 0
  else v

/-- Block SMB (R502). -/
def viewSmb (s : State) (o v : Nat) : Nat := if o = 0x3A00000 then setBits v 6 0 (0x58 + s.pins.smbAddr) else v

/-- The value of a register as it reads, but for counters (R10). (DESIGN CHOICE: log entry 2) -/
def State.view (s : State) (o : Nat) : Nat :=
  let v := s.present o &&& fieldsMask (fun f => f.ty ≠ .wo) ((regFields o).getD [])
  match blockOf o with
  | some 0 => viewGlb s o v
  | some 2 => viewSec s o v
  | some 3 => viewPwr s o v
  | some 4 => viewClk s o v
  | some 5 => viewEvt s o v
  | some 7 => viewHq s o v
  | some 8 => viewSeq s o v
  | some 9 => viewAdm s o v
  | some 10 => viewPrs s o v
  | some 11 => viewKvm s o v
  | some 13 => viewShd s o v
  | some 14 => viewRes s o v
  | some 15 => viewFab s o v
  | some 17 => viewFct s o v
  | some 18 => viewRtc s o v
  | some 22 => viewSmb s o v
  | _ => v

end Sys2Proof.Machine
end

