-- ==== Sys2Proof/Machine/Bus.lean ====
section
/-!
DEFINITION. Register accesses (R9, R10, R441, R445, R506): the general rules of a write, and the command registers of
every block, each of which acts as the block's command.
-/
namespace Sys2Proof.Machine

/-- The state a meaning leads to. -/
def landed (o : Out) (s : State) : State :=
  match o with
  | .next t => t
  | .fault _ => s
  | .refused _ => s

/-! ### Plain writes -/

/-- The value of a field in a register's bits. -/
def FieldDef.of (f : FieldDef) (v : Nat) : Nat := bits v f.hi f.lo

/-- Whether a write can change a field. -/
def FieldDef.writable (f : FieldDef) : Bool :=
  match f.ty with
  | .rw => true
  | .rwl => true
  | .w1c => true
  | .w1s => true
  | .wo => true
  | _ => false

/-- Whether a write of `w` under `mask` gives a field bits other than its present ones. -/
def State.differs (s : State) (off mask w : Nat) (f : FieldDef) : Bool :=
  decide ((w ^^^ s.present off) &&& mask &&& f.mask ≠ 0)

/-- The rules that bind two fields of a register, on the value the write would leave. -/
def crossBad (off v : Nat) : Bool :=
  if 0x1601000 ≤ off ∧ off < 0x1601800 ∧ off % 0x80 = 4 then decide (2048 < bits v 10 0 + bits v 26 16)
  else if off = 0x1802000 then decide (bits v 31 24 ≤ bits v 23 16)
  else if off = 0x1100004 then decide (bits v 12 0 ≤ bits v 28 16)
  else if off = 0x300070 then decide (bits v 15 8 ≤ bits v 7 0)
  else if off = 0x300004 then decide (bits v 26 16 < bits v 10 0)
  else if off = 0x300010 then decide (bits v 6 0 % 2 = 1)
  else if off = 0x340000C then decide (bits v 3 0 < bits v 7 4)
  else if off = 0x1000014 then decide (bits v 22 16 % 4 ≠ 0)
  else if 0x1000100 ≤ off ∧ off < 0x1000500 ∧ off % 0x40 = 0x1C then decide (v % 64 ≠ 0)
  else false

/-- Stores the fields a write applies: RW and W1C at once, RWL staged. -/
def storeFields (off mask w : Nat) (fs : List FieldDef) (s : State) : State :=
  let kind := fun (t : AccType) => fieldsMask (fun f => f.ty = t) fs &&& mask
  let s := if kind .rwl = 0 then s else s.stage off w (kind .rwl)
  let v := mixBits (s.rd off) w (kind .rw)
  let c := w &&& kind .w1c
  if kind .rw = 0 ∧ c = 0 then s else s.wr off (v - (v &&& c))

/-- A write of `w` under a mask to the fields of a register (R10, R441, R445). Expert bits without EXPERT_EN and RWL bits
outside the originator's open transaction are not applied, with the event where they differ; a field applied that falls
outside its range leaves the register unchanged. -/
def plainWrite (org : Originator) (off mask w : Nat) (fs : List FieldDef) (s : State) : State :=
  let owns := s.txn.isOpen && decide (s.txn.owner = org)
  let fs := fs.filter fun f => f.writable && decide (f.mask &&& mask ≠ 0)
  let noExpert := fun (f : FieldDef) => f.expert && !s.expertOk org
  let noRwl := fun (f : FieldDef) => decide (f.ty = .rwl) && !owns
  let app := fs.filter fun f => !noExpert f && !noRwl f
  let v := mixBits (s.present off) w (fieldsMask (fun _ => true) app)
  let bad := app.any (fun f => decide (f.of v < f.min) || decide (f.max < f.of v)) || (decide (app ≠ []) && crossBad off v)
  let s1 := if fs.any fun f => noExpert f && s.differs off mask w f then s.accessEvent org off 3 else s
  let s2 := if fs.any fun f => !noExpert f && noRwl f && s.differs off mask w f then s1.accessEvent org off 4 else s1
  if bad then s2.accessEvent org off 2 else storeFields off mask w app s2

/-! ### What follows a plain write -/

/-- A run change (R267, R297, R368): with run at 1 the pre-emption ends and the reservation refills. -/
def runWritten (n old : Nat) (s : State) : State :=
  if old % 2 = 0 && s.flag F.SEQ_CTX_CTRL_run (0x40 * n) then holdReserve n (s.modRes n fun r => { r with preemptAt := none }) else s

/-- A tenant's balance is brought within its cap (R267). -/
def capWritten (t : Nat) (s : State) : State :=
  s.setBal t (max (-(s.capOf t : Int)) (min (s.capOf t : Int) (s.balOf t)))

/-- log_en was written: set after a change of base or size it sets head and tail to 0 (R519). -/
def logWritten (old : Nat) (s : State) : State :=
  if old % 2 = 0 && s.flag F.EVT_CTRL_log_en && s.evt.dirty then
    ({ s with evt := { s.evt with tail := 0, dirty := false } } : State).setFld F.EVT_RING_HEAD_head 0
  else s

/-- ALERT_N is high while no alert is pending (R517), but in the fatal condition (R537). -/
def alertWritten (s : State) : State :=
  if s.flag F.EVT_ALERT_pending || s.flag F.GLB_STATUS_fatal then s else { s with pins := { s.pins with alertN := true } }

/-- A storage port whose mode or enable changes trains anew (R500). (DEDUCED: log entry 24) -/
def ethWritten (p old : Nat) (s : State) : State :=
  if (old ^^^ s.rd (0x3900000 + 0x10000 * p)) % 4 ≠ 0 then ethLinkDown p s else s

/-- RTC_SEED: 0 stores 1; both dies' registers take the seed (R64, R74). (DEDUCED: log entry 23) -/
def seedWritten (s : State) : State :=
  let s := if s.fld F.RTC_SEED_seed = 0 then s.setFld F.RTC_SEED_seed 1 else s
  { s with rtc := { s.rtc with lfsr := [s.fld F.RTC_SEED_seed, s.fld F.RTC_SEED_seed] } }

/-- What a write of a register starts beside its new value; `old` is the value before. -/
def afterWrite (off old : Nat) (s : State) : State :=
  if 0x1000100 ≤ off ∧ off < 0x1000500 ∧ off % 0x40 = 0 then runWritten ((off - 0x1000100) / 0x40) old s
  else if 0x1110000 ≤ off ∧ off < 0x1120000 ∧ off % 16 = 4 then capWritten ((off - 0x1110000) / 16) s
  else if off = 0x500000 then logWritten old s
  else if off = 0x50001C then alertWritten s
  else if off = 0x3900000 ∨ off = 0x3910000 then ethWritten ((off - 0x3900000) / 0x10000) old s
  else if 0x1810000 ≤ off ∧ off < 0x18D0000 ∧ off % 0x10000 = 0 then
    portControl ((off - 0x1810000) / 0x10000) (tbit old 0) (bits old 3 2) s
  else if off = 0x3400004 then seedWritten s
  else s

/-- A plain write with what follows it. -/
def storeWrite (org : Originator) (off mask w : Nat) (fs : List FieldDef) (s : State) : State :=
  let t := plainWrite org off mask w fs s
  if mask = 0 then t else afterWrite off (s.rd off) t

/-! ### Command registers -/

/-- The message in the mailbox request window (R458). -/
def mailboxMsg (s : State) : Nat × SessMsg :=
  let l := readWindow 32 0x200100 s
  (leAt l 0 1, ⟨leAt l 1 1, leAt l 2 2, leAt l 4 4, leAt l 8 8, leAt l 16 112⟩)

/-- A session message by its op (R459, R460). -/
def sessionOp (org : Originator) (op : Nat) (m : SessMsg) (s : State) : State :=
  let t := touchSession org s
  match op with
  | 0x01 => openSession org m s
  | 0x02 => authSession org m s
  | 0x03 => closeSession org m s
  | 0x04 => setDebug org m t
  | 0x05 => setExpert org m t
  | 0x06 => keyWrite org m t
  | 0x07 => keyRevoke org m t
  | 0x08 => imgkeyWrite org m t
  | 0x09 => imgkeyRevoke org m t
  | 0x0A => svnAdvance org m t
  | 0x0B => lifecycleAdvance org m t
  | _ => sessionReply org op m (if s.boot.mcUp then St.format else St.notReady) s

/-- SEC_MBOX_CMD.go (R473): the request window is processed; while a fuse write of the mailbox runs the answer is
REJ_BUSY and nothing else changes. (DEDUCED: log entry 22) -/
def mailboxGo (org : Originator) (s : State) : State :=
  let x := mailboxMsg s
  if s.flag F.SEC_MBOX_STATUS_busy then writeWindow 32 0x200180 0 (rspBytes x.1 St.busy x.2.session x.2.tag 0 0) s
  else
    let s := sessionOp org x.1 x.2 (s.setFld F.SEC_MBOX_CMD_go 1)
    if s.flag F.SEC_MBOX_STATUS_busy then s else s.setFld F.SEC_MBOX_CMD_go 0

/-- A write of SPI_CMD (R498, R503). (DESIGN CHOICE: log entry 15) -/
def spiWrite (org : Originator) (w : Nat) (s : State) : State :=
  let len := bits w 12 4
  match bits w 2 0 with
  | 1 => spiRead org len s
  | 2 => spiProgram org len s
  | 3 => spiErase org 0x1000 s
  | 4 => spiErase org 0x10000 s
  | _ =>
    match firstOf [(!s.flag F.GLB_STATUS_config_ready && !s.flag F.GLB_STATUS_config_failed, St.notReady), (!s.flashAuth org, St.auth)] with
    | some st => (if st = St.auth then s.accessEvent org 0x3B00000 5 else s).setFld F.SPI_STATUS_status st
    | none => s.setFld F.SPI_STATUS_status St.format

/-- A write of CFG_TXN_CMD (R448). -/
def txnWrite (org : Originator) (w : Nat) (s : State) : State :=
  match w % 4 with
  | 1 => beginTxn org s
  | 2 => commitTxn org s
  | 3 => abortTxn org s
  | _ => s

/-- The teardown window (R365): the vector takes effect when its last word is written. -/
def vectorOf (l : List Byte) : TdVector := ⟨leAt l 0 4, leAt l 4 2, leAt l 6 1, leAt l 8 18, decide (leAt l 7 1 ≠ 0) || decide (leAt l 26 38 ≠ 0)⟩

/-- A write of a word of the teardown window. -/
def windowWrite (org : Originator) (i w : Nat) (s : State) : State :=
  let l := spliceBytes (padTo 64 s.fab.window) (4 * i) (toBytes 4 w)
  let s := { s with fab := { s.fab with window := l } }
  if i = 15 then teardownVector (.window org) (vectorOf l) s else s

/-- A write of FAB_CTX_JOB (R371): discarded while the context is torn and its teardown not done; else it clears torn. (DESIGN CHOICE: log entry 25) -/
def jobWrite (org : Originator) (off w : Nat) (s : State) : State :=
  let torn := tbit (s.rd off) 16
  if torn && !s.flag F.FAB_TD_INFO_done then s.accessEvent org off 6 else s.wr off (w % 2 ^ 16)

/-- A write of FAB_P_CTRL (R372): its fields, then a retrain. (DEDUCED: log entry 89) -/
def portWrite (org : Originator) (off mask w : Nat) (fs : List FieldDef) (s : State) : State :=
  let t := storeWrite org off mask w fs s
  if tbit w 1 then portRetrain org ((off - 0x1810000) / 0x10000) t else t

/-- A write of FAB_HB_CMD (R401). -/
def hbWrite (org : Originator) (w : Nat) (s : State) : State :=
  let s := if tbit w 8 then hbClear org (w % 256) s else s
  if tbit w 9 then isolateClear org s else s

/-- A write of MMU_INV (R232). -/
def invWrite (org : Originator) (w : Nat) (s : State) : State :=
  match w % 4 with
  | 0 => s
  | 3 => mmuInv org (decide (bits w 21 6 = 0)) s
  | _ => mmuInv org false s

/-- A write of RTC_CMD (R75, R76). -/
def rtcWrite (org : Originator) (w : Nat) (s : State) : State :=
  let c := bits w 3 0
  let y := bits w 15 8
  match bits w 17 16 with
  | 1 => landed (execForceFallback org c y s) s
  | 2 => landed (execRestoreLayer org c y s) s
  | 3 => landed (execClearLayer org c y s) s
  | _ => s

/-- A write of a word of a queue pair's context (R491): discarded with the event while the pair is not in RESET, but for
the command in word 0. (DEDUCED: log entry 16) -/
def qpWrite (org : Originator) (p q i off mask w : Nat) (s : State) : State :=
  let keep := if i = 0 then 0xFFFFF0 &&& mask else mask
  let s :=
    if s.qpState p q = 0 then s.wr off (mixBits (s.rd off) w keep)
    else if i ≠ 0 || decide ((w ^^^ s.rd off) &&& keep ≠ 0) then s.accessEvent org off 6 else s
  if i ≠ 0 then s
  else match bits (w &&& mask) 3 2 with
    | 1 => qpToRts org p q s
    | 2 => qpToReset org p q s
    | _ => s

/-- The ring's base and size (R519): discarded with the event while log_en is 1. -/
def ringWrite (org : Originator) (off mask w : Nat) (fs : List FieldDef) (s : State) : State :=
  if s.flag F.EVT_CTRL_log_en then s.accessEvent org off 6
  else
    let t := storeWrite org off mask w fs s
    if t.rd off = s.rd off then t else { t with evt := { t.evt with dirty := true } }

/-- A mask entry (R518, R520): none for a code not in R511's table; the log, MSI-X and alert bits of an FE code are
fixed. (DEDUCED: log entry 89) -/
def maskWrite (org : Originator) (code off mask w : Nat) (fs : List FieldDef) (s : State) : State :=
  if !isEvent code then s.accessEvent org off 6
  else if eventClass code = 3 then
    let s := if (w ^^^ 7) &&& mask &&& 7 ≠ 0 then s.accessEvent org off 6 else s
    storeWrite org off (mask - (mask &&& 7)) w fs s
  else storeWrite org off mask w fs s

/-- A write inside a facet's registers and windows (R108, R113, R115, R122, R132, R397). -/
def facetWrite (org : Originator) (f a off mask w : Nat) (fs : List FieldDef) (s : State) : State :=
  if a = 8 then
    match bits w 3 2 with
    | 1 => landed (execContextLoad (.reg org) f (w % 4) s) s
    | 2 => landed (execContextSwitch (.reg org) f (w % 4) s) s
    | 3 => landed (execContextInvalidate (.reg org) f (w % 4) s) s
    | _ => (s.expertArg org off (w % 4)).2
  else if a = 0x1C then fctSpillWrite org f w s
  else if a = 0x20 then
    match w % 4 with
    | 1 => scanCmd org f 1 (if tbit w 2 then 3 else 2) s
    | 2 => scanCmd org f 2 4 s
    | 3 => scanRelease org f s
    | _ => s
  else if a = 0x40 then
    match w % 4 with
    | 1 => fenceFacet f (.command org) s
    | 2 => unfence org f s
    | _ => s
  else if 0x10000 ≤ a ∧ a < 0x14000 then contextWindowWrite org f ((a - 0x10000) / 0x1000) (a % 0x1000) w s
  else if 0x20000 ≤ a ∧ a < 0x24000 then descriptorWindowWrite org f ((a - 0x20000) / 0x800) (a % 0x800) w s
  else storeWrite org off mask w fs s

/-- A write to block CFG, SEC, CLK, EVT, DBG or GLB; DBG_CTRL takes writes at D1 or above (R474). -/
def writeLow (org : Originator) (off mask w : Nat) (fs : List FieldDef) (s : State) : State :=
  if off = 0x24 then counterClear org w s
  else if off = 0x100000 then txnWrite org w s
  else if off = 0x100014 then (if tbit w 1 then expertDrop org s else s)
  else if off = 0x2000C0 then (if tbit w 0 then mailboxGo org s else s)
  else if off = 0x400000 then resetCmd org w s
  else if off = 0x500004 ∨ off = 0x500008 ∨ off = 0x50000C then ringWrite org off mask w fs s
  else if off = 0x500010 then ringHeadWrite org w s
  else if off = 0x600004 ∧ s.sec.level = 0 then s.accessEvent org off 6
  else if off = 0x600008 then loupeSelect org w s
  else match maskCode off with
    | some c => maskWrite org c off mask w fs s
    | none => storeWrite org off mask w fs s

/-- A write to block FAB. -/
def writeFab (org : Originator) (off mask w : Nat) (fs : List FieldDef) (s : State) : State :=
  if off = 0x1800034 then (if tbit w 8 then fabFence org (w % 256) s else s)
  else if isTeardownWin off then windowWrite org ((off - 0x1800080) / 4) w s
  else if 0x1800800 ≤ off ∧ off < 0x1800880 ∧ off % 8 = 0 then jobWrite org off w s
  else if off = 0x1802420 then hbWrite org w s
  else if 0x1810000 ≤ off ∧ off < 0x18D0000 ∧ off % 0x10000 = 0 then portWrite org off mask w fs s
  else if 0x1810000 ≤ off ∧ off < 0x1890000 ∧ off % 0x10000 = 4 then s
  else storeWrite org off mask w fs s

/-- A write to block HQ or ETH. -/
def writeHost (org : Originator) (off mask w : Nat) (fs : List FieldDef) (s : State) : State :=
  if 0x810000 ≤ off ∧ off < 0x818000 ∧ off % 32 = 8 then sqEnable org ((off - 0x810000) / 32) w s
  else if 0x830000 ≤ off ∧ off < 0x838000 ∧ off % 32 = 8 then cqEnable org ((off - 0x830000) / 32) w s
  else if 0x3900000 ≤ off ∧ (0x1000 ≤ off % 0x10000) then
    qpWrite org ((off - 0x3900000) / 0x10000) ((off % 0x10000 - 0x1000) / 64) (off % 64 / 4) off mask w s
  else storeWrite org off mask w fs s

/-- A write to block FCT, RTC or MMU. -/
def writeCore (org : Originator) (off mask w : Nat) (fs : List FieldDef) (s : State) : State :=
  if 0x2000000 ≤ off ∧ off < 0x3200000 then facetWrite org ((off - 0x2000000) / 0x40000) (off % 0x40000) off mask w fs s
  else if 0x3300000 ≤ off ∧ off < 0x3301000 ∧ off % 0x40 = 0x14 then
    (if tbit w 0 then tileCounterReset org ((off - 0x3300000) / 0x40) s else s)
  else if off = 0x3400014 then rtcWrite org w s
  else if off = 0x3600008 then invWrite org w s
  else if 0x3410000 ≤ off ∧ off < 0x3414000 ∧ !s.layerEntry ((off - 0x3410000) / 4) then s
  else storeWrite org off mask w fs s

/-- A write to a mapped register by its block. -/
def writeBlock (org : Originator) (off mask w : Nat) (fs : List FieldDef) (s : State) : State :=
  match blockNum off with
  | 7 => writeHost org off mask w fs s
  | 15 => writeFab org off mask w fs s
  | 17 => writeCore org off mask w fs s
  | 18 => writeCore org off mask w fs s
  | 19 => writeCore org off mask w fs s
  | 21 => writeHost org off mask w fs s
  | 23 => if off = 0x3B00000 then spiWrite org w s else storeWrite org off mask w fs s
  | _ => writeLow org off mask w fs s

/-! ### The bus -/

/-- What a write under a mask leaves in the register's stored bits; command bits outside the mask are zero. -/
def maskedValue (s : State) (off v mask : Nat) (fs : List FieldDef) : Nat :=
  mixBits (s.present off &&& fieldsMask (fun f => f.ty = .rw || f.ty = .rwl) fs) v mask

/-- A 32-bit write of an aligned register: the gate, then the register's rule; an unmapped offset raises the event.
SPI_CMD answers a missing authority itself (R498). (DEDUCED: log entry 21) -/
def busWrite (org : Originator) (off v mask : Nat) (s : State) : State :=
  if off = 0x3B00000 ∧ orgCode org < 3 then spiWrite org (v &&& mask) s
  else match s.gate org off with
    | some t => t
    | none =>
      match regFields off with
      | none => s.accessEvent org off 0
      | some fs => writeBlock org off mask (maskedValue s off v mask fs) fs s

/-- A mask of 32 ones. -/
def allBits : Nat := 2 ^ 32 - 1

/-- Whether an access is one of R9's two regular forms. -/
def regularAccess (off width enables : Nat) : Bool :=
  ((decide (width = 4) && decide (off % 4 = 0)) || (decide (width = 8) && decide (off % 8 = 0))) &&
    decide (enables % 2 ^ width = 2 ^ width - 1)

/-- A register write of any width and byte enables (R9). (DEDUCED: log entry 21) -/
def accessWrite (org : Originator) (off width enables value : Nat) (s : State) : State :=
  if regularAccess off width enables then
    let s := busWrite org off (value % 2 ^ 32) allBits s
    if width = 8 then busWrite org (off + 4) (value / 2 ^ 32 % 2 ^ 32) allBits s else s
  else match s.gate org (off / 4 * 4) with
    | some t => t
    | none => s.accessEvent org (off / 4 * 4) 1

/-- REGISTER_WRITE (R9, R10). -/
def execRegisterWrite (org : Originator) (off width enables value : Nat) (s : State) : Out :=
  .next (s.on fun s => accessWrite org off width enables value s)

/-! ### Reads -/

/-- What an originator's read of a `_HI` register answers: the latch where its previous read was the `_LO` (R523). -/
def pairHigh (org : Originator) (lo live : Nat) (s : State) : Nat :=
  match s.latchOf org with
  | some l => if l.prev = lo then l.hi else live
  | none => live

/-- A 32-bit read of an aligned register: its value and what reading changes. -/
def busRead (org : Originator) (off : Nat) (s : State) : Nat × State :=
  if !s.mayRead org off then (0, s)
  else if !s.served off then (0, s.setLatch org off 0)
  else if (regFields off).isNone then (0, (s.setLatch org off 0).accessEvent org off 0)
  else if isCounterLo off then (s.counter off % 2 ^ 32, s.setLatch org off (counterHi (s.counter off)))
  else if decide (4 ≤ off) && isCounterLo (off - 4) then (pairHigh org (off - 4) (counterHi (s.counter (off - 4))) s, s.setLatch org off 0)
  else if off = 0x10 then (s.us % 2 ^ 32, s.setLatch org off (s.us / 2 ^ 32 % 2 ^ 32))
  else if off = 0x14 then (pairHigh org 0x10 (s.us / 2 ^ 32 % 2 ^ 32) s, s.setLatch org off 0)
  else if off = 0x130004C then (s.expiredWord, { s with kvm := { s.kvm with fifo := s.kvm.fifo.drop 1 } }.setLatch org off 0)
  else if off = 0x1500014 then (s.badWord, { s with shd := { s.shd with bad := s.shd.bad.drop 1 } }.setLatch org off 0)
  else (s.view off, s.setLatch org off 0)

/-- Reads `n` registers from an aligned offset as one little-endian number. -/
def busReads (org : Originator) : Nat → Nat → State → Nat × State
  | 0, _, s => (0, s)
  | n + 1, off, s =>
    let a := busRead org off s
    let b := busReads org n (off + 4) a.2
    (a.1 + 2 ^ 32 * b.1, b.2)

/-- The registers an access touches. -/
def wordsTouched (off width : Nat) : Nat := if width = 0 then 0 else (off + width - 1) / 4 - off / 4 + 1

/-- A read of any width and byte enables (R9): its bytes and what it changes. An irregular one raises the event and is
taken from the aligned registers it touches, each read whole; with partial enables it returns them whole. (DESIGN CHOICE: log entry 10; DEDUCED: log entry 21) -/
def accessRead (org : Originator) (off width enables : Nat) (s : State) : Nat × State :=
  if regularAccess off width enables then busReads org (width / 4) off s
  else if !s.mayRead org (off / 4 * 4) || !s.served (off / 4 * 4) then (0, s)
  else
    let r := busReads org (wordsTouched off width) (off / 4 * 4) (s.accessEvent org (off / 4 * 4) 1)
    (r.1 / 256 ^ (off % 4) % 256 ^ width, r.2)

/-- IRREGULAR_REGISTER_READ (R9): a read without authority brings no data (R456). -/
def execIrregularRegisterRead (org : Originator) (off width enables : Nat) (s : State) : Out :=
  .next (s.on fun s => if s.mayRead org (off / 4 * 4)
    then (accessRead org off width enables s).2.emit (.readData org off (accessRead org off width enables s).1) else s)

end Sys2Proof.Machine
end

