-- ==== Sys2Proof/Machine/Noc.lean ====
section
/-!
DEFINITION. Architecture: the probes of the domain controllers (R20) and the on-die network (R23 to R28).
-/
namespace Sys2Proof.Machine

/-! ### Domain controllers (R20) -/

/-- The missed-probe count of a controller after a probe. -/
def missedNext (answered : Bool) (n : Nat) : Nat := if answered then 0 else if n < 2 then n + 1 else 2

/-- Whether this probe is the second missed in a row. -/
def lostNow (answered : Bool) (n : Nat) : Bool := !answered && decide (n = 1)

/-- One probe round: each controller that misses its second probe in a row raises the FE event naming it. -/
def probeAll (answers : List Bool) (s : State) : State :=
  let go := fun (s : State) (i : Nat) =>
    let n := nth s.dcMissed i 0
    let a := nth answers i true
    let s := { s with dcMissed := s.dcMissed.set i (missedNext a n) }
    if lostNow a n then s.raise E.controllerLost i else s
  go (go (go s 0) 1) 2

/-- DC_PROBE (R20). -/
def execDcProbe (dc0 dc1 dci : Bool) (s : State) : Out := .next (s.on fun s => probeAll [dc0, dc1, dci] s)

/-! ### The mesh (R24 to R27)

Dies 0 and 1 have 8 × 8 routers, die 2 (the IOD) 6 × 4. Outputs and inputs: 0 toward the lower row, 1 toward the higher
row, 2 toward the higher column, 3 toward the lower column, 4 and 5 the local ports, 6 the die-to-die module. -/

/-- Columns of a die's mesh. (DEDUCED: log entry 20) -/
def meshCols (die : Nat) : Nat := if die = 2 then 6 else 8

/-- Rows of a die's mesh. (DEDUCED: log entry 20) -/
def meshRows (die : Nat) : Nat := if die = 2 then 4 else 8

/-- The key of a router input buffer. -/
def bufKey (die router input vc : Nat) : Nat := ((die * 64 + router) * 8 + input) * 8 + vc

/-- The key of a router output and plane. -/
def outKey (die router out plane : Nat) : Nat := ((die * 64 + router) * 8 + out) * 2 + plane

/-- The strict priority of R24, highest first. -/
def vcOrder : List Nat := [5, 1, 3, 0, 2, 4]

/-- The flits waiting at a router input. -/
def State.nocBuf (s : State) (die router input vc : Nat) : List NocFlit := kgetD s.noc.bufs (bufKey die router input vc) []

/-- Replaces the flits waiting at a router input. -/
def State.setNocBuf (s : State) (die router input vc : Nat) (l : List NocFlit) : State :=
  let k := bufKey die router input vc
  { s with noc := { s.noc with bufs := if l = [] then kdel s.noc.bufs k else kset s.noc.bufs k l } }

/-- The router a flit heads for on this die: its destination, or its exit toward another die. -/
def nocGoal (die : Nat) (f : NocFlit) : Nat := if f.dstDie = die then f.dstRouter else f.exit

/-- The output a flit takes at a router (R26): along the row to the goal's column, then along the column, then out. (DEDUCED: log entry 20) -/
def nocRoute (die router : Nat) (f : NocFlit) : Nat :=
  let g := nocGoal die f
  let c := meshCols die
  if router % c < g % c then 2
  else if g % c < router % c then 3
  else if router / c < g / c then 1
  else if g / c < router / c then 0
  else if f.dstDie = die then 4 + f.dstLocal % 2 else 6

/-- The router and input an output leads to. (DEDUCED: log entry 20) -/
def nocNext (die router out : Nat) : Nat × Nat :=
  if out = 0 then (router - meshCols die, 1)
  else if out = 1 then (router + meshCols die, 0)
  else if out = 2 then (router + 1, 3)
  else (router - 1, 2)

/-- Whether the head of an input's channel may be granted at this output and plane: its route leads there, its plane
fits (bit 0 of its destination router), and a VC5 flit has room in the 4-flit buffer ahead. -/
def State.nocOffers (s : State) (die router out plane vc input : Nat) : Bool :=
  match s.nocBuf die router input vc with
  | [] => false
  | f :: _ =>
    decide (nocRoute die router f = out) && decide (nocGoal die f % 2 = plane) &&
      (decide (vc ≠ 5) || decide (4 ≤ out) ||
        decide ((s.nocBuf die (nocNext die router out).1 (nocNext die router out).2 5).length < 4))

/-- The inputs in round-robin order from `p`. -/
def rotate7 (p : Nat) : List Nat := (List.range 7).map fun i => (p + i) % 7

/-- The grant of an output: the highest channel with an offer, and the first input in round-robin order (R24). -/
def State.nocGrant (s : State) (die router out plane : Nat) : Option (Nat × Nat) :=
  vcOrder.findSome? fun vc =>
    ((rotate7 (kgetD s.noc.rr (outKey die router out plane) 0)).find? fun i => s.nocOffers die router out plane vc i).map fun i => (vc, i)

/-- The counter of mesh hops of a die (R509). -/
def hopCounter (die : Nat) : Nat := if die = 0 then C.NOC_CD0_HOPS else if die = 1 then C.NOC_CD1_HOPS else C.NOC_IOD_HOPS

/-- Removes the head of an input's channel. -/
def State.nocPop (s : State) (die router input vc : Nat) : State :=
  s.setNocBuf die router input vc (s.nocBuf die router input vc).tail

/-- Appends a flit at a router input. -/
def State.nocPush (s : State) (die router input : Nat) (f : NocFlit) : State :=
  s.setNocBuf die router input f.vc (s.nocBuf die router input f.vc ++ [f])

/-- One grant at a mesh output (R24, R26): the flit moves to the next router, or leaves at a local port. -/
def nocMesh (die router out plane : Nat) (s : State) : State :=
  match s.nocGrant die router out plane with
  | none => s
  | some (vc, i) =>
    match s.nocBuf die router i vc with
    | [] => s
    | f :: _ =>
      let s := s.nocPop die router i vc
      let s := { s with noc := { s.noc with rr := kset s.noc.rr (outKey die router out plane) ((i + 1) % 7) } }
      if out < 4 then ((s.nocPush die (nocNext die router out).1 (nocNext die router out).2 f).bump (hopCounter die))
      else s.emit (.noc die router (out - 4) f.tag)

/-- The counter of a crossing between two dies (R509). -/
def crossCounter (a b : Nat) : Nat :=
  if a = 2 ∨ b = 2 then (if a = 0 ∨ b = 0 then C.NOC_D2D_CD0 else C.NOC_D2D_CD1) else C.NOC_BRIDGE

/-- One crossing of a die-to-die module (R23): the highest channel offered at the edge router goes over, unchanged. -/
def nocCross (die router plane : Nat) (s : State) : State :=
  match s.nocGrant die router 6 plane with
  | none => s
  | some (vc, i) =>
    match s.nocBuf die router i vc with
    | [] => s
    | f :: _ =>
      let s := s.nocPop die router i vc
      let s := { s with noc := { s.noc with rr := kset s.noc.rr (outKey die router 6 plane) ((i + 1) % 7) } }
      (s.nocPush f.dstDie f.entry 6 f).bump (crossCounter die f.dstDie)

/-- The key of a source: a router's local port. -/
def srcKey (die router loc : Nat) : Nat := (die * 64 + router) * 2 + loc % 2

/-- An injection (R25): a VC5 flit within 16 NCLK cycles of the source's last waits in the source, as do those behind
it; when the interval has passed the oldest enters. A flit of another channel enters at once. -/
def nocInject (die router loc since : Nat) (flit : Option NocFlit) (s : State) : State :=
  let k := srcKey die router loc
  let held := kgetD s.noc.held k []
  match flit with
  | some f =>
    if f.vc = 5 then
      if decide (since < 16) || !held.isEmpty then
        let s := ({ s with noc := { s.noc with held := kset s.noc.held k (held ++ [f]) } }).bump C.NOC_VC5_HELD
        match held with
        | h :: _ =>
          if since < 16 then s
          else ({ s with noc := { s.noc with held := kset s.noc.held k (held.tail ++ [f]) } }).nocPush die router (4 + loc % 2) h
        | [] => s
      else s.nocPush die router (4 + loc % 2) f
    else s.nocPush die router (4 + loc % 2) f
  | none =>
    match held with
    | h :: _ =>
      if since < 16 then s
      else ({ s with noc := { s.noc with held := kset s.noc.held k held.tail } }).nocPush die router (4 + loc % 2) h
    | [] => s

/-- NOC_FLIT_HOP (R23 to R28). -/
def nocMove (p : NocPlace) (s : State) : State :=
  match p with
  | .mesh die router out plane =>
    if die < 3 ∧ router < meshCols die * meshRows die ∧ out < 6 ∧ plane < 2 then nocMesh die router out plane s else s
  | .d2d die router plane =>
    if die < 3 ∧ router < meshCols die * meshRows die ∧ plane < 2 then nocCross die router plane s else s
  | .inject die router loc since flit =>
    if die < 3 ∧ router < meshCols die * meshRows die then nocInject die router loc since flit s else s

/-- NOC_FLIT_HOP (R26). -/
def execNocFlitHop (p : NocPlace) (s : State) : Out := .next (s.on fun s => nocMove p s)

end Sys2Proof.Machine
end

