-- ==== Sys2Proof/Machine/Smbus.lean ====
section
/-!
DEFINITION. SMBus, MCTP and PLDM (R493 to R496). A response is sent as its message type, command, completion code and
data; what DSP0236, DSP0240 and DSP0248 add to the data is outside the spec and is a free value.
-/
namespace Sys2Proof.Machine

/-- What becomes of a request before its command is looked at (R438, R494). -/
inductive MctpGate where
  | nack | drop | badPec | notReady | serve
  deriving DecidableEq, Repr

/-- The endpoint ID in effect, 0 for none. -/
def State.eid (s : State) : Nat := s.fld F.SMB_STATUS_eid

/-- The gate of a message: the address is not acknowledged before the responder is up, a bad PEC is discarded and
counted, a message for another endpoint (or, before an endpoint ID, any but a control message for the null EID) gets no
answer, and before the MC is up the completion code is ERROR_NOT_READY. (PRESUMED: log entry 9) -/
def State.mctpGate (s : State) (q : MctpReq) (control : Bool) : MctpGate :=
  if !s.boot.smbusUp then .nack
  else if !q.pecOk then .badPec
  else if (control && decide (q.dest = 0)) || (decide (s.eid ≠ 0) && decide (q.dest = s.eid)) then
    if s.boot.mcUp then .serve else .notReady
  else .drop

/-- Sends a response. (PRESUMED: log entry 9) -/
def State.reply (s : State) (q : MctpReq) (type cmd cc : Nat) (data : List Nat) : State :=
  s.emit (.smbus q.eid (type :: cmd :: cc :: data))

/-- A request of type `type` and command `cmd`, served by `k` where its gate lets it through. -/
def State.mctp (s : State) (q : MctpReq) (type cmd : Nat) (k : State → State) : State :=
  match s.mctpGate q (decide (type = 0)) with
  | .nack => s.emit .smbusNack
  | .badPec => s.bump C.SMB_PEC_ERR
  | .drop => s
  | .notReady => s.reply q type cmd 4 []
  | .serve => k s

/-- A response whose data the spec leaves to the DMTF documents: one free value. (DESIGN CHOICE: log entry 8) -/
def State.replyFree (s : State) (q : MctpReq) (type cmd : Nat) : State :=
  s.fresh.2.reply q type cmd 0 [s.fresh.1]

/-! ### Control (R494) -/

/-- SET_ENDPOINT_ID (R494). The null and broadcast EIDs assign nothing (ERROR_INVALID_DATA). -/
def execSetEndpointId (q : MctpReq) (eid : Nat) (s : State) : Out :=
  .next (s.mctp q 0 1 fun s =>
    if eid % 256 = 0 ∨ eid % 256 = 255 then s.reply q 0 1 2 []
    else (s.setFld F.SMB_STATUS_eid eid).reply q 0 1 0 [eid % 256])

/-- GET_ENDPOINT_ID (R494). -/
def execGetEndpointId (q : MctpReq) (s : State) : Out := .next (s.mctp q 0 2 fun s => s.reply q 0 2 0 [s.eid])

/-- GET_MCTP_VERSION_SUPPORT (R494). -/
def execGetMctpVersionSupport (q : MctpReq) (_type : Nat) (s : State) : Out := .next (s.mctp q 0 4 fun s => s.replyFree q 0 4)

/-- GET_MESSAGE_TYPE_SUPPORT (R494): PLDM and vendor-defined PCI, beside control. -/
def execGetMessageTypeSupport (q : MctpReq) (s : State) : Out := .next (s.mctp q 0 5 fun s => s.reply q 0 5 0 [2, 0x01, 0x7E])

/-- GET_VENDOR_DEFINED_MESSAGE_SUPPORT (R494): one set, the PCI vendor ID of HST_ID; another selector is invalid data. -/
def execGetVendorDefinedMessageSupport (q : MctpReq) (selector : Nat) (s : State) : Out :=
  .next (s.mctp q 0 6 fun s =>
    if selector = 0 then s.reply q 0 6 0 [0xFF, 0, s.fld F.HST_ID_vendor] else s.reply q 0 6 2 [])

/-! ### PLDM (R495) -/

/-- The PLDM commands served: (type, command). -/
def pldmServed (type cmd : Nat) : Bool :=
  (decide (type = 0) && [2, 3, 4, 5].contains cmd) || (decide (type = 2) && [0x50, 0x51, 0x11, 0x21].contains cmd)

/-- GETTID (R495). -/
def execGettid (q : MctpReq) (s : State) : Out := .next (s.mctp q 1 2 fun s => s.replyFree q 1 2)

/-- GETPLDMVERSION (R495). -/
def execGetpldmversion (q : MctpReq) (_type : Nat) (s : State) : Out := .next (s.mctp q 1 3 fun s => s.replyFree q 1 3)

/-- GETPLDMTYPES (R495): types 0 and 2, as a bit map. -/
def execGetpldmtypes (q : MctpReq) (s : State) : Out := .next (s.mctp q 1 4 fun s => s.reply q 1 4 0 [0x05])

/-- The served commands of a PLDM type. -/
def pldmCommands (type : Nat) : List Nat :=
  if type = 0 then [2, 3, 4, 5] else if type = 2 then [0x11, 0x21, 0x50, 0x51] else []

/-- GETPLDMCOMMANDS (R495); a type not served is invalid data (0x83 of DSP0240). -/
def execGetpldmcommands (q : MctpReq) (type : Nat) (s : State) : Out :=
  .next (s.mctp q 1 5 fun s =>
    if pldmCommands type = [] then s.reply q 1 5 0x83 [] else s.reply q 1 5 0 (pldmCommands type))

/-- GETPDRREPOSITORYINFO (R495). -/
def execGetpdrrepositoryinfo (q : MctpReq) (s : State) : Out := .next (s.mctp q 1 0x50 fun s => s.replyFree q 1 0x50)

/-- GETPDR (R495). -/
def execGetpdr (q : MctpReq) (_handle : Nat) (s : State) : Out := .next (s.mctp q 1 0x51 fun s => s.replyFree q 1 0x51)

/-- The reading of a numeric sensor, taken at the request: °C in two's complement (1 to 4) or W (5). (DESIGN CHOICE: log entry 8) -/
def State.sensor (s : State) (n : Nat) : Option Nat :=
  match n with
  | 1 => some (s.fld F.PWR_TEMP_MAX_cd0)
  | 2 => some (s.fld F.PWR_TEMP_MAX_cd1)
  | 3 => some (s.fld F.PWR_TEMP_MAX_iod)
  | 4 => some (s.fld F.PWR_TEMP_MAX_stacks)
  | 5 => some (s.fld F.PWR_EST_average)
  | _ => none

/-- GETSENSORREADING (R495). -/
def execGetsensorreading (q : MctpReq) (sensor : Nat) (s : State) : Out :=
  .next (s.mctp q 1 0x11 fun s =>
    match s.sensor sensor with
    | some v => s.reply q 1 0x11 0 [v]
    | none => s.reply q 1 0x11 0x80 [])

/-- GETSTATESENSORREADINGS (R495): the health since the last read, in which an FE stays, or the boot phase plus 1. -/
def execGetstatesensorreadings (q : MctpReq) (sensor : Nat) (s : State) : Out :=
  .next (s.mctp q 1 0x21 fun s =>
    if sensor = 6 then
      let h := s.evt.health
      ({ s with evt := { s.evt with health := if h = 4 then 4 else 1 } }).reply q 1 0x21 0 [h]
    else if sensor = 7 then s.reply q 1 0x21 0 [s.fld F.CFG_BOOT_phase + 1]
    else s.reply q 1 0x21 0x80 [])

/-! ### What is not served (R494 to R496) -/

/-- The answer to an unserved request. -/
def mctpOther (q : MctpReq) (what : MctpOther) (s : State) : State :=
  match what with
  | .control cmd => s.mctp q 0 cmd fun s => s.reply q 0 cmd 5 []
  | .pldm type cmd => s.mctp q 1 cmd fun s => if pldmServed type cmd then s else s.reply q 1 cmd 5 []
  | .vendorKind kind => s.mctp q 0x7E kind fun s =>
      if 1 ≤ kind ∧ kind ≤ 3 then s else s.reply q 0x7E (kind + 0x80) St.format []
  | .foreignVendor => s.mctp q 0x7E 0 fun s => s
  | .messageType type => s.mctp q type 0 fun s => s

/-- MCTP_UNSUPPORTED_COMMAND (R494). -/
def execMctpUnsupportedCommand (q : MctpReq) (what : MctpOther) (s : State) : Out := .next (mctpOther q what s)

end Sys2Proof.Machine
end

