-- ==== Sys2Proof/Machine/Probe.lean ====
section
/-!
DEFINITION. The Loupe's probe words (R467, R468), the JTAG register bus (R470), register accesses over SMBus (R496), and
the host's window into device memory (R478).
-/
namespace Sys2Proof.Machine

/-! ### The Loupe -/

/-- FAB_P_REPLAYS of a port since the last frame; a counter cleared in between counts from zero. (DESIGN CHOICE: log entry 28) -/
def State.naksSince (s : State) (p : Nat) : Nat :=
  let c := s.counter (C.FAB_P_REPLAYS + pdi p)
  let l := nth s.tap.naks p 0
  if c < l then c else c - l

/-- The probe word of the selection in force (R468); none where the state does not hold what the word shows. (DESIGN CHOICE: log entry 28) -/
def State.probe (s : State) : Option Nat :=
  let u := s.fld F.DBG_LOUPE_unit
  match s.fld F.DBG_LOUPE_select with
  | 0x01 => some s.sec.loupeFrame
  | 0x10 => some (s.fld F.PWR_EST_sample + s.fld F.PWR_SHUT_STATUS_skip0 * 2 ^ 11 + s.fld F.PWR_SHUT_STATUS_skip1 * 2 ^ 15 +
      countTo 72 s.showsGated * 2 ^ 19)
  | 0x20 => some (s.fld F.SEQ_CTX_STEP_DEC_step (0x40 * u) % 2 ^ 31 +
      bit (match (s.series u 0).built with
        | some x => decide (x.phase = 0)
        | none => false) * 2 ^ 31)
  | 0x21 => some (s.view 0x110000C)
  | 0x40 => some (s.portState u + (s.fport u).kept.length * 2 ^ 4 + satBits 8 (s.naksSince u) * 2 ^ 14)
  | 0x50 => some (fctStatus s u)
  | 0x60 => some s.tap.raised
  | 0x80 => ((klist (s.fac u).outq (oKey 0 0)).head?).map fun e => nth e.lanes 0 0 % 2 ^ 32
  | 0x90 => (kget s.tap.t1 u).map fun a => bits a 37 6
  | _ => none

/-- LOUPE_FRAME: emitted while the Loupe is on and the level is above D0. (DESIGN CHOICE: log entry 28) -/
def loupeEmit (s : State) : State :=
  if s.sec.loupeOn && decide (1 ≤ s.sec.level) then
    let t := match s.probe with
      | some v => loupeFrame v s
      | none => loupeFrame (s.fresh.1 % 2 ^ 32) s.fresh.2
    { t with tap := { t.tap with naks := (List.range 12).map fun p => t.counter (C.FAB_P_REPLAYS + pdi p) } }
  else s

/-- LOUPE_FRAME (R467). -/
def execLoupeFrame (s : State) : Out := .next (s.on loupeEmit)

/-! ### DBG_BUS (R470) -/

/-- The 72-bit register after an access: its data and status, go at 0. -/
def dbgResult (write : Bool) (off data status : Nat) (s : State) : State :=
  let v := data % 2 ^ 32 + off % 2 ^ 26 * 2 ^ 32 + bit write * 2 ^ 58 + status * 2 ^ 60
  ({ s with sec := { s.sec with dbgBus := v } } : State).emit (.jtag [status, data])

/-- An access through DBG_BUS: no effect while another instruction is in force; reads need D1, writes D2. (DEDUCED: log entry 27) -/
def dbgBus (write : Bool) (off value : Nat) (s : State) : State :=
  if s.sec.jtag ≠ 0x21 then s
  else if write then
    if s.sec.level < 2 then dbgResult write off value St.auth (s.accessEvent .jtag off 5)
    else dbgResult write off value St.done (accessWrite .jtag off 4 15 value s)
  else if s.sec.level < 1 then dbgResult write off 0 St.auth s
  else dbgResult write off (accessRead .jtag off 4 15 s).1 St.done (accessRead .jtag off 4 15 s).2

/-- DBG_BUS (R470). -/
def execDbgBus (write : Bool) (off value : Nat) (s : State) : Out :=
  .next (s.on fun s => dbgBus write (off % 2 ^ 26) (value % 2 ^ 32) s)

/-! ### Registers over SMBus (R496) -/

/-- VENDOR_REGISTER_READ: kind 0x02. (DESIGN CHOICE: log entry 26) -/
def execVendorRegisterRead (q : MctpReq) (off : Nat) (s : State) : Out :=
  .next (s.mctp q 0x7E 2 fun s =>
    if s.mayRead (.smbus q.eid) off then
      let r := accessRead (.smbus q.eid) (off % 2 ^ 32) 4 15 s
      r.2.reply q 0x7E 0x82 St.done ((toBytes 4 r.1).map (·.toNat))
    else s.reply q 0x7E 0x82 St.auth [])

/-- Authority of kind 0x03: the operate role or BLANK, and what the block asks besides. (DESIGN CHOICE: log entry 26) -/
def State.vendorWriteOk (s : State) (e off : Nat) : Bool :=
  (s.blank || s.hasRole (.smbus e) roleOperate) && s.mayWrite (.smbus e) off

/-- VENDOR_REGISTER_WRITE: kind 0x03; the bits of the mask are written, the others keep their values. (DESIGN CHOICE: log entry 26) -/
def execVendorRegisterWrite (q : MctpReq) (off value mask : Nat) (s : State) : Out :=
  .next (s.mctp q 0x7E 3 fun s =>
    let o := off % 2 ^ 32
    if !s.vendorWriteOk q.eid o then (s.accessEvent (.smbus q.eid) o 5).reply q 0x7E 0x83 St.auth []
    else if o % 4 ≠ 0 then (accessWrite (.smbus q.eid) o 4 15 value s).reply q 0x7E 0x83 St.done []
    else (busWrite (.smbus q.eid) o (value % 2 ^ 32) (mask % 2 ^ 32) s).reply q 0x7E 0x83 St.done [])

/-! ### BAR4 (R478) -/

/-- The device virtual address of a BAR4 offset. -/
def State.windowAddr (s : State) (off : Nat) : Nat := (s.fld F.HST_WIN_HI_base * 2 ^ 32 + off % 2 ^ 32) % 2 ^ 52

/-- Whether a write reaches a page through a kv entry. (DESIGN CHOICE: log entry 29) -/
def State.meetsKv (s : State) (va n : Nat) : Bool :=
  (pieces va n).any fun p => match s.walk p.1 true with
    | .ok _ _ _ kv _ _ _ => kv
    | .fail _ _ => false

/-- Whether a read through translation meets data that waits (R290, R309). (DESIGN CHOICE: log entry 29) -/
def State.windowHeld (s : State) (va n : Nat) : Bool := (s.vplaces va n).any fun p => s.readHeld p.1 p.2.1 p.2.2

/-- A BAR4 read: Unsupported Request where the translation fails; a read that waits is not answered by this command. (DESIGN CHOICE: log entry 29) -/
def bar4Read (va n : Nat) (s : State) : State :=
  if (s.vread va n).good then
    if s.windowHeld va n then s.bump C.SHD_HELD_READS (bit ((s.vplaces va n).any fun p => s.loadHeld p.1 p.2.1 p.2.2))
    else (s.vcount va n 127).emit (.bar4 true (s.vread va n).bytes)
  else (s.vcount va n 127).emit (.bar4 false [])

/-- A BAR4 write: discarded through a kv entry, and with the event of R214 where the translation fails. (DESIGN CHOICE: log entry 29) -/
def bar4Write (va : Nat) (bs : List Byte) (s : State) : State :=
  match s.writeFault va bs.length with
  | some (a, l, r) => s.mmuFault a l r 127 (vaCtx a)
  | none => if s.meetsKv va bs.length then s else s.vwrite va bs

/-- BAR4_ACCESS (R478). -/
def execBar4Access (a : Bar4Access) (s : State) : Out :=
  .next (s.on fun s =>
    if a.write then bar4Write (s.windowAddr a.off) a.data s else bar4Read (s.windowAddr a.off) (a.len % 4097) s)

end Sys2Proof.Machine
end

