-- ==== Sys2Proof/Machine/Remote.lean ====
section
/-!
DEFINITION. The home agent performs what the fabric delivered (R353 to R355): loads, stores and atomics on the tiers, and
accesses to this package's registers by other packages (R457).
-/
namespace Sys2Proof.Machine

/-- A STORE to MMIO space: a register write of its length (R9) by the remote package. (DEDUCED: log entry 30) -/
def mmioStore (h : PktHdr) (r : MemReq) (s : State) : State :=
  accessWrite (.remote h.src) (r.addr % 2 ^ 26) r.len (2 ^ r.len - 1) (ofBytes r.data) s

/-- Applies a STORE. A write that reaches the acknowledgement words of the mirrors may make steps safe (R386). -/
def homeStore (h : PktHdr) (r : MemReq) (s : State) : State :=
  let sp := bits r.addr 55 52
  let s := if sp = 3 then mmioStore h r s else mirrorHeard (s.twrite sp (r.addr % 2 ^ 52) (slice r.data 0 r.len) r.poison)
  doneOp h s

/-- Answers a LOAD; poisoned data makes the response ERR_UNCORRECTED. -/
def homeLoad (h : PktHdr) (r : MemReq) (s : State) : State :=
  let sp := bits r.addr 55 52
  let off := r.addr % 2 ^ 52
  if sp = 3 then
    let a := accessRead (.remote h.src) (off % 2 ^ 26) r.len (2 ^ r.len - 1) s
    doneOp h (respond h ⟨St.done, 0, r.addr, 0, toBytes r.len a.1, false⟩ a.2)
  else
    let bad := s.mem.poisoned sp off r.len
    doneOp h (respond h ⟨if bad then St.uncorrected else St.done, 0, r.addr, 0, s.mem.read sp off r.len, bad⟩ (s.tread sp off r.len))

/-- Performs an ATOMIC and answers its previous value; on a poisoned line the answer is ERR_UNCORRECTED, and the line
stays poisoned (R550). (DEDUCED: log entry 30) -/
def homeAtomic (h : PktHdr) (r : MemReq) (s : State) : State :=
  let sp := bits r.addr 55 52
  let off := r.addr % 2 ^ 52
  let v := s.mem.le sp off r.len
  let bad := s.mem.poisoned sp off r.len
  let s := (s.tread sp off r.len).twrite sp off (toBytes r.len (atomicNew r.aop r.len v r.opnd0 r.opnd1))
  let s := if r.noReturn then s else respond h ⟨if bad then St.uncorrected else St.done, 1, r.addr, v, [], bad⟩ s
  doneOp h (mirrorHeard s)

/-- Whether an operation waits: for its space to be ready (R354), or for data that a load or a promotion holds (R290,
R309). -/
def State.homeWaits (s : State) (o : HomeOp) : Bool :=
  match o with
  | .mem h r =>
    let sp := bits r.addr 55 52
    !s.spaceReady sp || (decide (h.ptype ≠ 2) && s.readHeld sp (r.addr % 2 ^ 52) r.len)
  | .bulk _ r => !s.spaceReady (bits r.addr 55 52)

/-- Performs one operation. (DEDUCED: log entry 30) -/
def homePerform (o : HomeOp) (s : State) : State :=
  match o with
  | .mem h r => if h.ptype = 1 then homeLoad h r s else if h.ptype = 2 then homeStore h r s else homeAtomic h r s
  | .bulk h r => doneOp h (mirrorHeard (s.bulkInto r.addr r))

/-- The oldest operation of an input is performed, or waits and holds back those behind it. -/
def homeAgent (i : Nat) (s : State) : State :=
  match kgetD s.fab.home i [] with
  | [] => s
  | o :: rest =>
    if s.homeWaits o then
      s.bump C.SHD_HELD_READS (bit (s.loadHeld (bits (HomeOp_span o).1 55 52) ((HomeOp_span o).1 % 2 ^ 52) (HomeOp_span o).2))
    else homePerform o { s with fab := { s.fab with home := if rest = [] then kdel s.fab.home i else kset s.fab.home i rest } }

/-- HOME_AGENT_PERFORM (R355). -/
def execHomeAgentPerform (i : Nat) (s : State) : Out := .next (s.on fun s => homeAgent i s)

end Sys2Proof.Machine
end

