-- ==== Sys2Proof/Machine/Startup.lean ====
section
/-!
DEFINITION. Start-up (R430 to R439): the image slots and their checks, the boot commit, the milestones, and the boot
commands.
-/
namespace Sys2Proof.Machine

/-! ### Reading an image (R430 to R433) -/

/-- `n` bytes of the flash as a number. -/
def State.flashLe (s : State) (a n : Nat) : Nat := ofBytes (cellsRead flashErased s.mem.flash a n)

/-- A section of an image: type, offset, length, and the entry's last four bytes. -/
structure Section where
  kind : Nat
  off : Nat
  len : Nat
  tail : Nat
  deriving DecidableEq, Repr

/-- The section table of an image at `b`. -/
def State.sections (s : State) (b : Nat) : List Section :=
  (List.range (min 8 (s.flashLe (b + 28) 4))).map fun i =>
    let e := b + 256 + 16 * i
    ⟨s.flashLe e 4, s.flashLe (e + 4) 4, s.flashLe (e + 8) 4, s.flashLe (e + 12) 4⟩

/-- The section of a type. -/
def State.section (s : State) (b kind : Nat) : Option Section := (s.sections b).find? fun x => x.kind = kind

/-- A record of the field table (R435): offset, value, mask, and the bytes that must be zero. -/
structure FieldRec where
  off : Nat
  value : Nat
  mask : Nat
  rest : Nat
  deriving DecidableEq, Repr

/-- The field table. -/
def State.fieldTable (s : State) (b : Nat) : List FieldRec :=
  match s.section b 1 with
  | none => []
  | some x => (List.range (x.len / 16)).map fun i =>
      let e := b + x.off + 16 * i
      ⟨s.flashLe e 4, s.flashLe (e + 4) 4, s.flashLe (e + 8) 4, s.flashLe (e + 12) 4⟩

/-- The boot-command records (R439). -/
def State.bootList (s : State) (b : Nat) : List (List Byte) :=
  match s.section b 3 with
  | none => []
  | some x => (List.range (x.len / 64)).map fun i => cellsRead flashErased s.mem.flash (b + x.off + 64 * i) 64

/-- The entries of a preload section from byte `i` on, with whether they are well formed. -/
def preloadFrom (l : List Byte) : Nat → Nat → List (Nat × List Byte) × Bool
  | 0, i => ([], decide (l.length ≤ i))
  | n + 1, i =>
    if l.length ≤ i then ([], true)
    else
      let off := leAt l i 8
      let len := leAt l (i + 8) 4
      let ok := decide (i + 16 + len ≤ l.length) && decide (leAt l (i + 12) 4 = 0) && decide (off % 256 = 0) && decide (len % 16 = 0)
      if ok then
        let r := preloadFrom l n (i + 16 + len)
        ((off, slice l (i + 16) len) :: r.1, r.2)
      else ([], false)

/-- The preload entries (R432). -/
def State.preloads (s : State) (b : Nat) : List (Nat × List Byte) × Bool :=
  match s.section b 4 with
  | none => ([], true)
  | some x => preloadFrom (cellsRead flashErased s.mem.flash (b + x.off) x.len) (x.len / 16) 0

/-! ### The checks of R434 -/

/-- The image's size. -/
def State.imageSize (s : State) (b : Nat) : Nat := s.flashLe (b + 8) 4

/-- Check 2: magic, version and size. -/
def State.headerOk (s : State) (b : Nat) : Bool :=
  let n := s.imageSize b
  decide (s.flashLe b 4 = 0x46435A53) && decide (s.flashLe (b + 4) 2 = 1) && decide (n % 256 = 0) && decide (512 ≤ n) && decide (n ≤ 0x800000)

/-- The key slot the signature block names. -/
def State.imageKey (s : State) (b : Nat) : Nat := s.flashLe (b + s.imageSize b - 256) 2

/-- The image key slots accepted in the lifecycle state (R451). -/
def State.keyAccepted (s : State) (n : Nat) : Bool :=
  match s.sec.lifecycle with
  | 1 => decide (n ≤ 4)
  | 2 => decide (1 ≤ n) && decide (n ≤ 4)
  | _ => decide (n = 0)

/-- Check 3: an accepted and ACTIVE slot, and a signature that verifies (R433, R454). (DESIGN CHOICE: log entry 12) -/
def State.signatureOk (s : State) (b : Nat) : Bool :=
  let n := s.imageKey b
  let e := b + s.imageSize b - 256
  s.keyAccepted n && decide ((s.imgSlot n).state = 1) &&
    Config.ecdsaVerify (s.imgSlot n).key (Config.sha384 (cellsRead flashErased s.mem.flash b (s.imageSize b - 256)))
      (s.flashLe (e + 16) 48) (s.flashLe (e + 64) 48)

/-- Check 5 on the header, the signature block and the section table. (DEDUCED: log entry 90) -/
def State.layoutOk (s : State) (b : Nat) : Bool :=
  let l := s.sections b
  let n := s.imageSize b
  let k := s.flashLe (b + 28) 4
  let e := b + n - 256
  let count := fun (t : Nat) => (l.filter fun x => x.kind = t).length
  decide (s.flashLe (b + 6) 2 = 0) && decide (s.flashLe (b + 27) 1 = 0) && decide (s.flashLe (b + 40) 216 = 0) &&
    decide (s.flashLe (e + 2) 14 = 0) && decide (s.flashLe (e + 112) 144 = 0) && decide (1 ≤ k) && decide (k ≤ 8) &&
    l.all (fun x => decide (1 ≤ x.kind) && decide (x.kind ≤ 4) && decide (x.off % 256 = 0) && decide (x.tail = 0) &&
      decide (256 + 16 * k ≤ x.off) && decide (x.off + x.len ≤ n - 256)) &&
    decide (count 1 = 1) && decide (count 2 = 1) && decide (count 3 ≤ 1) && decide (count 4 ≤ 1) &&
    (List.range l.length).all fun i => (List.range l.length).all fun j =>
      match l[i]?, l[j]? with
      | some x, some y => decide (i = j) || !overlap x.off x.len y.off y.len
      | _, _ => true

/-- The bits of a register that the field table may set (R435). -/
def tableMask (off : Nat) : Nat := fieldsMask (fun f => f.ty = .rw || f.ty = .rwl) ((regFields off).getD [])

/-- A record of the field table is well formed (R435). -/
def recordOk (r : FieldRec) : Bool :=
  decide (r.off % 4 = 0) && decide (r.off < 0x4000000) && decide (r.rest = 0) && (regFields r.off).isSome &&
    decide (blockNum r.off ≠ 2) && decide (blockNum r.off ≠ 6) && decide (r.mask &&& tableMask r.off = r.mask)

/-- A boot-command record is well formed (R439): an accepted op, its source among those accepted, and for WRITE_REG no RWL
bit named. -/
def bootRecOk (l : List Byte) : Bool :=
  let op := leAt l 0 1
  let src := bits (leAt l 1 1) 3 2
  if op = 0x60 then decide (leAt l 12 4 &&& rwlMask (leAt l 4 4) = 0) && decide (leAt l 16 48 = 0) && decide (leAt l 1 3 = 0)
  else if op = 0x40 then decide (src ≠ 1) && decide (leAt l 8 8 / 2 ^ 63 = 1)
  else if op = 0x42 then decide (src ≠ 1)
  else [0x28, 0x29, 0x2A, 0x30, 0x32, 0x33].contains op

/-- Check 5 on the sections' contents. (DEDUCED: log entry 90) -/
def State.contentOk (s : State) (b : Nat) : Bool :=
  let len := fun (t : Nat) => match s.section b t with
    | some x => x.len
    | none => 0
  decide (len 1 % 16 = 0) && (s.fieldTable b).all recordOk && decide (4 ≤ len 2) && decide (len 3 % 64 = 0) &&
    decide (len 3 ≤ 65536) && (s.bootList b).all bootRecOk && (s.preloads b).2

/-- The package as the image names it: identity and appliance (R370). -/
def identify (b : Nat) (s : State) : State :=
  let s := ((s.setFld F.FAB_ID_package (s.flashLe (b + 24) 1)).setFld F.FAB_ID_groups (s.flashLe (b + 25) 1))
  (s.wr F.FAB_APPL_LO_appliance.off (s.flashLe (b + 16) 4)).wr F.FAB_APPL_HI_appliance.off (s.flashLe (b + 20) 4)

/-- The boot transaction with the field table staged in order (R435). -/
def State.staged (s : State) (b : Nat) : State :=
  (s.fieldTable b).foldl (fun s r => s.stage r.off r.value r.mask) (openTxn .boot (identify b s))

/-- Whether a record sets a field outside its range: each field it touches, with its other bits as staged before. -/
def State.tableBad (s : State) (r : FieldRec) : Bool :=
  let v := mixBits (s.present r.off) r.value r.mask
  ((regFields r.off).getD []).any fun f => decide (f.mask &&& r.mask ≠ 0) && (decide (f.of v < f.min) || decide (f.max < f.of v))

/-- Whether some record of a table is out of range, from a state with the earlier ones staged. -/
def rangeBad : List FieldRec → State → Bool
  | [], s => s.txn.staged.any fun e => crossBad e.1 (s.present e.1)
  | r :: l, s => s.tableBad r || rangeBad l (s.stage r.off r.value r.mask)

/-- Check 6. -/
def State.valuesOk (s : State) (b : Nat) : Bool :=
  let p := s.flashLe (b + 24) 1
  let g := s.flashLe (b + 25) 1
  decide (p < 144) && decide (1 ≤ g) && decide (g ≤ 16) && decide (p / 9 < g) && !rangeBad (s.fieldTable b) (openTxn .boot s) &&
    !(s.staged b).txn.overflow && (s.preloads b).1.all fun e => decide (e.1 + e.2.length ≤ 0x6000000000)

/-- The first failing check's status for the image at `b`, checks 1 to 7. -/
def State.imageStatus (s : State) (b : Nat) (readOk : Bool) : Option Nat :=
  if !readOk then some St.uncorrected
  else if !s.headerOk b then some St.format
  else if !s.signatureOk b then some St.integrity
  else if s.flashLe (b + 12) 4 < s.sec.svn then some St.auth
  else if !(s.layoutOk b && s.contentOk b) then some St.format
  else if !s.valuesOk b then some St.range
  else if s.flashLe (b + 26) 1 ≠ s.fld F.GLB_ID_stepping then some St.state
  else none

/-! ### The boot commit (R443, R548) -/

/-- The RW bits of the field table take their values, by offset (R435). (DEDUCED: log entry 90) -/
def bootWrites (l : KMap (Nat × Nat)) (s : State) : State :=
  l.foldl (fun s e => if e.2.2 &&& tableMask e.1 &&& (2 ^ 32 - 1 - rwlMask e.1) = 0 then s
    else busWrite .boot e.1 e.2.1 (e.2.2 &&& (2 ^ 32 - 1 - rwlMask e.1)) s) s

/-- An image applied: what the header and the sections give the package. (DEDUCED: log entry 90) -/
def applyImage (b slot : Nat) (s : State) : State :=
  let s := { s with
    sec := { s.sec with imgSlot := some (s.imageKey b) }
    boot := { s.boot with image := some slot, list := s.bootList b, index := 0, preload := (s.preloads b).1,
                          t2Code := s.fld F.TIER_T2_CFG_population, fallbackDue := decide (slot = 1) } }
  let s := ((s.wr F.CFG_IMG_ID_LO_image_id.off (s.flashLe (b + 32) 4)).wr F.CFG_IMG_ID_HI_image_id.off (s.flashLe (b + 36) 4)).wr
    F.CFG_IMG_SVN_svn.off (s.flashLe (b + 12) 4)
  let v := match s.section b 2 with
    | some x => s.flashLe (b + x.off) 4
    | none => 0
  (((s.setFld F.PRS_STATUS_fw_version v).setFld F.CFG_IMG_STATUS_slot slot).setFld F.CFG_IMG_STATUS_fallback slot).setFld F.CFG_BOOT_phase 2

/-- The status of a slot and the state after its checks and, where they pass, its commit. -/
def State.tryImage (s : State) (b slot : Nat) (readOk : Bool) : Nat × State :=
  match s.imageStatus b readOk with
  | some st => (st, s)
  | none =>
    let t := s.staged b
    match firstFail t.commitFails with
    | some (st, o) => (st, (s.setFld F.CFG_TXN_FAIL_offset o).bump C.CFG_COMMIT_FAIL)
    | none => (St.done, applyImage b slot (bootWrites t.txn.staged t.applyStaged))

/-- Configuration failure (R436): both slots failed. -/
def configFailed (s : State) : State :=
  let s := ((s.setFld F.GLB_STATUS_config_failed 1).setFld F.CFG_IMG_STATUS_failed 1).setFld F.CFG_BOOT_phase 5
  let s := { s with pins := { s.pins with alertN := false } }
  s.raise E.configurationFailed (d0 := s.fld F.CFG_IMG_STATUS_status_a) (d1 := s.fld F.CFG_IMG_STATUS_status_b)

/-- A slot has been read and is checked (R434): A first, B only where A failed. (DEDUCED: log entry 90) -/
def imageSlotCheck (readOk : Bool) (s : State) : State :=
  if s.fld F.CFG_BOOT_phase ≠ 1 then s
  else if s.boot.failedA then
    let r := s.tryImage 0x800000 1 readOk
    let t := r.2.setFld F.CFG_IMG_STATUS_status_b r.1
    if r.1 = St.done then t else configFailed t
  else
    let r := s.tryImage 0 0 readOk
    let t := r.2.setFld F.CFG_IMG_STATUS_status_a r.1
    if r.1 = St.done then t else { t with boot := { t.boot with failedA := true } }

/-- IMAGE_SLOT_CHECK (R434). -/
def execImageSlotCheck (readOk : Bool) (s : State) : Out := .next (s.on fun s => imageSlotCheck readOk s)

/-! ### Milestones (R437, R438) -/

/-- SMBUS_RESPONDER_READY (R438). -/
def execSmbusResponderReady (s : State) : Out := .next (s.on fun s => { s with boot := { s.boot with smbusUp := true } })

/-- The MC is up (R437): the fuses have been read, and the image is read next. -/
def mcUp (s : State) : State :=
  if s.boot.mcUp then s
  else ({ s with boot := { s.boot with mcUp := true, smbusUp := true } }).setFld F.CFG_BOOT_phase 1

/-- MC_UP (R437). -/
def execMcUp (s : State) : Out := .next (s.on mcUp)

/-- Milliseconds from t0, in 16 bits (R448). (DESIGN CHOICE: log entry 94) -/
def State.sinceStart (s : State) : Nat := satBits 16 ((s.us - s.boot.t0) / 1000)

/-- The preload entries are written to tier 1 in order (R432), and tier 0 holds zeros (R437). -/
def writePreload (s : State) : State :=
  let l := s.boot.preload
  let s := { s with mem := { s.mem with t0 := [], p0 := [] }, boot := { s.boot with preload := [] } }
  l.foldl (fun s e => s.twrite 1 e.1 e.2) s

/-- Configuration ready (R437): tiers 0 and 1 are in service, VID_EN rises with both codes at 0.70 V (R530), ports may
leave HOLD, and alerts raised so far are driven (R517). (DEDUCED: log entry 91) -/
def configurationReady (s : State) : State :=
  if s.boot.image.isNone || s.flag F.GLB_STATUS_config_ready then s
  else
    let s := writePreload (s.setFld F.TIER_T1_STATUS_trained 0xFF)
    let s := ((s.setFld F.GLB_STATUS_config_ready 1).setFld F.CFG_BOOT_TIME_config_ready s.sinceStart).setFld F.CFG_BOOT_phase 3
    let s := { s with pins := { s.pins with vidEn := true, vid0 := 0x1E, vid1 := 0x1E, alertN := s.pins.alertN && !s.flag F.EVT_ALERT_pending } }
    let s := if s.boot.fallbackDue then s.raise E.imageFallback (d0 := s.fld F.CFG_IMG_STATUS_status_a) else s
    recheckHold { s with boot := { s.boot with fallbackDue := false } }

/-- CONFIGURATION_READY (R437). -/
def execConfigurationReady (s : State) : Out := .next (s.on configurationReady)

/-- Whether tier 2 is in service, disabled, or not populated (R275). -/
def State.tier2Settled (s : State) : Bool := s.boot.t2Done || decide (s.boot.t2Code = 0)

/-- Fabric ready (R437): with an empty boot list the list has ended (R439). (DEDUCED: log entry 91) -/
def fabricReady (s : State) : State :=
  if !s.flag F.GLB_STATUS_config_ready || s.flag F.GLB_STATUS_fabric_ready || !s.tier2Settled then s
  else
    let s := ((s.setFld F.GLB_STATUS_fabric_ready 1).setFld F.CFG_BOOT_TIME_fabric_ready s.sinceStart).setFld F.CFG_BOOT_phase 4
    let s := s.setFld F.CFG_BOOT_done 1
    if s.boot.list = [] then s.setFld F.CFG_BOOT_cmds_done 1 else s

/-- FABRIC_READY (R437). -/
def execFabricReady (s : State) : Out := .next (s.on fabricReady)

/-! ### Boot commands (R439) -/

/-- A generation record (R264, R289). -/
def genOf (l : List Byte) : GenRec :=
  let op := leAt l 0 1
  let long := op = 0x28 ∨ op = 0x30
  ⟨if op = 0x30 then leAt l 1 1 else 0, leAt l 2 1, leAt l 4 2, leAt l 8 8, leAt l 16 8, leAt l 24 8, leAt l 32 4,
    (decide (op ≠ 0x30) && decide (leAt l 1 1 ≠ 0)) || decide (leAt l 3 1 ≠ 0) || decide (leAt l 6 2 ≠ 0) || decide (leAt l 36 28 ≠ 0) ||
      (!decide long && decide (leAt l 8 28 ≠ 0))⟩

/-- The source of a LOAD_SHARD or FETCH record (R307, R314). -/
def sourceOf (l : List Byte) : LoadSource :=
  match bits (leAt l 1 1) 3 2 with
  | 0 => .storage (bits (leAt l 4 2) 6 6) (bits (leAt l 4 2) 5 0) (leAt l 24 4)
  | 1 => .hostMem
  | 2 => .fabric
  | _ => .reserved

/-- Whether the connection bytes break R307: reserved bits, or any bit where the source is not storage. -/
def connBad (l : List Byte) : Bool :=
  decide (leAt l 6 2 ≠ 0) ||
    (if bits (leAt l 1 1) 3 2 = 0 then decide (128 ≤ leAt l 4 2) else decide (leAt l 4 2 ≠ 0) || decide (leAt l 24 4 ≠ 0))

/-- A LOAD_SHARD record (R307). -/
def shardOf (l : List Byte) : ShardRec :=
  ⟨leAt l 1 1 % 4, sourceOf l, leAt l 2 1 % 16, leAt l 8 8, leAt l 16 8,
    decide (16 ≤ leAt l 1 1) || decide (16 ≤ leAt l 2 1) || decide (leAt l 3 1 ≠ 0) || connBad l || decide (leAt l 28 36 ≠ 0)⟩

/-- A FETCH record (R314). -/
def fetchOf (l : List Byte) : FetchRec :=
  ⟨sourceOf l, leAt l 8 8, leAt l 16 8, leAt l 28 4, leAt l 32 8,
    decide (leAt l 1 1 % 4 ≠ 0) || decide (16 ≤ leAt l 1 1) || decide (leAt l 2 2 ≠ 0) || connBad l || decide (leAt l 40 24 ≠ 0)⟩

/-- Whether a record of op and ctx only has other bytes set. -/
def shortBad (l : List Byte) : Bool := decide (leAt l 1 1 ≠ 0) || decide (leAt l 3 61 ≠ 0)

/-- WRITE_REG: a plain register write. -/
def bootWriteReg (l : List Byte) (s : State) : State :=
  let off := leAt l 4 4
  let t := if off % 4 = 0 then busWrite .boot off (leAt l 8 4) (leAt l 12 4) s else accessWrite .boot off 4 15 (leAt l 8 4) s
  { t with bootReply := some St.done }

/-- A record is issued to its engine. -/
def issueBoot (l : List Byte) (s : State) : State :=
  match leAt l 0 1 with
  | 0x28 => landed (execStageGen .boot (genOf l) s) s
  | 0x29 => landed (execActivateGen .boot (genOf l) s) s
  | 0x2A => landed (execRetireGen .boot (genOf l) s) s
  | 0x30 => landed (execLoadCtx .boot (genOf l) s) s
  | 0x32 => landed (execPromote .boot (leAt l 2 1) (shortBad l) s) s
  | 0x33 => landed (execDemote .boot (leAt l 2 1) (shortBad l) s) s
  | 0x40 => landed (execLoadShard .boot (shardOf l) s) s
  | 0x42 => landed (execFetch .boot (fetchOf l) s) s
  | 0x60 => bootWriteReg l s
  | _ => { s with bootReply := some St.format }

/-- The final completion of the record in hand: NOT_READY is retried for 1 s (R363), a status from 0x10 to 0x3F stops the
list with its event, and the last record's end sets cmds_done. (DEDUCED: log entry 91) -/
def settleBoot (s : State) : State :=
  match s.bootReply with
  | none => s
  | some st =>
    let s := { s with bootReply := none, boot := { s.boot with busy := false } }
    if st = St.notReady ∧ s.us < (s.boot.since.getD s.us) + 1000000 then s
    else
      let s := ((s.bump C.CFG_BOOT_CMDS).setFld F.CFG_BOOT_cmd_index s.boot.index).setFld F.CFG_BOOT_cmd_status st
      if 0x10 ≤ st ∧ st ≤ 0x3F then
        (s.setFld F.CFG_BOOT_cmds_failed 1).raise E.bootCommand s.boot.index (d0 := st)
      else
        let s := { s with boot := { s.boot with index := s.boot.index + 1, since := none } }
        if s.boot.list.length ≤ s.boot.index then s.setFld F.CFG_BOOT_cmds_done 1 else s

/-- Whether the next record may be issued. -/
def State.bootNext (s : State) : Option (List Byte) :=
  if !s.flag F.CFG_BOOT_done || s.flag F.CFG_BOOT_cmds_failed || s.boot.busy then none else s.boot.list[s.boot.index]?

/-- The MC takes the completion of the record in hand, and issues the next once there is none. (DEDUCED: log entry 91) -/
def bootIssue (s : State) : State :=
  let s := settleBoot s
  match s.bootNext with
  | none => s
  | some l =>
    let since := some (s.boot.since.getD s.us)
    let s := ({ s with bootReply := none, boot := { s.boot with busy := true, since := since } }).setFld F.CFG_BOOT_cmd_index s.boot.index
    settleBoot (issueBoot l s)

/-- BOOT_COMMAND_ISSUE (R439). -/
def execBootCommandIssue (s : State) : Out := .next (s.on bootIssue)

end Sys2Proof.Machine
end

