-- ==== Sys2Proof/Machine/Dispatch.lean ====
section
/-! DEFINITION. The dispatch: one arm per command, each one direct call of its meaning. -/

namespace Sys2Proof.Machine

def exec (i : Instr) (s : State) : Host.Outcome State Fault Refusal :=
  match i with
  | .registerWrite org off width enables value => Sys2Proof.Machine.execRegisterWrite org off width enables value s
  | .irregularRegisterRead org off width enables => Sys2Proof.Machine.execIrregularRegisterRead org off width enables s
  | .counterLoRead org off => Sys2Proof.Machine.execCounterLoRead org off s
  | .counterClear org mask => Sys2Proof.Machine.execCounterClear org mask s
  | .dcProbe dc0 dc1 dci => Sys2Proof.Machine.execDcProbe dc0 dc1 dci s
  | .unitFire f unit => Sys2Proof.Machine.execUnitFire f unit s
  | .cuResult f unit => Sys2Proof.Machine.execCuResult f unit s
  | .agFire f mu ag => Sys2Proof.Machine.execAgFire f mu ag s
  | .entryHop f net place => Sys2Proof.Machine.execEntryHop f net place s
  | .steerPair f sw => Sys2Proof.Machine.execSteerPair f sw s
  | .deadlockDetect f region => Sys2Proof.Machine.execDeadlockDetect f region s
  | .spillComplete f => Sys2Proof.Machine.execSpillComplete f s
  | .spillRefill f queue => Sys2Proof.Machine.execSpillRefill f queue s
  | .contextLoad src f slot => Sys2Proof.Machine.execContextLoad src f slot s
  | .contextLoadDone f => Sys2Proof.Machine.execContextLoadDone f s
  | .contextSwitch src f slot => Sys2Proof.Machine.execContextSwitch src f slot s
  | .contextSwitchEffect f => Sys2Proof.Machine.execContextSwitchEffect f s
  | .contextInvalidate src f slot => Sys2Proof.Machine.execContextInvalidate src f slot s
  | .contextWindowWrite org f slot off data => Sys2Proof.Machine.execContextWindowWrite org f slot off data s
  | .fctSpillWrite org f value => Sys2Proof.Machine.execFctSpillWrite org f value s
  | .scanOut org f storage => Sys2Proof.Machine.execScanOut org f storage s
  | .scanIn org f => Sys2Proof.Machine.execScanIn org f s
  | .scanRelease org f => Sys2Proof.Machine.execScanRelease org f s
  | .scanTransferDone f => Sys2Proof.Machine.execScanTransferDone f s
  | .descriptorWindowWrite org f mu off data => Sys2Proof.Machine.execDescriptorWindowWrite org f mu off data s
  | .launchStart pool => Sys2Proof.Machine.execLaunchStart pool s
  | .matmul f => Sys2Proof.Machine.execMatmul f s
  | .gatedFfn f => Sys2Proof.Machine.execGatedFfn f s
  | .attention f => Sys2Proof.Machine.execAttention f s
  | .gateCand f => Sys2Proof.Machine.execGateCand f s
  | .copyTile f => Sys2Proof.Machine.execCopyTile f s
  | .setx f => Sys2Proof.Machine.execSetx f s
  | .loadx f => Sys2Proof.Machine.execLoadx f s
  | .barrier f => Sys2Proof.Machine.execBarrier f s
  | .endInstr f => Sys2Proof.Machine.execEndInstr f s
  | .barrierRelease f => Sys2Proof.Machine.execBarrierRelease f s
  | .tileClaim f => Sys2Proof.Machine.execTileClaim f s
  | .tileFinish f meet => Sys2Proof.Machine.execTileFinish f meet s
  | .tileReport f => Sys2Proof.Machine.execTileReport f s
  | .tileReturn f => Sys2Proof.Machine.execTileReturn f s
  | .tileCounterReset org c => Sys2Proof.Machine.execTileCounterReset org c s
  | .standDownRequest f who => Sys2Proof.Machine.execStandDownRequest f who s
  | .facetJoinPool f => Sys2Proof.Machine.execFacetJoinPool f s
  | .reticleSampleDone die r => Sys2Proof.Machine.execReticleSampleDone die r s
  | .fallbackWindowAge => Sys2Proof.Machine.execFallbackWindowAge s
  | .forceFallback org ctx layer => Sys2Proof.Machine.execForceFallback org ctx layer s
  | .restoreLayer org ctx layer => Sys2Proof.Machine.execRestoreLayer org ctx layer s
  | .clearLayer org ctx layer => Sys2Proof.Machine.execClearLayer org ctx layer s
  | .candidatePacket p => Sys2Proof.Machine.execCandidatePacket p s
  | .dispatchRec r => Sys2Proof.Machine.execDispatchRec r s
  | .spillRec r => Sys2Proof.Machine.execSpillRec r s
  | .ackRec r => Sys2Proof.Machine.execAckRec r s
  | .layerEndSend ctx step layer => Sys2Proof.Machine.execLayerEndSend ctx step layer s
  | .endRecord r => Sys2Proof.Machine.execEndRecord r s
  | .returnRowWritten ctx step layer generation loc row => Sys2Proof.Machine.execReturnRowWritten ctx step layer generation loc row s
  | .returnRec r => Sys2Proof.Machine.execReturnRec r s
  | .closeTimeout ctx step layer => Sys2Proof.Machine.execCloseTimeout ctx step layer s
  | .returnTimeout ctx step layer token => Sys2Proof.Machine.execReturnTimeout ctx step layer token s
  | .publish from_ r => Sys2Proof.Machine.execPublish from_ r s
  | .takeUp from_ r => Sys2Proof.Machine.execTakeUp from_ r s
  | .retire from_ r => Sys2Proof.Machine.execRetire from_ r s
  | .fork from_ r => Sys2Proof.Machine.execFork from_ r s
  | .freeSeq from_ r => Sys2Proof.Machine.execFreeSeq from_ r s
  | .pause from_ r => Sys2Proof.Machine.execPause from_ r s
  | .pauseMoveDone slot => Sys2Proof.Machine.execPauseMoveDone slot s
  | .resume from_ r => Sys2Proof.Machine.execResume from_ r s
  | .resumeMoveDone slot => Sys2Proof.Machine.execResumeMoveDone slot s
  | .touch from_ r => Sys2Proof.Machine.execTouch from_ r s
  | .ttlCheck => Sys2Proof.Machine.execTtlCheck s
  | .kvmExpiredRead org => Sys2Proof.Machine.execKvmExpiredRead org s
  | .pftInit => Sys2Proof.Machine.execPftInit s
  | .epochAdvance => Sys2Proof.Machine.execEpochAdvance s
  | .reclaim => Sys2Proof.Machine.execReclaim s
  | .invalidateAll org => Sys2Proof.Machine.execInvalidateAll org s
  | .invalidateContext org ctx => Sys2Proof.Machine.execInvalidateContext org ctx s
  | .invalidateRange org pages => Sys2Proof.Machine.execInvalidateRange org pages s
  | .mmuInvDone => Sys2Proof.Machine.execMmuInvDone s
  | .submit from_ r => Sys2Proof.Machine.execSubmit from_ r s
  | .cancel from_ r => Sys2Proof.Machine.execCancel from_ r s
  | .budgetTick => Sys2Proof.Machine.execBudgetTick s
  | .admissionIntervalTick => Sys2Proof.Machine.execAdmissionIntervalTick s
  | .admissionWaitExpire => Sys2Proof.Machine.execAdmissionWaitExpire s
  | .stepBuild ctx series => Sys2Proof.Machine.execStepBuild ctx series s
  | .stepCensus src step ctx tokens pmax => Sys2Proof.Machine.execStepCensus src step ctx tokens pmax s
  | .censusTimeout ctx series => Sys2Proof.Machine.execCensusTimeout ctx series s
  | .stepLaunchWrite ctx series => Sys2Proof.Machine.execStepLaunchWrite ctx series s
  | .idleWaitExpire ctx series => Sys2Proof.Machine.execIdleWaitExpire ctx series s
  | .draftPassNext ctx => Sys2Proof.Machine.execDraftPassNext ctx s
  | .stepCommit ctx series => Sys2Proof.Machine.execStepCommit ctx series s
  | .trainLaunch from_ r => Sys2Proof.Machine.execTrainLaunch from_ r s
  | .trainLaunchEnd ctx => Sys2Proof.Machine.execTrainLaunchEnd ctx s
  | .focusPeriod => Sys2Proof.Machine.execFocusPeriod s
  | .stageGen from_ r => Sys2Proof.Machine.execStageGen from_ r s
  | .activateGen from_ r => Sys2Proof.Machine.execActivateGen from_ r s
  | .retireGen from_ r => Sys2Proof.Machine.execRetireGen from_ r s
  | .tier2TrainingDone modules channelsOk => Sys2Proof.Machine.execTier2TrainingDone modules channelsOk s
  | .tierScrubRead tier line symbols => Sys2Proof.Machine.execTierScrubRead tier line symbols s
  | .condenserFillStart ring => Sys2Proof.Machine.execCondenserFillStart ring s
  | .unitFillDone ring => Sys2Proof.Machine.execUnitFillDone ring s
  | .loadCtx from_ r => Sys2Proof.Machine.execLoadCtx from_ r s
  | .unloadCtx from_ ctx rsv => Sys2Proof.Machine.execUnloadCtx from_ ctx rsv s
  | .promote from_ ctx rsv => Sys2Proof.Machine.execPromote from_ ctx rsv s
  | .promoteCopyDone ctx => Sys2Proof.Machine.execPromoteCopyDone ctx s
  | .demote from_ ctx rsv => Sys2Proof.Machine.execDemote from_ ctx rsv s
  | .demoteComplete ctx => Sys2Proof.Machine.execDemoteComplete ctx s
  | .preempt from_ ctx rsv => Sys2Proof.Machine.execPreempt from_ ctx rsv s
  | .preemptComplete ctx => Sys2Proof.Machine.execPreemptComplete ctx s
  | .creditReservationReturn ctx => Sys2Proof.Machine.execCreditReservationReturn ctx s
  | .acquire from_ ctx sem wait rsv => Sys2Proof.Machine.execAcquire from_ ctx sem wait rsv s
  | .release from_ ctx sem rsv => Sys2Proof.Machine.execRelease from_ ctx sem rsv s
  | .semHorizonExpire sem => Sys2Proof.Machine.execSemHorizonExpire sem s
  | .interferenceWindow => Sys2Proof.Machine.execInterferenceWindow s
  | .loadShard from_ r => Sys2Proof.Machine.execLoadShard from_ r s
  | .rdmaReadResponse r => Sys2Proof.Machine.execRdmaReadResponse r s
  | .chunkHashDone load => Sys2Proof.Machine.execChunkHashDone load s
  | .shardLoadComplete load => Sys2Proof.Machine.execShardLoadComplete load s
  | .fetch from_ r => Sys2Proof.Machine.execFetch from_ r s
  | .fetchComplete load => Sys2Proof.Machine.execFetchComplete load s
  | .shardScrubPass => Sys2Proof.Machine.execShardScrubPass s
  | .shardScrubCheck => Sys2Proof.Machine.execShardScrubCheck s
  | .shdBadRead org => Sys2Proof.Machine.execShdBadRead org s
  | .linkDetect port lanes => Sys2Proof.Machine.execLinkDetect port lanes s
  | .linkEqualiseDone port => Sys2Proof.Machine.execLinkEqualiseDone port s
  | .linkLockDone port => Sys2Proof.Machine.execLinkLockDone port s
  | .linkTrainFail port => Sys2Proof.Machine.execLinkTrainFail port s
  | .identSendTick port => Sys2Proof.Machine.execIdentSendTick port s
  | .ident port r => Sys2Proof.Machine.execIdent port r s
  | .dataFlitReceive port t hdr => Sys2Proof.Machine.execDataFlitReceive port t hdr s
  | .retrainReq port width => Sys2Proof.Machine.execRetrainReq port width s
  | .lockLoss port => Sys2Proof.Machine.execLockLoss port s
  | .portRetrain org port => Sys2Proof.Machine.execPortRetrain org port s
  | .retrainLimitExpire port => Sys2Proof.Machine.execRetrainLimitExpire port s
  | .laneErrorWindow port corrected unlocked => Sys2Proof.Machine.execLaneErrorWindow port corrected unlocked s
  | .packetForward inPort h => Sys2Proof.Machine.execPacketForward inPort h s
  | .fabLoad h r => Sys2Proof.Machine.execFabLoad h r s
  | .fabStore h r => Sys2Proof.Machine.execFabStore h r s
  | .fabAtomic h r => Sys2Proof.Machine.execFabAtomic h r s
  | .fabResponse h r => Sys2Proof.Machine.execFabResponse h r s
  | .bulkWrite h r => Sys2Proof.Machine.execBulkWrite h r s
  | .bulkRead h r => Sys2Proof.Machine.execBulkRead h r s
  | .bulkData h r => Sys2Proof.Machine.execBulkData h r s
  | .gwBatch h entries => Sys2Proof.Machine.execGwBatch h entries s
  | .gwBatchClose pkg dir => Sys2Proof.Machine.execGwBatchClose pkg dir s
  | .homeAgentPerform input => Sys2Proof.Machine.execHomeAgentPerform input s
  | .e2eAck src about bases => Sys2Proof.Machine.execE2eAck src about bases s
  | .e2eAckDelayExpire src => Sys2Proof.Machine.execE2eAckDelayExpire src s
  | .fabFence org dst => Sys2Proof.Machine.execFabFence org dst s
  | .fenceComplete => Sys2Proof.Machine.execFenceComplete s
  | .fenceTimeout facet => Sys2Proof.Machine.execFenceTimeout facet s
  | .fabricRequestTimeout rtag => Sys2Proof.Machine.execFabricRequestTimeout rtag s
  | .retryBackoffExpire rtag => Sys2Proof.Machine.execRetryBackoffExpire rtag s
  | .routeEpochSwitch pkg => Sys2Proof.Machine.execRouteEpochSwitch pkg s
  | .linkStateTick => Sys2Proof.Machine.execLinkStateTick s
  | .linkState src gmap => Sys2Proof.Machine.execLinkState src gmap s
  | .teardownVector arr v => Sys2Proof.Machine.execTeardownVector arr v s
  | .heartbeatTick => Sys2Proof.Machine.execHeartbeatTick s
  | .heartbeat src m => Sys2Proof.Machine.execHeartbeat src m s
  | .peerSuspectTimeout peer => Sys2Proof.Machine.execPeerSuspectTimeout peer s
  | .peerLostTimeout peer => Sys2Proof.Machine.execPeerLostTimeout peer s
  | .hbClear org pkg => Sys2Proof.Machine.execHbClear org pkg s
  | .isolateClear org => Sys2Proof.Machine.execIsolateClear org s
  | .fatalStop => Sys2Proof.Machine.execFatalStop s
  | .mirrorEntryApply ring e => Sys2Proof.Machine.execMirrorEntryApply ring e s
  | .mirrorTimeout peer => Sys2Proof.Machine.execMirrorTimeout peer s
  | .recover from_ r => Sys2Proof.Machine.execRecover from_ r s
  | .adoptAll from_ r => Sys2Proof.Machine.execAdoptAll from_ r s
  | .dropMirror from_ source rsv => Sys2Proof.Machine.execDropMirror from_ source rsv s
  | .resync from_ ctx rsv => Sys2Proof.Machine.execResync from_ ctx rsv s
  | .fenceFacet f cause => Sys2Proof.Machine.execFenceFacet f cause s
  | .unfenceFacet org f => Sys2Proof.Machine.execUnfenceFacet org f s
  | .powerSample p => Sys2Proof.Machine.execPowerSample p s
  | .shutterGate f => Sys2Proof.Machine.execShutterGate f s
  | .shutterUngateStart f => Sys2Proof.Machine.execShutterUngateStart f s
  | .shutterUngateDone f => Sys2Proof.Machine.execShutterUngateDone f s
  | .oppEvaluate die => Sys2Proof.Machine.execOppEvaluate die s
  | .oppChangeComplete die => Sys2Proof.Machine.execOppChangeComplete die s
  | .idleEntry => Sys2Proof.Machine.execIdleEntry s
  | .wake => Sys2Proof.Machine.execWake s
  | .thermalSensorUpdate sensor temp => Sys2Proof.Machine.execThermalSensorUpdate sensor temp s
  | .throttleStep die => Sys2Proof.Machine.execThrottleStep die s
  | .thermalTrip sensor => Sys2Proof.Machine.execThermalTrip sensor s
  | .powerOnReset => Sys2Proof.Machine.execPowerOnReset s
  | .startUp smbAddr => Sys2Proof.Machine.execStartUp smbAddr s
  | .sysRstPulse => Sys2Proof.Machine.execSysRstPulse s
  | .pwrOkLoss => Sys2Proof.Machine.execPwrOkLoss s
  | .packageResetCmd org value => Sys2Proof.Machine.execPackageResetCmd org value s
  | .pcieReset kind => Sys2Proof.Machine.execPcieReset kind s
  | .pcieLinkUp speed width msix => Sys2Proof.Machine.execPcieLinkUp speed width msix s
  | .imageSlotCheck readOk => Sys2Proof.Machine.execImageSlotCheck readOk s
  | .configurationReady => Sys2Proof.Machine.execConfigurationReady s
  | .fabricReady => Sys2Proof.Machine.execFabricReady s
  | .bootCommandIssue => Sys2Proof.Machine.execBootCommandIssue s
  | .beginTxn org => Sys2Proof.Machine.execBeginTxn org s
  | .commitTxn org => Sys2Proof.Machine.execCommitTxn org s
  | .abortTxn org => Sys2Proof.Machine.execAbortTxn org s
  | .transactionTimeout => Sys2Proof.Machine.execTransactionTimeout s
  | .expertDrop org => Sys2Proof.Machine.execExpertDrop org s
  | .openSession org m => Sys2Proof.Machine.execOpenSession org m s
  | .authSession org m => Sys2Proof.Machine.execAuthSession org m s
  | .closeSession org m => Sys2Proof.Machine.execCloseSession org m s
  | .setDebug org m => Sys2Proof.Machine.execSetDebug org m s
  | .setExpert org m => Sys2Proof.Machine.execSetExpert org m s
  | .keyWrite org m => Sys2Proof.Machine.execKeyWrite org m s
  | .keyRevoke org m => Sys2Proof.Machine.execKeyRevoke org m s
  | .imgkeyWrite org m => Sys2Proof.Machine.execImgkeyWrite org m s
  | .imgkeyRevoke org m => Sys2Proof.Machine.execImgkeyRevoke org m s
  | .svnAdvance org m => Sys2Proof.Machine.execSvnAdvance org m s
  | .lifecycleAdvance org m => Sys2Proof.Machine.execLifecycleAdvance org m s
  | .fuseWriteDone => Sys2Proof.Machine.execFuseWriteDone s
  | .challengeExpire entry => Sys2Proof.Machine.execChallengeExpire entry s
  | .sessionIdleTimeout entry => Sys2Proof.Machine.execSessionIdleTimeout entry s
  | .sessionLockoutExpire slot => Sys2Proof.Machine.execSessionLockoutExpire slot s
  | .trst => Sys2Proof.Machine.execTrst s
  | .jtagInstruction code => Sys2Proof.Machine.execJtagInstruction code s
  | .dbgBus write off value => Sys2Proof.Machine.execDbgBus write off value s
  | .testMode => Sys2Proof.Machine.execTestMode s
  | .loupeSelect org value => Sys2Proof.Machine.execLoupeSelect org value s
  | .loupeFrame => Sys2Proof.Machine.execLoupeFrame s
  | .sqDoorbell n value => Sys2Proof.Machine.execSqDoorbell n value s
  | .cqDoorbell n value => Sys2Proof.Machine.execCqDoorbell n value s
  | .bar2IrregularAccess write off width value => Sys2Proof.Machine.execBar2IrregularAccess write off width value s
  | .sqFetch n ok => Sys2Proof.Machine.execSqFetch n ok s
  | .sqEnable org n value => Sys2Proof.Machine.execSqEnable org n value s
  | .cqEnable org n value => Sys2Proof.Machine.execCqEnable org n value s
  | .cqCoalTimeout n => Sys2Proof.Machine.execCqCoalTimeout n s
  | .bar4Access a => Sys2Proof.Machine.execBar4Access a s
  | .hostReadTimeout use => Sys2Proof.Machine.execHostReadTimeout use s
  | .ethLinkUp port => Sys2Proof.Machine.execEthLinkUp port s
  | .qpToRts org port qp => Sys2Proof.Machine.execQpToRts org port qp s
  | .qpToReset org port qp => Sys2Proof.Machine.execQpToReset org port qp s
  | .qpRateTimer port qp => Sys2Proof.Machine.execQpRateTimer port qp s
  | .setEndpointId q eid => Sys2Proof.Machine.execSetEndpointId q eid s
  | .getEndpointId q => Sys2Proof.Machine.execGetEndpointId q s
  | .getMctpVersionSupport q type => Sys2Proof.Machine.execGetMctpVersionSupport q type s
  | .getMessageTypeSupport q => Sys2Proof.Machine.execGetMessageTypeSupport q s
  | .getVendorDefinedMessageSupport q selector => Sys2Proof.Machine.execGetVendorDefinedMessageSupport q selector s
  | .gettid q => Sys2Proof.Machine.execGettid q s
  | .getpldmversion q type => Sys2Proof.Machine.execGetpldmversion q type s
  | .getpldmtypes q => Sys2Proof.Machine.execGetpldmtypes q s
  | .getpldmcommands q type => Sys2Proof.Machine.execGetpldmcommands q type s
  | .getpdrrepositoryinfo q => Sys2Proof.Machine.execGetpdrrepositoryinfo q s
  | .getpdr q handle => Sys2Proof.Machine.execGetpdr q handle s
  | .getsensorreading q sensor => Sys2Proof.Machine.execGetsensorreading q sensor s
  | .getstatesensorreadings q sensor => Sys2Proof.Machine.execGetstatesensorreadings q sensor s
  | .vendorRegisterRead q off => Sys2Proof.Machine.execVendorRegisterRead q off s
  | .vendorRegisterWrite q off value mask => Sys2Proof.Machine.execVendorRegisterWrite q off value mask s
  | .spiRead org len => Sys2Proof.Machine.execSpiRead org len s
  | .spiProgram org len => Sys2Proof.Machine.execSpiProgram org len s
  | .spiErase4k org => Sys2Proof.Machine.execSpiErase4k org s
  | .spiErase64k org => Sys2Proof.Machine.execSpiErase64k org s
  | .spiCommandDone ok => Sys2Proof.Machine.execSpiCommandDone ok s
  | .eventAccept => Sys2Proof.Machine.execEventAccept s
  | .eventRateWindow => Sys2Proof.Machine.execEventRateWindow s
  | .eventRingDrain => Sys2Proof.Machine.execEventRingDrain s
  | .evtRingHeadWrite org value => Sys2Proof.Machine.execEvtRingHeadWrite org value s
  | .msixPendingSend vector => Sys2Proof.Machine.execMsixPendingSend vector s
  | .nocFlitHop p => Sys2Proof.Machine.execNocFlitHop p s
  | .frameSend port => Sys2Proof.Machine.execFrameSend port s
  | .promoteFrontAdvance ctx pages => Sys2Proof.Machine.execPromoteFrontAdvance ctx pages s
  | .mcUp => Sys2Proof.Machine.execMcUp s
  | .smbusResponderReady => Sys2Proof.Machine.execSmbusResponderReady s
  | .vddAonRemoval => Sys2Proof.Machine.execVddAonRemoval s
  | .ethLinkDown port => Sys2Proof.Machine.execEthLinkDown port s
  | .cnpReceive port qp => Sys2Proof.Machine.execCnpReceive port qp s
  | .rdmaAckTimeout port qp => Sys2Proof.Machine.execRdmaAckTimeout port qp s
  | .incomingRdmaRequest port qp => Sys2Proof.Machine.execIncomingRdmaRequest port qp s
  | .ethFrameDiscard port => Sys2Proof.Machine.execEthFrameDiscard port s
  | .pfcPauseFrame port prio pause => Sys2Proof.Machine.execPfcPauseFrame port prio pause s
  | .hostReadCompletion use data => Sys2Proof.Machine.execHostReadCompletion use data s
  | .d3hotEntry => Sys2Proof.Machine.execD3hotEntry s
  | .mctpUnsupportedCommand q what => Sys2Proof.Machine.execMctpUnsupportedCommand q what s

end Sys2Proof.Machine
end

