-- ==== Sys2Proof/Machine/Step.lean ====
section
/-! DEFINITION. The step of the block: the command at the front of the queue, or a microsecond of GLB_US. -/
namespace Sys2Proof.Machine

/-- One step: the command at the front runs on the state with the queue's rest; on an empty queue one microsecond of
the AON time passes (R508). (DESIGN CHOICE: log entry 1) -/
def step (s : State) : Host.Outcome State Fault Refusal :=
  match s.pending with
  | i :: rest => exec i { s with pending := rest }
  | [] => .next (tick s)

/-- The state with the command a table word spells at the front of its queue. The table gives its rows no bits, so no
word spells a command and the state stays. (DESIGN CHOICE: log entry 1) -/
def State.withFetchWord (s : State) (nbits w : Nat) : State :=
  match decodeTableWord nbits w with
  | some i => { s with pending := i :: s.pending }
  | none => s

end Sys2Proof.Machine
end

