-- ==== Sys2Proof/WellFormed.lean ====
section
/-!
DEFINITION. Which commands are well formed: every operand within the range the hardware has for it (facets, dies, ports,
contexts, slots) and every record field within the bits its layout gives it (R172, R173, R185, R222, R238, R253, R264, R305, R307,
R314, R331, R346, R351, R352, R360, R362, R365, R377, R384, R388, R389, R458). A meaning is total all the same: what the device does with
a value its rules refuse stands in the meaning.
-/
namespace Sys2Proof

/-- A value of `n` bits. -/
def fits (n v : Nat) : Bool := decide (v < 2 ^ n)

def isPackage (p : Nat) : Bool := decide (p < 144)
def isFacet (f : Nat) : Bool := decide (f < 72)
def isUnit (u : Nat) : Bool := decide (u < 24)
def isDie (d : Nat) : Bool := decide (d < 2)
def isContext (c : Nat) : Bool := decide (c < 16)
def isSeries (k : Nat) : Bool := decide (k < 2)
def isSlot (n : Nat) : Bool := decide (n < 262144)
def isPort (p : Nat) : Bool := decide (p < 12)
def isStoragePort (p : Nat) : Bool := decide (p < 2)
def isQueuePair (q : Nat) : Bool := decide (q < 64)
def isQueue (n : Nat) : Bool := decide (n < 1024)
def isBar0 (off : Nat) : Bool := fits 26 off

/-- An access width in bytes that a bus can make. -/
def isWidth (w : Nat) : Bool := w = 1 || w = 2 || w = 4 || w = 8

def Originator.wf : Originator → Bool
  | .smbus e => fits 8 e
  | .remote p => isPackage p
  | _ => true

def CmdOrigin.wf : CmdOrigin → Bool
  | .queue sq tag => isQueue sq && fits 64 tag
  | .boot => true

def CtxSource.wf : CtxSource → Bool
  | .reg o => o.wf
  | .sequencer => true

def HopPlace.wf : HopPlace → Bool
  | .input sw p => decide (sw < 35) && decide (p < 8)
  | .output sw p => decide (sw < 35) && decide (p < 8)

def TileMeet.wf (m : TileMeet) : Bool :=
  decide (m.residue ≤ 2) && decide (m.cu < 16) && (match m.sramCe with
    | some u => fits 16 u
    | none => true)

def CandPacket.wf (p : CandPacket) : Bool :=
  isDie p.die && isContext p.ctx && fits 32 p.step && fits 16 p.layer && isFacet p.facet && fits 32 p.token &&
    p.pairs.all fun x => fits 32 x.1 && fits 16 x.2

def Choice.wf (c : Choice) : Bool := fits 16 c.expert && fits 16 c.loc && fits 8 c.slot

def DispRec.wf (r : DispRec) : Bool :=
  fits 4 r.ctx && fits 8 r.fmt && fits 16 r.layer && fits 16 r.generation && fits 32 r.step && isPackage r.home &&
    fits 8 r.base && fits 8 r.c && fits 32 r.token && fits 16 r.nblk && fits 16 r.cap && decide (r.choices.length ≤ 16) &&
    r.choices.all (·.wf) && decide (r.exps.length = r.nblk)

def EndRec.wf (r : EndRec) : Bool :=
  fits 4 r.ctx && fits 16 r.layer && fits 16 r.generation && fits 32 r.step && isPackage r.home && fits 32 r.count

def AckRec.wf (r : AckRec) : Bool :=
  fits 8 r.ctx && fits 16 r.layer && fits 16 r.generation && fits 32 r.step && isPackage r.owner && fits 32 r.token &&
    fits 8 r.status && r.slots.all (fits 4) && fits 32 r.outcomes

def ReturnRec.wf (r : ReturnRec) : Bool :=
  fits 8 r.ctx && fits 16 r.layer && fits 16 r.generation && fits 32 r.step && isPackage r.owner && fits 32 r.token &&
    fits 8 r.slot && fits 16 r.expert && fits 16 r.nblk && decide (r.exps.length = r.nblk)

def KvmRec.wf (r : KvmRec) : Bool :=
  fits 4 r.ctx && fits 18 r.slot && fits 18 r.slot2 && fits 32 r.ttl && fits 64 r.handle && fits 12 r.tenant

def SubmitRec.wf (r : SubmitRec) : Bool :=
  fits 4 r.ctx && fits 4 r.draftCtx && fits 8 r.draftD && fits 18 r.slot && fits 18 r.draftSlot && fits 32 r.promptLen &&
    fits 32 r.maxNew && fits 32 r.stop0 && fits 32 r.stop1 && fits 12 r.tenant && fits 16 r.notifyEvery &&
    fits 64 r.promptAddr && fits 64 r.outAddr && fits 64 r.seed && fits 64 r.reqTag

def TrainRec.wf (r : TrainRec) : Bool :=
  fits 8 r.pool && fits 4 r.ctx && fits 32 r.nslots && fits 64 r.prog && fits 64 r.xregs && fits 64 r.slots

def GenRec.wf (r : GenRec) : Bool :=
  fits 8 r.home && fits 8 r.ctx && fits 16 r.generation && fits 64 r.routeTbl && fits 64 r.decodeProg && fits 64 r.prefillProg &&
    fits 32 r.maxPositions

def LoadSource.wf : LoadSource → Bool
  | .storage p q k => isStoragePort p && isQueuePair q && fits 32 k
  | _ => true

def ShardRec.wf (r : ShardRec) : Bool := fits 2 r.tier && r.source.wf && fits 4 r.ctx && fits 64 r.entryAddr && fits 64 r.srcAddr

def FetchRec.wf (r : FetchRec) : Bool :=
  r.source.wf && fits 64 r.dst && fits 64 r.srcAddr && fits 32 r.length && fits 64 r.digestAddr

def FrameTag.wf (t : FrameTag) : Bool :=
  fits 12 t.fpos && fits 12 t.ack && fits 3 t.vc && fits 3 t.phase && fits 3 t.crVc && fits 3 t.crPhase && fits 6 t.crCount

def PktHdr.wf (h : PktHdr) : Bool :=
  fits 8 h.dst && fits 8 h.src && fits 8 h.ptype && fits 3 h.vc && fits 32 h.seq && fits 16 h.job && fits 16 h.epoch &&
    fits 32 h.rtag && fits 8 h.via && fits 8 h.hops && fits 16 h.flits

def MemReq.wf (r : MemReq) : Bool :=
  fits 64 r.addr && fits 16 r.len && fits 8 r.aop && fits 64 r.opnd0 && fits 64 r.opnd1 && decide (r.data.length ≤ 256)

def BulkReq.wf (r : BulkReq) : Bool :=
  fits 64 r.addr && fits 32 r.len && fits 64 r.retAddr && fits 32 r.off && decide (r.data.length ≤ 4096) &&
    r.poison.all fun i => decide (i < 16)

def RespBody.wf (r : RespBody) : Bool :=
  fits 8 r.status && fits 8 r.kind && fits 64 r.addr && fits 64 r.old && decide (r.data.length ≤ 256)

def GwEntry.wf (e : GwEntry) : Bool :=
  fits 8 e.op && fits 8 e.aux && fits 8 e.src && fits 8 e.dst && fits 32 e.rtag && fits 64 e.addr && fits 16 e.len && fits 16 e.job &&
    fits 32 e.seq && fits 64 e.opnd0 && fits 64 e.opnd1

def TdVector.wf (v : TdVector) : Bool := fits 32 v.nonce && fits 16 v.job && fits 8 v.reason && fits 144 v.dead

def HbMsg.wf (m : HbMsg) : Bool := fits 32 m.count && fits 8 m.state && fits 64 m.appliance && fits 144 m.lost

def MirEntry.wf (e : MirEntry) : Bool :=
  fits 8 e.kind && fits 8 e.ctx && fits 32 e.slot && fits 32 e.page && fits 16 e.first && fits 16 e.n && fits 32 e.group

def RecoverRec.wf (r : RecoverRec) : Bool := fits 8 r.ctx && fits 32 r.nextDecode && fits 32 r.nextPrefill && fits 144 r.dead

def AdoptRec.wf (r : AdoptRec) : Bool := fits 8 r.ctx && fits 8 r.source && fits 64 r.resultAddr

def PowerSample.wf (p : PowerSample) : Bool :=
  decide (p.counts0.length = 9) && decide (p.counts1.length = 9) && decide (p.countsIod.length = 9)

def SessMsg.wf (m : SessMsg) : Bool := fits 8 m.status && fits 16 m.session && fits 32 m.tag && fits 64 m.args && fits 896 m.body

def HostReadUse.wf : HostReadUse → Bool
  | .sqEntry n => isQueue n
  | .prompt n => isSlot n
  | _ => true

def Bar4Access.wf (a : Bar4Access) : Bool := fits 38 a.off && decide (a.data.length = if a.write then a.len else 0)

def MctpReq.wf (q : MctpReq) : Bool := fits 8 q.eid && fits 8 q.dest

def MctpOther.wf : MctpOther → Bool
  | .control c => fits 8 c
  | .pldm t c => fits 6 t && fits 8 c
  | .vendorKind k => fits 8 k
  | .foreignVendor => true
  | .messageType t => fits 7 t

def FenceCause.wf : FenceCause → Bool
  | .auto r => fits 8 r
  | .command o => o.wf

def TdArrival.wf : TdArrival → Bool
  | .port p => isPort p
  | .window o => o.wf

def NocFlit.wf (f : NocFlit) : Bool := decide (f.vc < 6) && decide (f.srcDie < 3) && decide (f.dstDie < 3)

def NocPlace.wf : NocPlace → Bool
  | .mesh d _ o p => decide (d < 3) && decide (o < 6) && decide (p < 2)
  | .d2d d _ p => decide (d < 3) && decide (p < 2)
  | .inject d _ _ _ f => decide (d < 3) && (match f with
    | some x => x.wf
    | none => true)

def RdmaResp.wf (r : RdmaResp) : Bool := isStoragePort r.port && isQueuePair r.qp && decide (r.data.length ≤ 4096)

def IdentFrame.wf (r : IdentFrame) : Bool := fits 8 r.package && fits 8 r.port && fits 64 r.appliance

/-- Whether a command's operands are ones the hardware has. (DESIGN CHOICE: log entry 6) -/
def Instr.wf : Instr → Bool
  | .registerWrite o off w e v => o.wf && isBar0 off && isWidth w && fits 8 e && fits 64 v
  | .irregularRegisterRead o off w e => o.wf && isBar0 off && isWidth w && fits 8 e
  | .counterLoRead o off => o.wf && isBar0 off
  | .counterClear o m => o.wf && fits 32 m
  | .dcProbe _ _ _ => true
  | .unitFire f u => isFacet f && isUnit u
  | .cuResult f u => isFacet f && isUnit u
  | .agFire f m a => isFacet f && decide (m < 8) && decide (a < 4)
  | .entryHop f _ p => isFacet f && p.wf
  | .steerPair f sw => isFacet f && decide (sw < 35)
  | .deadlockDetect f r => isFacet f && decide (1 ≤ r) && decide (r < 8)
  | .spillComplete f => isFacet f
  | .spillRefill f q => isFacet f && decide (q < 192)
  | .contextLoad c f n => c.wf && isFacet f && decide (n < 4)
  | .contextLoadDone f => isFacet f
  | .contextSwitch c f n => c.wf && isFacet f && decide (n < 4)
  | .contextSwitchEffect f => isFacet f
  | .contextInvalidate c f n => c.wf && isFacet f && decide (n < 4)
  | .contextWindowWrite o f n off d => o.wf && isFacet f && decide (n < 4) && decide (off < 4096) && fits 32 d
  | .fctSpillWrite o f v => o.wf && isFacet f && fits 32 v
  | .scanOut o f _ => o.wf && isFacet f
  | .scanIn o f => o.wf && isFacet f
  | .scanRelease o f => o.wf && isFacet f
  | .scanTransferDone f => isFacet f
  | .descriptorWindowWrite o f m off d => o.wf && isFacet f && decide (m < 8) && decide (off < 0x800) && fits 32 d
  | .launchStart p => isSeries p
  | .matmul f => isFacet f
  | .gatedFfn f => isFacet f
  | .attention f => isFacet f
  | .gateCand f => isFacet f
  | .copyTile f => isFacet f
  | .setx f => isFacet f
  | .loadx f => isFacet f
  | .barrier f => isFacet f
  | .endInstr f => isFacet f
  | .barrierRelease f => isFacet f
  | .tileClaim f => isFacet f
  | .tileFinish f m => isFacet f && m.wf
  | .tileReport f => isFacet f
  | .tileReturn f => isFacet f
  | .tileCounterReset o c => o.wf && decide (c < 64)
  | .standDownRequest f _ => isFacet f
  | .facetJoinPool f => isFacet f
  | .reticleSampleDone d _ => isDie d
  | .fallbackWindowAge => true
  | .forceFallback o c y => o.wf && isContext c && fits 8 y
  | .restoreLayer o c y => o.wf && isContext c && fits 8 y
  | .clearLayer o c y => o.wf && isContext c && fits 8 y
  | .candidatePacket p => p.wf
  | .dispatchRec r => r.wf
  | .spillRec r => r.wf && decide (r.choices.length = 1)
  | .ackRec r => r.wf
  | .layerEndSend c st y => isContext c && fits 32 st && fits 16 y
  | .endRecord r => r.wf
  | .returnRowWritten c st y g l r => isContext c && fits 32 st && fits 16 y && fits 16 g && fits 16 l && fits 16 r
  | .returnRec r => r.wf
  | .closeTimeout c st y => isContext c && fits 32 st && fits 16 y
  | .returnTimeout c st y t => isContext c && fits 32 st && fits 16 y && fits 32 t
  | .publish o r => o.wf && r.wf
  | .takeUp o r => o.wf && r.wf
  | .retire o r => o.wf && r.wf
  | .fork o r => o.wf && r.wf
  | .freeSeq o r => o.wf && r.wf
  | .pause o r => o.wf && r.wf
  | .pauseMoveDone n => isSlot n
  | .resume o r => o.wf && r.wf
  | .resumeMoveDone n => isSlot n
  | .touch o r => o.wf && r.wf
  | .ttlCheck => true
  | .kvmExpiredRead o => o.wf
  | .pftInit => true
  | .epochAdvance => true
  | .reclaim => true
  | .invalidateAll o => o.wf
  | .invalidateContext o c => o.wf && isContext c
  | .invalidateRange o n => o.wf && fits 32 n
  | .mmuInvDone => true
  | .submit o r => o.wf && r.wf
  | .cancel o r => o.wf && r.wf
  | .budgetTick => true
  | .admissionIntervalTick => true
  | .admissionWaitExpire => true
  | .stepBuild c k => isContext c && isSeries k
  | .stepCensus src st c t p => isPackage src && fits 32 st && isContext c && fits 32 t && fits 32 p
  | .censusTimeout c k => isContext c && isSeries k
  | .stepLaunchWrite c k => isContext c && isSeries k
  | .idleWaitExpire c k => isContext c && isSeries k
  | .draftPassNext c => isContext c
  | .stepCommit c k => isContext c && isSeries k
  | .trainLaunch o r => o.wf && r.wf
  | .trainLaunchEnd c => isContext c
  | .focusPeriod => true
  | .stageGen o r => o.wf && r.wf
  | .activateGen o r => o.wf && r.wf
  | .retireGen o r => o.wf && r.wf
  | .tier2TrainingDone m _ => fits 8 m
  | .tierScrubRead t l n => (t = 1 || t = 2) && fits 40 l && fits 8 n
  | .condenserFillStart r => decide (r < 72)
  | .unitFillDone r => decide (r < 72)
  | .loadCtx o r => o.wf && r.wf
  | .unloadCtx o c _ => o.wf && fits 8 c
  | .promote o c _ => o.wf && fits 8 c
  | .promoteCopyDone c => isContext c
  | .demote o c _ => o.wf && fits 8 c
  | .demoteComplete c => isContext c
  | .preempt o c _ => o.wf && fits 8 c
  | .preemptComplete c => isContext c
  | .creditReservationReturn c => isContext c
  | .acquire o c n _ _ => o.wf && fits 8 c && fits 16 n
  | .release o c n _ => o.wf && fits 8 c && fits 16 n
  | .semHorizonExpire n => fits 16 n
  | .interferenceWindow => true
  | .loadShard o r => o.wf && r.wf
  | .rdmaReadResponse r => r.wf
  | .chunkHashDone _ => true
  | .shardLoadComplete _ => true
  | .fetch o r => o.wf && r.wf
  | .fetchComplete _ => true
  | .shardScrubPass => true
  | .shardScrubCheck => true
  | .shdBadRead o => o.wf
  | .linkDetect p n => isPort p && fits 16 n
  | .linkEqualiseDone p => isPort p
  | .linkLockDone p => isPort p
  | .linkTrainFail p => isPort p
  | .identSendTick p => isPort p
  | .ident p r => isPort p && r.wf
  | .dataFlitReceive p t h => isPort p && t.wf && h.wf
  | .retrainReq p w => isPort p && fits 8 w
  | .lockLoss p => isPort p
  | .portRetrain o p => o.wf && isPort p
  | .retrainLimitExpire p => isPort p
  | .laneErrorWindow p l u => isPort p && decide (l.length ≤ 16) && fits 16 u
  | .packetForward p h => isPort p && h.wf
  | .fabLoad h r => h.wf && r.wf
  | .fabStore h r => h.wf && r.wf
  | .fabAtomic h r => h.wf && r.wf
  | .fabResponse h r => h.wf && r.wf
  | .bulkWrite h r => h.wf && r.wf
  | .bulkRead h r => h.wf && r.wf
  | .bulkData h r => h.wf && r.wf
  | .gwBatch h l => h.wf && l.all (·.wf)
  | .gwBatchClose p d => isPackage p && decide (d < 3)
  | .homeAgentPerform i => decide (i < 13)
  | .e2eAck src p l => isPackage src && isPackage p && l.all (fits 32)
  | .e2eAckDelayExpire src => isPackage src
  | .fabFence o d => o.wf && fits 8 d
  | .fenceComplete => true
  | .fenceTimeout f => (match f with
    | some x => isFacet x
    | none => true)
  | .fabricRequestTimeout t => fits 32 t
  | .retryBackoffExpire t => fits 32 t
  | .routeEpochSwitch p => isPackage p
  | .linkStateTick => true
  | .linkState src m => isPackage src && fits 16 m
  | .teardownVector a v => a.wf && v.wf
  | .heartbeatTick => true
  | .heartbeat src m => isPackage src && m.wf
  | .peerSuspectTimeout p => isPackage p
  | .peerLostTimeout p => isPackage p
  | .hbClear o p => o.wf && isPackage p
  | .isolateClear o => o.wf
  | .fatalStop => true
  | .mirrorEntryApply r e => decide (r < 4) && e.wf
  | .mirrorTimeout p => decide (p < 4)
  | .recover o r => o.wf && r.wf
  | .adoptAll o r => o.wf && r.wf
  | .dropMirror o src _ => o.wf && fits 8 src
  | .resync o c _ => o.wf && fits 8 c
  | .fenceFacet f c => isFacet f && c.wf
  | .unfenceFacet o f => o.wf && isFacet f
  | .powerSample p => p.wf
  | .shutterGate f => isFacet f
  | .shutterUngateStart f => isFacet f
  | .shutterUngateDone f => isFacet f
  | .oppEvaluate d => isDie d
  | .oppChangeComplete d => isDie d
  | .idleEntry => true
  | .wake => true
  | .thermalSensorUpdate n t => decide (n < 48) && fits 16 t
  | .throttleStep d => isDie d
  | .thermalTrip n => decide (n < 48)
  | .powerOnReset => true
  | .startUp a => decide (a < 8)
  | .sysRstPulse => true
  | .pwrOkLoss => true
  | .packageResetCmd o v => o.wf && fits 32 v
  | .pcieReset _ => true
  | .pcieLinkUp sp w _ => fits 8 sp && fits 8 w
  | .imageSlotCheck _ => true
  | .configurationReady => true
  | .fabricReady => true
  | .bootCommandIssue => true
  | .beginTxn o => o.wf
  | .commitTxn o => o.wf
  | .abortTxn o => o.wf
  | .transactionTimeout => true
  | .expertDrop o => o.wf
  | .openSession o m => o.wf && m.wf
  | .authSession o m => o.wf && m.wf
  | .closeSession o m => o.wf && m.wf
  | .setDebug o m => o.wf && m.wf
  | .setExpert o m => o.wf && m.wf
  | .keyWrite o m => o.wf && m.wf
  | .keyRevoke o m => o.wf && m.wf
  | .imgkeyWrite o m => o.wf && m.wf
  | .imgkeyRevoke o m => o.wf && m.wf
  | .svnAdvance o m => o.wf && m.wf
  | .lifecycleAdvance o m => o.wf && m.wf
  | .fuseWriteDone => true
  | .challengeExpire i => decide (i < 4)
  | .sessionIdleTimeout i => decide (i < 4)
  | .sessionLockoutExpire n => decide (n < 8)
  | .trst => true
  | .jtagInstruction c => fits 8 c
  | .dbgBus _ off v => isBar0 off && fits 32 v
  | .testMode => true
  | .loupeSelect o v => o.wf && fits 32 v
  | .loupeFrame => true
  | .sqDoorbell n v => isQueue n && fits 32 v
  | .cqDoorbell n v => isQueue n && fits 32 v
  | .bar2IrregularAccess _ off w v => fits 24 off && isWidth w && fits 64 v
  | .sqFetch n _ => isQueue n
  | .sqEnable o n v => o.wf && isQueue n && fits 32 v
  | .cqEnable o n v => o.wf && isQueue n && fits 32 v
  | .cqCoalTimeout n => isQueue n
  | .bar4Access a => a.wf
  | .hostReadTimeout u => u.wf
  | .ethLinkUp p => isStoragePort p
  | .qpToRts o p q => o.wf && isStoragePort p && isQueuePair q
  | .qpToReset o p q => o.wf && isStoragePort p && isQueuePair q
  | .qpRateTimer p q => isStoragePort p && isQueuePair q
  | .setEndpointId q e => q.wf && fits 8 e
  | .getEndpointId q => q.wf
  | .getMctpVersionSupport q t => q.wf && fits 8 t
  | .getMessageTypeSupport q => q.wf
  | .getVendorDefinedMessageSupport q n => q.wf && fits 8 n
  | .gettid q => q.wf
  | .getpldmversion q t => q.wf && fits 6 t
  | .getpldmtypes q => q.wf
  | .getpldmcommands q t => q.wf && fits 6 t
  | .getpdrrepositoryinfo q => q.wf
  | .getpdr q h => q.wf && fits 32 h
  | .getsensorreading q n => q.wf && fits 16 n
  | .getstatesensorreadings q n => q.wf && fits 16 n
  | .vendorRegisterRead q off => q.wf && fits 32 off
  | .vendorRegisterWrite q off v m => q.wf && fits 32 off && fits 32 v && fits 32 m
  | .spiRead o n => o.wf && fits 16 n
  | .spiProgram o n => o.wf && fits 16 n
  | .spiErase4k o => o.wf
  | .spiErase64k o => o.wf
  | .spiCommandDone _ => true
  | .eventAccept => true
  | .eventRateWindow => true
  | .eventRingDrain => true
  | .evtRingHeadWrite o v => o.wf && fits 32 v
  | .msixPendingSend v => fits 11 v
  | .nocFlitHop p => p.wf
  | .frameSend p => isPort p
  | .promoteFrontAdvance c n => isContext c && fits 32 n
  | .mcUp => true
  | .smbusResponderReady => true
  | .vddAonRemoval => true
  | .ethLinkDown p => isStoragePort p
  | .cnpReceive p q => isStoragePort p && isQueuePair q
  | .rdmaAckTimeout p q => isStoragePort p && isQueuePair q
  | .incomingRdmaRequest p q => isStoragePort p && isQueuePair q
  | .ethFrameDiscard p => isStoragePort p
  | .pfcPauseFrame p n _ => isStoragePort p && decide (n < 8)
  | .hostReadCompletion u _ => u.wf
  | .d3hotEntry => true
  | .mctpUnsupportedCommand q w => q.wf && w.wf

end Sys2Proof
end

