-- ==== Sys2Proof/Safety.lean ====
section
/-!
DEFINITION. What counts as a safe state and run, in the terms the statements use: the memories' canonical form, a package
that has lost its standby supply, and the classes of commands that the rules about the whole package name.
-/
namespace Sys2Proof.Machine

/-- Every memory is in its canonical form. -/
abbrev State.memoryCanonical (s : State) : Prop := s.mem.wf = true

/-- A package without VDD_AON (R421, R428): every field but the fuses, the model's own and what lies outside the package
stands as the loss of the supply leaves it. -/
abbrev State.dark (s : State) : Prop := execVddAonRemoval s = .next s

/-- An originator's write of a register passes the gate: it has authority and the register is served (R376, R436, R456). -/
abbrev State.grants (s : State) (org : Originator) (off : Nat) : Prop := s.mayWrite org off = true ∧ s.served off = true

/-- The package runs and is not in the fatal condition (R376, R426): its facets, engines and steps move. -/
abbrev State.live (s : State) : Prop := s.power = .running ∧ s.flag F.GLB_STATUS_fatal = false

/-- A command from `o` reaches its engine: it waits for no fence (R484) and the queue gate lets it pass (R376, R436). -/
abbrev State.takes (s : State) (o : CmdOrigin) : Prop := s.power = .running ∧ s.waitsFence o = false ∧ s.queueGate o = none

/-- The instruction `i` of launch `l` is the one facet `f` would issue next: it can be fetched, is not held, and no read of
its issue is (R140, R142, R252). -/
abbrev State.atIssue (s : State) (f : Nat) (l : Launch) (i : Macro) : Prop :=
  let q := s.sqr f
  let a := q.prog + 64 * q.index
  let j := s.judge l i q.xs q.index
  s.mayIssue f = true ∧ s.launchOf f = some l ∧ q.index < 65536 ∧ (s.vread a 64).good = true ∧ (s.vread a 64).bad = false ∧
    macroOf (s.vread a 64).bytes = i ∧ s.ffnHeld l i = false ∧
    (((a, 64) :: s.issueReads i j.issued.m j.issued.n j.issued.k).any s.vheld) = false

/-- The places of R513 that an agent's held events take: six for CE and DE events, one more for UE, one more for FE. -/
abbrev heldWithin (l : List HeldEvent) (a : Nat) : Prop :=
  heldCount l a 0 + heldCount l a 1 ≤ 6 ∧ heldCount l a 0 + heldCount l a 1 + heldCount l a 2 ≤ 7 ∧
    heldCount l a 0 + heldCount l a 1 + heldCount l a 2 + heldCount l a 3 ≤ 8

/-- The commands that act while the package is held in reset: supply and reset events, the JTAG port and JTAG's session
messages, lockout timers and thermal comparators of the AON domain (R419, R426, R463, R465, R469, R471). (DESIGN CHOICE: log entry 7) -/
def actsInReset : Instr → Bool
  | .powerOnReset => true
  | .vddAonRemoval => true
  | .startUp _ => true
  | .sessionLockoutExpire _ => true
  | .trst => true
  | .jtagInstruction _ => true
  | .testMode => true
  | .thermalTrip _ => true
  | .openSession o _ => decide (o = .jtag)
  | .authSession o _ => decide (o = .jtag)
  | .closeSession o _ => decide (o = .jtag)
  | .setDebug o _ => decide (o = .jtag)
  | .setExpert o _ => decide (o = .jtag)
  | .keyWrite o _ => decide (o = .jtag)
  | .keyRevoke o _ => decide (o = .jtag)
  | .imgkeyWrite o _ => decide (o = .jtag)
  | .imgkeyRevoke o _ => decide (o = .jtag)
  | .svnAdvance o _ => decide (o = .jtag)
  | .lifecycleAdvance o _ => decide (o = .jtag)
  | _ => false

/-- The requests on SMBus, which the responder answers or does not acknowledge (R493). -/
def onSmbus : Instr → Bool
  | .setEndpointId _ _ => true
  | .getEndpointId _ => true
  | .getMctpVersionSupport _ _ => true
  | .getMessageTypeSupport _ => true
  | .getVendorDefinedMessageSupport _ _ => true
  | .gettid _ => true
  | .getpldmversion _ _ => true
  | .getpldmtypes _ => true
  | .getpldmcommands _ _ => true
  | .getpdrrepositoryinfo _ => true
  | .getpdr _ _ => true
  | .getsensorreading _ _ => true
  | .getstatesensorreadings _ _ => true
  | .vendorRegisterRead _ _ => true
  | .vendorRegisterWrite _ _ _ _ => true
  | .mctpUnsupportedCommand _ _ => true
  | _ => false

/-- The steps that the fatal condition stops: facets, Prism, the Condenser, step series, heartbeats, power management
(R376). (DESIGN CHOICE: log entry 92) -/
def stoppedByFatal : Instr → Bool
  | .unitFire _ _ => true
  | .cuResult _ _ => true
  | .agFire _ _ _ => true
  | .entryHop _ _ _ => true
  | .steerPair _ _ => true
  | .deadlockDetect _ _ => true
  | .spillComplete _ => true
  | .spillRefill _ _ => true
  | .contextLoadDone _ => true
  | .contextSwitchEffect _ => true
  | .launchStart _ => true
  | .barrierRelease _ => true
  | .tileClaim _ => true
  | .tileFinish _ _ => true
  | .tileReport _ => true
  | .tileReturn _ => true
  | .standDownRequest _ _ => true
  | .facetJoinPool _ => true
  | .reticleSampleDone _ _ => true
  | .candidatePacket _ => true
  | .dispatchRec _ => true
  | .spillRec _ => true
  | .ackRec _ => true
  | .layerEndSend _ _ _ => true
  | .endRecord _ => true
  | .returnRowWritten _ _ _ _ _ _ => true
  | .returnRec _ => true
  | .closeTimeout _ _ _ => true
  | .returnTimeout _ _ _ _ => true
  | .stepCensus _ _ _ _ _ => true
  | .censusTimeout _ _ => true
  | .idleWaitExpire _ _ => true
  | .focusPeriod => true
  | .condenserFillStart _ => true
  | .unitFillDone _ => true
  | .heartbeatTick => true
  | .heartbeat _ _ => true
  | .peerSuspectTimeout _ => true
  | .peerLostTimeout _ => true
  | .mirrorEntryApply _ _ => true
  | .shutterGate _ => true
  | .shutterUngateStart _ => true
  | .shutterUngateDone _ => true
  | .oppEvaluate _ => true
  | .oppChangeComplete _ => true
  | .idleEntry => true
  | .wake => true
  | .throttleStep _ => true
  | .stepBuild _ _ => true
  | .stepLaunchWrite _ _ => true
  | .draftPassNext _ => true
  | .stepCommit _ _ => true
  | .trainLaunchEnd _ => true
  | .matmul _ => true
  | .gatedFfn _ => true
  | .attention _ => true
  | .gateCand _ => true
  | .copyTile _ => true
  | .setx _ => true
  | .loadx _ => true
  | .barrier _ => true
  | .endInstr _ => true
  | _ => false

/-- The engine commands with where they come from and their op (R483). -/
def engineOp : Instr → Option (CmdOrigin × Nat)
  | .publish o _ => some (o, 0x01)
  | .takeUp o _ => some (o, 0x02)
  | .retire o _ => some (o, 0x03)
  | .fork o _ => some (o, 0x04)
  | .freeSeq o _ => some (o, 0x05)
  | .pause o _ => some (o, 0x06)
  | .resume o _ => some (o, 0x07)
  | .touch o _ => some (o, 0x08)
  | .submit o _ => some (o, 0x20)
  | .cancel o _ => some (o, 0x21)
  | .stageGen o _ => some (o, 0x28)
  | .activateGen o _ => some (o, 0x29)
  | .retireGen o _ => some (o, 0x2A)
  | .trainLaunch o _ => some (o, 0x2C)
  | .loadCtx o _ => some (o, 0x30)
  | .unloadCtx o _ _ => some (o, 0x31)
  | .promote o _ _ => some (o, 0x32)
  | .demote o _ _ => some (o, 0x33)
  | .preempt o _ _ => some (o, 0x34)
  | .acquire o _ _ _ _ => some (o, 0x38)
  | .release o _ _ _ => some (o, 0x39)
  | .loadShard o _ => some (o, 0x40)
  | .fetch o _ => some (o, 0x42)
  | .adoptAll o _ => some (o, 0x51)
  | .recover o _ => some (o, 0x52)
  | .dropMirror o _ _ => some (o, 0x53)
  | .resync o _ _ => some (o, 0x54)
  | _ => none

/-- The commands that are writes of one register, with their originator and its BAR0 offset. -/
def commandRegister : Instr → Option (Originator × Nat)
  | .counterClear o _ => some (o, 0x24)
  | .contextLoad (.reg o) f _ => some (o, fctOff f 0x8)
  | .contextSwitch (.reg o) f _ => some (o, fctOff f 0x8)
  | .contextInvalidate (.reg o) f _ => some (o, fctOff f 0x8)
  | .contextWindowWrite o f n off _ => some (o, windowOff f n + off / 4 * 4)
  | .fctSpillWrite o f _ => some (o, fctOff f 0x1C)
  | .scanOut o f _ => some (o, fctOff f 0x20)
  | .scanIn o f => some (o, fctOff f 0x20)
  | .scanRelease o f => some (o, fctOff f 0x20)
  | .descriptorWindowWrite o f m off _ => some (o, fctOff f (0x20000 + 0x800 * m + off / 4 * 4))
  | .tileCounterReset o c => some (o, 0x3300014 + 0x40 * c)
  | .forceFallback o _ _ => some (o, 0x3400014)
  | .restoreLayer o _ _ => some (o, 0x3400014)
  | .clearLayer o _ _ => some (o, 0x3400014)
  | .invalidateAll o => some (o, 0x3600008)
  | .invalidateContext o _ => some (o, 0x3600008)
  | .invalidateRange o _ => some (o, 0x3600008)
  | .portRetrain o p => some (o, 0x1810000 + pdi p)
  | .fabFence o _ => some (o, 0x1800034)
  | .teardownVector (.window o) _ => some (o, 0x1800080)
  | .hbClear o _ => some (o, 0x1802420)
  | .isolateClear o => some (o, 0x1802420)
  | .fenceFacet f (.command o) => some (o, fctOff f 0x40)
  | .unfenceFacet o f => some (o, fctOff f 0x40)
  | .packageResetCmd o _ => some (o, 0x400000)
  | .beginTxn o => some (o, 0x100000)
  | .commitTxn o => some (o, 0x100000)
  | .abortTxn o => some (o, 0x100000)
  | .expertDrop o => some (o, 0x100014)
  | .loupeSelect o _ => some (o, 0x600008)
  | .sqEnable o n _ => some (o, 0x810008 + qdi n)
  | .cqEnable o n _ => some (o, 0x830008 + qdi n)
  | .qpToRts o p q => some (o, qpOff p q 0)
  | .qpToReset o p q => some (o, qpOff p q 0)
  | .evtRingHeadWrite o _ => some (o, 0x500010)
  | _ => none

end Sys2Proof.Machine
end

