-- ==== Sys2Proof/Certificates/Slice0/Obligations.lean ====
section
/-!
DEFINITION. The statements about the block, for the provers: the rules about the whole package, then the commands family
by family, each with what it leaves and what it leaves alone.
-/
open Sys2Proof Sys2Proof.Machine

/-! ## The block and its queue -/

/-- A step with a command at the front of the queue is that command's effect on the state with the queue's rest; with an
empty queue one microsecond passes while VDD_AON is present (the model's queue and its idle step: log entry 1). -/
def Obligations.StepRunsFrontCommand : Prop :=
  (∀ (s : State) (c : Instr) (rest : List Instr), step { s with pending := c :: rest } = exec c { s with pending := rest }) ∧
  (∀ s : State, s.pending = [] → s.power ≠ .unpowered → step s = .next { s with us := s.us + 1 }) ∧
  (∀ s : State, s.pending = [] → s.power = .unpowered → step s = .next s)

/-- A package without VDD_AON stays as the loss of the supply left it, whatever arrives but POWER_ON_RESET: every step
keeps the invariant (R421, R428).
The model's choices: log entry 7. -/
def Obligations.DarkPackageStaysDark : Prop :=
  ∀ s t : State, s.dark → Instr.powerOnReset ∉ s.pending → step s = .next t →
    t.dark ∧ Instr.powerOnReset ∉ t.pending ∧ t = { s with pending := t.pending, out := t.out }

/-- While the package is held in reset, no command but those of the AON domain changes anything (R426). In the fatal condition
no facet, Prism array, Condenser, step series or power step moves: each answers the state it met (R376).
The model's choices: log entries 7, 92. -/
def Obligations.StoppedPackagesIgnoreCommands : Prop :=
  (∀ (c : Instr) (s : State), s.power = .inReset → actsInReset c = false → onSmbus c = false → exec c s = .next s) ∧
  (∀ (c : Instr) (s : State), s.flag F.GLB_STATUS_fatal = true → stoppedByFatal c = true → exec c s = .next s)

/-- An engine command of a host queue that the package cannot serve is answered at once: ERR_INTERNAL in the fatal
condition, NOT_READY before configuration ready and in configuration failure, and nothing else happens (R376, R436, R438).
The model's choices: log entry 92. -/
def Obligations.QueueGateAnswersCommands : Prop :=
  ∀ (c : Instr) (s : State) (sq tag op : Nat), s.power = .running → engineOp c = some (.queue sq tag, op) →
    s.waitsFence (.queue sq tag) = false →
    (s.flag F.GLB_STATUS_fatal = true → exec c s = .next (s.complete (.queue sq tag) op 0x3F)) ∧
    (s.flag F.GLB_STATUS_fatal = false → (s.flag F.GLB_STATUS_config_ready = false ∨ s.flag F.GLB_STATUS_config_failed = true) →
      exec c s = .next (s.complete (.queue sq tag) op 0x15))

/-- A write of a command register by an originator without authority is discarded and raises the register-access event with
reason 5; a remote package's is counted as well (R456, R457). A write of a command register that the fatal condition or
configuration failure leaves unserved is discarded without an effect (R376, R436).
The model's choices: log entries 10, 21. -/
def Obligations.CommandRegistersAreGated : Prop :=
  (∀ (c : Instr) (s : State) (org : Originator) (off : Nat), c.wf = true → s.power = .running →
     commandRegister c = some (org, off) → s.mayWrite org off = false →
     ((∀ p, org ≠ .remote p) → exec c s = .next (s.accessEvent org off 5)) ∧
     (∀ p, org = .remote p → exec c s = .next ((s.bump C.SEC_REMOTE_REFUSED).accessEvent org off 5))) ∧
  (∀ (c : Instr) (s : State) (org : Originator) (off : Nat), c.wf = true → s.power = .running →
     commandRegister c = some (org, off) → s.mayWrite org off = true → s.served off = false → exec c s = .next s)

/-- Every step keeps every memory in its canonical form: addresses rising, no entry that an unlisted address reads as.
The model's choices: log entry 3. -/
def Obligations.MemoryStaysCanonical : Prop :=
  ∀ s t : State, s.memoryCanonical → step s = .next t → t.memoryCanonical

/-! ## Register accesses, counters and transactions (blocks GLB and CFG) -/

/-- GLB_SCRATCH takes all 32 bits of a regular write and nothing else changes; GLB_ID, read-only, takes none; a write with
other widths, alignment or enables is discarded with the event of reason 1, one to no register with reason 0 (R9, R10,
R506). A read of part of GLB_SCRATCH answers the bytes it names, latches for its originator and raises the event with
reason 1; one without read authority answers nothing and changes nothing (R9, R456).
The model's choices: log entries 10, 21. -/
def Obligations.RegisterAccessesFollowRules : Prop :=
  (∀ (org : Originator) (s : State), s.power = .running → (∀ o, s.grants org o) →
     (∀ v, exec (.registerWrite org 0xC 4 15 v) s = .next (s.wr 0xC v)) ∧
     (∀ v, exec (.registerWrite org 0x0 4 15 v) s = .next s) ∧
     (∀ off w e v, regularAccess off w e = false → exec (.registerWrite org off w e v) s = .next (s.accessEvent org (off / 4 * 4) 1)) ∧
     (∀ off v, off % 4 = 0 → regFields off = none → exec (.registerWrite org off 4 15 v) s = .next (s.accessEvent org off 0))) ∧
  (∀ (org : Originator) (s : State), s.power = .running →
     (s.mayRead org 0xC = true → s.served 0xC = true →
       ∃ t, exec (.irregularRegisterRead org 0xC 2 3) s = .next t ∧ t.out = s.out ++ [.readData org 0xC (s.rd 0xC % 65536)] ∧
         t = ((s.accessEvent org 0xC 1).setLatch org 0xC 0).emit (.readData org 0xC (s.rd 0xC % 65536))) ∧
     (s.mayRead org 0xC = false → exec (.irregularRegisterRead org 0xC 2 3) s = .next s))

/-- A read of a counter's low half answers bits [31:0] and latches bits [47:32] with the sat bit for its originator alone;
GLB_US is read the same way (R523). GLB_CNT_CLEAR clears the counters of the blocks its mask names, and leaves every other
counter, every register and every memory (R524).
The model's choices: log entries 10, 95. -/
def Obligations.CounterReadsLatchAndClear : Prop :=
  (∀ (org : Originator) (off : Nat) (s : State), s.power = .running → s.mayRead org off = true → s.served off = true →
     isCounterLo off = true → off ≠ 0x10 →
     ∃ t, exec (.counterLoRead org off) s = .next t ∧ t.out = s.out ++ [.readData org off (s.counter off % 2 ^ 32)] ∧
       t.latchOf org = some ⟨org, off, counterHi (s.counter off)⟩ ∧
       (∀ o, o ≠ org → t.latchOf o = s.latchOf o) ∧ t.cnts = s.cnts ∧ t.regs = s.regs) ∧
  (∀ (org : Originator) (mask : Nat) (s : State), s.power = .running → s.grants org 0x24 →
     ∃ t, exec (.counterClear org mask) s = .next t ∧ t = { s with cnts := t.cnts } ∧
       ∀ off, t.counter off = if tbit (mask % 2 ^ 24) (blockNum off) then 0 else s.counter off)

/-- A counter adds up to 2^48 − 1 and stays there; the memories, registers and every other counter but the event counters
stay (R522).
The model's choices: log entry 95. -/
def Obligations.CountersSaturate : Prop :=
  ∀ (s : State) (c n : Nat), c ≠ C.EVT_DE → c ≠ C.EVT_DROPPED →
    (s.bump c n).counter c = min (2 ^ 48 - 1) (s.counter c + n) ∧
    (∀ d, d ≠ c → d ≠ C.EVT_DE → d ≠ C.EVT_DROPPED → (s.bump c n).counter d = s.counter d) ∧
    (s.bump c n).mem = s.mem ∧ (s.bump c n).regs = s.regs

/-- BEGIN opens a transaction for its originator, one that is open refuses another with REJ_BUSY; ABORT by the owner closes it
with nothing applied and counts; another originator gets REJ_AUTH; a timeout aborts it and raises the event (R442, R444).
COMMIT by the owner of a transaction none of whose checks fails (here of one RES register) stores its staged bits and no
others, counts and ends it with DONE; with a failing check nothing is stored, the first failure under R13 is answered and
its offset recorded (R443).
The model's choices: log entry 88. -/
def Obligations.TransactionsOpenAbortAndCommit : Prop :=
  (∀ (org : Originator) (s : State), s.power = .running → s.grants org 0x100000 →
     (s.flag F.GLB_STATUS_config_ready = true → s.txn.isOpen = false →
       ∃ t, exec (.beginTxn org) s = .next t ∧ t.txn = ⟨true, org, [], false⟩ ∧ t.fld F.CFG_TXN_STATUS_status = 0x00 ∧
         t.fld F.CFG_TXN_STATUS_state = 1 ∧ t.mem = s.mem ∧ t.cnts = s.cnts) ∧
     (s.flag F.GLB_STATUS_config_ready = true → s.txn.isOpen = true →
       exec (.beginTxn org) s = .next (s.setFld F.CFG_TXN_STATUS_status 0x14)) ∧
     (s.txn.isOpen = true → s.txn.owner = org →
       ∃ t, exec (.abortTxn org) s = .next t ∧ t.txn.isOpen = false ∧ t.txn.staged = [] ∧ t.fld F.CFG_TXN_STATUS_status = 0x00 ∧
         t.counter C.CFG_ABORTS = min (2 ^ 48 - 1) (s.counter C.CFG_ABORTS + 1) ∧ t.mem = s.mem) ∧
     (s.txn.isOpen = true → s.txn.owner ≠ org →
       exec (.abortTxn org) s = .next (s.setFld F.CFG_TXN_STATUS_status 0x13) ∧
       exec (.commitTxn org) s = .next (s.setFld F.CFG_TXN_STATUS_status 0x13)) ∧
     (s.txn.isOpen = true →
       exec .transactionTimeout s = .next (s.abortTxn.raise E.transactionTimeout (ownerCode s.txn.owner) 0xFF (s.fld F.CFG_TXN_OWNER_id)))) ∧
  (∀ (org : Originator) (s : State), s.power = .running → s.grants org 0x100000 →
     s.txn.isOpen = true → s.txn.owner = org →
     (∀ off v m, s.commitFails = [] → s.txn.staged = [(off, (v, m))] → 0x1600000 ≤ off → off < 0x1700000 →
       (∀ p, p < 12 → s.portState p ≠ 4) →
       ∃ t, exec (.commitTxn org) s = .next t ∧ t.txn.isOpen = false ∧ t.txn.staged = [] ∧ t.fld F.CFG_TXN_STATUS_status = 0x00 ∧
         t.rd off = mixBits (s.rd off) v (m &&& rwlMask off) ∧ t.counter C.CFG_COMMITS = min (2 ^ 48 - 1) (s.counter C.CFG_COMMITS + 1) ∧
         t.mem = s.mem ∧ ∀ x, x ≠ off → x ≠ F.CFG_TXN_STATUS_status.off → t.rd x = s.rd x) ∧
     (∀ st o, firstFail s.commitFails = some (st, o) →
       ∃ t, exec (.commitTxn org) s = .next t ∧ t.txn.isOpen = false ∧ t.txn.staged = [] ∧
         t.fld F.CFG_TXN_STATUS_status = st % 256 ∧ t.fld F.CFG_TXN_FAIL_offset = o % 2 ^ 26 ∧ t.mem = s.mem ∧
         ∀ x, x ≠ F.CFG_TXN_STATUS_status.off → x ≠ F.CFG_TXN_FAIL_offset.off → t.rd x = s.rd x))

/-! ## Events and messages (block EVT) -/

/-- No agent ever holds more than eight events: six CE or DE, one place more for UE and one more for FE (R513). The collector
takes one of the competing events, and none of them comes before it in the order of class FE to CE, then code, then unit;
with an event held there is always one to take (R512).
The model's choices: log entries 4, 19. -/
def Obligations.EventsAreHeldAndTakenInOrder : Prop :=
  (∀ (l : List HeldEvent) (e : EventRec) (a : Nat), e.cls ≤ 3 → heldWithin l a → heldWithin (holdEvent l e).1 a) ∧
  (∀ l : List HeldEvent, (l ≠ [] → (pickEvent l).isSome = true) ∧
     ∀ h, pickEvent l = some h → h ∈ l ∧ ∀ g ∈ l, beats g h = false)

/-- EVENT_ACCEPT forms the record of the event taken, with the repeats suppressed since added, gives it the next sequence
number and keeps it as the last; a raise beyond the window's rate is counted and forms no record; with no event held
nothing happens (R512, R514). A new rate window forgets what was used and takes rate_max; a waiting record that finds room
goes to the ring; the host moves the ring's head within its size; a pending MSI-X message goes out once nothing holds it
(R514 to R516, R519).
The model's choices: log entries 4, 11. -/
def Obligations.EventsAreAcceptedAndDelivered : Prop :=
  (∀ s : State, s.power = .running →
     (s.nextEvent = none → exec .eventAccept s = .next s) ∧
     (∀ h, s.nextEvent = some h → s.suppress h.ev = false →
       ∃ t, exec .eventAccept s = .next t ∧
         t.evt.last = some (s.evt.seq, { h.ev with rep := satBits 32 (h.ev.rep + kgetD s.evt.suppressed h.ev.code 0) }) ∧
         kget t.evt.suppressed h.ev.code = none ∧ t.facets = s.facets ∧ t.kvm = s.kvm) ∧
     (∀ h, s.nextEvent = some h → s.suppress h.ev = true →
       ∃ t, exec .eventAccept s = .next t ∧ t.evt.seq = s.evt.seq ∧ t.evt.last = s.evt.last ∧
         kgetD t.evt.suppressed h.ev.code 0 = kgetD s.evt.suppressed h.ev.code 0 + (1 + h.ev.rep) ∧ t.mem = s.mem ∧ t.regs = s.regs)) ∧
  (∀ s : State, s.power = .running →
     (exec .eventRateWindow s = .next { s with evt := { s.evt with used := [], rate := s.fld F.EVT_CTRL_rate_max } }) ∧
     (s.ringRoom = false → exec .eventRingDrain s = .next s) ∧
     (∀ q e, s.ringRoom = true → s.evt.early = [(q, e)] → s.evt.lost = 0 →
       exec .eventRingDrain s = .next (({ s with evt := { s.evt with early := [] } }).ringWrite q e)) ∧
     (∀ org v, s.grants org 0x500010 → v % 65536 < s.ringLen →
       exec (.evtRingHeadWrite org v) s = .next (s.setFld F.EVT_RING_HEAD_head (v % 65536))) ∧
     (∀ org v, s.grants org 0x500010 → s.ringLen ≤ v % 65536 →
       exec (.evtRingHeadWrite org v) s = .next (s.accessEvent org 0x500010 6)) ∧
     (∀ v, s.hst.pba.contains v = true → s.msixReady v = true →
       ∃ t, exec (.msixPendingSend v) s = .next t ∧ v ∉ t.hst.pba ∧ (∀ w, w ≠ v → (w ∈ t.hst.pba ↔ w ∈ s.hst.pba)) ∧
         t.out = s.out ++ [.msix (s.fld64 F.HQ_MSIX_ADDR_LO_addr F.HQ_MSIX_ADDR_HI_addr (16 * v)) (s.fld F.HQ_MSIX_DATA_data (16 * v))] ∧
         t.regs = s.regs ∧ t.mem = s.mem))

/-! ## The on-die network and the domain controllers -/

/-- A probe round that every controller answers clears the missed counts; a second miss in a row raises the FE event, which
asserts FAULT_N and sets the fatal condition (R20, R375). A granted flit leaves its input: to the next router's input
behind the flits there, counted as a hop, or out of the mesh at a local port; an injected flit of a channel other than 5
enters at its source's port (R24 to R26).
The model's choices: log entries 20, 37. -/
def Obligations.ControllersAndFlitsMove : Prop :=
  (∀ (s : State) (a b c : Nat), s.power = .running → s.dcMissed = [a, b, c] →
     exec (.dcProbe true true true) s = .next { s with dcMissed := [0, 0, 0] } ∧
     (a = 0 → exec (.dcProbe false true true) s = .next { s with dcMissed := [1, 0, 0] }) ∧
     (a = 1 → ∃ t, exec (.dcProbe false true true) s = .next t ∧ t.dcMissed = [2, 0, 0] ∧ t.pins.faultN = false ∧
       t.flag F.GLB_STATUS_fatal = true ∧ t.mem = s.mem ∧ t.facets = s.facets)) ∧
  (∀ s : State, s.power = .running →
     (∀ die router out plane vc i f rest, die < 3 → router < meshCols die * meshRows die → out < 4 → plane < 2 →
       s.nocGrant die router out plane = some (vc, i) → s.nocBuf die router i vc = f :: rest → f.vc = vc →
       bufKey die (nocNext die router out).1 (nocNext die router out).2 vc ≠ bufKey die router i vc →
       ∃ t, exec (.nocFlitHop (.mesh die router out plane)) s = .next t ∧ t.nocBuf die router i vc = rest ∧
         t.nocBuf die (nocNext die router out).1 (nocNext die router out).2 vc =
           s.nocBuf die (nocNext die router out).1 (nocNext die router out).2 vc ++ [f] ∧
         t.counter (hopCounter die) = min (2 ^ 48 - 1) (s.counter (hopCounter die) + 1) ∧ t.out = s.out ∧ t.mem = s.mem ∧ t.regs = s.regs) ∧
     (∀ die router out plane vc i f rest, die < 3 → router < meshCols die * meshRows die → 4 ≤ out → out < 6 → plane < 2 →
       s.nocGrant die router out plane = some (vc, i) → s.nocBuf die router i vc = f :: rest →
       ∃ t, exec (.nocFlitHop (.mesh die router out plane)) s = .next t ∧ t.out = s.out ++ [.noc die router (out - 4) f.tag] ∧
         t.nocBuf die router i vc = rest ∧ t.cnts = s.cnts ∧ t.mem = s.mem ∧ t.regs = s.regs) ∧
     (∀ die router loc since f, die < 3 → router < meshCols die * meshRows die → f.vc ≠ 5 →
       ∃ t, exec (.nocFlitHop (.inject die router loc since (some f))) s = .next t ∧
         t.nocBuf die router (4 + loc % 2) f.vc = s.nocBuf die router (4 + loc % 2) f.vc ++ [f] ∧ t = { s with noc := t.noc }))

/-! ## Host queues (block HQ) -/

/-- A tail doorbell within the queue's size moves the tail, one at or beyond it puts the queue into error, one to a queue that
is off is discarded with the event; a head doorbell that frees written entries moves the head, any other puts the
completion queue into error; other accesses of BAR2 are discarded, and read as zero (R485). A write of HQ_CQ_CFG that
enables a completion queue, and one of HQ_SQ_CFG that enables a submission queue bound to an enabled completion queue,
start the queue empty with the base, size, vector and binding its registers give; one bound to a disabled completion queue
is discarded with the event (R481).
The model's choices: log entry 96. -/
def Obligations.QueuesTakeDoorbellsAndConfiguration : Prop :=
  (∀ s : State, s.power = .running →
     (∀ n v, n < 1024 → s.flag F.HQ_SQ_CFG_enable (qdi n) = true → v < 65536 → v < s.sqSize n →
       exec (.sqDoorbell n v) s = .next (s.setSq n { s.sq n with tail := v })) ∧
     (∀ n v, n < 1024 → s.flag F.HQ_SQ_CFG_enable (qdi n) = true → v < 65536 → s.sqSize n ≤ v →
       exec (.sqDoorbell n v) s = .next (sqError n 0 s)) ∧
     (∀ n v, n < 1024 → s.flag F.HQ_SQ_CFG_enable (qdi n) = false → exec (.sqDoorbell n v) s = .next (s.accessEvent .host (8 * n) 7)) ∧
     (∀ n v, n < 1024 → s.flag F.HQ_CQ_CFG_enable (qdi n) = true → s.flag F.HQ_CQ_STATUS_error (qdi n) = false → v < 65536 →
       s.headOk n v = true → exec (.cqDoorbell n v) s = .next (s.setCq n { s.cq n with head := v })) ∧
     (∀ n v, n < 1024 → s.flag F.HQ_CQ_CFG_enable (qdi n) = true → s.flag F.HQ_CQ_STATUS_error (qdi n) = false → v < 65536 →
       s.headOk n v = false → exec (.cqDoorbell n v) s = .next (cqError n s)) ∧
     (∀ off w v, off < 0x2000 → exec (.bar2IrregularAccess false off w v) s = .next (s.emit (.bar2 0))) ∧
     (∀ off w v, w ≠ 4 ∨ off % 4 ≠ 0 ∨ 0x2000 ≤ off →
       exec (.bar2IrregularAccess true off w v) s = .next (s.accessEvent .host off 7))) ∧
  (∀ (org : Originator) (s : State) (n v : Nat), s.power = .running → n < 1024 → v < 2 ^ 32 → v % 65536 ≠ 0 →
     (s.grants org (0x830008 + qdi n) → tbit v 27 = true → s.flag F.HQ_CQ_CFG_enable (qdi n) = false →
       ∃ t, exec (.cqEnable org n v) s = .next t ∧ t.mem = s.mem ∧ t.cnts = s.cnts ∧ t.rd (0x830010 + qdi n) = 2 ^ 16 ∧
         t.cq n = ⟨0, 0, s.fld64 F.HQ_CQ_BASE_LO_base F.HQ_CQ_BASE_HI_base (qdi n), v % 65536 + 1, bits v 26 16, tbit v 28⟩) ∧
     (s.grants org (0x810008 + qdi n) → tbit v 26 = true → s.flag F.HQ_SQ_CFG_enable (qdi n) = false →
       s.flag F.HQ_CQ_CFG_enable (qdi (bits v 25 16)) = true → 2 ≤ s.cqSize (bits v 25 16) →
       ∃ t, exec (.sqEnable org n v) s = .next t ∧ t.mem = s.mem ∧ t.cnts = s.cnts ∧ t.hq.cqs = s.hq.cqs ∧
         t.sq n = ⟨0, none, s.fld64 F.HQ_SQ_BASE_LO_base F.HQ_SQ_BASE_HI_base (qdi n), v % 65536 + 1, bits v 25 16⟩) ∧
     (s.grants org (0x810008 + qdi n) → tbit v 26 = true → s.flag F.HQ_CQ_CFG_enable (qdi (bits v 25 16)) = false →
       exec (.sqEnable org n v) s = .next (s.accessEvent org (0x810008 + qdi n) 6)))

/-- A fetch takes the 128 bytes at the queue's head, moves the head on, and puts the command in flight, held where its fence
bit is set; a badly formed entry is answered REJ_FORMAT. A queue whose turn it is not is left alone; a read that times out
puts the queue into error (R479, R482, R484). Entries not signalled are signalled when coal_time has passed, unless the
count is zero or the time is off (R489). A completion entry lands in host memory at the queue's tail with its payload,
tag, queue, head, op and phase; the tail moves on, the phase inverts at the wrap, and no other byte of host memory changes
(R486, R488).
The model's choices: log entries 17, 96. -/
def Obligations.EntriesAreFetchedAndCompleted : Prop :=
  ((∀ (s : State) (n : Nat), s.power = .running →
      (s.fetchPick ≠ some n → ∀ ok, exec (.sqFetch n ok) s = .next s) ∧
      (s.fetchPick = some n → exec (.sqFetch n false) s = .next (sqError n 1 (s.bump C.HST_CPL_TIMEOUT))) ∧
      (∀ e, s.fetchPick = some n → e = s.hread ((s.sq n).base + 128 * s.fld F.HQ_SQ_STATUS_head (qdi n)) 128 → entryOk e = true →
        s.flag F.GLB_STATUS_fatal = false → s.flag F.GLB_STATUS_config_ready = true → s.flag F.GLB_STATUS_config_failed = false →
        n < 1024 →
        ∃ t, exec (.sqFetch n true) s = .next t ∧ t.hq.inflight = s.hq.inflight ++ [⟨n, leAt e 64 8, leAt e 0 1, false⟩] ∧
          (t.sq n).hold = (if leAt e 72 1 = 1 then some (leAt e 64 8) else none) ∧
          t.fld F.HQ_SQ_STATUS_head (qdi n) =
            (if s.fld F.HQ_SQ_STATUS_head (qdi n) + 1 = s.sqSize n then 0 else s.fld F.HQ_SQ_STATUS_head (qdi n) + 1) % 65536 ∧
          t.counter C.HQ_FETCHED = min (2 ^ 48 - 1) (s.counter C.HQ_FETCHED + 1) ∧ t.mem = s.mem)) ∧
   (∀ (s : State) (n : Nat), s.power = .running →
      (s.flag F.HQ_CQ_CFG_enable (qdi n) = true → (s.cq n).irqEn = true → (s.cq n).unsignalled ≠ 0 →
        s.fld F.HQ_CQ_COAL_coal_time (qdi n) ≠ 0 →
        ∃ t, exec (.cqCoalTimeout n) s = .next t ∧ t = (s.sendMsix (s.cq n).vector).setCq n { s.cq n with unsignalled := 0 }) ∧
      ((s.cq n).unsignalled = 0 ∨ s.fld F.HQ_CQ_COAL_coal_time (qdi n) = 0 → exec (.cqCoalTimeout n) s = .next s))) ∧
  (∀ (s : State) (n sq tag op : Nat) (pr : Bool) (l : List Byte), s.memoryCanonical → s.flag F.HST_LINK_up = true → l.length = 16 →
     n < 1024 →
     let a := (s.cq n).base + 32 * s.fld F.HQ_CQ_STATUS_tail (qdi n)
     let t := s.writeCq n sq tag op pr l
     t.hread a 32 = l ++ toBytes 8 tag ++ toBytes 2 sq ++ toBytes 2 (s.fld F.HQ_SQ_STATUS_head (qdi sq)) ++ toBytes 1 op ++
         toBytes 1 (s.fld F.HQ_CQ_STATUS_phase (qdi n) + 2 * bit pr) ++ toBytes 2 0 ∧
       (∀ x, x < a ∨ a + 32 ≤ x → cellGet 0 t.mem.host x = cellGet 0 s.mem.host x) ∧
       t.fld F.HQ_CQ_STATUS_tail (qdi n) = (if s.fld F.HQ_CQ_STATUS_tail (qdi n) + 1 = s.cqSize n then 0
         else s.fld F.HQ_CQ_STATUS_tail (qdi n) + 1) % 65536 ∧
       t.fld F.HQ_CQ_STATUS_phase (qdi n) = (if s.fld F.HQ_CQ_STATUS_tail (qdi n) + 1 = s.cqSize n
         then 1 - s.fld F.HQ_CQ_STATUS_phase (qdi n) else s.fld F.HQ_CQ_STATUS_phase (qdi n)) ∧
       t.mem.t0 = s.mem.t0 ∧ t.mem.t1 = s.mem.t1 ∧ t.mem.t2 = s.mem.t2 ∧ t.mem.flash = s.mem.flash)

/-! ## The PCIe port (block HST) -/

/-- PCIE_LINK_UP with a rate and width of the port shows them and leaves D3hot; D3HOT_ENTRY stops fetching; a PCIe reset
disables every queue, takes the link down but for a function-level reset and the return from D3hot, and keeps the memories,
the counters and the other blocks' registers (R428, R429, R476).
The model's choices: log entries 11, 86. -/
def Obligations.PcieLinkAndResets : Prop :=
  ∀ s : State, s.power = .running →
    (∀ sp w m, 1 ≤ sp → sp ≤ 6 → w ∈ [1, 2, 4, 8, 16] → ∃ t, exec (.pcieLinkUp sp w m) s = .next t ∧
      t.flag F.HST_LINK_up = true ∧ t.fld F.HST_LINK_speed = sp ∧ t.fld F.HST_LINK_width = w ∧ t.hst.msixEn = m ∧ t.hst.d3hot = false ∧
      t.mem = s.mem ∧ t.hq = s.hq) ∧
    (exec .d3hotEntry s = .next { s with hst := { s.hst with d3hot := true } }) ∧
    (∀ n, s.hst.d3hot = true → s.fetchable n = false) ∧
    (∀ k, (∀ e ∈ s.sec.sess, e = none) → s.txn.isOpen = false →
      ∃ t, exec (.pcieReset k) s = .next t ∧ t.hq = State.reset.hq ∧ (∀ n, t.flag F.HQ_SQ_CFG_enable (qdi n) = false ∨ 1024 ≤ n) ∧
      (k = .flr ∨ k = .d3hotReturn → t.flag F.HST_LINK_up = s.flag F.HST_LINK_up) ∧
      (k = .perst ∨ k = .hotReset ∨ k = .linkDown → t.flag F.HST_LINK_up = false) ∧
      t.flag F.CLK_RST_CAUSE_perst = true ∧ t.cnts = s.cnts ∧ t.mem = s.mem ∧
      ∀ off, blockNum off ≠ 7 → blockNum off ≠ 20 → blockNum off ≠ 4 → t.rd off = s.rd off)

/-- A BAR4 read whose translation succeeds and meets nothing that waits answers the bytes, and one whose translation fails
answers Unsupported Request; a write that no fault and no key-value entry meets reaches memory (R478). A device read of
host memory that times out is counted, and the manifest read that needed it ends its LOAD_SHARD with ERR_UNCORRECTED; the
completion of an entry read fetches the entry that it brought (R479).
The model's choices: log entries 29, 68. -/
def Obligations.HostReadsAndWindowAccesses : Prop :=
  (∀ (s : State) (off len : Nat) (bs : List Byte), s.power = .running → len ≤ 4096 →
     ((s.vread (s.windowAddr off) len).good = true → s.windowHeld (s.windowAddr off) len = false →
       ∃ t, exec (.bar4Access ⟨false, off, len, []⟩) s = .next t ∧ t.out = s.out ++ [.bar4 true (s.vread (s.windowAddr off) len).bytes] ∧
         t.mem = s.mem) ∧
     ((s.vread (s.windowAddr off) len).good = false →
       ∃ t, exec (.bar4Access ⟨false, off, len, []⟩) s = .next t ∧ t.out = s.out ++ [.bar4 false []] ∧ t.mem = s.mem) ∧
     (s.writeFault (s.windowAddr off) bs.length = none → s.meetsKv (s.windowAddr off) bs.length = false →
       exec (.bar4Access ⟨true, off, bs.length, bs⟩) s = .next (s.vwrite (s.windowAddr off) bs)) ∧
     (s.writeFault (s.windowAddr off) bs.length = none → s.meetsKv (s.windowAddr off) bs.length = true →
       exec (.bar4Access ⟨true, off, bs.length, bs⟩) s = .next s)) ∧
  (∀ s : State, s.power = .running →
     (exec (.hostReadTimeout .other) s = .next (s.bump C.HST_CPL_TIMEOUT)) ∧
     (∀ id o r, kget s.shd.asks id = some (o, r) →
       ∃ t, exec (.hostReadTimeout (.manifest id)) s = .next t ∧ kget t.shd.asks id = none ∧
         t = ({ s.bump C.HST_CPL_TIMEOUT with shd := { s.shd with asks := kdel s.shd.asks id } } : State).complete o 0x40 0x31) ∧
     (∀ data, exec (.hostReadCompletion .other data) s = .next s) ∧
     (∀ n data, s.fetchPick = some n → data.length = 128 →
       exec (.hostReadCompletion (.sqEntry n) data) s = exec (.sqFetch n true) (s.hostHolds
         ((s.sq n).base + 128 * s.fld F.HQ_SQ_STATUS_head (qdi n)) data) ∧
       (s.memoryCanonical → (s.hostHolds ((s.sq n).base + 128 * s.fld F.HQ_SQ_STATUS_head (qdi n)) data).hread
         ((s.sq n).base + 128 * s.fld F.HQ_SQ_STATUS_head (qdi n)) 128 = data)))

/-! ## Storage ports (block ETH) -/

/-- An enabled port of a configured package comes up and goes down; a discarded frame and an incoming request are counted, the
request answered with a NAK; a pause frame of the port's own priority pauses that port alone, one of another priority
nothing (R490, R311). A queue pair in RESET with a legal context goes to RTS at the line rate on a port that is up; a bad
MTU leaves it with REJ_FORMAT, a port that is down with REJ_STATE. It goes to RESET unless it serves a load. Its rate
halves on a CNP, at most once in 50 µs, and rises by 8 Gb/s without one, within 1 and 400 Gb/s (R491, R492).
The model's choices: log entries 16, 24, 69. -/
def Obligations.StoragePortsAndQueuePairs : Prop :=
  (∀ (s : State) (p : Nat), s.power = .running → p < 2 →
     (s.flag F.ETH_P_CTRL_enable (0x10000 * p) = true → s.flag F.GLB_STATUS_config_ready = true →
       exec (.ethLinkUp p) s = .next (s.setFld F.ETH_P_STATUS_up 1 (0x10000 * p))) ∧
     (s.flag F.ETH_P_CTRL_enable (0x10000 * p) = false → exec (.ethLinkUp p) s = .next s) ∧
     (exec (.ethLinkDown p) s = .next (s.setFld F.ETH_P_STATUS_up 0 (0x10000 * p))) ∧
     (exec (.ethFrameDiscard p) s = .next (s.bump (C.ETH_P_DISCARDED + 0x10000 * p))) ∧
     (∀ q, q < 64 → exec (.incomingRdmaRequest p q) s = .next ((s.emit (.rdma p q 2 [])).bump (C.ETH_P_DISCARDED + 0x10000 * p))) ∧
     (s.eth.length = 2 → s.flag F.ETH_P_CTRL_pfc_en (0x10000 * p) = true →
       ∃ t, exec (.pfcPauseFrame p (s.fld F.ETH_P_CTRL_pfc_prio (0x10000 * p)) true) s = .next t ∧ t = { s with eth := t.eth } ∧
         (t.ethPort p).paused = true ∧ (t.ethPort p).qps = (s.ethPort p).qps ∧ ∀ r, r ≠ p → t.ethPort r = s.ethPort r) ∧
     (∀ prio b, prio ≠ s.fld F.ETH_P_CTRL_pfc_prio (0x10000 * p) → exec (.pfcPauseFrame p prio b) s = .next s)) ∧
  (∀ (org : Originator) (s : State) (p q : Nat), s.power = .running → p < 2 → q < 64 → s.eth.length = 2 →
     s.grants org (qpOff p q 0) →
     (s.rtsStatus p q = 0x00 →
       ∃ t, exec (.qpToRts org p q) s = .next t ∧ t.qpState p q = 1 ∧ bits (t.rd (qpOff p q 0)) 31 24 = 0x00 ∧
         (t.qp p q).rate = 400000 ∧ t.mem = s.mem ∧ t.cnts = s.cnts ∧ ∀ off, off ≠ qpOff p q 0 → t.rd off = s.rd off) ∧
     (bits (s.rd (qpOff p q 0)) 10 8 < 3 →
       ∃ t, exec (.qpToRts org p q) s = .next t ∧ t.qpState p q = s.qpState p q ∧ bits (t.rd (qpOff p q 0)) 31 24 = 0x10 ∧
         t.eth = s.eth) ∧
     (s.flag F.ETH_P_STATUS_up (0x10000 * p) = false → s.rtsStatus p q ≠ 0x10 → s.rtsStatus p q ≠ 0x11 →
       ∃ t, exec (.qpToRts org p q) s = .next t ∧ t.qpState p q = s.qpState p q ∧ bits (t.rd (qpOff p q 0)) 31 24 = 0x12) ∧
     (s.qpLoad p q = none →
       ∃ t, exec (.qpToReset org p q) s = .next t ∧ t.qpState p q = 0 ∧ bits (t.rd (qpOff p q 0)) 31 24 = 0x00 ∧ t.eth = s.eth ∧
         ∀ off, off ≠ qpOff p q 0 → t.rd off = s.rd off) ∧
     ((s.qpLoad p q).isSome = true →
       ∃ t, exec (.qpToReset org p q) s = .next t ∧ t.qpState p q = s.qpState p q ∧ bits (t.rd (qpOff p q 0)) 31 24 = 0x12) ∧
     (∃ t, exec (.qpRateTimer p q) s = .next t ∧ (t.qp p q).rate = min 400000 ((s.qp p q).rate + 8000) ∧ t = { s with eth := t.eth }) ∧
     (∃ t, exec (.cnpReceive p q) s = .next t ∧ t.mem = s.mem ∧ t.regs = s.regs ∧
       t.counter (C.ETH_P_CNP + 0x10000 * p) = min (2 ^ 48 - 1) (s.counter (C.ETH_P_CNP + 0x10000 * p) + 1) ∧
       (t.qp p q).rate = if (s.qp p q).cut = none ∨ ∃ c, (s.qp p q).cut = some c ∧ c + 50 ≤ s.us
         then max 1000 ((s.qp p q).rate / 2) else (s.qp p q).rate))

/-! ## Weight shards (block SHD) -/

/-- LOAD_SHARD and FETCH that pass their checks begin one load each: with its entry in host memory LOAD_SHARD asks for it,
with its entry in tier 1 it places it and loads; empty runs complete at once with DONE; a refusal completes and changes
nothing else (R308, R309, R314). What a READ response brings lands at the destination in order and nowhere else;
unanswered READs are asked for again up to the retry count, past it the load fails and its queue pair leaves RTS; each
landed chunk of a native load is hashed (R306, R311).
The model's choices: log entry 67. -/
def Obligations.ShardLoadsBeginAndLand : Prop :=
  (∀ (o : CmdOrigin) (s : State), s.takes o →
     (∀ r st, s.shardEarly r = some st → exec (.loadShard o r) s = .next (s.complete o 0x40 st)) ∧
     (∀ r, s.shardEarly r = none → r.entryAddr / 2 ^ 63 = 0 →
       exec (.loadShard o r) s = .next { s with shd := { s.shd with next := s.shd.next + 1, asks := kset s.shd.asks s.shd.next (o, r) } }) ∧
     (∀ r, s.shardEarly r = none → r.entryAddr / 2 ^ 63 = 1 → s.mem.poisoned 1 (r.entryAddr % 2 ^ 48) 128 = false →
       let e := s.mem.read 1 (r.entryAddr % 2 ^ 48) 128
       let u := s.tread 1 (r.entryAddr % 2 ^ 48) 128
       (∀ st, u.shardRefusal r (bindOf e) = some st → exec (.loadShard o r) s = .next (u.complete o 0x40 st)) ∧
       (u.shardRefusal r (bindOf e) = none → (bindOf e).length = 0 → exec (.loadShard o r) s = .next (u.complete o 0x40 0x00)) ∧
       (u.shardRefusal r (bindOf e) = none → (bindOf e).length ≠ 0 → s.shd.loads = [] →
         ∃ t l, exec (.loadShard o r) s = .next t ∧ t.shd.loads = [l] ∧ l.org = o ∧ l.op = 0x40 ∧ l.ctx = r.ctx ∧ l.tier = r.tier ∧
           l.len = (bindOf e).length ∧ l.landed = 0 ∧ t.shdGet l.entry 112 1 = 1 ∧ t.shdGet l.entry 113 1 = (r.ctx + 16 * r.tier) % 256)) ∧
     (∀ r st, s.fetchRefusal r = some st → exec (.fetch o r) s = .next (s.complete o 0x42 st)) ∧
     (∀ r, s.fetchRefusal r = none → r.length = 0 → exec (.fetch o r) s = .next (s.complete o 0x42 0x00)) ∧
     (∀ r, s.fetchRefusal r = none → r.length ≠ 0 → s.shd.loads = [] →
       ∃ t l, exec (.fetch o r) s = .next t ∧ t.shd.loads = [l] ∧ l.org = o ∧ l.op = 0x42 ∧ l.tier = 1 ∧ l.dst = r.dst ∧
         l.len = r.length ∧ l.landed = 0 ∧ t.mem.t1 = s.mem.t1)) ∧
  (∀ (s : State) (l : Load) (p q key : Nat), s.power = .running → s.memoryCanonical → s.shd.loads = [l] → l.src = .storage p q key →
     l.failed = false → s.qpState p q = 1 → (s.ethPort p).paused = false → l.landed ≤ l.asked → l.asked ≤ l.len →
     (∀ r, r.port = p → r.qp = q → r.icrcOk = true → r.nak = false → r.ecnCe = false → l.landed < l.asked →
       r.data.length ≤ l.asked - l.landed → l.tier = 1 →
       ∃ t l', exec (.rdmaReadResponse r) s = .next t ∧ t.shd.loads = [l'] ∧ l'.landed = l.landed + r.data.length ∧
         t.mem.read 1 (l.dst + l.landed) r.data.length = r.data ∧
         (∀ a, a < l.dst + l.landed ∨ l.dst + l.landed + r.data.length ≤ a → t.mem.read 1 a 1 = s.mem.read 1 a 1) ∧
         t.mem.t2 = s.mem.t2 ∧ t.mem.host = s.mem.host) ∧
     (l.landed < l.asked → l.retry < bits (s.rd (qpOff p q 0)) 13 11 →
       ∃ t l', exec (.rdmaAckTimeout p q) s = .next t ∧ t.shd.loads = [l'] ∧ l'.retry = l.retry + 1 ∧ l'.landed = l.landed ∧
         l'.asked = min l.len (l.landed + 16 * 0x100000) ∧ l'.failed = false ∧ t.mem = s.mem ∧ t.regs = s.regs) ∧
     (l.landed < l.asked → bits (s.rd (qpOff p q 0)) 13 11 ≤ l.retry →
       ∃ t l', exec (.rdmaAckTimeout p q) s = .next t ∧ t.shd.loads = [l'] ∧ l'.failed = true ∧ t.qpState p q = 2 ∧ t.mem = s.mem) ∧
     (∀ n, l.op = 0x40 → l.native = true → n = min chunkBytes (l.len - chunkBytes * l.sums.length) → n ≠ 0 → n ≤ l.buf.length →
       exec (.chunkHashDone l.id) s = .next { s with shd := { s.shd with
         loads := [{ l with sums := l.sums ++ [Config.sha384 (l.buf.take n)], buf := l.buf.drop n }] } }))

/-- A load whose chunks have the digest of its entry makes the entry VALID and completes with DONE, one without frees the
entry, poisons the destination and completes with ERR_INTEGRITY; a fetched run whose digest fails raises the event (R306,
R310, R314). A scrub pass starts at the first VALID entry, or is overrun while one runs; a check of a good entry stamps it
and one of a bad entry marks it BAD, poisons the copy and queues it; SHD_BAD pops the oldest bad entry (R315, R316, R323).
The model's choices: log entry 67. -/
def Obligations.ShardLoadsEndAndScrub : Prop :=
  (∀ (s : State) (l : Load), s.power = .running → s.shd.loads = [l] → s.fab.bulks = [] → l.failed = false → Load_ready l = true →
     (l.op = 0x40 → l.native = true → l.org = .boot → l.tier = 1 → s.memoryCanonical →
       (shardDigest (s.mem.read 1 (s.shdBase + 128 * l.entry) 64) l.sums = s.shdGet l.entry 64 48 →
         ∃ t, exec (.shardLoadComplete l.id) s = .next t ∧ t.shd.loads = [] ∧ t.bootReply = some 0x00 ∧ t.shdGet l.entry 112 1 = 2 ∧
           t.shdGet l.entry 120 8 = s.ms ∧ t.counter C.SHD_LOADS = min (2 ^ 48 - 1) (s.counter C.SHD_LOADS + 1)) ∧
       (shardDigest (s.mem.read 1 (s.shdBase + 128 * l.entry) 64) l.sums ≠ s.shdGet l.entry 64 48 →
         ∃ t, exec (.shardLoadComplete l.id) s = .next t ∧ t.shd.loads = [] ∧ t.bootReply = some 0x30 ∧ t.shdGet l.entry 112 1 = 0 ∧
           (l.len ≠ 0 → t.mem.poisoned 1 l.dst l.len = true))) ∧
     (l.op = 0x42 → l.org = .boot → s.mem.poisoned 1 l.digestAt 48 = false →
       (Config.sha384 l.buf = s.mem.le 1 l.digestAt 48 →
         ∃ t, exec (.fetchComplete l.id) s = .next t ∧ t.shd.loads = [] ∧ t.bootReply = some 0x00 ∧ t.mem = s.mem) ∧
       (Config.sha384 l.buf ≠ s.mem.le 1 l.digestAt 48 →
         ∃ t, exec (.fetchComplete l.id) s = .next t ∧ t.shd.loads = [] ∧ t.bootReply = some 0x30 ∧
           (l.len ≠ 0 → t.mem.poisoned 1 l.dst l.len = true)))) ∧
  (∀ s : State, s.power = .running →
     (s.flag F.SHD_SCRUB_enable = true → s.shd.scrub = none →
       exec .shardScrubPass s = .next { s with shd := { s.shd with scrub := s.nextValid 0, due := false } }) ∧
     (s.flag F.SHD_SCRUB_enable = true → s.shd.scrub.isSome = true →
       ∃ t, exec .shardScrubPass s = .next t ∧ t.flag F.SHD_STATUS_overrun = true ∧ t.shd = { s.shd with due := true } ∧ t.mem = s.mem) ∧
     (s.flag F.SHD_SCRUB_enable = false → exec .shardScrubPass s = .next s) ∧
     (∀ i p, s.scrubPaused = false → s.memoryCanonical → s.shd.scrub = some i → s.shdGet i 112 1 = 2 → s.shardCopies i = [(1, p)] →
       s.readHeld 1 p (s.shdGet i 32 8) = false → (p + s.shdGet i 32 8 ≤ s.shdBase ∨ s.shdBase + 128 * 16384 ≤ p) → i < 16384 →
       (s.copyFault i (1, p) = 0 →
         ∃ t, exec .shardScrubCheck s = .next t ∧ t.shdGet i 112 1 = 2 ∧ t.shdGet i 120 8 = s.ms ∧ t.shd.bad = s.shd.bad ∧
           t.mem.p1 = clearLines s.mem.p1 (s.shdBase + 128 * i + 120) 8) ∧
       (s.copyFault i (1, p) ≠ 0 → s.shd.bad.length < 64 →
         ∃ t, exec .shardScrubCheck s = .next t ∧ t.shdGet i 112 1 = 3 ∧ t.shdGet i 114 1 = s.copyFault i (1, p) ∧ t.shd.bad = s.shd.bad ++ [i])) ∧
     (∀ org, s.mayRead org 0x1500014 = true → s.served 0x1500014 = true →
       ∃ t, exec (.shdBadRead org) s = .next t ∧ t.shd = { s.shd with bad := s.shd.bad.drop 1 } ∧
         t.out = s.out ++ [.readData org 0x1500014 s.badWord] ∧ t.regs = s.regs ∧ t.mem = s.mem) ∧
     (∀ org, s.mayRead org 0x1500014 = false → exec (.shdBadRead org) s = .next s))

/-! ## SMBus, MCTP and PLDM (block SMB) -/

/-- A control request that the gate serves is answered with its completion code and data: an endpoint ID is assigned and
shown, the null and broadcast IDs are refused; before the responder is up the address is not acknowledged, before the MC
is up the answer is ERROR_NOT_READY, a bad PEC is counted (R493, R494). A PLDM request that the gate serves is answered:
sensors 1 to 5 with the temperatures and the power as the registers show them, sensor 6 with the health since the last
read, which it resets unless it is fatal, sensor 7 with the boot phase; what the DMTF documents add is a free value (R495,
log entry 8).
The model's choices: log entries 8, 9. -/
def Obligations.ManagementMessagesAreAnswered : Prop :=
  (∀ (q : MctpReq) (s : State),
     (s.mctpGate q true = .serve →
       (∀ e, e % 256 ≠ 0 → e % 256 ≠ 255 →
         ∃ t, exec (.setEndpointId q e) s = .next t ∧ t.eid = e % 256 ∧ t.out = s.out ++ [.smbus q.eid [0, 1, 0, e % 256]] ∧ t.mem = s.mem) ∧
       (∀ e, e % 256 = 0 ∨ e % 256 = 255 → exec (.setEndpointId q e) s = .next (s.emit (.smbus q.eid [0, 1, 2]))) ∧
       exec (.getEndpointId q) s = .next (s.emit (.smbus q.eid [0, 2, 0, s.eid])) ∧
       (∀ ty, ∃ t v, exec (.getMctpVersionSupport q ty) s = .next t ∧ t = ({ s with free := t.free } : State).emit (.smbus q.eid [0, 4, 0, v])) ∧
       exec (.getMessageTypeSupport q) s = .next (s.emit (.smbus q.eid [0, 5, 0, 2, 0x01, 0x7E])) ∧
       exec (.getVendorDefinedMessageSupport q 0) s = .next (s.emit (.smbus q.eid [0, 6, 0, 0xFF, 0, s.fld F.HST_ID_vendor])) ∧
       (∀ cmd, exec (.mctpUnsupportedCommand q (.control cmd)) s = .next (s.emit (.smbus q.eid [0, cmd, 5])))) ∧
     (s.boot.smbusUp = false → ∀ e, exec (.setEndpointId q e) s = .next (s.emit .smbusNack)) ∧
     (s.boot.smbusUp = true → q.pecOk = false → ∀ e, exec (.setEndpointId q e) s = .next (s.bump C.SMB_PEC_ERR)) ∧
     (s.boot.smbusUp = true → q.pecOk = true → q.dest = 0 → s.boot.mcUp = false →
       ∀ e, exec (.setEndpointId q e) s = .next (s.emit (.smbus q.eid [0, 1, 4])))) ∧
  (∀ (q : MctpReq) (s : State), s.mctpGate q false = .serve →
     (∃ t v, exec (.gettid q) s = .next t ∧ t = ({ s with free := t.free } : State).emit (.smbus q.eid [1, 2, 0, v])) ∧
     (∀ ty, ∃ t v, exec (.getpldmversion q ty) s = .next t ∧ t = ({ s with free := t.free } : State).emit (.smbus q.eid [1, 3, 0, v])) ∧
     exec (.getpldmtypes q) s = .next (s.emit (.smbus q.eid [1, 4, 0, 5])) ∧
     exec (.getpldmcommands q 0) s = .next (s.emit (.smbus q.eid [1, 5, 0, 2, 3, 4, 5])) ∧
     exec (.getpldmcommands q 2) s = .next (s.emit (.smbus q.eid [1, 5, 0, 0x11, 0x21, 0x50, 0x51])) ∧
     (∃ t v, exec (.getpdrrepositoryinfo q) s = .next t ∧ t = ({ s with free := t.free } : State).emit (.smbus q.eid [1, 0x50, 0, v])) ∧
     (∀ h, ∃ t v, exec (.getpdr q h) s = .next t ∧ t = ({ s with free := t.free } : State).emit (.smbus q.eid [1, 0x51, 0, v])) ∧
     exec (.getsensorreading q 1) s = .next (s.emit (.smbus q.eid [1, 0x11, 0, s.fld F.PWR_TEMP_MAX_cd0])) ∧
     exec (.getsensorreading q 2) s = .next (s.emit (.smbus q.eid [1, 0x11, 0, s.fld F.PWR_TEMP_MAX_cd1])) ∧
     exec (.getsensorreading q 3) s = .next (s.emit (.smbus q.eid [1, 0x11, 0, s.fld F.PWR_TEMP_MAX_iod])) ∧
     exec (.getsensorreading q 4) s = .next (s.emit (.smbus q.eid [1, 0x11, 0, s.fld F.PWR_TEMP_MAX_stacks])) ∧
     exec (.getsensorreading q 5) s = .next (s.emit (.smbus q.eid [1, 0x11, 0, s.fld F.PWR_EST_average])) ∧
     (∃ t, exec (.getstatesensorreadings q 6) s = .next t ∧ t.out = s.out ++ [.smbus q.eid [1, 0x21, 0, s.evt.health]] ∧
       t.evt.health = (if s.evt.health = 4 then 4 else 1) ∧ t.regs = s.regs ∧ t.mem = s.mem) ∧
     exec (.getstatesensorreadings q 7) s = .next (s.emit (.smbus q.eid [1, 0x21, 0, s.fld F.CFG_BOOT_phase + 1])))

/-- A register is read and written over SMBus by an endpoint with authority: the answer carries the register's bytes, and
only the bits of the mask change; without it the answer is REJ_AUTH and the register stays (R456, R496).
The model's choices: log entries 10, 26. -/
def Obligations.VendorRegisterAccess : Prop :=
  ∀ (q : MctpReq) (s : State), s.power = .running → s.mctpGate q false = .serve →
    (s.mayRead (.smbus q.eid) 0xC = true → s.served 0xC = true →
      ∃ t, exec (.vendorRegisterRead q 0xC) s = .next t ∧ t.regs = s.regs ∧
        t.out = s.out ++ [.smbus q.eid ([0x7E, 0x82, 0] ++ (toBytes 4 (s.rd 0xC)).map (·.toNat))]) ∧
    (s.mayRead (.smbus q.eid) 0xC = false → exec (.vendorRegisterRead q 0xC) s = .next (s.emit (.smbus q.eid [0x7E, 0x82, 0x13]))) ∧
    (∀ v m, s.vendorWriteOk q.eid 0xC = true → s.served 0xC = true → v < 2 ^ 32 → m < 2 ^ 32 →
      ∃ t, exec (.vendorRegisterWrite q 0xC v m) s = .next t ∧ t.rd 0xC = ((s.rd 0xC &&& (2 ^ 32 - 1 - m)) ||| (v &&& m)) % 2 ^ 32 ∧
        t.out = s.out ++ [.smbus q.eid [0x7E, 0x83, 0]] ∧ t.mem = s.mem) ∧
    (∀ v m, s.vendorWriteOk q.eid 0xC = false →
      ∃ t, exec (.vendorRegisterWrite q 0xC v m) s = .next t ∧ t.rd 0xC = s.rd 0xC ∧ t.out = s.out ++ [.smbus q.eid [0x7E, 0x83, 0x13]])

/-! ## The configuration flash (block SPI) -/

/-- A SPI command that no rule refuses is in progress until its end: a read fills SPI_BUF, programming clears the bits of its
bytes that are zero in SPI_BUF, an erase leaves 0xFF; bytes outside the range stay, and a refusal leaves the flash and its
status in SPI_STATUS (R498; NOR programming and its erased value are presumed: log entry 14).
The model's choices: log entries 14, 15. -/
def Obligations.FlashCommandsAct : Prop :=
  ∀ (org : Originator) (s : State), s.power = .running → s.served 0x3B00000 = true →
    (∀ len, len ≠ 0 → spiRefusal org (decide (256 < len) || decide (s.flashSize < s.fld F.SPI_ADDR_addr + len)) s = none →
      ∃ t, exec (.spiRead org len) s = .next t ∧ t.spi = some (.read (s.fld F.SPI_ADDR_addr) len) ∧ t.flag F.SPI_STATUS_busy = true ∧ t.mem = s.mem) ∧
    (∀ len, len ≠ 0 → spiRefusal org (decide (256 < len) || decide (256 < s.fld F.SPI_ADDR_addr % 256 + len) ||
        decide (s.flashSize < s.fld F.SPI_ADDR_addr + len)) s = none →
      ∃ t, exec (.spiProgram org len) s = .next t ∧ t.spi = some (.program (s.fld F.SPI_ADDR_addr) (spiBuf s len)) ∧ t.mem = s.mem) ∧
    (s.fld F.SPI_ADDR_addr % 0x1000 = 0 → spiRefusal org (decide (s.flashSize < s.fld F.SPI_ADDR_addr + 0x1000)) s = none →
      ∃ t, exec (.spiErase4k org) s = .next t ∧ t.spi = some (.erase (s.fld F.SPI_ADDR_addr) 0x1000)) ∧
    (s.fld F.SPI_ADDR_addr % 0x10000 = 0 → spiRefusal org (decide (s.flashSize < s.fld F.SPI_ADDR_addr + 0x10000)) s = none →
      ∃ t, exec (.spiErase64k org) s = .next t ∧ t.spi = some (.erase (s.fld F.SPI_ADDR_addr) 0x10000)) ∧
    (∀ len st, st ≠ 0x13 → spiRefusal org (decide (256 < len) || decide (s.flashSize < s.fld F.SPI_ADDR_addr + len)) s = some st →
      exec (.spiRead org len) s = .next (s.setFld F.SPI_STATUS_status st)) ∧
    (∀ a n, s.memoryCanonical → s.spi = some (.erase a n) →
      ∃ t, exec (.spiCommandDone true) s = .next t ∧ t.spi = none ∧ t.fld F.SPI_STATUS_status = 0x00 ∧
        (∀ x, a ≤ x → x < a + n → cellGet flashErased t.mem.flash x = 0xFF) ∧
        (∀ x, x < a ∨ a + n ≤ x → cellGet flashErased t.mem.flash x = cellGet flashErased s.mem.flash x) ∧ t.mem.t1 = s.mem.t1) ∧
    (∀ a d, s.memoryCanonical → s.spi = some (.program a d) →
      ∃ t, exec (.spiCommandDone true) s = .next t ∧ t.spi = none ∧ t.fld F.SPI_STATUS_status = 0x00 ∧
        cellsRead flashErased t.mem.flash a d.length = programBytes (cellsRead flashErased s.mem.flash a d.length) d ∧
        (∀ x, x < a ∨ a + d.length ≤ x → cellGet flashErased t.mem.flash x = cellGet flashErased s.mem.flash x)) ∧
    (∀ op, s.spi = some op → ∃ t, exec (.spiCommandDone false) s = .next t ∧ t.spi = none ∧ t.fld F.SPI_STATUS_status = 0x31 ∧ t.mem = s.mem)

/-! ## Sessions, fuses and debug (blocks SEC and DBG) -/

/-- An OPEN that no rule refuses leaves a pending challenge under a number from 1 to 255 that no session has, bound to its
originator and slot; an AUTH with the right response opens it with its roles, and a wrong one frees the number and counts
against the slot, which the third failure in a row locks (R460, R461, R463). CLOSE by its originator, the idle time-out of
an open session and the expiry of a pending challenge free the entry; the debug level and EXPERT_EN that a session set
fall with it; a lockout's expiry unlocks the slot; CFG_LEVEL.drop clears EXPERT_EN (R446, R461 to R463, R466).
The model's choices: log entries 12, 22. -/
def Obligations.SessionsOpenAndEnd : Prop :=
  (∀ (org : Originator) (s : State) (m : SessMsg), s.power = .running → s.sec.sess.length = 4 →
     (openRefusal org m s = none →
       ∃ t i e, exec (.openSession org m) s = .next t ∧ s.freeSession = some i ∧ t.sec.sess = s.sec.sess.set i (some e) ∧
         e.isOpen = false ∧ e.org = org ∧ e.slot = sarg m 0 ∧ e.roles = sarg m 1 ∧ 1 ≤ e.number ∧ e.number ≤ 255 ∧ e.nonce < 2 ^ 256 ∧
         (∀ x ∈ s.sec.sess.filterMap id, x.number ≠ e.number) ∧ t.mem = s.mem ∧ t.evt = s.evt) ∧
     (∀ i e, authRefusal org m s = none → s.entryOf m.session = some i → nth s.sec.sess i none = some e → s.sec.fails.length = 8 → e.slot < 8 →
       (Config.hmac384 (s.keySlot e.slot).key (ofBytes (authString s.sec.partId e)) = m.body →
         ∃ t, exec (.authSession org m) s = .next t ∧ nth t.sec.sess i none = some { e with isOpen := true, stamp := s.us } ∧
           nth t.sec.fails e.slot 9 = 0 ∧ t.counter C.SEC_AUTH_OK = min (2 ^ 48 - 1) (s.counter C.SEC_AUTH_OK + 1)) ∧
       (Config.hmac384 (s.keySlot e.slot).key (ofBytes (authString s.sec.partId e)) ≠ m.body → s.sec.locks.length = 8 →
         ∃ t, exec (.authSession org m) s = .next t ∧ nth t.sec.sess i none = none ∧
           nth t.sec.fails e.slot 9 = min 31 (nth s.sec.fails e.slot 0 + 1) ∧
           (2 ≤ nth s.sec.fails e.slot 0 → nth s.sec.fails e.slot 0 < 18 →
             nth t.sec.locks e.slot (0, 0) = (2 ^ (nth s.sec.fails e.slot 0 - 2), s.us)) ∧
           (nth s.sec.fails e.slot 0 < 2 → t.sec.locks = s.sec.locks)))) ∧
  (∀ (s : State) (i : Nat) (e : Sess), s.power = .running → s.sec.sess.length = 4 → i < 4 → nth s.sec.sess i none = some e →
     (∀ m, e.isOpen = true → m.session = e.number → closeRefusal e.org m s = none →
       ∃ t, exec (.closeSession e.org m) s = .next t ∧ nth t.sec.sess i none = none ∧
         (s.sec.level ≠ 0 → s.sec.levelBy = e.number → t.sec.level = 0 ∧ t.fld F.DBG_LEVEL_level = 0) ∧
         (s.sec.expertBy = e.number → s.flag F.CFG_LEVEL_expert_en = true → t.flag F.CFG_LEVEL_expert_en = false)) ∧
     (e.isOpen = true → ∃ t, exec (.sessionIdleTimeout i) s = .next t ∧ nth t.sec.sess i none = none ∧
       (∀ j, j ≠ i → nth t.sec.sess j none = nth s.sec.sess j none) ∧ t.mem = s.mem) ∧
     (e.isOpen = false → ∃ t, exec (.challengeExpire i) s = .next t ∧ nth t.sec.sess i none = none ∧
       (∀ j, j ≠ i → nth t.sec.sess j none = nth s.sec.sess j none) ∧ t = { s with sec := t.sec }) ∧
     (e.isOpen = true → exec (.challengeExpire i) s = .next s) ∧
     (∀ n, ∃ t, exec (.sessionLockoutExpire n) s = .next t ∧ t.locked n = false ∧ t = { s with sec := t.sec }) ∧
     (∀ org, s.grants org 0x100014 →
       ∃ t, exec (.expertDrop org) s = .next t ∧ t.flag F.CFG_LEVEL_expert_en = false ∧ t.flag F.GLB_STATUS_expert_en = false ∧
         t.sec.sess = s.sec.sess ∧ t.mem = s.mem))

/-- SET_DEBUG that no rule refuses sets the level, shows it and counts the change; SET_EXPERT sets and clears EXPERT_EN; a
refused request changes neither (R446, R465, R466).
The model's choices: log entry 18. -/
def Obligations.LevelsAreSet : Prop :=
  ∀ (org : Originator) (s : State) (m : SessMsg), s.power = .running →
    let u := touchSession org s
    (setDebugRefusal org m u = none → s.sec.level ≠ sarg m 0 →
      ∃ t, exec (.setDebug org m) s = .next t ∧ t.sec.level = sarg m 0 ∧ t.fld F.DBG_LEVEL_level = sarg m 0 ∧
        t.fld F.GLB_STATUS_debug = sarg m 0 ∧ t.counter C.DBG_LEVEL_CHANGES = min (2 ^ 48 - 1) (s.counter C.DBG_LEVEL_CHANGES + 1) ∧ t.mem = s.mem) ∧
    (∀ st, setDebugRefusal org m u = some st →
      ∃ t, exec (.setDebug org m) s = .next t ∧ t.sec.level = s.sec.level ∧ t.rd 0x600000 = s.rd 0x600000 ∧ t.evt = s.evt) ∧
    (setExpertRefusal org m u = none → sarg m 0 = 1 →
      ∃ t, exec (.setExpert org m) s = .next t ∧ t.flag F.CFG_LEVEL_expert_en = true ∧ t.sec.expertBy = m.session ∧ t.mem = s.mem) ∧
    (setExpertRefusal org m u = none → sarg m 0 = 0 →
      ∃ t, exec (.setExpert org m) s = .next t ∧ t.flag F.CFG_LEVEL_expert_en = false ∧ t.sec.expertBy = 0 ∧ t.mem = s.mem) ∧
    (∀ st, setExpertRefusal org m u = some st →
      ∃ t, exec (.setExpert org m) s = .next t ∧ t.flag F.CFG_LEVEL_expert_en = s.flag F.CFG_LEVEL_expert_en ∧ t.sec.expertBy = s.sec.expertBy)

/-- A provisioning request with authority, a legal form, a slot in range and in the right state starts its fuse write and
changes no fuse yet; a security version not above the fused one is DONE without an effect; while a write is in progress
another is refused with REJ_BUSY (R451 to R455, R460). The end of a fuse write applies it: a key or image key becomes
ACTIVE, a revoked one REVOKED, the security version and the lifecycle state advance; an advance ends every session, the
debug level and EXPERT_EN (R452 to R455, R462).
The model's choices: log entries 13, 85. -/
def Obligations.FuseWritesStartAndApply : Prop :=
  (∀ (org : Originator) (s : State) (m : SessMsg), s.power = .running → s.boot.mcUp = true → m.status = 0 → s.sessAuth org m.session 5 = true →
     let starts := fun (c : Instr) (w : FuseOp) (op : Nat) =>
       ∃ t, exec c s = .next t ∧ t.sec.fuse = some (w, org, m, op) ∧ t.sec.keys = s.sec.keys ∧ t.sec.imgKeys = s.sec.imgKeys ∧
         t.sec.svn = s.sec.svn ∧ t.sec.lifecycle = s.sec.lifecycle ∧ t.mem = s.mem ∧ t.evt = s.evt
     let n := m.args % 256
     (s.sec.fuse = none →
       (m.args < 65536 → m.args / 256 < 64 → m.body < 2 ^ 384 → 1 ≤ n → n ≤ 7 → (s.keySlot n).state = 0 →
         starts (.keyWrite org m) (.key n (m.args / 256) m.body) 0x06) ∧
       (m.args < 256 → m.body = 0 → 1 ≤ n → n ≤ 7 → (s.keySlot n).state = 1 ∨ (s.keySlot n).state = 3 →
         s.sec.lifecycle ≠ 2 ∨ s.provisionSlots n ≠ 0 → starts (.keyRevoke org m) (.keyRevoke n) 0x07) ∧
       (m.args < 256 → m.body < 2 ^ 768 → onP384 m.body = true → 1 ≤ n → n ≤ 4 → (s.imgSlot n).state = 0 →
         starts (.imgkeyWrite org m) (.imgKey n m.body) 0x08) ∧
       (m.args < 256 → m.body = 0 → 1 ≤ n → n ≤ 4 → (s.imgSlot n).state = 1 ∨ (s.imgSlot n).state = 3 →
         s.sec.lifecycle ≠ 2 ∨ s.activeImages n ≠ 0 → starts (.imgkeyRevoke org m) (.imgRevoke n) 0x09) ∧
       (m.args ≤ 64 → m.body = 0 → m.args ≤ s.fld F.CFG_IMG_SVN_svn → s.sec.svn < m.args → starts (.svnAdvance org m) (.svn m.args) 0x0A) ∧
       (m.args ≤ 64 → m.body = 0 → m.args ≤ s.fld F.CFG_IMG_SVN_svn → m.args ≤ s.sec.svn →
         ∃ t, exec (.svnAdvance org m) s = .next t ∧ t.sec.fuse = none ∧ t.sec.svn = s.sec.svn) ∧
       (m.args < 256 → m.body = 0 → m.args = s.sec.lifecycle + 1 → m.args ≤ 3 → s.advanceOk = true →
         starts (.lifecycleAdvance org m) (.lifecycle m.args) 0x0B)) ∧
     (s.sec.fuse.isSome = true → m.args < 256 → m.body = 0 → 1 ≤ n → n ≤ 7 → (s.keySlot n).state = 0 → org = .jtag →
       ∃ t, exec (.keyWrite org m) s = .next t ∧ t.sec.fuse = s.sec.fuse ∧ t.sec.jtagRsp = rspBytes 0x06 0x14 m.session m.tag 0 0)) ∧
  (∀ (s : State) (m : SessMsg) (org : Originator) (op : Nat), s.power = .running → s.sec.keys.length = 8 → s.sec.imgKeys.length = 5 →
     (s.sec.fuse = none → exec .fuseWriteDone s = .next s) ∧
     (∀ n k r, n < 8 → s.sec.fuse = some (.key n k r, org, m, op) →
       ∃ t, exec .fuseWriteDone s = .next t ∧ nth t.sec.keys n ⟨9, 9, 9⟩ = ⟨k, r, 1⟩ ∧ t.sec.fuse = none ∧ t.sec.lifecycle = s.sec.lifecycle ∧
         t.sec.imgKeys = s.sec.imgKeys ∧ ∀ j, j ≠ n → nth t.sec.keys j ⟨9, 9, 9⟩ = nth s.sec.keys j ⟨9, 9, 9⟩) ∧
     (∀ n, n < 8 → s.sec.fuse = some (.keyRevoke n, org, m, op) →
       ∃ t, exec .fuseWriteDone s = .next t ∧ (nth t.sec.keys n ⟨9, 9, 9⟩).state = 2 ∧ t.sec.fuse = none ∧ t.sec.imgKeys = s.sec.imgKeys) ∧
     (∀ n k, n < 5 → s.sec.fuse = some (.imgKey n k, org, m, op) →
       ∃ t, exec .fuseWriteDone s = .next t ∧ nth t.sec.imgKeys n ⟨9, 9, 9⟩ = ⟨k, 0, 1⟩ ∧ t.sec.fuse = none ∧ t.sec.keys = s.sec.keys) ∧
     (∀ n, n < 5 → s.sec.fuse = some (.imgRevoke n, org, m, op) →
       ∃ t, exec .fuseWriteDone s = .next t ∧ (nth t.sec.imgKeys n ⟨9, 9, 9⟩).state = 2 ∧ t.sec.fuse = none ∧ t.sec.keys = s.sec.keys) ∧
     (∀ v, s.sec.fuse = some (.svn v, org, m, op) →
       ∃ t, exec .fuseWriteDone s = .next t ∧ t.sec.svn = v ∧ t.sec.fuse = none ∧ t.sec.keys = s.sec.keys) ∧
     (∀ c, s.sec.fuse = some (.lifecycle c, org, m, op) → s.sec.sess.length = 4 →
       ∃ t, exec .fuseWriteDone s = .next t ∧ t.sec.lifecycle = c ∧ t.sec.level = 0 ∧ t.flag F.CFG_LEVEL_expert_en = false ∧
         ∀ i, i < 4 → nth t.sec.sess i none = none))

/-- A loaded JTAG instruction takes effect where it is listed and permitted, else BYPASS; TRST brings IDCODE back; TEST_MODE
where it is permitted clears the SRAM for good; DBG_BUS writes registers at D2 and reads them from D1 (R469 to R471). A
Loupe selection in range and at its level is taken and shown with DONE, one above the level with REJ_AUTH and an unknown
one with REJ_FORMAT leave the selection; a frame carries its number and the probe word, and none goes out while the Loupe
is off (R467, R468).
The model's choices: log entries 27, 28. -/
def Obligations.JtagAndLoupeAct : Prop :=
  (∀ s : State, s.power ≠ .unpowered →
     (∀ c, c < 256 → jtagListed c = true → s.jtagOk c = true →
       ∃ t, exec (.jtagInstruction c) s = .next t ∧ t.sec.jtag = c ∧ t.fld F.DBG_JTAG_STATUS_instruction = c ∧ t.mem = s.mem ∧ t.sec.sess = s.sec.sess) ∧
     (∀ c, c < 256 → jtagListed c = false → ∃ t, exec (.jtagInstruction c) s = .next t ∧ t.sec.jtag = 0xFF ∧ t.mem = s.mem) ∧
     (∀ c, c < 256 → jtagListed c = true → s.jtagOk c = false →
       ∃ t, exec (.jtagInstruction c) s = .next t ∧ t.sec.jtag = 0xFF ∧ t.flag F.DBG_JTAG_STATUS_refused = true ∧ t.mem = s.mem) ∧
     (s.sec.sess.length = 4 → ∃ t, exec .trst s = .next t ∧ t.sec.jtag = 0x01 ∧ t.fld F.DBG_JTAG_STATUS_instruction = 0x01 ∧
       (∀ i e, nth t.sec.sess i none = some e → e.org ≠ .jtag) ∧ t.mem = s.mem) ∧
     (s.testModeOk = true → ∃ t, exec .testMode s = .next t ∧ t.sec.testMode = true ∧ t.mem = { s.mem with t0 := [], p0 := [] } ∧
       ∀ n, (t.keySlot n).key = 0) ∧
     (s.testModeOk = false → ∃ t, exec .testMode s = .next t ∧ t.sec.testMode = s.sec.testMode ∧ t.sec.jtag = 0xFF ∧
       t.flag F.DBG_JTAG_STATUS_refused = true ∧ t.mem = s.mem) ∧
     (∀ v, s.power = .running → s.sec.jtag = 0x21 → s.sec.level = 2 → s.served 0xC = true → v < 2 ^ 32 →
       ∃ t, exec (.dbgBus true 0xC v) s = .next t ∧ t.rd 0xC = v ∧ t.out = s.out ++ [.jtag [0x00, v]] ∧ t.mem = s.mem) ∧
     (∀ v, s.power = .running → s.sec.jtag = 0x21 → 1 ≤ s.sec.level → s.served 0xC = true →
       ∃ t, exec (.dbgBus false 0xC v) s = .next t ∧ t.out = s.out ++ [.jtag [0x00, s.rd 0xC]] ∧ t.regs = s.regs ∧ t.mem = s.mem) ∧
     (∀ w off v, s.power = .running → s.sec.jtag ≠ 0x21 → exec (.dbgBus w off v) s = .next s)) ∧
  (∀ (org : Originator) (s : State) (v : Nat), s.power = .running → s.grants org 0x600008 → v < 2 ^ 25 → 4 ≤ v / 65536 % 256 →
     (∀ l, loupeUnitOk (v % 256) (v / 256 % 256) = true → loupeLevel (v % 256) = some l → l ≤ s.sec.level →
       ∃ t, exec (.loupeSelect org v) s = .next t ∧ t.rd 0x600008 = v ∧ t.fld F.DBG_LOUPE_STATUS_status = 0x00 ∧ t.sec.loupeOn = tbit v 24 ∧
         t.mem = s.mem ∧ t.cnts = s.cnts) ∧
     (∀ l, loupeUnitOk (v % 256) (v / 256 % 256) = true → loupeLevel (v % 256) = some l → s.sec.level < l →
       exec (.loupeSelect org v) s = .next (s.setFld F.DBG_LOUPE_STATUS_status 0x13)) ∧
     (loupeUnitOk (v % 256) (v / 256 % 256) = true → loupeLevel (v % 256) = none →
       exec (.loupeSelect org v) s = .next (s.setFld F.DBG_LOUPE_STATUS_status 0x10)) ∧
     (loupeUnitOk (v % 256) (v / 256 % 256) = false → exec (.loupeSelect org v) s = .next (s.accessEvent org 0x600008 2)) ∧
     (∀ w, s.sec.loupeOn = true → 1 ≤ s.sec.level → s.probe = some w →
       ∃ t, exec .loupeFrame s = .next t ∧ t.sec.loupeFrame = (s.sec.loupeFrame + 1) % 2 ^ 32 ∧
         t.out = s.out ++ [.loupe ((0xA0 + s.sec.loupeFrame % 16) :: (toBytes 4 w).map (·.toNat))] ∧ t.mem = s.mem) ∧
     (s.sec.loupeOn = false ∨ s.sec.level = 0 → exec .loupeFrame s = .next s))

/-! ## Resets and start-up (blocks CLK and CFG) -/

/-- Power-on reset, the SYS_RST_N pulse, the loss of PWR_OK and the software reset leave every domain but AON as at power-on:
the registers but CLK_RST_CAUSE, which gains the cause's bit, the counters, the tiers and the debug level; the fuses, the
time and what lies outside the package stay. Start-up begins from reset at t0, not in test mode (R426 to R428, R449,
R471). Losing VDD_AON leaves the invariant of `DarkPackageStaysDark` with only the fuses kept (R421, R428).
The model's choices: log entries 2, 3, 7, 85. -/
def Obligations.ResetsAndSupplyLossClear : Prop :=
  (∀ s : State,
     (∃ t, exec .powerOnReset s = .next t ∧ t.power = .inReset ∧ t.regs = [] ∧ t.cnts = [] ∧ t.us = 0 ∧ t.facets = State.reset.facets ∧
       t.sec.svn = s.sec.svn ∧ t.mem = { State.reset.mem with host := s.mem.host, flash := s.mem.flash }) ∧
     (∀ a, s.power = .inReset → s.sec.testMode = false →
       ∃ t, exec (.startUp a) s = .next t ∧ t.power = .running ∧ t.boot = { s.boot with t0 := s.us } ∧ t.pins.smbAddr = a % 8 ∧ t.regs = s.regs ∧
         t.mem = s.mem ∧ t.sec = s.sec) ∧
     (∀ a, s.power = .inReset → s.sec.testMode = true → ∃ t, exec (.startUp a) s = .next t ∧ t.power = .inReset ∧ t.sec = s.sec ∧ t.mem = s.mem) ∧
     (s.power = .running → s.sec.fuse = none →
       let cleared := fun (t : State) (cause : FieldRef) => (∀ off, off ≠ 0x400004 → t.rd off = regReset off) ∧ t.rd 0x400004 = (s.setFld cause 1).rd 0x400004 ∧
         t.cnts = [] ∧ t.facets = State.reset.facets ∧ t.mem = { State.reset.mem with host := s.mem.host, flash := s.mem.flash } ∧ t.us = s.us ∧
         t.sec.level = 0 ∧ t.sec.lifecycle = s.sec.lifecycle ∧ t.sec.keys = s.sec.keys ∧ t.sec.locks = s.sec.locks ∧ t.pins.faultN = true ∧
         t.pending = s.pending
       (s.sec.testMode = false → ∃ t, exec .sysRstPulse s = .next t ∧ cleared t F.CLK_RST_CAUSE_sys_rst ∧ t.power = .running ∧ t.boot.t0 = s.us) ∧
       (∃ t, exec .pwrOkLoss s = .next t ∧ cleared t F.CLK_RST_CAUSE_pwr_ok_loss ∧ t.power = .inReset ∧ t.pins.pwrOk = false) ∧
       (∀ org v, s.grants org 0x400000 → bits v 31 24 = 0xD1 → bits v 1 0 = 1 → s.expertOk org = true → s.sec.testMode = false →
         ∃ t, exec (.packageResetCmd org v) s = .next t ∧ cleared t F.CLK_RST_CAUSE_software ∧ t.power = .running) ∧
       (∀ org v, s.grants org 0x400000 → bits v 31 24 ≠ 0xD1 → exec (.packageResetCmd org v) s = .next (s.accessEvent org 0x400000 6)) ∧
       (∀ org v, s.grants org 0x400000 → bits v 31 24 = 0xD1 → bits v 1 0 = 0 → exec (.packageResetCmd org v) s = .next s))) ∧
  (∀ s : State, ∃ t, exec .vddAonRemoval s = .next t ∧ t.dark ∧ t.power = .unpowered ∧ t.pins.thermTripN = true ∧ t.regs = [] ∧
     t.mem = { State.reset.mem with host := s.mem.host, flash := s.mem.flash } ∧ t.sec.lifecycle = s.sec.lifecycle ∧
     t.facets = State.reset.facets)

/-- The responder and the MC come up; slot A, then slot B is checked in the order of R434, and its first failing check's
status is shown; a good image is applied and starts the configuration, two bad ones end in configuration failure (R434,
R436 to R438). Configuration ready follows a good image: the preloads lie in tier 1, tier 0 holds zeros, the voltage codes
are driven; fabric ready follows once tier 2 is settled; the boot list then runs one record at a time, and a failing
record stops it (R432, R437, R439, R530).
The model's choices: log entries 90, 91. -/
def Obligations.StartUpAndMilestones : Prop :=
  (∀ s : State, s.power = .running →
     (exec .smbusResponderReady s = .next { s with boot := { s.boot with smbusUp := true } }) ∧
     (s.boot.mcUp = false → ∃ t, exec .mcUp s = .next t ∧ t.boot = { s.boot with mcUp := true, smbusUp := true } ∧ t.fld F.CFG_BOOT_phase = 1 ∧
       t.mem = s.mem ∧ t.sec = s.sec) ∧
     (∀ ok st, s.fld F.CFG_BOOT_phase = 1 → s.boot.failedA = false → s.imageStatus 0 ok = some st →
       ∃ t, exec (.imageSlotCheck ok) s = .next t ∧ t.fld F.CFG_IMG_STATUS_status_a = st % 256 ∧ t.boot = { s.boot with failedA := true } ∧
         t.mem = s.mem ∧ t.evt = s.evt) ∧
     (∀ ok, s.fld F.CFG_BOOT_phase = 1 → s.boot.failedA = false → s.imageStatus 0 ok = none → firstFail (s.staged 0).commitFails = none →
       ∃ t, exec (.imageSlotCheck ok) s = .next t ∧ t.fld F.CFG_IMG_STATUS_status_a = 0 ∧ t.boot.image = some 0 ∧ t.fld F.CFG_BOOT_phase = 2 ∧
         t.boot.index = 0) ∧
     (∀ ok st, s.fld F.CFG_BOOT_phase = 1 → s.boot.failedA = true → s.imageStatus 0x800000 ok = some st → st ≠ 0 →
       ∃ t, exec (.imageSlotCheck ok) s = .next t ∧ t.fld F.CFG_IMG_STATUS_status_b = st % 256 ∧ t.flag F.GLB_STATUS_config_failed = true ∧
         t.fld F.CFG_BOOT_phase = 5 ∧ t.pins.alertN = false ∧ t.mem = s.mem) ∧
     (∀ ok, s.fld F.CFG_BOOT_phase ≠ 1 → exec (.imageSlotCheck ok) s = .next s) ∧
     (s.imageStatus 0 false = some 0x31 ∧ (s.headerOk 0 = false → s.imageStatus 0 true = some 0x10) ∧
       (s.headerOk 0 = true → s.signatureOk 0 = false → s.imageStatus 0 true = some 0x30) ∧
       (s.headerOk 0 = true → s.signatureOk 0 = true → s.flashLe 12 4 < s.sec.svn → s.imageStatus 0 true = some 0x13))) ∧
  (∀ s : State, s.power = .running →
     (s.boot.image.isSome = true → s.flag F.GLB_STATUS_config_ready = false → (∀ p, p < 12 → s.portState p ≠ 4) → s.memoryCanonical →
       ∃ t, exec .configurationReady s = .next t ∧ t.flag F.GLB_STATUS_config_ready = true ∧ t.fld F.CFG_BOOT_phase = 3 ∧ t.pins.vidEn = true ∧
         t.pins.vid0 = 0x1E ∧ t.pins.vid1 = 0x1E ∧ t.mem.t0 = [] ∧ t.boot.preload = [] ∧ (s.boot.preload = [] → t.mem.t1 = s.mem.t1) ∧
         (∀ a bs, s.boot.preload = [(a, bs)] → t.mem.read 1 a bs.length = bs)) ∧
     (s.boot.image = none → exec .configurationReady s = .next s) ∧
     (s.flag F.GLB_STATUS_config_ready = true → s.flag F.GLB_STATUS_fabric_ready = false → s.tier2Settled = true →
       ∃ t, exec .fabricReady s = .next t ∧ t.flag F.GLB_STATUS_fabric_ready = true ∧ t.fld F.CFG_BOOT_phase = 4 ∧ t.flag F.CFG_BOOT_done = true ∧
         (s.boot.list = [] → t.flag F.CFG_BOOT_cmds_done = true) ∧ t.mem = s.mem ∧ t.boot = s.boot) ∧
     (s.tier2Settled = false → exec .fabricReady s = .next s) ∧
     (∀ l, s.bootReply = none → s.bootNext = some l → leAt l 0 1 = 0x60 → leAt l 4 4 = 0xC → s.served 0xC = true →
       ∃ t, exec .bootCommandIssue s = .next t ∧ t.rd 0xC = ((s.rd 0xC &&& (2 ^ 32 - 1 - leAt l 12 4)) ||| (leAt l 8 4 &&& leAt l 12 4)) % 2 ^ 32 ∧
         t.boot.index = s.boot.index + 1 ∧ t.fld F.CFG_BOOT_cmd_status = 0x00 ∧ t.boot.busy = false ∧
         (s.boot.index + 1 = s.boot.list.length → t.flag F.CFG_BOOT_cmds_done = true) ∧ t.mem = s.mem) ∧
     (∀ l, s.bootReply = none → s.bootNext = some l → leAt l 0 1 = 0x34 →
       ∃ t, exec .bootCommandIssue s = .next t ∧ t.flag F.CFG_BOOT_cmds_failed = true ∧ t.fld F.CFG_BOOT_cmd_status = 0x10 ∧
         t.boot.index = s.boot.index ∧ t.mem = s.mem))

/-! ## Facets (block FCT) -/

/-- A unit that can fire takes the head of every queue it reads and joins the pipeline, counted; one that lacks an input or
only an output counts a stall; a frozen facet does nothing. The result of its oldest firing enters every output it writes, with
the entry R82 gives, and a firing that produces nothing only leaves the pipeline. No other facet changes (R82, R96, R97).
The model's choices: log entry 31. -/
def Obligations.UnitsFireAndResultsEnter : Prop :=
  ∀ (s : State) (f u : Nat), s.live → s.facets.length = 72 → f < 72 → u < 24 →
    let x := s.fac f
    (s.canFire f u = true →
      ∃ t g, exec (.unitFire f u) s = .next t ∧ (t.fac f).fly = x.fly ++ [g] ∧ g.unit = u ∧
        g.ops = (x.popAll ((bitList (x.readSet u)).map (qKey u))).1 ∧ (tbit (x.unitCtl u) 4 = false → g.produce = true) ∧
        t.counter (C.FCT_FIRES + fdi f) = min (2 ^ 48 - 1) (s.counter (C.FCT_FIRES + fdi f) + 1) ∧ t.mem = s.mem ∧
        (t.fac f).outq = x.outq ∧ ∀ h, h ≠ f → t.fac h = s.fac h) ∧
    (s.canFire f u = false → x.unitOn u = true → s.frozen f = false → x.inputsReady u = false →
      exec (.unitFire f u) s = .next (s.bump (C.FCT_STALL_IN + fdi f))) ∧
    (s.canFire f u = false → x.unitOn u = true → s.frozen f = false → x.inputsReady u = true →
      exec (.unitFire f u) s = .next (s.bump (C.FCT_STALL_OUT + fdi f))) ∧
    (s.frozen f = true → exec (.unitFire f u) s = .next s) ∧
    (∀ g rest, takeFiring u x.fly = (some g, rest) → g.produce = true →
      ∃ t, exec (.cuResult f u) s = .next t ∧ (t.fac f).fly = rest ∧ t = { s with facets := t.facets } ∧
        (∀ o, o < 4 → tbit (x.writeSet u) o = true →
          klist (t.fac f).outq (oKey u o) = klist x.outq (oKey u o) ++ [x.resultEnt u o g.ops]) ∧
        (∀ o, o < 4 → tbit (x.writeSet u) o = false → klist (t.fac f).outq (oKey u o) = klist x.outq (oKey u o)) ∧
        ∀ h, h ≠ f → t.fac h = s.fac h) ∧
    (∀ g rest, takeFiring u x.fly = (some g, rest) → g.produce = false →
      exec (.cuResult f u) s = .next (s.setFac f { x with fly := rest }))

/-- An entry leaves its input for all consumers that select it once each can take it; from a switch output it enters the queue
it faces and spends a credit, or waits without one; a steering node with its token and data releases the entry to the outputs
that select it, or discards and counts it (R92 to R94, R99, R100). -/
def Obligations.EntriesHopAndSteer : Prop :=
  ∀ (s : State) (f : Nat) (net : Net) (sw p : Nat), s.live → s.frozen f = false → f < 72 → sw < 35 → p < 8 → s.facets.length = 72 →
    let x := s.fac f
    let ks := ((inputsOf (netNum net) sw p).map fun q => x.sinks (netNum net) q.1 q.2).flatten
    (∀ e l, x.srcList (srcOf (netNum net) sw p) = e :: l → ks ≠ [] → ks.all x.sinkFree = true →
      exec (.entryHop f net (.input sw p)) s = .next (s.setFac f (ks.foldl (fun x k => x.sinkPut e k) (x.srcPop (srcOf (netNum net) sw p))))) ∧
    (x.srcList (srcOf (netNum net) sw p) ≠ [] → ks.all x.sinkFree = false → exec (.entryHop f net (.input sw p)) s = .next s) ∧
    (∀ e l u c q, klist x.swb (sKey (netNum net) sw p) = e :: l → facing sw p = .unit u c → queueAt (netNum net) c = some q →
      (x.credits (qKey u q) ≠ 0 →
        ∃ t, exec (.entryHop f net (.output sw p)) s = .next t ∧ t = { s with facets := t.facets } ∧
          klist (t.fac f).inq (qKey u q) = klist x.inq (qKey u q) ++ [e] ∧ (t.fac f).credits (qKey u q) + 1 = x.credits (qKey u q) ∧
          klist (t.fac f).swb (sKey (netNum net) sw p) = l ∧ (t.fac f).outq = x.outq ∧ ∀ h, h ≠ f → t.fac h = s.fac h) ∧
      (x.credits (qKey u q) = 0 → exec (.entryHop f net (.output sw p)) s = .next s)) ∧
    (∀ e code n, x.steerChoice sw = some (e, some code, n) → x.steerOuts sw code ≠ [] → (x.steerOuts sw code).all x.sinkFree = true →
      exec (.steerPair f sw) s = .next (s.setFac f ((x.steerOuts sw code).foldl (fun x k => x.sinkPut e k) (x.setNode sw n)))) ∧
    (∀ e n, x.steerChoice sw = some (e, none, n) →
      exec (.steerPair f sw) s = .next ((s.setFac f (x.setNode sw n)).bump (C.FCT_STEER_DISCARD + fdi f))) ∧
    (x.steerChoice sw = none → exec (.steerPair f sw) s = .next s)

/-- A monitored region that has stopped begins a spill where its full queues fit their slots; else every queue of the facet is
emptied and the UE event raised. The spill's end leaves each full queue empty with 16 credits and a slot; a refill brings the
slot's next entry to the head buffer (R109 to R112). -/
def Obligations.DeadlocksSpillAndRefill : Prop :=
  ∀ (s : State) (f r : Nat), s.live → s.facets.length = 72 → f < 72 →
    let x := s.fac f
    (1 ≤ r → r < 8 → tbit (x.word 2 1) r = true → s.flag F.FCT_DLK_enable (fdi f) = true → s.frozen f = false → s.regionStopped f r = true →
      (s.spillFits f r = true → exec (.deadlockDetect f r) s = .next (s.setFac f { x with spill := some r })) ∧
      (s.spillFits f r = false → x.sq.run = none →
        ∃ t, exec (.deadlockDetect f r) s = .next t ∧ (t.fac f).inq = [] ∧ (t.fac f).outq = [] ∧ (t.fac f).fly = [] ∧ (t.fac f).ext = [] ∧
          (t.fac f).slots = x.slots ∧ t.counter (C.FCT_DLK_UNRESOLVED + fdi f) = min (2 ^ 48 - 1) (s.counter (C.FCT_DLK_UNRESOLVED + fdi f) + 1) ∧
          t.mem = s.mem)) ∧
    (s.flag F.FCT_DLK_enable (fdi f) = false → exec (.deadlockDetect f r) s = .next s) ∧
    (x.spill = some r →
      ∃ t, exec (.spillComplete f) s = .next t ∧ (t.fac f).spill = none ∧
        (∀ k ∈ x.fullQueues r, klist (t.fac f).inq k = [] ∧ (t.fac f).credits k = 16 ∧ (kget (t.fac f).ext k).isSome = true) ∧
        (t.fac f).outq = x.outq ∧ t.mem.t1 = s.mem.t1 ∧ t.counter (C.FCT_DLK_SPILLS + fdi f) = min (2 ^ 48 - 1) (s.counter (C.FCT_DLK_SPILLS + fdi f) + 1)) ∧
    (∀ k i, kget x.ext k = some i → (klist x.head k).length < 2 → x.spill = none → s.slotHead (spillOff f x i) < s.slotCount (spillOff f x i) →
      s.mem.poisoned 0 (spillOff f x i + 64 + s.slotHead (spillOff f x i) * entSize (queueKind (k % 8))) (entSize (queueKind (k % 8))) = false →
      ∃ t, exec (.spillRefill f k) s = .next t ∧ klist (t.fac f).head k = klist x.head k ++
        [entOf (queueKind (k % 8)) (s.mem.read 0 (spillOff f x i + 64 + s.slotHead (spillOff f x i) * entSize (queueKind (k % 8))) (entSize (queueKind (k % 8))))] ∧
        (t.fac f).inq = x.inq ∧ t.mem.t1 = s.mem.t1) ∧
    (∀ k, kget x.ext k = none → exec (.spillRefill f k) s = .next s)

/-- LOAD, SWITCH and INVALIDATE of a facet without a program act on the slot as R108 says: a load stages the image and its end
commits it whole or leaves the slot, a switch waits for the first quiescent moment and gives all credits back, and a slot
in use is refused. A program running in the facet refuses all three from software (R105, R106, R108, R144). The windows
and the spill area of a facet: four bytes of an idle slot are replaced and the slot is invalid until a LOAD; a descriptor
word is staged and the last word commits a descriptor that passes its checks; FCT_SPILL takes a base and size that fit and
clash with none, and else is discarded with the event (R113, R122, R132, R155).
The model's choices: log entry 36. -/
def Obligations.ContextsAndWindowsOfFacets : Prop :=
  (∀ (org : Originator) (s : State) (f n : Nat), s.power = .running → s.facets.length = 72 → f < 72 → n < 4 → s.grants org (fctOff f 8) →
     s.expertOk org = true →
     let x := s.fac f
     (x.sq.running = true → exec (.contextLoad (.reg org) f n) s = .next (s.ctxStatus f 0x12) ∧
       exec (.contextSwitch (.reg org) f n) s = .next (s.ctxStatus f 0x12) ∧ exec (.contextInvalidate (.reg org) f n) s = .next (s.ctxStatus f 0x12)) ∧
     (x.sq.running = false → x.loadRefusal n = none → (s.vread (s.ctxAddrReg f) 4096).good = true → (s.vread (s.ctxAddrReg f) 4096).bad = false →
       s.ctxAddrReg f ≠ windowOff f n →
       ∃ t, exec (.contextLoad (.reg org) f n) s = .next t ∧ (t.fac f) = { x with load := some ⟨n, s.ctxAddrReg f, false, none, (s.vread (s.ctxAddrReg f) 4096).bytes⟩ } ∧
         t.mem = s.mem ∧ ∀ h, h ≠ f → t.fac h = s.fac h) ∧
     (x.sq.running = false → x.active = n → exec (.contextLoad (.reg org) f n) s = .next (s.ctxStatus f 0x12) ∧
       exec (.contextInvalidate (.reg org) f n) s = .next (s.ctxStatus f 0x12)) ∧
     (x.sq.running = false → x.isValid n = true → x.active ≠ n → x.pend = none →
       exec (.contextSwitch (.reg org) f n) s = .next (s.setFac f { x with pend := some (n, false) })) ∧
     (x.sq.running = false → x.isValid n = false → exec (.contextSwitch (.reg org) f n) s = .next (s.ctxStatus f 0x12)) ∧
     (x.sq.running = false → x.active ≠ n → x.load = none → x.pend = none →
       exec (.contextInvalidate (.reg org) f n) s = .next ((s.setFac f { x with valid := x.valid.set n false }).ctxStatus f 0x00)) ∧
     (∀ a i, s.live → x.load = some ⟨n, a, false, none, i⟩ → imageStatus i = none → i.length = 4096 → x.valid.length = 4 → x.source.length = 4 →
       ∃ t, exec (.contextLoadDone f) s = .next t ∧ (t.fac f).isValid n = true ∧ (t.fac f).load = none ∧ t.fld F.FCT_CTX_STATUS_status (fdi f) = 0x00 ∧
         (t.fac f).active = x.active ∧ t.mem = s.mem) ∧
     (∀ a i st, s.live → x.sq.running = false → x.load = some ⟨n, a, false, none, i⟩ → imageStatus i = some st →
       exec (.contextLoadDone f) s = .next ((s.setFac f { x with load := none }).ctxStatus f st)) ∧
     (∀ q, s.live → x.sq.running = false → x.pend = some (n, q) → x.quiescent = true → s.frozen f = false →
       ∃ t, exec (.contextSwitchEffect f) s = .next t ∧ (t.fac f).active = n ∧ (t.fac f).pend = none ∧ (∀ k, (t.fac f).credits k = 16) ∧
         (t.fac f).slots = x.slots ∧ t.fld F.FCT_CTX_STATUS_status (fdi f) = 0x00 ∧ t.mem = s.mem)) ∧
  (∀ (org : Originator) (s : State) (f n m off d : Nat), s.power = .running → s.facets.length = 72 → f < 72 → n < 4 → m < 8 → d < 2 ^ 32 →
     let x := s.fac f
     (off < 4096 → s.grants org (windowOff f n + off / 4 * 4) → x.loadRefusal n ≠ some 0x12 → x.valid.length = 4 →
       ∃ t, exec (.contextWindowWrite org f n off d) s = .next t ∧ (t.fac f).isValid n = false ∧ t = { s with facets := t.facets } ∧
         (t.fac f).slots = cellsWrite 0 x.slots (4096 * n + off / 4 * 4) (toBytes 4 d) ∧ (∀ k, k ≠ n → (t.fac f).isValid k = x.isValid k) ∧
         ∀ h, h ≠ f → t.fac h = s.fac h) ∧
     (off < 4096 → s.grants org (windowOff f n + off / 4 * 4) → x.loadRefusal n = some 0x12 →
       exec (.contextWindowWrite org f n off d) s = .next (s.accessEvent org (windowOff f n + off / 4 * 4) 6)) ∧
     (off < 2048 → s.grants org (fctOff f (0x20000 + 0x800 * m + off / 4 * 4)) → s.expertOk org = true → x.sq.running = false →
       off % 64 < 60 →
       ∃ t, exec (.descriptorWindowWrite org f m off d) s = .next t ∧ (t.fac f).desc = x.desc ∧ klist (t.fac f).dstage (m * 32 + off / 64) ≠ [] ∧
         t = { s with facets := t.facets }) ∧
     (∀ b, off < 2048 → s.grants org (fctOff f (0x20000 + 0x800 * m + off / 4 * 4)) → s.expertOk org = true → x.sq.running = false →
       60 ≤ off % 64 → klist x.dstage (m * 32 + off / 64) = b → b ≠ [] → descOk (spliceBytes b 60 (toBytes 4 d)) = true →
       ∃ t, exec (.descriptorWindowWrite org f m off d) s = .next t ∧ kget (t.fac f).desc (m * 32 + off / 64) = some (spliceBytes b 60 (toBytes 4 d)) ∧
         klist (t.fac f).dstage (m * 32 + off / 64) = [] ∧ t = { s with facets := t.facets }) ∧
     (∀ v, s.grants org (fctOff f 0x1C) → bits v 21 16 ≤ 32 → bits v 10 0 + bits v 21 16 ≤ 2048 → s.spillClash f (bits v 10 0) (bits v 21 16) = false →
       ∃ t, exec (.fctSpillWrite org f v) s = .next t ∧ t.rd (fctOff f 0x1C) = bits v 10 0 + bits v 21 16 * 2 ^ 16 ∧
         (x.ext = [] → (t.fac f).area = bits v 10 0 + bits v 21 16 * 2 ^ 16) ∧ (x.ext ≠ [] → (t.fac f).area = x.area) ∧ t.mem = s.mem) ∧
     (∀ v, s.grants org (fctOff f 0x1C) → 32 < bits v 21 16 → exec (.fctSpillWrite org f v) s = .next (s.accessEvent org (fctOff f 0x1C) 2)))

/-- SCAN_OUT and SCAN_IN at their debug level freeze the facet and begin the transfer, and are refused below it; the transfer out
writes the image of R116 and leaves the facet frozen; RELEASE lets it go on with credits that match its queues (R115 to
R117, R121).
The model's choices: log entry 35. -/
def Obligations.ScansFreezeAndRelease : Prop :=
  ∀ (org : Originator) (s : State) (f : Nat), s.power = .running → s.facets.length = 72 → f < 72 → s.grants org (fctOff f 0x20) →
    let x := s.fac f
    (∀ b, 1 ≤ s.sec.level → x.gated < 2 → x.fenced = false → s.pins.thermTripN = true → x.scan < 2 →
      ∃ t, exec (.scanOut org f b) s = .next t ∧ t.fac f = { x with scan := if b then 3 else 2 } ∧ t.flag F.FCT_SCAN_STATUS_busy (fdi f) = true ∧
        t.frozen f = true ∧ t.mem = s.mem) ∧
    (∀ b, s.sec.level = 0 → exec (.scanOut org f b) s = .next (s.scanStatus f 0x13)) ∧
    (2 ≤ s.sec.level → x.gated < 2 → x.fenced = false → s.pins.thermTripN = true → x.scan < 2 →
      ∃ t, exec (.scanIn org f) s = .next t ∧ t.fac f = { x with scan := 4 } ∧ t.flag F.FCT_SCAN_STATUS_busy (fdi f) = true ∧ t.mem = s.mem) ∧
    (s.sec.level < 2 → exec (.scanIn org f) s = .next (s.scanStatus f 0x13)) ∧
    (∀ b, x.scan = (if b then 3 else 2) → x.spill = none → s.writeFault (s.scanAddr f) (x.scanImage b).length = none →
      exec (.scanTransferDone f) s = .next ((s.vwrite (s.scanAddr f) (x.scanImage b)).scanEnd f x 0x00)) ∧
    (x.scan = 1 → ∃ t, exec (.scanRelease org f) s = .next t ∧ (t.fac f).scan = 0 ∧ t.fld F.FCT_SCAN_STATUS_status (fdi f) = 0x00 ∧
      (t.fac f).inq = x.inq ∧ (t.fac f).outq = x.outq ∧ t.mem = s.mem) ∧
    (2 ≤ x.scan → exec (.scanRelease org f) s = .next (s.scanStatus f 0x14))

/-- A generator makes one trip of its descriptor: a reading one puts the 128 bytes or the scalar at its address into its output
queue, a writing one stores the entry it takes and nothing else; it stalls, counted, without room or without an entry. A
FIFO pair moves one entry in, or its oldest out, in order (R88, R128 to R130).
The model's choices: log entries 31, 34. -/
def Obligations.GeneratorsMakeTrips : Prop :=
  ∀ (s : State) (f mu ag : Nat), s.live → s.facets.length = 72 → f < 72 → mu < 8 → ag < 4 → s.frozen f = false →
    (s.fac f).agOn mu ag = true → ((s.fac f).agRun mu ag).done = false →
    let x := s.fac f
    let d := x.descAt mu (x.agDesc mu ag)
    let z := (descDims d).map (s.dimSize f d)
    let t := tripOf d x.sq.xs x.sq.ordinal z (x.agRun mu ag).trip
    let o := bits (x.agCtl mu ag) 7 6
    let k := qKey (16 + mu) (bits (x.agCtl mu ag) 5 3)
    let fk := mu * 2 + ag / 2
    (bits (x.agCtl mu ag) 2 1 = 0 → (z.any fun p => p.1 = 0) = false →
      (∀ b, x.outRoom (16 + mu) o = true → (t.tok.isSome = true → x.outRoom (16 + mu) 3 = true) → t.padded = false → x.agPlace mu ag t.addr = .byte b →
        o ≠ 3 →
        ∃ u, exec (.agFire f mu ag) s = .next u ∧
          klist (u.fac f).outq (oKey (16 + mu) o) = klist x.outq (oKey (16 + mu) o) ++ [s.agRead (muOff f mu b) (tbit (leAt d 7 1) 0)] ∧
          klist (u.fac f).outq (oKey (16 + mu) 3) = klist x.outq (oKey (16 + mu) 3) ++ (t.tok.toList.map fun c => mkEnt 2 [c] 1 false) ∧
          (u.fac f).agRun mu ag = ⟨(x.agRun mu ag).trip + 1, t.last⟩ ∧ (u.fac f).inq = x.inq ∧ u.mem = s.mem ∧
          u.counter (C.FCT_FIRES + fdi f) = min (2 ^ 48 - 1) (s.counter (C.FCT_FIRES + fdi f) + 1) ∧ ∀ h, h ≠ f → u.fac h = s.fac h) ∧
      (x.outRoom (16 + mu) o = false → exec (.agFire f mu ag) s = .next (s.bump (C.FCT_STALL_OUT + fdi f)))) ∧
    (bits (x.agCtl mu ag) 2 1 = 1 → (z.any fun p => p.1 = 0) = false → (t.tok.isSome = true → x.outRoom (16 + mu) 3 = true) →
      (∀ e y, x.pop k = (some e, y) →
        ∃ u, exec (.agFire f mu ag) s = .next u ∧ (u.fac f).agRun mu ag = ⟨(x.agRun mu ag).trip + 1, t.last⟩ ∧
          (t.padded = true → u.mem = s.mem) ∧ (t.padded = false → u.mem = s.mem.write 0 (muOff f mu t.addr) e.memBytes e.poison) ∧
          ∀ h, h ≠ f → u.fac h = s.fac h) ∧
      (∀ y, x.pop k = (none, y) → exec (.agFire f mu ag) s = .next (s.bump (C.FCT_STALL_IN + fdi f)))) ∧
    (bits (x.agCtl mu ag) 2 1 = 2 →
      (∀ e y, (klist x.fifo fk).length < x.agDepth mu ag → x.pop k = (some e, y) →
        ∃ u, exec (.agFire f mu ag) s = .next u ∧ klist (u.fac f).fifo fk = klist x.fifo fk ++ [e] ∧
          (∀ j, j ≠ fk → klist (u.fac f).fifo j = klist x.fifo j) ∧ ∀ h, h ≠ f → u.fac h = s.fac h) ∧
      (x.agDepth mu ag ≤ (klist x.fifo fk).length → exec (.agFire f mu ag) s = .next (s.bump (C.FCT_STALL_OUT + fdi f)))) ∧
    (bits (x.agCtl mu ag) 2 1 = 3 →
      (∀ e l, klist x.fifo fk = e :: l → x.outRoom (16 + mu) o = true →
        ∃ u, exec (.agFire f mu ag) s = .next u ∧ klist (u.fac f).fifo fk = l ∧
          klist (u.fac f).outq (oKey (16 + mu) o) = klist x.outq (oKey (16 + mu) o) ++ [e] ∧ u.mem = s.mem ∧ ∀ h, h ≠ f → u.fac h = s.fac h) ∧
      (klist x.fifo fk = [] → exec (.agFire f mu ag) s = .next (s.bump (C.FCT_STALL_IN + fdi f))))

/-! ## The facet sequencer and tile counters -/

/-- An instruction that passes its checks goes on: SETX and LOADX write their X register, one that runs tiles is taken in hand
with its counter named and its first claim out, a BARRIER or END passes once its counters are drained for it and waits
until then. One that fails a check stops the program with its status (R135, R140, R142, R143, R149).
The model's choices: log entries 32, 38, 39. -/
def Obligations.InstructionsIssueOrStop : Prop :=
  ∀ (s : State) (f : Nat) (l : Launch) (i : Macro), s.live → s.facets.length = 72 → s.atIssue f l i →
    let q := s.sqr f
    let j := s.judge l i q.xs q.index
    let row := [(1, Instr.matmul f), (2, Instr.gatedFfn f), (3, Instr.attention f), (4, Instr.gateCand f), (5, Instr.copyTile f),
      (0x10, Instr.setx f), (0x11, Instr.loadx f), (0x20, Instr.barrier f), (0x3F, Instr.endInstr f)]
    (∀ c, (i.op, c) ∈ row → hasTiles i.op = true → j.refusal = none →
      ∃ t, exec c s = .next t ∧ ((t.sqr f).cur.map fun y => (y.i, y.m, y.n, y.k, y.t)) = some (i, j.issued.m, j.issued.n, j.issued.k, j.issued.t) ∧
        (t.sqr f).claiming = true ∧ (t.sqr f).index = q.index ∧ kget (t.sqr f).named i.counter = some q.index ∧ (t.sqr f).running = true ∧
        (t.sqr f).xs = q.xs ∧ t.tctrs = s.tctrs ∧ (∀ h, h ≠ f → t.fac h = s.fac h) ∧ (s.flag F.TIER_COND_stage_en = false → t.mem = s.mem)) ∧
    (i.op = 0x10 → j.refusal = none →
      exec (.setx f) s = .next (s.modSq f fun q => { q with xs := q.xs.set i.x i.a, index := q.index + 1 })) ∧
    (i.op = 0x11 → j.refusal = none →
      exec (.loadx f) s = .next (s.modSq f fun q => { q with xs := q.xs.set i.x (s.vle i.a 8), index := q.index + 1 })) ∧
    (i.op = 0x20 → j.refusal = none → s.mayPass f i = true →
      exec (.barrier f) s = .next (s.modSq f fun q => { q with waiting := false, cur := none, index := q.index + 1 })) ∧
    (i.op = 0x3F → j.refusal = none → s.mayPass f i = true →
      ∃ t, exec (.endInstr f) s = .next t ∧ (t.sqr f).running = false ∧ (t.sqr f).status = s.endStatus f ∧ (t.sqr f).named = [] ∧
        (∀ h, h ≠ f → t.fac h = s.fac h)) ∧
    (∀ c, (i.op, c) ∈ row → (i.op = 0x20 ∨ i.op = 0x3F) → j.refusal = none → s.mayPass f i = false →
      ∃ t, exec c s = .next t ∧ (t.sqr f).waiting = true ∧ (t.sqr f).index = q.index ∧ t.mem = s.mem ∧ (∀ h, h ≠ f → t.fac h = s.fac h)) ∧
    (∀ c st, (i.op, c) ∈ row → j.refusal = some st →
      ∃ t, exec c s = .next t ∧ (t.sqr f).running = false ∧ (t.sqr f).status = st ∧ (t.sqr f).index = q.index ∧ (t.sqr f).cur = none ∧
        ∀ h, h ≠ f → t.fac h = s.fac h)

/-- A claim hands out the returned tiles, then the next one, in order, and initialises a free counter; a counter with none left
ends the instruction once its tiles are reported. A finished tile is counted, goes back after a second residue mismatch, and a
COPY's bytes land; a report counts it at its counter, a return gives it to the facet that waited first or back to the
counter (R63, R140, R145 to R149, R357).
The model's choices: log entries 39, 44. -/
def Obligations.TilesAreClaimedFinishedReported : Prop :=
  ∀ (s : State) (f : Nat), s.live → s.facets.length = 72 → f < 72 → s.tctrs.length = 64 → s.rtc.queue.length = 2 →
    let q := s.sqr f
    (∀ i, q.cur = some i → q.claiming = true → q.running = true → ctrOf q.pool i.i.counter < 64 →
      let n := ctrOf q.pool i.i.counter
      let c := s.tc n
      let ix := kgetD q.named i.i.counter q.index
      (∀ r rest, c.state = 1 → c.index = ix → c.ret = r :: rest →
        ∃ t, exec (.tileClaim f) s = .next t ∧ t.tc n = { c with ret := rest } ∧ (∀ k, k ≠ n → t.tc k = s.tc k) ∧ t.mem = s.mem ∧
          ((t.sqr f).ahead = some ⟨n, c.inc, c.index, r⟩ ∨ ∃ tk, (t.sqr f).run = some (⟨n, c.inc, c.index, r⟩, tk))) ∧
      (c.state = 1 → c.index = ix → c.ret = [] → c.next < c.t →
        ∃ t, exec (.tileClaim f) s = .next t ∧ t.tc n = { c with next := c.next + 1 } ∧ (∀ k, k ≠ n → t.tc k = s.tc k) ∧ t.mem = s.mem ∧
          ((t.sqr f).ahead = some ⟨n, c.inc, c.index, c.next⟩ ∨ ∃ tk, (t.sqr f).run = some (⟨n, c.inc, c.index, c.next⟩, tk))) ∧
      (c.state = 0 → i.t ≠ 0 →
        ∃ t, exec (.tileClaim f) s = .next t ∧ t.tc n = { c.init ix i with next := 1 } ∧ t.mem = s.mem ∧
          ((t.sqr f).ahead = some ⟨n, c.inc, ix, 0⟩ ∨ ∃ tk, (t.sqr f).run = some (⟨n, c.inc, ix, 0⟩, tk))) ∧
      (c.state = 1 → c.index = ix → c.ret = [] → c.t ≤ c.next →
        ∃ t, exec (.tileClaim f) s = .next t ∧ t.tctrs = s.tctrs ∧ (t.sqr f).claiming = false ∧
          (q.run = none → q.ahead = none → kget q.named i.i.counter = some q.index → (t.sqr f).cur = none ∧ (t.sqr f).index = q.index + 1) ∧
          (q.run ≠ none → (t.sqr f).exhausted = true ∧ (t.sqr f).index = q.index)) ∧
      (c.state = 1 → c.index < ix → ∃ t, exec (.tileClaim f) s = .next t ∧ t.tctrs = s.tctrs ∧ (t.sqr f).running = false ∧ (t.sqr f).status = St.state)) ∧
    (∀ tl tk i l meet, q.run = some (tl, tk) → q.cur = some i → s.launchOf f = some l → s.frozen f = false →
      (decide (i.i.op = 3) && s.attHeld l i tl.tile) = false → ((s.tileReads i tl.tile).any s.vheld) = false →
      (s.combineMeet l q i tl.tile).1 = false →
      (2 ≤ meet.residue → ∃ u, exec (.tileFinish f meet) s = .next u ∧ (u.sqr f).ret = q.ret ++ [tl] ∧ (u.sqr f).fin = q.fin ∧ u.mem = s.mem) ∧
      (meet.residue < 2 → ∃ u st, exec (.tileFinish f meet) s = .next u ∧
        u.counter (C.FCT_TILES + fdi f) = min (2 ^ 48 - 1) (s.counter (C.FCT_TILES + fdi f) + 1) ∧ (u.sqr f).ret = q.ret ∧
        ((u.sqr f).fin = q.fin ++ [(tl, st)] ∨ ∃ x ∈ nth u.rtc.queue (f / 36) [], x.tile = tl ∧ x.status = st)) ∧
      (∀ sp off kv wr ep eo, i.i.op = 5 → i.fuse = [] → meet = ⟨0, 0, none, false⟩ → s.memoryCanonical → i.m % 64 = 0 →
        s.walk (i.i.c + 65536 * tl.tile) true = .ok sp off s.self kv wr ep eo → sp < 3 →
        (i.i.c + 65536 * tl.tile) % 65536 + min 65536 (i.m - 65536 * tl.tile) ≤ 65536 →
        (∀ j, j < min 65536 (i.m - 65536 * tl.tile) / 64 →
          (s.vread (i.i.a + tl.tile * 65536 + 64 * j) 64).good = true ∧ (s.vread (i.i.a + tl.tile * 65536 + 64 * j) 64).bad = false) →
        ∃ u, exec (.tileFinish f meet) s = .next u ∧ (u.sqr f).fin = q.fin ++ [(tl, St.done)] ∧
          (∀ j, j < min 65536 (i.m - 65536 * tl.tile) / 64 →
            u.mem.read sp (off + 64 * j) 64 = (s.vread (i.i.a + tl.tile * 65536 + 64 * j) 64).bytes) ∧
          (∀ sp' b, sp' < 3 → sp' ≠ sp ∨ b < off ∨ off + min 65536 (i.m - 65536 * tl.tile) ≤ b → u.mem.read sp' b 1 = s.mem.read sp' b 1))) ∧
    (∀ tl st rest, q.fin = (tl, st) :: rest → s.fencing f = false → tl.ctr < 64 →
      let c := s.tc tl.ctr
      (c.inc = tl.inc → ∃ t, exec (.tileReport f) s = .next t ∧ (t.sqr f).fin = rest ∧ (t.tc tl.ctr).done = c.done + 1 ∧
        (t.tc tl.ctr).status = worse c.status st ∧ (t.tc tl.ctr).state = (if c.done + 1 = c.t then 2 else c.state) ∧
        (∀ k, k ≠ tl.ctr → t.tc k = s.tc k) ∧ t.mem = s.mem) ∧
      (c.inc ≠ tl.inc → ∃ t, exec (.tileReport f) s = .next t ∧ (t.sqr f).fin = rest ∧ t.tctrs = s.tctrs ∧ t.mem = s.mem)) ∧
    (q.fin ≠ [] → s.fencing f = true → exec (.tileReport f) s = .next s) ∧
    (∀ tl rest, q.ret = tl :: rest → tl.ctr < 64 → (s.tc tl.ctr).inc = tl.inc →
      ((s.tc tl.ctr).waiters = [] → ∃ t, exec (.tileReturn f) s = .next t ∧ (t.sqr f).ret = rest ∧
        t.tc tl.ctr = { s.tc tl.ctr with ret := (s.tc tl.ctr).ret ++ [tl.tile] } ∧ t.mem = s.mem ∧
        t.counter (C.FCT_TILES_RETURNED + fdi f) = min (2 ^ 48 - 1) (s.counter (C.FCT_TILES_RETURNED + fdi f) + 1)) ∧
      (∀ w ws, (s.tc tl.ctr).waiters = w :: ws → w < 72 → (s.launchOf w).isSome = true →
        ∃ t, exec (.tileReturn f) s = .next t ∧ (t.sqr w).waiting = false ∧ (t.tc tl.ctr).waiters = ws ∧ t.mem = s.mem ∧
          ((t.sqr w).ahead = some tl ∨ ∃ tk, (t.sqr w).run = some (tl, tk))))

/-- A launch starts on the idle members of its pool at index 0 with its 32 counters free; a waiting facet goes on once its
counters are drained; a facet asked to stand down claims no more, unless it is the launch's last; an idle one joins its pool's
launch; a counter is reset unless it runs (R133, R149 to R151, R156, R251, R413).
The model's choices: log entry 57. -/
def Obligations.LaunchesStartAndFacetsMove : Prop :=
  ∀ (s : State), s.live → s.facets.length = 72 → s.tctrs.length = 64 → s.srv.pools.length = 2 →
    (∀ p l rest, p < 2 → nth s.srv.pools p ⟨[], none⟩ = ⟨l :: rest, none⟩ → (s.members p).filter s.idleFacet ≠ [] →
      let fs := (s.members p).filter s.idleFacet
      ∃ t, exec (.launchStart p) s = .next t ∧ nth t.srv.pools p ⟨[], none⟩ = ⟨rest, some { l with facets := fs, began := s.us }⟩ ∧ t.mem = s.mem ∧
        (∀ f ∈ fs, (t.sqr f).running = true ∧ (t.sqr f).index = 0 ∧ (t.sqr f).launch = l.id ∧ (t.sqr f).prog = l.prog ∧ (t.sqr f).xs = l.xs) ∧
        (∀ f, f ∉ fs → t.fac f = s.fac f) ∧
        (∀ c, c < 32 → (t.tc (ctrOf p c)).state = 0 ∧ (t.tc (ctrOf p c)).inc = (s.tc (ctrOf p c)).inc + 1) ∧
        ∀ c, c / 32 ≠ p → t.tc c = s.tc c) ∧
    (∀ f is, f < 72 → (s.sqr f).cur = some is → is.i.op = 0x20 → (s.sqr f).waiting = true → (s.sqr f).running = true → s.mayPass f is.i = true →
      ∃ t, exec (.barrierRelease f) s = .next t ∧ (t.sqr f).waiting = false ∧ (t.sqr f).cur = none ∧ (t.sqr f).index = (s.sqr f).index + 1 ∧
        (∀ c, c < 64 → (t.tc c).waiters = (s.tc c).waiters.erase f) ∧ t.mem = s.mem ∧ ∀ h, h ≠ f → t.fac h = s.fac h) ∧
    (∀ f is, f < 72 → (s.sqr f).cur = some is → s.mayPass f is.i = false → exec (.barrierRelease f) s = .next s) ∧
    (∀ f, f < 72 → (s.fac f).gated = 1 → s.lastActive f = false →
      ∃ t, exec (.standDownRequest f .shutter) s = .next t ∧ (t.sqr f).standing = true ∧ (t.sqr f).claiming = false ∧ (t.sqr f).waiting = false ∧
        (t.fac f).gated = 1 ∧ t.mem = s.mem ∧ ∀ h, h ≠ f → t.fac h = s.fac h) ∧
    (∀ f, f < 72 → (s.fac f).gated = 1 → s.lastActive f = true →
      exec (.standDownRequest f .shutter) s = .next (s.setFac f { s.fac f with gated := 0 })) ∧
    (∀ f, f < 72 → (s.fac f).pool < 3 → exec (.standDownRequest f .focus) s = .next s) ∧
    (∀ f q l, f < 72 → s.idleFacet f = true → (s.fac f).pool < 2 → nth s.srv.pools (s.fac f).pool ⟨[], none⟩ = ⟨q, some l⟩ →
      l.facets.contains f = false → l.facets ≠ [] →
      ∃ t, exec (.facetJoinPool f) s = .next t ∧ (t.sqr f).running = true ∧ (t.sqr f).index = 0 ∧ (t.sqr f).launch = l.id ∧ (t.sqr f).xs = l.xs ∧
        nth t.srv.pools (s.fac f).pool ⟨[], none⟩ = ⟨q, some { l with facets := l.facets ++ [f], bare := false }⟩ ∧ t.mem = s.mem ∧
        ∀ h, h ≠ f → t.fac h = s.fac h) ∧
    (∀ f, f < 72 → s.idleFacet f = true → (s.fac f).pool = 3 → (s.fac f).quiescent = true →
      ∃ t, exec (.facetJoinPool f) s = .next t ∧ (t.fac f).pool = 0 ∧ t.mem = s.mem ∧ ∀ h, h ≠ f → t.fac h = s.fac h) ∧
    (∀ f, f < 72 → s.idleFacet f = false → exec (.facetJoinPool f) s = .next s) ∧
    (∀ org c, c < 64 → s.grants org (0x3300014 + 0x40 * c) → s.expertOk org = true →
      ((s.tc c).state ≠ 1 → exec (.tileCounterReset org c) s = .next (s.setTc c (s.tc c).freed)) ∧
      ((s.tc c).state = 1 → exec (.tileCounterReset org c) s = .next (s.accessEvent org (0x3300014 + 0x40 * c) 6)))

/-! ## The Reticle (block RTC) and Prism (block PRS) -/

/-- An exact sample that agrees releases its held outputs and reports its tile, one that differs with a bad residue sends the
tile back; a fidelity sample enters its layer's history; the age of the fallback window falls by one. FORCE_FALLBACK,
RESTORE and CLEAR act from the layer states of R76 and answer REJ_STATE from the others (R65 to R71, R76).
The model's choices: log entries 23, 45. -/
def Obligations.SamplesAndLayersAct : Prop :=
  ∀ (s : State), s.live → s.facets.length = 72 → s.rtc.queue.length = 2 →
    (∀ die r, die < 2 → nth s.rtc.queue die [] = [] → exec (.reticleSampleDone die r) s = .next s) ∧
    (∀ die r x rest, die < 2 → nth s.rtc.queue die [] = x :: rest → x.exact = true → r.equal = true → x.facet < 72 →
      (∀ w ∈ x.held, w.pkg = s.self) →
      ∃ t, exec (.reticleSampleDone die r) s = .next t ∧ nth t.rtc.queue die [] = rest ∧
        (t.sqr x.facet).fin = (s.sqr x.facet).fin ++ [(x.tile, x.status)] ∧
        t.mem = x.held.foldl (fun m w => m.write w.sp w.off w.bytes w.poison) s.mem ∧
        t.counter C.RTC_SAMPLES = min (2 ^ 48 - 1) (s.counter C.RTC_SAMPLES + 1)) ∧
    (∀ die r x rest, die < 2 → nth s.rtc.queue die [] = x :: rest → x.exact = true → r.equal = false → r.residueOk = false → x.facet < 72 →
      ∃ t, exec (.reticleSampleDone die r) s = .next t ∧ nth t.rtc.queue die [] = rest ∧ (t.sqr x.facet).ret = (s.sqr x.facet).ret ++ [x.tile] ∧
        (t.sqr x.facet).fin = (s.sqr x.facet).fin ∧ t.mem = s.mem ∧
        t.counter C.RTC_EXACT_MISMATCH = min (2 ^ 48 - 1) (s.counter C.RTC_EXACT_MISMATCH + 1)) ∧
    (∀ die r x rest, die < 2 → nth s.rtc.queue die [] = x :: rest → x.exact = false →
      let k := layerKey x.ctx x.gslot x.layer
      ∃ t, exec (.reticleSampleDone die r) s = .next t ∧ nth t.rtc.queue die [] = rest ∧ t.mem = s.mem ∧ t.facets = s.facets ∧
        ((s.rlayer k).reserve = true → (t.rlayer k).hist = ((s.rlayer k).hist * 2 + bit (s.fidelityFails x.ctx x.layer r)) % 256) ∧
        ((s.rlayer k).reserve = false → t.rlayer k = s.rlayer k)) ∧
    exec .fallbackWindowAge s = .next { s with rtc := { s.rtc with window := s.rtc.window - 1 } } ∧
    (∀ org c y, s.grants org 0x3400014 → s.expertOk org = true → c < 16 → y < 256 → s.resident c = true → y < s.layersOf c →
      let k := layerKey c (s.curSlot c) y
      let r := s.rlayer k
      (r.state = 4 → r.reserve = true →
        exec (.forceFallback org c y) s = .next ((s.setRlayer k { r with state := 2 }).setFld F.RTC_CMD_STATUS_status 0x00)) ∧
      (r.state = 3 →
        exec (.restoreLayer org c y) s = .next ((s.setRlayer k { r with restoring := true }).setFld F.RTC_CMD_STATUS_status 0x00)) ∧
      (r.state = 4 → exec (.clearLayer org c y) s = .next ((s.setRlayer k { r with state := 0 }).setFld F.RTC_CMD_STATUS_status 0x00)) ∧
      (r.state ≠ 4 → exec (.forceFallback org c y) s = .next (s.setFld F.RTC_CMD_STATUS_status 0x12) ∧
        exec (.clearLayer org c y) s = .next (s.setFld F.RTC_CMD_STATUS_status 0x12)) ∧
      (r.state ≠ 3 → exec (.restoreLayer org c y) s = .next (s.setFld F.RTC_CMD_STATUS_status 0x12)))

/-- At the home Prism a new candidate list of an open layer is kept, one seen before is dropped, and the last of a token merges
it; an acknowledgement records its outcomes; END goes once every token's outcomes are final; a RETURN fills its combine row
and marks the data present, unless the row timed out; a timeout makes the open rows drops (R168, R169, R180, R184, R185,
R189).
The model's choices: log entries 43, 44. -/
def Obligations.HomePrismGathers : Prop :=
  ∀ (s : State) (h : HomeLayer) (c st y : Nat), s.live → s.homeLayer c st y = some h →
    (∀ p : CandPacket, p.ctx = c → p.step = st → p.layer = y → p.facet < 72 → s.facets.length = 72 →
      let k := kgetD h.toks p.token ⟨[], p.lists, [], false, [], [], false⟩
      let v := validPairs (s.route h.recAddr).n (k.pairs ++ p.pairs)
      (k.merged = true ∨ k.lists.contains p.list = true → exec (.candidatePacket p) s = .next s) ∧
      (k.merged = false → k.lists.contains p.list = false → v.2 = false → k.lists.length + 1 ≠ k.total →
        exec (.candidatePacket p) s =
          .next (s.modHome c st y fun h => { h with toks := kset h.toks p.token { k with lists := k.lists ++ [p.list], pairs := v.1 } })) ∧
      (k.merged = false → k.lists.contains p.list = false → k.lists.length + 1 = k.total → s.prs.inbox = [] →
        ∃ t h' k', exec (.candidatePacket p) s = .next t ∧ t.homeLayer c st y = some h' ∧ kget h'.toks p.token = some k' ∧ k'.merged = true ∧
          t.counter C.PRS_TOKENS = min (2 ^ 48 - 1) (s.counter C.PRS_TOKENS + 1))) ∧
    (∀ a : AckRec, ∀ k i, a.ctx = c → a.step = st → a.layer = y → s.prs.inbox = [] → kget h.toks a.token = some k → a.slots = [i] →
      a.status = St.done → a.outcomes / 4 ^ i % 4 = 0 → i < k.slots.length →
      ∃ t h' k', exec (.ackRec a) s = .next t ∧ t.homeLayer c st y = some h' ∧ h'.waitAcks = h.waitAcks - 1 ∧ kget h'.toks a.token = some k' ∧
        k'.slots[i]?.map (·.out) = some (some 0)) ∧
    (h.mayEnd = true → ∃ t h', exec (.layerEndSend c st y) s = .next t ∧ t.homeLayer c st y = some h' ∧ h'.ended = true) ∧
    (h.mayEnd = false → exec (.layerEndSend c st y) s = .next s) ∧
    (∀ r : ReturnRec, ∀ k x, r.ctx = c → r.step = st → r.layer = y → kget h.toks r.token = some k → k.slots[r.slot]? = some x →
      let e := s.route h.recAddr
      let p := areaRow e.combine e.ret e.nblk (e.maxTok * e.k) (r.token * e.k + r.slot)
      let cc := s.anchorOf e r.token
      (x.out ≠ some 3 → ∃ t, exec (.returnRec r) s = .next t ∧ t.prs = s.prs ∧ t.facets = s.facets ∧
        t.counter C.PRS_RETURNS = min (2 ^ 48 - 1) (s.counter C.PRS_RETURNS + 1) ∧
        t.mem = ((s.vwrite p.1 (padTo (rowData e.ret e.nblk) r.data) r.poison).vwrite p.2 (metaBytes e.nblk cc cc s.self r.token r.slot
          (setBits (s.vle (p.2 + 9) 1) 0 0 1) r.expert (s.vle (p.2 + 12) 4) (r.exps.map BitVec.toNat))).mem) ∧
      (x.out = some 3 → exec (.returnRec r) s = .next s)) ∧
    (∀ tk k, kget h.toks tk = some k →
      let o := (s.combineStates (s.route h.recAddr) tk).zipIdx.filter fun x => x.1 % 4 ≠ 3
      (h.ended = true → o ≠ [] → ∃ t h' k', exec (.returnTimeout c st y tk) s = .next t ∧ t.homeLayer c st y = some h' ∧
        kget h'.toks tk = some k' ∧ (∀ x ∈ o, x.2 < k.slots.length → k'.slots[x.2]?.map (·.out) = some (some 3)) ∧
        t.counter C.PRS_TIMEOUTS = min (2 ^ 48 - 1) (s.counter C.PRS_TIMEOUTS + 1)) ∧
      (h.ended = false ∨ o = [] → exec (.returnTimeout c st y tk) s = .next s))

/-- At the owning Prism a record with one choice that its limit admits takes the next row of its expert, one at the limit is
dropped, and one that R173 refuses is counted; a record of a fifth open layer waits. END is kept by home; a row's last block
written sends its RETURN from a closed layer; a close timeout closes the layer silently (R173 to R178, R185, R189).
The model's choices: log entries 43, 44. -/
def Obligations.OwningPrismAdmits : Prop :=
  ∀ (s : State), s.live → s.prs.inbox = [] →
    (∀ (spill : Bool) (r : DispRec), s.mustWait r = true →
      exec (if spill then .spillRec r else .dispatchRec r) s = .next { s with prs := { s.prs with inbox := [r] } }) ∧
    (∀ (spill : Bool) (r : DispRec) (o : OwnLayer), s.ownLayer r.ctx r.step r.layer = some o → o.closed = false → r.home ≠ s.self →
      (∀ st, s.recordRefusal spill r = some st →
        ∃ t, exec (if spill then .spillRec r else .dispatchRec r) s = .next t ∧
          t.counter C.PRS_REFUSED = min (2 ^ 48 - 1) (s.counter C.PRS_REFUSED + r.choices.length)) ∧
      (∀ c, s.recordRefusal spill r = none → r.choices = [c] → c.slot < 16 → c.loc < 8192 →
        let e := s.route ((s.recAddr r.ctx r.generation r.layer).getD 0)
        let n := kgetD o.count (ownKey r.generation c.loc) 0
        s.vle (e.locals + 8 * c.loc) 8 ≠ 0 →
        (n < min r.cap e.rows → r.mode ≠ .none →
          ∃ t o', exec (if spill then .spillRec r else .dispatchRec r) s = .next t ∧ t.ownLayer r.ctx r.step r.layer = some o' ∧
            kgetD o'.count (ownKey r.generation c.loc) 0 = n + 1 ∧ kgetD o'.recv r.home 0 = kgetD o.recv r.home 0 + 1 ∧
            t.counter C.PRS_ADMITTED = min (2 ^ 48 - 1) (s.counter C.PRS_ADMITTED + 1)) ∧
        (min r.cap e.rows ≤ n → r.mode = .drop →
          ∃ t o', exec (if spill then .spillRec r else .dispatchRec r) s = .next t ∧ t.ownLayer r.ctx r.step r.layer = some o' ∧
            kgetD o'.count (ownKey r.generation c.loc) 0 = n ∧
            t.counter C.PRS_DROPPED = min (2 ^ 48 - 1) (s.counter C.PRS_DROPPED + 1)))) ∧
    (∀ (r : EndRec) (o : OwnLayer), s.ownLayer r.ctx r.step r.layer = some o → o.closed = false → s.resident r.ctx = true →
      s.givenUp r.ctx r.step = false →
      ∃ t o', exec (.endRecord r) s = .next t ∧ t.ownLayer r.ctx r.step r.layer = some o' ∧ kget o'.ends r.home = some r.count) ∧
    (∀ r : EndRec, s.resident r.ctx = false → exec (.endRecord r) s = .next s) ∧
    (∀ c st y gen loc row o a, s.ownLayer c st y = some o → o.closed = true → o.silent = false → kget o.gens gen = some a →
      row < kgetD o.count (ownKey gen loc) 0 →
      let e := s.route a
      let p := areaRow (e.retArea + loc * (e.rows * (rowData e.ret e.nblk + rowMeta e.nblk))) e.ret e.nblk e.rows row
      let m := padTo (rowMeta e.nblk) (s.vread p.2 (rowMeta e.nblk)).bytes
      leAt m 2 2 ≠ s.self →
      ∃ r : ReturnRec, exec (.returnRowWritten c st y gen loc row) s = .next (s.sendPrism (leAt m 2 2) (.ret r)) ∧
        r.ctx = c ∧ r.step = st ∧ r.layer = y ∧ r.generation = gen ∧ r.owner = s.self ∧ r.token = leAt m 4 4 ∧ r.slot = leAt m 8 1 ∧
        r.expert = leAt m 10 2 ∧ r.data = (s.vread p.1 (rowData e.ret e.nblk)).bytes) ∧
    (∀ c st y gen loc row o, s.ownLayer c st y = some o → o.closed = false → exec (.returnRowWritten c st y gen loc row) s = .next s) ∧
    (∀ c st y o, s.ownLayer c st y = some o →
      (o.closed = false → ∃ t o', exec (.closeTimeout c st y) s = .next t ∧ t.ownLayer c st y = some o' ∧ o'.closed = true ∧ o'.silent = true ∧
        t.counter C.PRS_TIMEOUTS = min (2 ^ 48 - 1) (s.counter C.PRS_TIMEOUTS + 1)) ∧
      (o.closed = true → exec (.closeTimeout c st y) s = .next s))

/-! ## The key-value memory (block KVM) and the MMU -/

/-- A KVM command that may run is refused with the status R224 gives it, or has R223's effect: PUBLISH leaves a live directory
entry for its handle, TAKE_UP counts, RETIRE and FORK act and complete, FREE_SEQ clears its slot, PAUSE and RESUME begin
their moves, TOUCH restarts the time-to-live. A command that must wait waits in its turn, but for FREE_SEQ (R223 to R225, R227).
The model's choices: log entries 48, 49, 50. -/
def Obligations.KvmCommandsRunInTurn : Prop :=
  ∀ (s : State) (o : CmdOrigin) (r : KvmRec), s.takes o → s.memoryCanonical → r.handle < 2 ^ 64 →
    (∀ c op, (op, c) ∈ [(1, Instr.publish o r), (2, .takeUp o r), (3, .retire o r), (4, .fork o r), (6, .pause o r), (7, .resume o r), (8, .touch o r)] →
      s.kvmReady = true → s.kvm.waiting ≠ [] ∨ s.kvmHeld op r = true →
      exec c s = .next { s with kvm := { s.kvm with waiting := s.kvm.waiting ++ [(o, op, r)] } }) ∧
    (s.kvm.waiting = [] → s.kvmHeld 1 r = false →
      (∀ st, publishRefusal r s = some st → exec (.publish o r) s = .next (s.complete o 1 st)) ∧
      (publishRefusal r s = none → ∃ t i, exec (.publish o r) s = .next t ∧ t.dget i X.handle = r.handle ∧ t.dget i X.holder = r.slot2 ∧
        bits (t.dget i X.ctx) 5 4 = 1 ∧ t.dget i X.uses = 0)) ∧
    (s.kvm.waiting = [] → s.kvmHeld 2 r = false →
      (∀ st, takeUpRefusal r s = some st → exec (.takeUp o r) s = .next (s.complete o 2 st)) ∧
      (takeUpRefusal r s = none → ∃ t, exec (.takeUp o r) s = .next t ∧
        t.counter C.KVM_TAKE_UPS = min (2 ^ 48 - 1) (s.counter C.KVM_TAKE_UPS + 1))) ∧
    (s.kvm.waiting = [] → s.kvmHeld 3 r = false →
      (∀ st, retireRefusal r s = some st → exec (.retire o r) s = .next (s.complete o 3 st)) ∧
      (∀ i, retireRefusal r s = none → s.dirFind r.handle = some i →
        exec (.retire o r) s = .next ((freeSlot (s.dget i X.holder) (s.dirRetire i)).complete o 3 0x00))) ∧
    (s.kvm.waiting = [] → s.kvmHeld 4 r = false →
      (∀ st, forkRefusal r s = some st → exec (.fork o r) s = .next (s.complete o 4 st)) ∧
      (forkRefusal r s = none → exec (.fork o r) s = .next ((mirrorSlots (s.sctx r.slot) [r.slot2] (forkEffect r s)).complete o 4
        (if s.anyPoison r.slot (s.forkCopies r.slot) then St.uncorrected else St.done)))) ∧
    (s.kvm.waiting = [] →
      (∀ st, freeSeqRefusal r s = some st → exec (.freeSeq o r) s = .next (s.complete o 5 st)) ∧
      (freeSeqRefusal r s = none → ∃ t, exec (.freeSeq o r) s = .next t ∧ (∀ d, d.1 + d.2 ≤ 128 → t.sget r.slot d = 0) ∧
        kget t.kvm.ttl r.slot = none)) ∧
    (s.kvm.waiting = [] → s.kvmHeld 6 r = false →
      (∀ st, pauseRefusal r s = some st → exec (.pause o r) s = .next (s.complete o 6 st)) ∧
      (pauseRefusal r s = none → exec (.pause o r) s =
        .next { s with kvm := { s.kvm with moves := kset s.kvm.moves r.slot ⟨o, 6, r.ttl, false⟩ } })) ∧
    (s.kvm.waiting = [] → s.kvmHeld 7 r = false →
      (∀ st, resumeRefusal r s = some st → exec (.resume o r) s = .next (s.complete o 7 st)) ∧
      (resumeRefusal r s = none → ∃ t, exec (.resume o r) s = .next t ∧ kget t.kvm.moves r.slot = some ⟨o, 7, r.ttl, false⟩ ∧
        kget t.kvm.ttl r.slot = none ∧ t.mem = s.mem)) ∧
    (s.kvm.waiting = [] → s.kvmHeld 8 r = false →
      (∀ st, touchRefusal r s = some st → exec (.touch o r) s = .next (s.complete o 8 st)) ∧
      (touchRefusal r s = none → ∃ t, exec (.touch o r) s = .next t ∧ kget t.kvm.ttl r.slot = some (s.us + r.ttl * 1000000) ∧
        t.mem.t1 = s.mem.t1))

/-- The end of a PAUSE leaves its slot PAUSED with its time-to-live running, that of a RESUME IDLE; a check frees the slots whose
time is over and puts them into the expiry FIFO, which KVM_EXPIRED pops. The page-frame table starts with both pools free,
an epoch advances where asked, and frames whose readers are gone leave quarantine. An MMU invalidation is busy until its end
(R216, R218, R219, R227, R228, R231, R232).
The model's choices: log entries 33, 50. -/
def Obligations.MovesExpiryFramesAndInvalidation : Prop :=
  ∀ (s : State), s.power = .running → s.memoryCanonical →
    (∀ n m, kget s.kvm.moves n = some m → s.kvm.waiting = [] →
      (m.op = 6 → ∃ t, exec (.pauseMoveDone n) s = .next t ∧ t.sget n D.state = Sl.paused ∧ kget t.kvm.ttl n = some (s.us + m.ttl * 1000000) ∧
        kget t.kvm.moves n = none) ∧
      (m.op = 7 → ∃ t, exec (.resumeMoveDone n) s = .next t ∧ t.sget n D.state = Sl.idle ∧ kget t.kvm.moves n = none) ∧
      (m.op ≠ 6 → exec (.pauseMoveDone n) s = .next s) ∧ (m.op ≠ 7 → exec (.resumeMoveDone n) s = .next s)) ∧
    (∀ n x, (s.kvm.ttl.filter fun e => e.2 ≤ s.us) = [(n, x)] → s.kvm.fifo.length < 64 →
      ∃ t, exec .ttlCheck s = .next t ∧ t.sget n D.state = Sl.free ∧ kget t.kvm.ttl n = none ∧ t.kvm.fifo = s.kvm.fifo ++ [n] ∧
        t.counter C.KVM_EXPIRIES = min (2 ^ 48 - 1) (s.counter C.KVM_EXPIRIES + 1)) ∧
    ((s.kvm.ttl.filter fun e => e.2 ≤ s.us) = [] → exec .ttlCheck s = .next s) ∧
    (∀ org n l, s.mayRead org 0x130004C = true → s.served 0x130004C = true → s.kvm.fifo = n :: l →
      ∃ t, exec (.kvmExpiredRead org) s = .next t ∧ t.kvm.fifo = l ∧ t.out = s.out ++ [.readData org 0x130004C (n + 2 ^ 31)] ∧ t.mem = s.mem) ∧
    (s.kvm.init = true → ∃ t, exec .pftInit s = .next t ∧ t.kvm.ready = true ∧ t.kvm.init = false ∧ t.kvm.f1 = poolList 0 s.pool1N ∧
      t.kvm.f2 = poolList s.pool1N s.pool2N ∧ t.kvm.q = ⟨0, 0, 0⟩ ∧ t.mem.t0 = s.mem.t0 ∧ t.mem.t2 = s.mem.t2) ∧
    (s.kvm.init = false → exec .pftInit s = .next s) ∧
    (0 < s.kvm.wanted → s.kvm.readers ((s.kvm.epoch + 2 ^ 32 - 63) % 2 ^ 32) = 0 →
      exec .epochAdvance s = .next { s with kvm := { s.kvm with epoch := (s.kvm.epoch + 1) % 2 ^ 32, wanted := s.kvm.wanted - 1 } }) ∧
    (s.kvm.wanted = 0 ∨ s.kvm.readers ((s.kvm.epoch + 2 ^ 32 - 63) % 2 ^ 32) ≠ 0 → exec .epochAdvance s = .next s) ∧
    (s.kvm.q.n = 1 → precedes 32 (s.pget s.kvm.q.head P.stamp) s.kvm.oldest = true →
      ∃ t, exec .reclaim s = .next t ∧ t.kvm.q.n = 0 ∧ (t.plist (s.poolOf s.kvm.q.head)).n = (s.plist (s.poolOf s.kvm.q.head)).n + 1 ∧
        (t.plist (s.poolOf s.kvm.q.head)).tail = s.kvm.q.head ∧ t.counter C.KVM_FREED = min (2 ^ 48 - 1) (s.counter C.KVM_FREED + 1)) ∧
    (precedes 32 (s.pget s.kvm.q.head P.stamp) s.kvm.oldest = false → exec .reclaim s = .next s) ∧
    (∀ org n, s.grants org 0x3600008 → s.kvm.inv = false → n % 65536 ≠ 0 →
      ∀ c, c ∈ [Instr.invalidateAll org, .invalidateContext org n, .invalidateRange org n] →
      exec c s = .next (({ s with kvm := { s.kvm with inv := true } } : State).setFld F.MMU_INV_STATUS_busy 1)) ∧
    (∀ org n, s.grants org 0x3600008 → s.kvm.inv = true → ∀ c, c ∈ [Instr.invalidateAll org, .invalidateContext org n, .invalidateRange org n] →
      exec c s = .next (s.setFld F.MMU_INV_STATUS_status 0x14)) ∧
    (∀ org n, s.grants org 0x3600008 → s.kvm.inv = false → n % 65536 = 0 →
      exec (.invalidateRange org n) s = .next (s.setFld F.MMU_INV_STATUS_status 0x00)) ∧
    (s.kvm.inv = true → ∃ t, exec .mmuInvDone s = .next t ∧ t.kvm.inv = false ∧ t.flag F.MMU_INV_STATUS_busy = false ∧
      t.fld F.MMU_INV_STATUS_status = 0x00 ∧ t.mem = s.mem) ∧
    (s.kvm.inv = false → exec .mmuInvDone s = .next s)

/-! ## Serving (block ADM) and steps (block SEQ) -/

/-- A SUBMIT that R239 refuses, or that Aperture refuses, completes with its status; an empty one is DONE; an admitted one is QUEUED
at its charge, in the place of a displaced one where the queue is full. CANCEL flags a running request and ends a queued one.
A tick adds each tenant's rate within its cap, the interval follows the starts, a request that waited too long ends (R239 to
R245).
The model's choices: log entries 51, 54, 55. -/
def Obligations.ServingAdmitsAndCancels : Prop :=
  ∀ (s : State), s.power = .running → s.memoryCanonical →
    (∀ o r, s.takes o →
      (∀ st, s.submitRefusal r = some st → exec (.submit o r) s = .next (s.completeWith o 0x20 st (servingPayload st 5 0 0 r.reqTag))) ∧
      (s.submitRefusal r = none → SubmitRec_res r = 0 →
        exec (.submit o r) s = .next (s.completeWith o 0x20 0x00 (servingPayload 0x00 1 0 0 r.reqTag))) ∧
      (s.submitRefusal r = none → SubmitRec_res r ≠ 0 →
        (∀ b, s.admission r.tenant (SubmitRec_res r) = .accept b → ∃ t, exec (.submit o r) s = .next t ∧ t.srv.queue = s.srv.queue ++ [r.slot] ∧
          kget t.srv.reqs r.slot = some ⟨o, s.sget r.slot D.state, false⟩ ∧ t.balOf r.tenant = s.balOf r.tenant - SubmitRec_res r ∧
          t.sget r.slot D.state = Sl.queued ∧ t.counter C.ADM_ADMITTED = min (2 ^ 48 - 1) (s.counter C.ADM_ADMITTED + 1)) ∧
        (s.admission r.tenant (SubmitRec_res r) = .refuse → ∃ t, exec (.submit o r) s = .next t ∧ t.srv = s.srv ∧ t.mem.t1 = s.mem.t1 ∧
          t.counter C.ADM_REFUSED = min (2 ^ 48 - 1) (s.counter C.ADM_REFUSED + 1)) ∧
        (∀ n, s.admission r.tenant (SubmitRec_res r) = .displace n → (s.req n).isSome = true → ∃ t, exec (.submit o r) s = .next t ∧
          t.srv.queue = s.srv.queue.erase n ++ [r.slot] ∧ t.counter C.ADM_DISPLACED = min (2 ^ 48 - 1) (s.counter C.ADM_DISPLACED + 1)))) ∧
    (∀ o r, s.takes o → cancelRsv r = false → r.slot < nSlots → (s.req r.slot).isSome = true → s.sget r.slot D.reqTag = r.reqTag →
      (s.sget r.slot D.state = Sl.prefill ∨ s.sget r.slot D.state = Sl.decode →
        ∃ t, exec (.cancel o r) s = .next t ∧ t.sflag r.slot Fl.cancel = true ∧ t.srv = s.srv) ∧
      (s.sget r.slot D.state = Sl.queued →
        ∃ t, exec (.cancel o r) s = .next t ∧ kget t.srv.reqs r.slot = none ∧ t.srv.queue = s.srv.queue.erase r.slot)) ∧
    (∀ o r, s.takes o → cancelRsv r = false → r.slot < nSlots → s.sget r.slot D.reqTag ≠ r.reqTag →
      exec (.cancel o r) s = .next (s.completeWith o 0x21 0x12 (servingPayload 0x12 8 0 0 r.reqTag))) ∧
    (∃ t, exec .budgetTick s = .next t ∧ t.mem = s.mem ∧ t.srv.queue = s.srv.queue ∧
      (∀ n, n ∈ s.tenants → t.balOf n = min (s.capOf n : Int) (s.balOf n + ((kgetD s.srv.acc n 0 + s.rateOf n) / 1000 : Nat))) ∧
      ∀ n, n ∉ s.tenants → t.balOf n = s.balOf n) ∧
    exec .admissionIntervalTick s = .next (({ s with srv := { s.srv with starts := s.srv.starts.filter fun t => s.us ≤ t + 100000 } } : State).setFld
      F.ADM_INTERVAL_interval (intervalOf (s.srv.starts.filter fun t => s.us ≤ t + 100000))) ∧
    (∀ n, s.srv.queue.filter s.waited = [n] → (s.req n).isSome = true → ∃ t, exec .admissionWaitExpire s = .next t ∧
      kget t.srv.reqs n = none ∧ t.srv.queue = s.srv.queue.erase n ∧ t.counter C.ADM_EXPIRED = min (2 ^ 48 - 1) (s.counter C.ADM_EXPIRED + 1)) ∧
    (s.srv.queue.filter s.waited = [] → exec .admissionWaitExpire s = .next s)

/-- STAGE_GEN that R264 does not refuse puts the generation into the context's free slot and shows it as staged; ACTIVATE_GEN
makes the staged one current; RETIRE_GEN frees one that nothing uses. TRAIN_LAUNCH enqueues its program with its slots, and
ends once no facet runs it (R253, R264).
The model's choices: log entries 58, 60. -/
def Obligations.GenerationsAndTrainingLaunches : Prop :=
  ∀ (s : State), s.power = .running → s.srv.pools.length = 2 →
    (∀ o r, s.takes o →
      (∀ st, s.stageRefusal r = some st → exec (.stageGen o r) s = .next (s.complete o 0x28 st)) ∧
      (s.stageRefusal r = none → ∃ t, exec (.stageGen o r) s = .next t ∧
        t.gen r.ctx (if (s.gen r.ctx 0).isNone then 0 else 1) = some (s.genOf r) ∧ t.fld F.SEQ_CTX_GEN_other (0x40 * r.ctx) = r.generation % 2 ^ 16 ∧
        t.otherRole r.ctx = 1 ∧ t.mem.t1 = s.mem.t1) ∧
      (r.rsv = false → r.ctx < 16 → s.resident r.ctx = true → s.otherRole r.ctx = 1 → s.fld F.SEQ_CTX_GEN_other (0x40 * r.ctx) = r.generation →
        ∃ t, exec (.activateGen o r) s = .next t ∧ t.curGen r.ctx = some r.generation ∧ t.srv = s.srv ∧ t.mem.t1 = s.mem.t1 ∧
          (s.flag F.SEQ_CTX_GEN_STATUS_current_valid (0x40 * r.ctx) = true →
            t.otherRole r.ctx = 2 ∧ t.fld F.SEQ_CTX_GEN_other (0x40 * r.ctx) = s.fld F.SEQ_CTX_GEN_current (0x40 * r.ctx))) ∧
      (r.rsv = false → r.ctx < 16 → s.otherRole r.ctx ≠ 1 → exec (.activateGen o r) s = .next (s.complete o 0x29 0x12)) ∧
      (∀ g, r.rsv = false → r.ctx < 16 → s.resident r.ctx = true → s.genSlot r.ctx r.generation = some g → s.curGen r.ctx ≠ some r.generation →
        s.pinnedTo r.ctx r.generation = 0 → s.latchedBy r.ctx r.generation = false →
        ∃ t, exec (.retireGen o r) s = .next t ∧ t.gen r.ctx g = none ∧ t.otherRole r.ctx = 0 ∧ t.mem.t1 = s.mem.t1) ∧
      (r.rsv = false → r.ctx < 16 → s.curGen r.ctx = some r.generation → exec (.retireGen o r) s = .next (s.complete o 0x2A 0x12))) ∧
    (∀ o r, s.takes o →
      (∀ st, s.trainRefusal r = some st → exec (.trainLaunch o r) s = .next (s.complete o 0x2C st)) ∧
      (s.trainRefusal r = none → ∃ t l, exec (.trainLaunch o r) s = .next t ∧
        (nth t.srv.pools r.pool ⟨[], none⟩).queue = (nth s.srv.pools r.pool ⟨[], none⟩).queue ++ [l] ∧ l.id = s.srv.nextLaunch ∧ l.ctx = r.ctx ∧
        l.prog = r.prog ∧ l.train = some ⟨o, s.trainSlots r⟩)) ∧
    (∀ c p l, p < 2 → s.flag F.GLB_STATUS_fatal = false → (nth s.srv.pools p ⟨[], none⟩).run = some l → l.ctx = c → l.facets = [] → l.bare = false →
      l.train.isSome = true → s.mirrorHeld c = false → (nth s.srv.pools (1 - p) ⟨[], none⟩).run = none →
      ∃ t, exec (.trainLaunchEnd c) s = .next t ∧ (nth t.srv.pools p ⟨[], none⟩).run = none) ∧
    (∀ c, (nth s.srv.pools 0 ⟨[], none⟩).run = none → (nth s.srv.pools 1 ⟨[], none⟩).run = none → exec (.trainLaunchEnd c) s = .next s)

/-- A step that may be built is built with the series' next number, waiting for its censuses; each census is taken once, and the
missing ones count as 0 after the timeout. With its censuses its work lists are written and its launch enqueued; a step of no
token is over at once and the series waits idle. The commit of a step whose launches ended, and the end of a draft pass, make
its number the last. The Focus controller moves facets by its rule (R246 to R249, R255, R258, R262).
The model's choices: log entries 52, 53, 56, 57. -/
def Obligations.StepsBuildLaunchAndCommit : Prop :=
  ∀ (s : State) (c k : Nat), s.live → c < 16 → k < 2 → s.srv.pools.length = 2 →
    (∀ g, s.mayBuild c = true → (s.series c k).built = none → (s.series c k).idle = false →
      (k = 0 → s.flag F.SEQ_CTX_CTRL_is_draft (0x40 * c) = false) → s.gen c (s.latch c k) = some g →
      ∃ t x, exec (.stepBuild c k) s = .next t ∧ (t.series c k).built = some x ∧ x.num = s.nextStep c k ∧ x.gen = g.num ∧ x.gslot = s.latch c k ∧
        x.phase = 0 ∧ x.tokens = entTokens x.ents ∧ (t.series c (1 - k)).built = (s.series c (1 - k)).built) ∧
    (s.mayBuild c = false ∨ (s.series c k).built.isSome = true ∨ (s.series c k).idle = true → exec (.stepBuild c k) s = .next s) ∧
    ((s.series c k).idle = true →
      exec (.idleWaitExpire c k) s = exec (.stepBuild c k) (s.setSeries c k { s.series c k with idle := false })) ∧
    ((s.series c k).idle = false → exec (.idleWaitExpire c k) s = .next s) ∧
    (∀ src step m p b, bit (tbit step 31) = k → (s.peersOf c).contains src = true → s.isLost src = false → p ≤ 8 → (s.series c k).built = some b →
      b.num = step → b.phase = 0 →
      ((b.census.any fun e => e.1 = src) = false →
        exec (.stepCensus src step c m p) s = .next (s.modStep c k fun b => { b with census := b.census ++ [(src, m, p)] })) ∧
      ((b.census.any fun e => e.1 = src) = true → exec (.stepCensus src step c m p) s = .next s)) ∧
    (∀ src step m p, s.isLost src = true → exec (.stepCensus src step c m p) s = .next (s.bump C.FAB_HB_FENCED)) ∧
    (∀ b, (s.series c k).built = some b → b.phase = 0 →
      ∃ t b', exec (.censusTimeout c k) s = .next t ∧ (t.series c k).built = some b' ∧ t.censusDone c b' = true ∧ t.mem = s.mem ∧
        t.counter C.SEQ_CENSUS_TIMEOUT =
          min (2 ^ 48 - 1) (s.counter C.SEQ_CENSUS_TIMEOUT + ((s.peersOf c).filter fun p => !b.census.any fun e => e.1 = p).length)) ∧
    ((s.series c k).built = none → exec (.censusTimeout c k) s = .next s ∧ exec (.stepLaunchWrite c k) s = .next s ∧ exec (.stepCommit c k) s = .next s) ∧
    (∀ x g, (s.series c k).built = some x → x.phase = 0 → s.censusDone c x = true → x.counted.total ≠ 0 → x.pass = 255 → s.gen c x.gslot = some g →
      s.kvm.waiting = [] → (∀ e ∈ x.ents, e.slot < nSlots ∧ e.dead = false) → (k = 1 → ∀ e ∈ x.ents, s.promptFails e = false) → (k = 0 → x.pair = none) →
      ∃ t l y, exec (.stepLaunchWrite c k) s = .next t ∧
        (nth t.srv.pools k ⟨[], none⟩).queue = (nth s.srv.pools k ⟨[], none⟩).queue ++ [l] ∧ l.ctx = c ∧
        l.prog = (if k = 1 then g.prefill else g.decode) ∧ nth l.xs 3 0 = x.num ∧ nth l.xs 4 0 = g.table ∧
        (t.series c k).built = some y ∧ y.phase = 2 ∧ y.left = 1 ∧ y.total = x.counted.total) ∧
    (∀ x, (s.series c k).built = some x → x.phase = 0 → s.censusDone c x = true → x.counted.total = 0 → x.pass = 255 → s.mirrorHeld c = false →
      ∃ t, exec (.stepLaunchWrite c k) s = .next t ∧ (t.series c k).built = none ∧ (t.series c k).idle = true ∧
        t.counter C.SEQ_STEPS = min (2 ^ 48 - 1) (s.counter C.SEQ_STEPS + 1)) ∧
    (∀ x, (s.series c k).built = some x → x.phase = 2 → x.left = 0 → x.pass = 255 → s.mirrorHeld c = false →
      ∃ t, exec (.stepCommit c k) s = .next t ∧ (t.series c k).built = none ∧ (t.series c k).idle = false ∧
        t.fld (stepReg k) (0x40 * c) = x.num % 2 ^ 32 ∧ t.counter C.SEQ_STEPS = min (2 ^ 48 - 1) (s.counter C.SEQ_STEPS + 1)) ∧
    (∀ x, (s.series c k).built = some x → x.phase ≠ 2 ∨ x.left ≠ 0 ∨ s.mirrorHeld c = true → exec (.stepCommit c k) s = .next s) ∧
    (∀ x d y, (s.series c 0).built = some x → x.pair = some d → (s.series d 0).built = some y → x.phase = 1 → y.pair = some c → y.pass ≠ 255 →
      y.phase = 2 → y.left = 0 →
      ∃ t, exec (.draftPassNext c) s = .next t ∧ t.counter C.SEQ_STEPS = min (2 ^ 48 - 1) (s.counter C.SEQ_STEPS + 1)) ∧
    ((s.series c 0).built = none → exec (.draftPassNext c) s = .next s) ∧
    (s.flag F.SEQ_FOCUS_CTRL_enable = false → s.moving = false → (s.members 1).length = s.fld F.SEQ_FOCUS_LIM_np_fixed →
      exec .focusPeriod s = .next { s with srv := { s.srv with tdec := 0 } }) ∧
    (s.flag F.SEQ_FOCUS_CTRL_enable = true → s.moving = false → s.srv.hold ≤ 1 → s.focusToward = 2 → s.facets.length = 72 →
      ∃ t, exec .focusPeriod s = .next t ∧ t.srv.tdec = 0 ∧ t.srv.toward = 2 ∧ t.srv.hold = s.fld F.SEQ_FOCUS_CTRL_hold_periods ∧ t.mem = s.mem ∧
        (∀ f ∈ s.moveFacets 1, (t.fac f).pool = 3) ∧ ∀ f, f ∉ s.moveFacets 1 → t.fac f = s.fac f)

/-! ## Residency (block RES), the tiers and the Condenser (block TIER) -/

/-- LOAD_CTX, UNLOAD_CTX, PROMOTE, DEMOTE and PREEMPT move a context between its states as R287 to R294 say, with their
refusals; a copy front copies the next pages; each of the slow ones completes by its own end. While a DEMOTE or PREEMPT has
not completed, other commands wait in order.
The model's choices: log entry 65. -/
def Obligations.ResidencyCommandsRun : Prop :=
  ∀ (s : State) (o : CmdOrigin) (c : Nat), s.takes o → c < 16 →
    (∀ i x r, (i, x) ∈ [(Instr.loadCtx o r, ResCmd.load r), (.unloadCtx o c false, .unload c false), (.promote o c false, .promote c false),
        (.demote o c false, .demote c false), (.acquire o c 0 true false, .acquire c 0 true false), (.release o c 0 false, .release c 0 false)] →
      s.resBusy = true ∨ s.res.queue ≠ [] → exec i s = .next { s with res := { s.res with queue := s.res.queue ++ [(o, x)] } }) ∧
    (s.resBusy = false → s.res.queue = [] →
      (∀ r, r.ctx = c →
        (∀ st, s.loadCtxRefusal r = some st → exec (.loadCtx o r) s = .next (s.complete o 0x30 st)) ∧
        (s.loadCtxRefusal r = none → r.generation < 2 ^ 16 → ∃ t, exec (.loadCtx o r) s = .next t ∧ t.resState c = (if r.home = 1 then 3 else 1) ∧
          t.fld F.RES_CTX_STATE_home (0x80 * c) = r.home ∧ t.curGen c = some r.generation ∧ (t.gen c 0).map (·.num) = some r.generation ∧
          t.gen c 1 = none ∧ t.runs c = false)) ∧
      (s.resident c = true → s.runs c = false → s.noSteps c = true → s.loading c = false →
        ∃ t, exec (.unloadCtx o c false) s = .next t ∧ t.resState c = 0 ∧ t.curGen c = none ∧ t.gen c 0 = none ∧ t.gen c 1 = none ∧
          kget t.res.ctxs c = none) ∧
      (s.resident c = false ∨ s.runs c = true → exec (.unloadCtx o c false) s = .next (s.complete o 0x31 0x12)) ∧
      (s.resState c = 1 → s.loading c = false → s.shareTaken c = false →
        ∃ t, exec (.promote o c false) s = .next t ∧ t.resState c = 2 ∧ t.fld F.RES_CTX_FRONT_pages (0x80 * c) = 0 ∧
          t.resCtx c = { s.resCtx c with promote := some o, copyPoison := false }) ∧
      (s.resState c ≠ 1 → exec (.promote o c false) s = .next (s.complete o 0x32 0x12)) ∧
      (s.resState c = 3 → s.fld F.RES_CTX_STATE_home (0x80 * c) = 2 →
        ∃ t, exec (.demote o c false) s = .next t ∧ t.resState c = 3 ∧ t.resCtx c = { s.resCtx c with demote := some o }) ∧
      (s.resState c ≠ 3 → exec (.demote o c false) s = .next (s.complete o 0x33 0x12)) ∧
      (s.resident c = true → ∃ t, exec (.preempt o c false) s = .next t ∧ (t.resCtx c).preempt = some o ∧ (t.resCtx c).preemptAt.isSome = true ∧
        t.runs c = false) ∧
      (s.resident c = false → exec (.preempt o c false) s = .next (s.complete o 0x34 0x12))) ∧
    (s.resState c = 2 → s.fld F.RES_CTX_FRONT_pages (0x80 * c) < s.weightPages c →
      let f := s.fld F.RES_CTX_FRONT_pages (0x80 * c)
      s.loadHeld 2 (s.imageBase c + 65536 * f) 65536 = false → s.mem.poisoned 2 (s.imageBase c + 65536 * f) 65536 = false →
      ∃ t, exec (.promoteFrontAdvance c 1) s = .next t ∧ t.fld F.RES_CTX_FRONT_pages (0x80 * c) = f + 1 ∧ t.resState c = 2 ∧
        t.mem = s.mem.write 1 (s.shareBase c + 65536 * f) (s.mem.read 2 (s.imageBase c + 65536 * f) 65536)) ∧
    (∀ p, s.resState c ≠ 2 → exec (.promoteFrontAdvance c p) s = .next s) ∧
    (∀ q, (s.resCtx c).promote = some q → s.weightPages c ≤ s.fld F.RES_CTX_FRONT_pages (0x80 * c) →
      ∃ t, exec (.promoteCopyDone c) s = .next t ∧ t.resState c = 3 ∧ (t.resCtx c).promote = none ∧
        t.counter C.RES_PROMOTIONS = min (2 ^ 48 - 1) (s.counter C.RES_PROMOTIONS + 1)) ∧
    (s.fld F.RES_CTX_FRONT_pages (0x80 * c) < s.weightPages c → exec (.promoteCopyDone c) s = .next s) ∧
    (∀ q, (s.resCtx c).demote = some q → s.noSteps c = true → s.res.queue = [] →
      ∃ t, exec (.demoteComplete c) s = .next t ∧ t.resState c = 1 ∧ (t.resCtx c).demote = none) ∧
    (s.noSteps c = false → exec (.demoteComplete c) s = .next s) ∧
    (∀ q, (s.resCtx c).preempt = some q → s.launchesQuiet c = true → s.mirrorHeld c = false → s.res.queue = [] →
      ∃ t, exec (.preemptComplete c) s = .next t ∧ (t.resCtx c).preempt = none ∧
        t.counter C.RES_PREEMPTS = min (2 ^ 48 - 1) (s.counter C.RES_PREEMPTS + 1)) ∧
    (s.launchesQuiet c = false → exec (.preemptComplete c) s = .next s)

/-- A free semaphore is acquired, a held one waited for in order or refused; a release and the horizon of a pre-empted holder give
it to the oldest waiter. An interference window starts over with its end. Tier 2 is enabled where it is as its population
code says; a scrub read counts, corrects or poisons. A ring fills its next free slot, and the unit lands there (R275, R278,
R279, R284, R296 to R298).
The model's choices: log entries 62, 64, 66. -/
def Obligations.SemaphoresScrubsAndFills : Prop :=
  ∀ (s : State), s.power = .running →
    (∀ o c n, s.takes o → s.resBusy = false → s.res.queue = [] → c < 16 → n < 4096 → s.resident c = true → (s.sem n).broken ≠ some c →
      ((s.sem n).holder = none → ∀ w, exec (.acquire o c n w false) s = .next ((s.setSem n { s.sem n with holder := some c }).complete o 0x38 0x00)) ∧
      (∀ h, (s.sem n).holder = some h → h ≠ c → (s.sem n).wait.any (fun w => w.1 = c) = false →
        ((s.sem n).wait.length < 16 → ∃ t, exec (.acquire o c n true false) s = .next t ∧ (t.sem n).holder = some h ∧
          (t.sem n).wait = (s.sem n).wait ++ [(c, o, s.us)]) ∧
        (16 ≤ (s.sem n).wait.length → exec (.acquire o c n true false) s = .next (s.complete o 0x38 0x14)) ∧
        exec (.acquire o c n false false) s = .next (s.complete o 0x38 0x14)) ∧
      ((s.sem n).holder = some c →
        exec (.acquire o c n true false) s = .next (s.complete o 0x38 0x12) ∧
        ((s.sem n).wait = [] → ∃ t, exec (.release o c n false) s = .next t ∧ (t.sem n).holder = none ∧ ∀ m, m ≠ n → t.sem m = s.sem m) ∧
        (∀ w rest, (s.sem n).wait = w :: rest → ∃ t, exec (.release o c n false) s = .next t ∧ (t.sem n).holder = some w.1 ∧ (t.sem n).wait = rest ∧
          ∀ m, m ≠ n → t.sem m = s.sem m)) ∧
      ((s.sem n).holder ≠ some c → exec (.release o c n false) s = .next (s.complete o 0x39 0x12))) ∧
    (∀ n h w rest, (s.sem n).holder = some h → (s.sem n).wait = w :: rest → (s.resCtx h).preemptAt.isSome = true →
      ∃ t, exec (.semHorizonExpire n) s = .next t ∧ (t.sem n).holder = some w.1 ∧ (t.sem n).broken = some h ∧ (t.sem n).wait = rest ∧
        t.counter C.RES_REVOKED = min (2 ^ 48 - 1) (s.counter C.RES_REVOKED + 1)) ∧
    (∀ n, (s.sem n).wait = [] → exec (.semHorizonExpire n) s = .next s) ∧
    (∃ t, exec .interferenceWindow s = .next t ∧ t.res.wall = [] ∧ t.res.interf = [] ∧ t.res.since = s.us ∧ t.mem = s.mem ∧ t.res.sems = s.res.sems) ∧
    (∀ ok, s.boot.t2Done = false → s.boot.image.isSome = true → s.boot.t2Code ≠ 0 →
      ∃ t, exec (.tier2TrainingDone (modulesOf s.boot.t2Code) ok) s = .next t ∧ t.flag F.TIER_T2_STATUS_enabled = ok ∧ t.boot.t2Done = true ∧
        t.fld F.TIER_T2_STATUS_modules = modulesOf s.boot.t2Code) ∧
    (∀ m ok, s.boot.t2Done = true → exec (.tier2TrainingDone m ok) s = .next s) ∧
    (∀ line, s.scrubPaused = false → s.flag F.TIER_SCRUB_enable = true → s.inSpace 1 (64 * line) 64 = true → s.readHeld 1 (64 * line) 64 = false →
      (∃ t, exec (.tierScrubRead 1 line 0) s = .next t ∧ t.mem = s.mem ∧ t.counter C.TIER_T1_READ = min (2 ^ 48 - 1) (s.counter C.TIER_T1_READ + 1)) ∧
      (∃ t, exec (.tierScrubRead 1 line 1) s = .next t ∧ t.mem = s.mem ∧ t.counter C.TIER_T1_CE = min (2 ^ 48 - 1) (s.counter C.TIER_T1_CE + 1)) ∧
      (∀ k, 2 ≤ k → ∃ t, exec (.tierScrubRead 1 line k) s = .next t ∧ t.mem = s.mem.markPoison 1 (64 * line) 64 ∧
        t.counter C.TIER_T1_UE = min (2 ^ 48 - 1) (s.counter C.TIER_T1_UE + 1))) ∧
    (∀ tier line k, s.scrubPaused = true → exec (.tierScrubRead tier line k) s = .next s) ∧
    (∀ f r i t u, s.live → f < 72 → s.facets.length = 72 → (s.fac f).ring = some r → (s.sqr f).cur = some i →
      (s.ringNow f r i).nextUnit (((s.sqr f).run.map fun y => y.1.tile).toList ++ ((s.sqr f).ahead.map (·.tile)).toList) = some (t, u) →
      (s.ringNow f r i).slotFree = true →
      ∃ v, exec (.condenserFillStart f) s = .next v ∧ v.mem = s.mem ∧
        (v.fac f).ring.map (·.units) = some ((s.ringNow f r i).units ++ [(t, u, r.first + r.next, 0)]) ∧
        (v.fac f).ring.map (·.next) = some ((r.next + 1) % r.slots) ∧ ∀ h, h ≠ f → v.fac h = s.fac h) ∧
    (∀ f, s.live → f < 72 → (s.fac f).ring = none → exec (.condenserFillStart f) s = .next s ∧ exec (.unitFillDone f) s = .next s) ∧
    (∀ f r i t u slot k, s.live → f < 72 → s.facets.length = 72 → (s.fac f).ring = some r → (s.sqr f).cur = some i → i.i.op ≠ 2 →
      (r.units.find? fun u => u.2.2.2 = 0) = some (t, u, slot, k) →
      let p := nth (s.tileUnits i t) u (0, 0)
      s.vheld p = false → (s.vread p.1 p.2).good = true → (s.vread p.1 p.2).bad = false →
      ∃ v, exec (.unitFillDone f) s = .next v ∧ v.mem = s.mem.write 0 (muOff f r.mu (slot * 65536)) (s.vread p.1 p.2).bytes ∧
        (v.fac f).ring = some (r.filled t u) ∧ v.counter C.TIER_UNITS = min (2 ^ 48 - 1) (s.counter C.TIER_UNITS + 1) ∧ ∀ h, h ≠ f → v.fac h = s.fac h)

/-! ## Links of the fabric (block FAB) -/

/-- A port trains from DETECT to HOLD, a third failure in a row takes it DOWN; HOLD exchanges IDENT frames and leaves for ACTIVE
with the expected peer ready, for ISOLATED with another; a retrain is asked for, lost lanes are spared where they may be, and a
retrain that fails or finds another peer ends in DOWN (R328 to R330, R334, R394, R395). Each step moves the port it names only, and
out of its states it does nothing.
The model's choices: log entries 71, 72. -/
def Obligations.LinksTrainAndIdentify : Prop :=
  ∀ (s : State) (p : Nat), s.power = .running → p < 12 → s.fab.ports.length = 12 →
    let others := fun (t : State) => (∀ q, q < 12 → q ≠ p → t.portState q = s.portState q) ∧ t.mem = s.mem ∧ t.kvm = s.kvm
    (∀ lanes, s.portEnabled p = true → s.portState p = 0 ∨ s.portState p = 1 ∨ s.portState p = 7 → s.trainWidth p ≠ 0 →
      lanes &&& laneMask (s.trainWidth p) = laneMask (s.trainWidth p) →
      ∃ t, exec (.linkDetect p lanes) s = .next t ∧ t.portState p = 2 ∧ (t.fport p).width = s.trainWidth p ∧ others t) ∧
    (∀ lanes, s.portEnabled p = false → exec (.linkDetect p lanes) s = .next s) ∧
    (s.portState p = 2 → ∃ t, exec (.linkEqualiseDone p) s = .next t ∧ t.portState p = 3 ∧ others t) ∧
    (s.portState p ≠ 2 → exec (.linkEqualiseDone p) s = .next s) ∧
    (s.portState p = 3 → ∃ t, exec (.linkLockDone p) s = .next t ∧ t.portState p = 4 ∧
      t.fld F.FAB_P_STATUS_width (0x10000 * p) = (s.fport p).width % 4 ∧ others t) ∧
    (s.portState p = 6 → ∃ t, exec (.linkLockDone p) s = .next t ∧ t.portState p = 5 ∧ (t.fport p).fails = 0 ∧ others t) ∧
    (s.portState p = 2 ∨ s.portState p = 3 →
      ((s.fport p).fails < 2 → ∃ t, exec (.linkTrainFail p) s = .next t ∧ t.portState p = 1 ∧ (t.fport p).fails = (s.fport p).fails + 1 ∧ others t) ∧
      (2 ≤ (s.fport p).fails → ∃ t, exec (.linkTrainFail p) s = .next t ∧ t.portState p = 7 ∧ (t.fport p).fails = 0 ∧ others t)) ∧
    (s.portState p = 4 → ∃ t g, exec (.identSendTick p) s = .next t ∧
      t.out = s.out ++ [.ctl p 1 g [s.appliance, s.self, p, 0xB0, bit s.identReady]] ∧ t.fab = s.fab ∧ t.regs = s.regs ∧ others t) ∧
    (s.portState p ≠ 4 → exec (.identSendTick p) s = .next s) ∧
    (∀ r, r.package < 256 → r.port < 16 → s.portState p = 4 →
      (s.identReady = false → ∃ t, exec (.ident p r) s = .next t ∧ t.portState p = 4 ∧ (t.fport p).seen = some r.appliance ∧
        t.flag F.FAB_P_STATUS_peer_ready (0x10000 * p) = r.ready ∧ others t) ∧
      (s.identReady = true → r.appliance = s.appliance → (r.package, r.port) = s.peerOf p →
        ∃ t, exec (.ident p r) s = .next t ∧ t.portState p = (if r.ready then 5 else 4) ∧ others t) ∧
      (s.identReady = true → r.appliance ≠ s.appliance ∨ (r.package, r.port) ≠ s.peerOf p →
        ∃ t, exec (.ident p r) s = .next t ∧ t.portState p = 8 ∧ t.flag F.FAB_P_STATUS_mismatch (0x10000 * p) = true ∧ others t)) ∧
    (∀ r, r.package < 256 → r.port < 16 → s.portState p = 6 → r.appliance ≠ s.appliance →
      ∃ t, exec (.ident p r) s = .next t ∧ t.portState p = 7 ∧ (t.fport p).kept = [] ∧ others t) ∧
    (∀ r, s.portState p ≠ 4 → s.portState p ≠ 6 → exec (.ident p r) s = .next s) ∧
    (s.portState p = 5 →
      (∃ t, exec (.lockLoss p) s = .next t ∧ t.portState p = 6 ∧ (t.fport p).cred = [] ∧ (t.fport p).kept = (s.fport p).kept ∧
        t.counter (C.FAB_P_RETRAINS + 0x10000 * p) = min (2 ^ 48 - 1) (s.counter (C.FAB_P_RETRAINS + 0x10000 * p) + 1) ∧ others t) ∧
      (∀ w, w % 4 < 2 → ∃ t, exec (.retrainReq p w) s = .next t ∧ t.portState p = 6 ∧
        (t.fport p).width = (if w % 4 = 1 then 1 else s.trainWidth p) ∧ others t) ∧
      (∀ org, s.grants org (0x1810000 + 0x10000 * p) → ∃ t, exec (.portRetrain org p) s = .next t ∧ t.portState p = 6 ∧ others t)) ∧
    (s.portState p ≠ 5 → exec (.lockLoss p) s = .next s) ∧
    (∀ org, s.grants org (0x1810000 + 0x10000 * p) → s.portState p = 8 →
      ∃ t, exec (.portRetrain org p) s = .next t ∧ t.portState p = 1 ∧ t.flag F.FAB_P_STATUS_mismatch (0x10000 * p) = false ∧ others t) ∧
    (s.portState p = 6 → ∃ t, exec (.retrainLimitExpire p) s = .next t ∧ t.portState p = 7 ∧ (t.fport p).kept = [] ∧ others t) ∧
    (s.portState p ≠ 6 → exec (.retrainLimitExpire p) s = .next s) ∧
    (s.portState p = 5 → ∀ c,
      ((∀ l, nth c l 0 ≤ 256 * s.fld F.FAB_P_LANE_lane_limit (0x10000 * p)) →
        exec (.laneErrorWindow p c 0) s = .next (s.bump (C.FAB_P_FEC_SYMBOLS + 0x10000 * p) (c.foldl (· + ·) 0))) ∧
      (∀ l, l < 8 → tbit (laneMask (s.fld F.FAB_P_STATUS_width (0x10000 * p))) l = true → tbit (s.fld F.FAB_P_LANE_failed (0x10000 * p)) l = false →
        256 * s.fld F.FAB_P_LANE_lane_limit (0x10000 * p) < nth c l 0 →
        ∃ t, exec (.laneErrorWindow p c 0) s = .next t ∧ tbit (t.fld F.FAB_P_LANE_failed (0x10000 * p)) l = true ∧
          (s.flag F.FAB_P_LANE_spare_en (0x10000 * p) = false → t.portState p = 7) ∧
          (s.flag F.FAB_P_LANE_spare_en (0x10000 * p) = true → t.portState p = 6 ∨ t.portState p = 7) ∧ others t))

/-- A frame that goes out is a resend first, else a granted flit, numbered, kept for its acknowledgement and at the cost of a
credit, else a control frame; HOLD and RETRAIN send control frames. A frame that comes is taken in order: the next flit joins its
packet, a later or broken one is asked for again, one that breaks the rules retrains the port. Reserved credits go back when their
context is quiet (R295, R331 to R335, R368).
The model's choices: log entry 71. -/
def Obligations.FramesCarryFlitsAndCredits : Prop :=
  ∀ (s : State) (p : Nat), s.power = .running → p < 12 → s.fab.ports.length = 12 →
    let frame := fun (t : State) => (∀ q, q < 12 → q ≠ p → t.fport q = s.fport q) ∧ t.mem = s.mem ∧ t.regs = s.regs
    (s.portState p = 5 →
      (∀ k l, (s.fport p).again = k :: l →
        ∃ t g, exec (.frameSend p) s = .next t ∧ (t.fport p).again = l ∧ t.out = s.out ++ [.flit p g k.hdr] ∧ g.fpos = k.fpos ∧ g.ctl = false ∧
          g.ack = ((s.fport p).expect + 4095) % 4096 ∧ (t.fport p).kept = (s.fport p).kept ∧ frame t) ∧
      (∀ vc i x, (s.fport p).again = [] → (s.fport p).kept.length < 512 → s.grantFlit p = some (vc, i, x) →
        let k : KeptFlit := ⟨(s.fport p).next, x.hdr, decide (x.sent = 0), decide (x.hdr.flits ≤ x.sent + 1)⟩
        ∃ t g, exec (.frameSend p) s = .next t ∧ (t.fport p).next = ((s.fport p).next + 1) % 4096 ∧ (t.fport p).kept = (s.fport p).kept ++ [k] ∧
          t.out = s.out ++ [.flit p g x.hdr] ∧ g.fpos = k.fpos ∧ g.vc = x.hdr.vc ∧ g.phase = x.hdr.hops ∧ g.first = k.first ∧ g.last = k.last ∧
          (x.hdr.job = 0 → kgetD (t.fport p).cred (8 * x.hdr.vc + x.hdr.hops) 0 = kgetD (s.fport p).cred (8 * x.hdr.vc + x.hdr.hops) 0 - 1) ∧
          t.counter (C.FAB_P_TX_FLITS + 0x10000 * p) = min (2 ^ 48 - 1) (s.counter (C.FAB_P_TX_FLITS + 0x10000 * p) + 1) ∧ frame t) ∧
      ((s.fport p).again = [] → 512 ≤ (s.fport p).kept.length ∨ s.grantFlit p = none →
        ∃ t g, exec (.frameSend p) s = .next t ∧ t.out = s.out ++ [.ctl p 0 g []] ∧ g.ctl = true ∧ g.nak = (s.fport p).naking ∧
          (t.fport p).naking = false ∧ (t.fport p).kept = (s.fport p).kept ∧ frame t)) ∧
    (s.portState p = 4 ∨ s.portState p = 6 → ∃ g, exec (.frameSend p) s = .next (s.emit (.ctl p 0 g [])) ∧ g.nak = false ∧ g.crCount = 0) ∧
    (¬(s.portState p = 4 ∨ s.portState p = 5 ∨ s.portState p = 6) →
      exec (.frameSend p) s = .next s ∧ ∀ g h, exec (.dataFlitReceive p g h) s = .next s) ∧
    (∀ g h, s.portState p = 5 →
      (g.fec = false → ∃ t, exec (.dataFlitReceive p g h) s = .next t ∧ (t.fport p).naking = true ∧ (t.fport p).expect = (s.fport p).expect ∧
        (t.fport p).inb = (s.fport p).inb ∧
        t.counter (C.FAB_P_FEC_UNCORR + 0x10000 * p) = min (2 ^ 48 - 1) (s.counter (C.FAB_P_FEC_UNCORR + 0x10000 * p) + 1) ∧ frame t) ∧
      (g.fec = true → g.good = false → ∃ t, exec (.dataFlitReceive p g h) s = .next t ∧ (t.fport p).naking = true ∧
        (t.fport p).expect = (s.fport p).expect ∧ (t.fport p).inb = (s.fport p).inb ∧
        t.counter (C.FAB_P_CRC + 0x10000 * p) = min (2 ^ 48 - 1) (s.counter (C.FAB_P_CRC + 0x10000 * p) + 1) ∧ frame t) ∧
      (g.fec = true → g.good = true → s.tagBad p g = true → ∃ t, exec (.dataFlitReceive p g h) s = .next t ∧ t.portState p = 6 ∧
        (t.fport p).inb = (s.fport p).inb ∧ (t.fport p).expect = (s.fport p).expect ∧
        t.counter (C.FAB_P_PROTOCOL + 0x10000 * p) = min (2 ^ 48 - 1) (s.counter (C.FAB_P_PROTOCOL + 0x10000 * p) + 1) ∧ t.mem = s.mem) ∧
      (g.fec = true → g.good = true → s.tagBad p g = false → g.nak = false → g.ctl = false →
        (g.fpos = (s.fport p).expect → (s.fport p).holds g.vc g.phase < s.creditsOf g.vc → (g.last || g.trunc) = false → g.first = true →
          ∃ t, exec (.dataFlitReceive p g h) s = .next t ∧ (t.fport p).expect = ((s.fport p).expect + 1) % 4096 ∧ (t.fport p).naking = false ∧
            (t.fport p).inb = (s.fport p).inb ++ [⟨{ h with trunc := h.trunc || g.trunc }, g.vc, g.phase, 1, false, g.trunc⟩] ∧
            t.counter (C.FAB_P_RX_FLITS + 0x10000 * p) = min (2 ^ 48 - 1) (s.counter (C.FAB_P_RX_FLITS + 0x10000 * p) + 1) ∧ frame t) ∧
        (precedes 12 (s.fport p).expect g.fpos = true → g.fpos ≠ (s.fport p).expect →
          ∃ t, exec (.dataFlitReceive p g h) s = .next t ∧ (t.fport p).naking = true ∧ (t.fport p).expect = (s.fport p).expect ∧
            (t.fport p).inb = (s.fport p).inb ∧ frame t))) ∧
    (∀ c, c < 16 → s.flag F.FAB_CTX_RSV_held (8 * c) = true → s.rsvQuiet c = true →
      ∃ t, exec (.creditReservationReturn c) s = .next t ∧ t.flag F.FAB_CTX_RSV_held (8 * c) = false ∧ t.mem = s.mem ∧
        ∀ q vc ph, q < 12 → (vc = 2 ∨ vc = 3) → ph < 5 →
          kgetD (t.fport q).cred (8 * vc + ph) 0 = kgetD (s.fport q).cred (8 * vc + ph) 0 + kgetD (s.fport q).rsv (rsvKey c vc ph) 0 ∧
          kgetD (t.fport q).rsv (rsvKey c vc ph) 0 = 0) ∧
    (∀ c, s.flag F.FAB_CTX_RSV_held (8 * c) = false ∨ s.rsvQuiet c = false → exec (.creditReservationReturn c) s = .next s)

/-- A packet for another package leaves its input buffer for the output of its next hop, counted as one hop more; one of a lost
package is dropped and counted. The group link map takes what a member sends of its ports and is sent to every other member; a
planned route change takes effect when everything sent before it is answered (R341 to R345, R379).
The model's choices: log entry 70. -/
def Obligations.PacketsAndRoutesMove : Prop :=
  ∀ s : State, s.power = .running →
    (∀ i h p via, i < 12 → h.dst ≠ s.self → h.dst ≠ 255 → clsOf h.ptype ≠ 0 ∨ h.dst / 9 = s.self / 9 → s.isLost h.src = false →
      h.dst / 9 < s.fld F.FAB_ID_groups → phaseUsed h.vc (h.hops + 1) = true →
      (s.leaveBuffer h).nextPort { h with hops := h.hops + 1 } = some (p, via) →
      exec (.packetForward i h) s = .next ((s.leaveBuffer h).putOut p i { h with hops := h.hops + 1, via := via })) ∧
    (∀ i h, h.dst = s.self ∨ h.dst = 255 → exec (.packetForward i h) s = .next s) ∧
    (∀ i h, h.dst ≠ s.self → h.dst ≠ 255 → clsOf h.ptype ≠ 0 → s.isLost h.src = true → h.ptype ≠ 0x21 →
      exec (.packetForward i h) s = .next ((s.leaveBuffer h).bump C.FAB_HB_FENCED)) ∧
    (exec .linkStateTick s = .next ((((List.range 9).filter fun m => m ≠ s.self % 9).map fun m => s.self / 9 * 9 + m).foldl
      (fun s d => s.sendWords d 0x22 [((List.range 12).map fun p => if s.portState p = 5 then 2 ^ p else 0).foldl (· + ·) 0]) s)) ∧
    (∀ src g, s.isLost src = false → src / 9 = s.self / 9 → src ≠ s.self →
      ∃ t, exec (.linkState src g) s = .next t ∧ t.fld F.FAB_GMAP_m_group (4 * (src % 9)) = g % 256 ∧
        t.fld F.FAB_GMAP_m_global (4 * (src % 9)) = g / 256 % 16 ∧
        (∀ m, m < 9 → m ≠ src % 9 → t.fld F.FAB_GMAP_m_group (4 * m) = s.fld F.FAB_GMAP_m_group (4 * m)) ∧ t.mem = s.mem) ∧
    (∀ src g, s.isLost src = true → exec (.linkState src g) s = .next (s.bump C.FAB_HB_FENCED)) ∧
    (∀ src g, s.isLost src = false → src / 9 ≠ s.self / 9 ∨ src = s.self → exec (.linkState src g) s = .next s) ∧
    (∀ d, d < 144 → s.flag F.FAB_EPOCH_p_draining (4 * d) = true → (s.sendOf d 0).unacked = [] → (s.sendOf d 5).unacked = [] →
      (s.sendOf d 0).wait = [] → (s.sendOf d 5).wait = [] → s.fab.reqs = [] →
      ∃ t, exec (.routeEpochSwitch d) s = .next t ∧ t.flag F.FAB_EPOCH_p_draining (4 * d) = false ∧
        t.fld F.FAB_EPOCH_p_epoch (4 * d) = (s.fld F.FAB_EPOCH_p_epoch (4 * d) + 1) % 2 ^ 16 ∧
        kget t.fab.routes d = some (s.routeCode d) ∧
        t.counter C.FAB_ROUTE_CHANGES = min (2 ^ 48 - 1) (s.counter C.FAB_ROUTE_CHANGES + 1) ∧ t.mem = s.mem) ∧
    (∀ d, s.flag F.FAB_EPOCH_p_draining (4 * d) = false ∨ (s.sendOf d 0).unacked ≠ [] → exec (.routeEpochSwitch d) s = .next s)

/-! ## The fabric's operations (block FAB) -/

/-- A LOAD, STORE, ATOMIC, BULK_WRITE or BULK_READ of the next number is taken at its destination: refused with an answer and without
effect, or handed to the home agent, which performs each input's oldest operation: the store's bytes are written, the load's bytes or
the atomic's previous value go back. An answer, bulk data or a batch finds the request of its tag, and what has none is late (R35,
R349, R352 to R355, R359 to R362).
The model's choices: log entries 30, 73, 74. -/
def Obligations.FabricRequestsArrive : Prop :=
  ∀ s : State, s.power = .running →
    let next := fun (h : PktHdr) (pt : Nat) => s.isLost h.src = false ∧ h.trunc = false ∧ h.ptype = pt ∧ h.vc = vcOf pt ∧ h.dst = s.self ∧
      s.tornJob h.job = false ∧ (s.recvOf h.src s.self (clsOf pt)).gapped = false ∧ h.seq = (s.recvOf h.src s.self (clsOf pt)).base ∧
      h.seq ∉ (s.recvOf h.src s.self (clsOf pt)).marks
    let road := fun (d : Nat) => d ≠ s.self ∧ (s.fixedPort s.self d).isSome = true ∧ d / 9 < s.fld F.FAB_ID_groups ∧ (s.sendOf d 1).wait = [] ∧
      (s.sendOf d 1).unacked.length < 4096
    let answers := fun (t : State) (h : PktHdr) (b : RespBody) => ∃ g, .packet g (.resp b) ∈ t.out ∧ g.ptype = 4 ∧ g.dst = h.src ∧ g.rtag = h.rtag
    (∀ i k h r, (i, k) ∈ [(Instr.fabLoad h r, 1), (.fabStore h r, 2), (.fabAtomic h r, 3)] → next h k →
      (s.memRefusal h r = none → r.len ≠ 0 →
        ∃ t, exec i s = .next t ∧ t.mem = s.mem ∧ (t.recvOf h.src s.self 0).base = (h.seq + 1) % 2 ^ 32 ∧
          kgetD t.fab.home (s.homeInput h.src) [] = kgetD s.fab.home (s.homeInput h.src) [] ++ [.mem h r]) ∧
      (∀ st, s.memRefusal h r = some st → ∃ t, exec i s = .next t ∧ t.mem = s.mem ∧ t.fab.home = s.fab.home ∧
        (road h.src → answers t h ⟨st, respKind k r.noReturn, r.addr, 0, [], false⟩))) ∧
    (∀ h r, next h 5 →
      (s.bulkRefusal h r = none → r.len ≠ 0 → ∃ t, exec (.bulkWrite h r) s = .next t ∧ t.mem = s.mem ∧
        kgetD t.fab.home (s.homeInput h.src) [] = kgetD s.fab.home (s.homeInput h.src) [] ++ [.bulk h r]) ∧
      (∀ st, s.bulkRefusal h r = some st → ∃ t, exec (.bulkWrite h r) s = .next t ∧ t.mem = s.mem ∧ t.fab.home = s.fab.home ∧
        (road h.src → answers t h ⟨st, 2, r.addr, 0, [], false⟩))) ∧
    (∀ h r, next h 6 → s.bulkRefusal h r = none → r.len ≠ 0 →
      (256 ≤ s.fab.bulks.length → ∃ t, exec (.bulkRead h r) s = .next t ∧ t.fab.bulks = s.fab.bulks ∧ t.mem = s.mem ∧
        (road h.src → answers t h ⟨0x14, 3, r.addr, 0, [], false⟩)) ∧
      (s.fab.bulks.length < 256 → s.readHeld (bits r.addr 55 52) (r.addr % 2 ^ 52) r.len = true →
        ∃ t, exec (.bulkRead h r) s = .next t ∧ t.fab.bulks = s.fab.bulks ++ [(h, r)] ∧ t.mem = s.mem) ∧
      (s.fab.bulks.length < 256 → s.readHeld (bits r.addr 55 52) (r.addr % 2 ^ 52) r.len = false →
        s.mem.poisoned (bits r.addr 55 52) (r.addr % 2 ^ 52) r.len = false →
        ∃ t, exec (.bulkRead h r) s = .next t ∧ t.fab.bulks = s.fab.bulks ∧ t.mem = s.mem ∧
          (road h.src → answers t h ⟨0, 3, r.addr, 0, [], false⟩))) ∧
    (∀ i o rest, kgetD s.fab.home i [] = o :: rest →
      (s.homeWaits o = true → ∃ t, exec (.homeAgentPerform i) s = .next t ∧ t.fab = s.fab ∧ t.mem = s.mem ∧ t.regs = s.regs) ∧
      (∀ h r, o = .mem h r → s.homeWaits o = false → bits r.addr 55 52 ≠ 3 → s.mirIdle →
        (h.ptype = 1 → ∃ t, exec (.homeAgentPerform i) s = .next t ∧ t.mem = s.mem ∧ kgetD t.fab.home i [] = rest ∧
          (s.mem.poisoned (bits r.addr 55 52) (r.addr % 2 ^ 52) r.len = false → road h.src →
            answers t h ⟨0, 0, r.addr, 0, s.mem.read (bits r.addr 55 52) (r.addr % 2 ^ 52) r.len, false⟩)) ∧
        (h.ptype = 2 → ∃ t, exec (.homeAgentPerform i) s = .next t ∧ kgetD t.fab.home i [] = rest ∧
          t.mem = s.mem.write (bits r.addr 55 52) (r.addr % 2 ^ 52) (slice r.data 0 r.len) r.poison) ∧
        (h.ptype = 3 → ∃ t, exec (.homeAgentPerform i) s = .next t ∧ kgetD t.fab.home i [] = rest ∧
          t.mem = s.mem.write (bits r.addr 55 52) (r.addr % 2 ^ 52)
            (toBytes r.len (atomicNew r.aop r.len (s.mem.le (bits r.addr 55 52) (r.addr % 2 ^ 52) r.len) r.opnd0 r.opnd1)))) ∧
      (∀ h r, o = .bulk h r → s.homeWaits o = false → r.poison = [] → s.mirIdle → ∃ t, exec (.homeAgentPerform i) s = .next t ∧ kgetD t.fab.home i [] = rest ∧
        t.mem = s.mem.write (bits r.addr 55 52) (r.addr % 2 ^ 52) r.data)) ∧
    (∀ i, kgetD s.fab.home i [] = [] → exec (.homeAgentPerform i) s = .next s) ∧
    (∀ h r, next h 7 →
      (kget s.fab.reqs h.rtag = none → ∃ t, exec (.bulkData h r) s = .next t ∧ t.mem = s.mem ∧
        t.counter C.FAB_LATE = min (2 ^ 48 - 1) (s.counter C.FAB_LATE + 1)) ∧
      (∀ q, kget s.fab.reqs h.rtag = some q → h.rtag ≠ 0 → q.kind = 6 → r.off + r.data.length ≤ q.len → r.poison = [] → s.shd.loads = [] →
        ∃ t, exec (.bulkData h r) s = .next t ∧ t.mem = s.mem.write (bits (q.ret + r.off) 55 52) ((q.ret + r.off) % 2 ^ 52) r.data)) ∧
    (∀ h r, next h 4 →
      (kget s.fab.reqs h.rtag = none → r.kind ≠ 2 → r.kind ≠ 4 → ∃ t, exec (.fabResponse h r) s = .next t ∧ t.mem = s.mem ∧ t.facets = s.facets ∧
        t.counter C.FAB_LATE = min (2 ^ 48 - 1) (s.counter C.FAB_LATE + 1)) ∧
      (∀ q, kget s.fab.reqs h.rtag = some q → h.rtag ≠ 0 → r.status = 0x15 → s.us < q.at_ + 1000000 →
        ∃ t, exec (.fabResponse h r) s = .next t ∧ kget t.fab.reqs h.rtag = some { q with backing := true, status := 0x15, ended := false } ∧
          t.mem = s.mem)) ∧
    (∀ h e, next h 8 → s.fab.tag + 1 < 2 ^ 32 → e.op = 1 ∨ e.op = 2 ∨ e.op = 3 → ∃ t, exec (.gwBatch h [e]) s = .next t ∧ t.fab.tag = s.fab.tag + 1) ∧
    (∀ h e, next h 8 → e.op = 0x82 → e.src = s.self → (s.sendOf e.dst 0).wait = [] →
      ∃ t, exec (.gwBatch h [e]) s = .next t ∧ (t.sendOf e.dst 0).unacked = (s.sendOf e.dst 0).unacked.filter fun u => u.1 ≠ e.seq) ∧
    (∀ y dir l, dir < 2 → kgetD s.fab.batches (2 * y + dir) [] = l → l ≠ [] →
      ∃ t, exec (.gwBatchClose y dir) s = .next t ∧ kgetD t.fab.batches (2 * y + dir) [] = [] ∧ t.mem = s.mem ∧
        t.counter C.FAB_GW_BATCHES = min (2 ^ 48 - 1) (s.counter C.FAB_GW_BATCHES + 1)) ∧
    (∀ y dir, kgetD s.fab.batches (2 * y + dir) [] = [] → exec (.gwBatchClose y dir) s = .next s)

/-- An acknowledgement removes every packet below its base; a fence covers the streams of its destination and ends when all before it
is acknowledged, or with ERR_UNCORRECTED; a request that gets no answer ends and its peer is suspected; a request told to wait goes
again until it has waited a second. A teardown vector acts once: its nonce is remembered, its dead packages are lost, the contexts of
its job are torn down (R350, R357, R363 to R366, R378, R379).
The model's choices: log entries 25, 73. -/
def Obligations.FabricRequestsEnd : Prop :=
  ∀ s : State, s.power = .running →
    (∀ src d l c, s.isLost src = false → s.shd.loads = [] → s.mirIdle → c < 5 → (∀ e ∈ s.fab.sends, e.2.wait = []) →
      ∃ t, exec (.e2eAck src d l) s = .next t ∧ t.mem = s.mem ∧
        (t.sendOf d c).unacked = (s.sendOf d c).unacked.filter fun u => !precedes 32 u.1 (nth l c 0)) ∧
    (∀ src d l, s.isLost src = true → exec (.e2eAck src d l) s = .next (s.bump C.FAB_HB_FENCED)) ∧
    (∀ src n, kget s.fab.pend src = some n → ∃ t, exec (.e2eAckDelayExpire src) s = .next t ∧ kget t.fab.pend src = none ∧ t.mem = s.mem) ∧
    (∀ src, kget s.fab.pend src = none → exec (.e2eAckDelayExpire src) s = .next s) ∧
    (∀ org d, s.grants org 0x1800034 →
      (s.flag F.FAB_FENCE_STATUS_busy = false → ∃ t, exec (.fabFence org d) s = .next t ∧ t.fab.fence = some ⟨s.fenceOver (d % 256), 0⟩ ∧
        t.flag F.FAB_FENCE_STATUS_busy = true ∧ t.fab.sends = s.fab.sends ∧ t.mem = s.mem) ∧
      (s.flag F.FAB_FENCE_STATUS_busy = true → exec (.fabFence org d) s = .next (s.setFld F.FAB_FENCE_STATUS_status 0x14))) ∧
    (∀ f, s.fab.fence = some f → f.status < 256 → f.open_.all s.fenceMet = true →
      ∃ t, exec .fenceComplete s = .next t ∧ t.fab.fence = none ∧ t.fld F.FAB_FENCE_STATUS_status = f.status ∧
        t.flag F.FAB_FENCE_STATUS_busy = false ∧ t.mem = s.mem) ∧
    (∀ f, s.fab.fence = some f → f.open_.all s.fenceMet = false →
      exec .fenceComplete s = .next s ∧
      ∃ t, exec (.fenceTimeout none) s = .next t ∧ t.fab.fence = none ∧ t.fld F.FAB_FENCE_STATUS_status = 0x31 ∧
        t.flag F.FAB_FENCE_STATUS_busy = false ∧ t.mem = s.mem) ∧
    (s.fab.fence = none → exec .fenceComplete s = .next s ∧ exec (.fenceTimeout none) s = .next s) ∧
    (∀ f, f < 72 → s.openFor f ≠ [] → ∃ t, exec (.fenceTimeout (some f)) s = .next t ∧ t.openFor f = [] ∧ t.mem = s.mem ∧ t.regs = s.regs) ∧
    (∀ f, s.openFor f = [] → exec (.fenceTimeout (some f)) s = .next s) ∧
    (∀ tag r, kget s.fab.reqs tag = some r → FabReq_timed r = true →
      ∃ t, exec (.fabricRequestTimeout tag) s = .next t ∧ t.counter C.FAB_TIMEOUTS = min (2 ^ 48 - 1) (s.counter C.FAB_TIMEOUTS + 1) ∧
        (s.shd.loads = [] → kget t.fab.reqs tag = none ∧ t.mem = s.mem) ∧
        (r.dst < 144 → s.fld F.FAB_HB_STATE_p_state (4 * r.dst) = 1 → t.fld F.FAB_HB_STATE_p_state (4 * r.dst) = 2)) ∧
    (∀ tag, kget s.fab.reqs tag = none → exec (.fabricRequestTimeout tag) s = .next s ∧ exec (.retryBackoffExpire tag) s = .next s) ∧
    (∀ tag r, kget s.fab.reqs tag = some r → r.backing = true → s.shd.loads = [] →
      (r.at_ + 1000000 ≤ s.us → ∃ t, exec (.retryBackoffExpire tag) s = .next t ∧ kget t.fab.reqs tag = none ∧ t.mem = s.mem) ∧
      (s.us < r.at_ + 1000000 → ∃ t, exec (.retryBackoffExpire tag) s = .next t ∧
        (∀ q, kget t.fab.reqs tag = some q → q.tries = r.tries + 1 ∧ q.backing = false) ∧
        t.counter C.FAB_NOT_READY = min (2 ^ 48 - 1) (s.counter C.FAB_NOT_READY + 1))) ∧
    (∀ tag r, kget s.fab.reqs tag = some r → r.backing = false → exec (.retryBackoffExpire tag) s = .next s) ∧
    (∀ a v, a = .window .boot ∨ (∃ p, a = .port p) → s.grants .boot 0x1800080 →
      (v.nonce = 0 ∨ v.nonce ∈ s.fab.nonces → exec (.teardownVector a v) s = .next s) ∧
      (v.nonce ≠ 0 → v.nonce ∉ s.fab.nonces → v.nonce < 2 ^ 32 → v.job < 2 ^ 16 →
        ∃ t, exec (.teardownVector a v) s = .next t ∧ v.nonce ∈ t.fab.nonces ∧ t.fld F.FAB_TD_STATUS_nonce = v.nonce ∧
          t.fld F.FAB_TD_INFO_job = v.job ∧ t.flag F.FAB_TD_INFO_done = true ∧
          t.counter C.FAB_TEARDOWNS = min (2 ^ 48 - 1) (s.counter C.FAB_TEARDOWNS + 1) ∧
          (v.job = 0 → s.mir.unsafe_ = [] → s.shd.loads = [] → ∀ p, p < 144 → p ≠ s.self → tbit v.dead p = true → t.isLost p = true) ∧
          (v.dead = 0 → v.job ≠ 0 → s.shd.loads = [] → (∀ c, s.noSteps c = true) → (∀ p ∈ s.srv.pools, p.queue = [] ∧ p.run = none) →
            ∀ c, c < 16 → s.fld F.FAB_CTX_JOB_job (8 * c) = v.job → t.flag F.FAB_CTX_JOB_torn (8 * c) = true ∧ t.runs c = false)))

/-! ## Failures and recovery (blocks FAB, KVM and FCT) -/

/-- A period sends heartbeats and adds to every watched peer's missed count; a heartbeat heard clears it. A peer silent too long becomes
SUSPECT, then LOST and in the lost mask, at once where it says FATAL; the mask takes what a heartbeat names and is cleared by command. A
package that hears nobody isolates itself; the fatal condition takes every port down (R376 to R381).
The model's choices: log entry 75. -/
def Obligations.PeersAreWatched : Prop :=
  ∀ s : State, s.live → s.mir.unsafe_ = [] →
    (s.flag F.FAB_HB_enable = false ∨ s.identReady = false → exec .heartbeatTick s = .next s) ∧
    (s.flag F.FAB_HB_enable = true → s.identReady = true →
      ∃ t, exec .heartbeatTick s = .next t ∧ t.fab.periods = (s.fab.periods + 1) % 2 ^ 32 ∧ t.mem = s.mem ∧
        (∀ p, p < 144 → s.peerState p ≠ 0 → t.missed p = min 255 (s.missed p + 1) ∧ t.peerState p = s.peerState p) ∧
        (∀ p, p < 144 → p / 9 = s.self / 9 → p ≠ s.self → s.peerState p = 0 → t.peerState p = 1) ∧
        (s.globalPorts = [] → (∀ p, p < 144 → s.peerState p ≠ 1) → (∀ p, p < 144 → p / 9 = s.self / 9 → p ≠ s.self → s.peerState p ≠ 0) →
          (∃ p, p < 144 ∧ s.peerState p ≠ 0) → s.fld F.FAB_HB_lost_n ≤ s.fab.alone + 1 → s.fld F.FAB_HB_STATUS_self ≠ 3 →
          t.fld F.FAB_HB_STATUS_self = 3 ∧ ∀ c, c < 16 → t.runs c = false)) ∧
    (∀ src m, src < 144 → m.appliance ≠ s.appliance ∨ 3 < m.state → exec (.heartbeat src m) s = .next (s.raise E.fabricProtocol src (d0 := 0x21))) ∧
    (∀ src m, src < 144 → m.appliance = s.appliance → m.state ≤ 3 →
      (s.peerState src = 0 → s.isLost src = false → exec (.heartbeat src m) s = .next s) ∧
      (s.peerState src = 1 ∨ s.peerState src = 2 → m.state ≠ 2 →
        ∃ t, exec (.heartbeat src m) s = .next t ∧ t.missed src = 0 ∧ t.peerState src = 1 ∧
          t.fld F.FAB_HB_STATE_p_count (4 * src) = m.count % 2 ^ 16 ∧ (∀ p, p < 144 → p ≠ s.self → tbit m.lost p = true → t.isLost p = true) ∧
          (s.isLost src = true → t.counter C.FAB_HB_FENCED = min (2 ^ 48 - 1) (s.counter C.FAB_HB_FENCED + 1)) ∧ t.mem = s.mem) ∧
      (s.peerState src = 1 ∨ s.peerState src = 2 → m.state = 2 → ∃ t, exec (.heartbeat src m) s = .next t ∧ t.peerState src = 3 ∧ t.isLost src = true)) ∧
    (∀ p, p < 144 →
      (s.peerState p = 1 → ∃ t, exec (.peerSuspectTimeout p) s = .next t ∧ t.peerState p = 2 ∧
        t.counter C.FAB_HB_SUSPECT = min (2 ^ 48 - 1) (s.counter C.FAB_HB_SUSPECT + 1) ∧ t.mem = s.mem) ∧
      (s.peerState p ≠ 1 → exec (.peerSuspectTimeout p) s = .next s) ∧
      (s.peerState p = 2 → ∃ t, exec (.peerLostTimeout p) s = .next t ∧ t.peerState p = 3 ∧ t.isLost p = true ∧
        t.counter C.FAB_HB_LOST = min (2 ^ 48 - 1) (s.counter C.FAB_HB_LOST + 1) ∧ t.mem = s.mem) ∧
      (s.peerState p ≠ 2 → exec (.peerLostTimeout p) s = .next s) ∧
      (∀ org, s.grants org 0x1802420 → ∃ t, exec (.hbClear org p) s = .next t ∧ t.isLost p = false ∧ (∀ q, q < 144 → q ≠ p → t.isLost q = s.isLost q) ∧
        (s.peerState p = 3 → t.peerState p = 2 ∧ t.missed p = 0) ∧ (s.peerState p ≠ 3 → t.peerState p = s.peerState p) ∧ t.mem = s.mem)) ∧
    (∀ org, s.grants org 0x1802420 → ∃ t, exec (.isolateClear org) s = .next t ∧ t.fld F.FAB_HB_STATUS_self ≤ 1 ∧ t.fab.alone = 0 ∧ t.mem = s.mem ∧
      t.cnts = s.cnts) ∧
    exec .fatalStop s = .next s ∧
    (∀ u : State, u.power = .running → u.flag F.GLB_STATUS_fatal = true → u.fab.ports.length = 12 →
      ∃ t, exec .fatalStop u = .next t ∧ t.txn.isOpen = false ∧ t.mem = u.mem ∧ ∀ p, p < 12 → t.portState p = 0 ∨ t.portState p = 7)

/-- The next published mirror entry of a ring is applied to its slot's entry; a peer that does not acknowledge is suspended. RECOVER turns
a context's expert maps and serving set away from dead packages and names the next steps; ADOPT_ALL takes the live entries into empty
slots; DROP_MIRROR empties the rings of a source and RESYNC seeds anew. A facet is fenced by command or by its limits, with at least four
unfenced facets left on its die, and unfenced by command (R385 to R390, R396 to R399).
The model's choices: log entries 59, 76, 77, 78. -/
def Obligations.MirrorsRestartAndFences : Prop :=
  ∀ s : State, s.live →
    (∀ n e, s.ringOn n = true → n < s.mir.took.length → (nth s.mir.took n (256, 0)).1 ≠ s.ringPublished n → e.slot < 262144 →
      (e.kind = 2 → s.mirState n e.slot = 1 → ∃ t, exec (.mirrorEntryApply n e) s = .next t ∧
        t.mem = (s.mem.write 1 (s.mirPlace n e.slot) (padTo 128 (e.payload.take 128))).write 1 (s.mirPlace n e.slot + 164) (toBytes 4 e.group) ∧
        t.counter C.KVM_MIR_APPLIED = min (2 ^ 48 - 1) (s.counter C.KVM_MIR_APPLIED + 1)) ∧
      (e.kind = 4 → s.mirState n e.slot = 0 → ∃ t, exec (.mirrorEntryApply n e) s = .next t ∧ t.mem = s.mem ∧ t.kvm = s.kvm) ∧
      (e.kind = 5 → ∃ t, exec (.mirrorEntryApply n e) s = .next t ∧ t.mem = s.mem ∧ (nth t.mir.took n (256, 0)).2 = e.group)) ∧
    (∀ n e, s.ringOn n = false ∨ (nth s.mir.took n (256, 0)).1 = s.ringPublished n → exec (.mirrorEntryApply n e) s = .next s) ∧
    (∀ i, s.flag F.KVM_MIR_CTRL_enable = true → i < s.mirPeers.length → s.mir.unsafe_ = [] →
      (s.mirSuspended i = false → ∃ t, exec (.mirrorTimeout i) s = .next t ∧ t.mirSuspended i = true ∧ t.mem = s.mem) ∧
      (s.mirSuspended i = true → exec (.mirrorTimeout i) s = .next s)) ∧
    (∀ o, s.takes o →
      (∀ r st, s.recoverRefusal r = some st → exec (.recover o r) s = .next (s.complete o 0x52 st)) ∧
      (∀ r, s.recoverRefusal r = none → ∃ v : State, exec (.recover o r) s = .next (v.complete o 0x52 0) ∧
        (v.series r.ctx 0).next = some r.nextDecode ∧ (v.series r.ctx 1).next = some r.nextPrefill ∧
        ∀ p, p < 144 → v.serves r.ctx p = (s.serves r.ctx p && !tbit r.dead p)) ∧
      (∀ r st, s.adoptRefusal r = some st → exec (.adoptAll o r) s = .next (s.complete o 0x51 st)) ∧
      (∀ r n, s.adoptRefusal r = none → s.ringOf r.source = some n →
        (s.mirOf n r.ctx 1 = [] → ∃ v : State, exec (.adoptAll o r) s = .next (v.complete o 0x51 0) ∧
          v.mem = (s.qwrite r.resultAddr [0, 0, 0, 0]).mem ∧ v.counter C.KVM_ADOPTED = min (2 ^ 48 - 1) (s.counter C.KVM_ADOPTED)) ∧
        (∀ k j, s.mirOf n r.ctx 1 = [k] → s.mirTables n k = [] → s.lowestEmpty 1 = [j] → ∃ v : State, exec (.adoptAll o r) s = .next (v.complete o 0x51 0) ∧
          v.mem = (({ s with mem := (s.mem.write 1 (s.seqOff j) (adoptedDesc (s.mem.read 1 (s.mirPlace n k) 128))).write 1 (s.mirPlace n k) mirNone } : State).qwrite
            r.resultAddr (toBytes 4 1 ++ toBytes 4 k ++ toBytes 4 j)).mem ∧
          v.counter C.KVM_ADOPTED = min (2 ^ 48 - 1) (s.counter C.KVM_ADOPTED + 1))) ∧
      (∀ src c, s.flag F.KVM_MIR_CTRL_enable = false → c < 16 → exec (.dropMirror o src false) s = .next (s.complete o 0x53 0x12) ∧
        exec (.resync o c false) s = .next (s.complete o 0x54 0x12)) ∧
      (∀ src c, exec (.dropMirror o src true) s = .next (s.complete o 0x53 0x10) ∧ exec (.resync o c true) s = .next (s.complete o 0x54 0x10)) ∧
      (∀ src, s.flag F.KVM_MIR_CTRL_enable = true →
        (s.ringOf src = none → exec (.dropMirror o src false) s = .next (s.complete o 0x53 0)) ∧
        (∀ n k, (List.range 4).filter (fun n => s.ringOn n && decide (s.ringSource n = src)) = [n] → s.mirSlots n = [k] → s.mirTables n k = [] →
          ∃ v : State, exec (.dropMirror o src false) s = .next (v.complete o 0x53 0) ∧ v.mem = s.mem.write 1 (s.mirPlace n k) mirNone ∧ v.kvm = s.kvm)) ∧
      (∀ c, s.flag F.KVM_MIR_CTRL_enable = true → c < 16 → ∃ v : State, exec (.resync o c false) s = .next (v.complete o 0x54 0) ∧
        (∀ i, v.mirSuspended i = false) ∧ v.mem = s.mem ∧
        ∀ i, i < s.mir.peers.length → (v.mirPeer i).seeded = if s.mirSuspended i then [] else (s.mirPeer i).seeded.filter fun n => s.sctx n ≠ c)) ∧
    (∀ f, f < 72 → s.facets.length = 72 →
      (∀ org, s.grants org (fctOff f 0x40) →
        ((s.fac f).fenced = true → exec (.fenceFacet f (.command org)) s = .next (s.setFld F.FCT_FENCE_STATUS_status 0 (0x40000 * f))) ∧
        ((s.fac f).fenced = false → ∃ t, exec (.fenceFacet f (.command org)) s = .next t ∧ (t.fac f).fenced = true ∧ (t.fac f).pool = 2 ∧
          (t.sqr f).running = false ∧ t.fld F.FCT_FENCE_STATUS_reason (0x40000 * f) = 4 ∧ t.fld F.FCT_FENCE_STATUS_status (0x40000 * f) = 0) ∧
        ((s.fac f).fenced = true → ∃ t, exec (.unfenceFacet org f) s = .next t ∧ (t.fac f).fenced = false ∧ (t.fac f).pool = 1 ∧
          (t.fac f).valid = [false, false, false, false] ∧ t.fld F.FCT_FENCE_STATUS_status (0x40000 * f) = 0 ∧ t.mem = s.mem ∧
          ∀ g, g ≠ f → t.fac g = s.fac g) ∧
        ((s.fac f).fenced = false → exec (.unfenceFacet org f) s = .next (s.setFld F.FCT_FENCE_STATUS_status 0x12 (0x40000 * f)))) ∧
      (∀ reason, (s.fac f).fenced = true ∨ s.fenceDue f reason = false → exec (.fenceFacet f (.auto reason)) s = .next s) ∧
      (∀ reason, reason < 16 → (s.fac f).fenced = false → s.fenceDue f reason = true →
        (4 < s.unfenced (f / 36) → ∃ t, exec (.fenceFacet f (.auto reason)) s = .next t ∧ (t.fac f).fenced = true ∧ (t.fac f).pool = 2 ∧
          t.fld F.FCT_FENCE_STATUS_reason (0x40000 * f) = reason) ∧
        (s.unfenced (f / 36) ≤ 4 → ∃ t, exec (.fenceFacet f (.auto reason)) s = .next t ∧ t.facets = s.facets ∧ t.mem = s.mem)))

/-! ## Power and temperature (block PWR) -/

/-- A sample sets the estimate, the energy and the running average, and the cycle skip of a die follows peak and cap; the Shutter gates a
facet without work and ungates in turn; a die moves to the point of the phase it took twice under its thermal limit; the idle package
enters the deepest state allowed and wakes to P0; a hot sensor is latched, throttles its die and at crit holds its skip; the trip
comparator stops the package (R406, R409, R412 to R421).
The model's choices: log entries 79 to 84. -/
def Obligations.PowerAndHeatAreHeld : Prop :=
  ∀ s : State, s.live → s.facets.length = 72 → s.pwr.target.length = 2 → s.pwr.limit.length = 2 → s.pwr.release.length = 2 → s.pwr.chosen.length = 2 →
    (∀ x, ∃ t, exec (.powerSample x) s = .next t ∧ t.mem = s.mem ∧ t.fld F.PWR_EST_sample = min 2047 (s.estimate x / (10 ^ 6 * pwrDen)) ∧
      t.pwr.energy = (s.pwr.energy + 2 * s.estimate x) % (10 ^ 9 * pwrDen) ∧
      t.counter C.PWR_ENERGY = min (2 ^ 48 - 1) (s.counter C.PWR_ENERGY + (s.pwr.energy + 2 * s.estimate x) / (10 ^ 9 * pwrDen)) ∧
      (s.flag F.PWR_CTRL_cap_en = false → t.pwr.avg = s.pwr.avg ∧ t.facets = s.facets ∧ t.fld F.PWR_SHUT_STATUS_skip0 = s.fld F.PWR_SHUT_STATUS_skip0) ∧
      (s.flag F.PWR_CTRL_cap_en = true →
        let a := nextAverage s.pwr.avg (s.estimate x) (s.fld F.PWR_CAP2_tau)
        t.pwr.avg = a ∧
        (s.critDie 0 = false → 10 ^ 6 * s.fld F.PWR_CAP_peak_limit * pwrDen < s.estimate x → a.1 ≤ 10 ^ 6 * s.fld F.PWR_CAP_cap_set * a.2 →
          t.fld F.PWR_SHUT_STATUS_skip0 = min 12 (s.fld F.PWR_SHUT_STATUS_skip0 + 4)) ∧
        (s.critDie 0 = false → s.estimate x ≤ 10 ^ 6 * s.fld F.PWR_CAP_peak_limit * pwrDen → a.1 ≤ 10 ^ 6 * s.fld F.PWR_CAP_cap_set * a.2 →
          s.fld F.PWR_SHUT_STATUS_skip0 ≤ 12 → t.fld F.PWR_SHUT_STATUS_skip0 = s.fld F.PWR_SHUT_STATUS_skip0 - 1))) ∧
    (∀ f, f < 72 →
      ((s.fac f).gated = 1 → (s.fac f).gatable = true → ∃ t, exec (.shutterGate f) s = .next t ∧ t.fac f = (s.fac f).gateOff ∧
        t.counter C.PWR_GATES = min (2 ^ 48 - 1) (s.counter C.PWR_GATES + 1) ∧ t.mem = s.mem ∧ ∀ g, g ≠ f → t.fac g = s.fac g) ∧
      ((s.fac f).gated ≠ 1 ∨ (s.fac f).gatable = false → exec (.shutterGate f) s = .next s) ∧
      (((dieFacets (f / 36)).filter fun g => decide ((s.fac g).gated = 3)).length < s.fld F.PWR_SHUT_ungate_inflight →
        (s.ungateOrder (f / 36) fun x => decide (x.gated = 4)).head? = some f →
        ∃ t, exec (.shutterUngateStart f) s = .next t ∧ (t.fac f).gated = 3 ∧ t.mem = s.mem ∧ ∀ g, g ≠ f → t.fac g = s.fac g) ∧
      ((s.ungateOrder (f / 36) fun x => decide (x.gated = 4)).head? ≠ some f → exec (.shutterUngateStart f) s = .next s) ∧
      ((s.fac f).gated = 3 → ∃ t, exec (.shutterUngateDone f) s = .next t ∧ (t.fac f).gated = 0 ∧
        t.counter C.PWR_UNGATES = min (2 ^ 48 - 1) (s.counter C.PWR_UNGATES + 1)) ∧
      ((s.fac f).gated ≠ 3 → exec (.shutterUngateDone f) s = .next s)) ∧
    (∀ d, d < 2 →
      (nth s.pwr.chosen d none ≠ some (s.diePhase d) →
        exec (.oppEvaluate d) s = .next { s with pwr := { s.pwr with chosen := s.pwr.chosen.set d (some (s.diePhase d)) } }) ∧
      (nth s.pwr.chosen d none = some (s.diePhase d) → ∃ t, exec (.oppEvaluate d) s = .next t ∧ t.fld (phaseField d) = s.diePhase d ∧
        t.fld (pointField d) = s.fld (pointField d) ∧
        (s.pstate = 0 → min (s.phasePoint (s.diePhase d)) (nth s.pwr.limit d 7) ≠ s.fld (pointField d) →
          nth t.pwr.target d none = some (min (s.phasePoint (s.diePhase d)) (nth s.pwr.limit d 7)))) ∧
      (nth s.pwr.target d none = none → exec (.oppChangeComplete d) s = .next s) ∧
      (∀ p, nth s.pwr.target d none = some p → p < 8 → ∃ t, exec (.oppChangeComplete d) s = .next t ∧ t.fld (pointField d) = p ∧
        nth t.pwr.target d none = none ∧ (s.pins.vidEn = true → t.vid d = vidCode d p) ∧
        t.counter C.PWR_OPP_CHANGES = min (2 ^ 48 - 1) (s.counter C.PWR_OPP_CHANGES + if s.fld (pointField d) = p then 0 else 1))) ∧
    (s.keptAwake = true ∨ s.idle = false ∨ s.deepest ≤ s.pstate → exec .idleEntry s = .next s) ∧
    (s.keptAwake = false → s.idle = true → s.pstate < s.deepest → ∃ t, exec .idleEntry s = .next t ∧ t.pstate = s.deepest ∧
      (∀ d, d < 2 → t.fld (pointField d) = 0) ∧ (∀ f, f < 72 → (s.fac f).gatable = true → (t.fac f).gated = 2) ∧ t.mem = s.mem ∧
      t.counter C.PWR_STATE_ENTRIES = min (2 ^ 48 - 1) (s.counter C.PWR_STATE_ENTRIES + 1)) ∧
    (s.pstate = 0 → exec .wake s = .next s) ∧
    (s.pstate ≠ 0 → ∃ t, exec .wake s = .next t ∧ t.pstate = 0 ∧ t.mem = s.mem ∧
      ∀ f, f < 72 → (s.fac f).fenced = false → ((s.fac f).gated = 2 → (t.fac f).gated = 4) ∧ ((s.fac f).gated = 1 → (t.fac f).gated = 0)) ∧
    (∀ n v, n < 48 → ∃ t, exec (.thermalSensorUpdate n v) s = .next t ∧ t.temp n = v % 2 ^ 16 ∧ (∀ m, m < 48 → m ≠ n → t.temp m = s.temp m) ∧
      (n < 36 → atLeast (v % 2 ^ 16) (s.fld F.PWR_THERM_throttle) = true → n ∈ t.pwr.hot) ∧
      (n < 36 → atLeast (v % 2 ^ 16) (s.fld F.PWR_THERM_throttle) = false → n ∉ s.pwr.hot → n ∉ t.pwr.hot) ∧
      (n < 36 → n ∉ s.pwr.crit → atLeast (v % 2 ^ 16) (s.fld F.PWR_THERM_crit) = true → n ∈ t.pwr.crit ∧ t.fld (skipField (n / 18)) = 12) ∧
      (40 ≤ n → atLeast (v % 2 ^ 16) (s.fld F.PWR_THERM_stack_throttle) = true → n ∈ t.pwr.stackHot) ∧ t.mem = s.mem) ∧
    (∀ n v, 48 ≤ n → exec (.thermalSensorUpdate n v) s = .next s) ∧
    (∀ d, d < 2 →
      (inGroup d s.pwr.hot = true → ∃ t, exec (.throttleStep d) s = .next t ∧
        nth t.pwr.limit d 7 = min (nth s.pwr.limit d 7) (s.fld (pointField d)) - 1 ∧ nth t.pwr.release d 0 = 0 ∧
        t.counter C.PWR_THROTTLE_MS = min (2 ^ 48 - 1) (s.counter C.PWR_THROTTLE_MS + 1)) ∧
      (inGroup d s.pwr.hot = false → s.critDie d = false → 7 ≤ nth s.pwr.limit d 7 → exec (.throttleStep d) s = .next s) ∧
      (inGroup d s.pwr.hot = false → nth s.pwr.limit d 7 < 7 → ∃ t, exec (.throttleStep d) s = .next t ∧
        nth t.pwr.limit d 7 = (if nth s.pwr.release d 0 < 9 then nth s.pwr.limit d 7 else nth s.pwr.limit d 7 + 1) ∧
        nth t.pwr.release d 0 = if nth s.pwr.release d 0 < 9 then nth s.pwr.release d 0 + 1 else 0)) ∧
    (∀ n, n < 48 → ∃ t, exec (.thermalTrip n) s = .next t ∧ t.pins.thermTripN = false ∧ t.pins.faultN = false ∧
      t.flag F.GLB_STATUS_fatal = true ∧ t.mem = s.mem) ∧
    (∀ n, 48 ≤ n → exec (.thermalTrip n) s = .next s)

/-! ## Rules stated whole, and reset -/

/-- Right after power-on reset every register reads as its table gives it, every counter is 0, every memory is in its canonical form
with nothing listed, no event is held and FAULT_N is not asserted, no transaction is open, the debug level is D0, no facet runs a
program, and no command waits (R428, R429, R437, R508, R522). Values the spec does not give are the model's: log entry 2. -/
def Obligations.ResetLeavesTheStatedValues : Prop :=
  let s := State.reset
  s.memoryCanonical ∧ s.pending = [] ∧ (∀ off, s.rd off = regReset off) ∧ (∀ c, s.counter c = 0) ∧ (∀ sp, sp < 7 → s.mem.cells sp = []) ∧
    s.fld ⟨0, 15, 0⟩ = 0x4896 ∧ s.fld ⟨0, 23, 16⟩ = 0xB0 ∧ s.evt.held = [] ∧ s.pins.faultN = true ∧ s.txn.isOpen = false ∧ s.sec.level = 0 ∧
    s.facets.length = 72 ∧ (∀ f, f < 72 → (s.sqr f).running = false ∧ (s.fac f).fenced = false) ∧ (∀ p, p < 12 → s.portState p = 0)

/-- R339: group port j of member m leads to member (m + j + 1) mod 9 of the same group, at its port 7 − j; and every pair of members
is connected by exactly one port at each end, each the other's. -/
def Obligations.GroupPortsConnectMembers : Prop :=
  (∀ (s : State) (j : Nat), j < 8 → s.peerOf j = (s.self / 9 * 9 + (s.self % 9 + j + 1) % 9, 7 - j)) ∧
  (∀ m x : Nat, m < 9 → x < 9 → m ≠ x → groupPort m x < 8 ∧ (m + groupPort m x + 1) % 9 = x ∧ groupPort x m = 7 - groupPort m x ∧
    ∀ j, j < 8 → (m + j + 1) % 9 = x → j = groupPort m x)

/-- R144: while the sequencer is running a program, a LOAD, SWITCH or INVALIDATE written to FCT_CTX_CMD completes with REJ_STATE,
and changes no facet. -/
def Obligations.ContextCommandsRefusedWhileRunning : Prop :=
  ∀ (s : State) (org : Originator) (f n : Nat) (c : Instr),
    s.power = .running → f < 72 → s.grants org (fctOff f 8) → (s.sqr f).running = true →
    c = .contextLoad (.reg org) f n ∨ c = .contextSwitch (.reg org) f n ∨ c = .contextInvalidate (.reg org) f n →
    ∃ t, exec c s = .next t ∧ t.fld F.FCT_CTX_STATUS_status (0x40000 * f) = 0x12 ∧ t.facets = s.facets ∧ t.mem = s.mem ∧ t.kvm = s.kvm

/-- R181: an ACK with outcome 0b10 received by a home package whose context policy is not SPILL is treated as dropped: the ACK acts as
the same one with outcome 0b01 in those slots does. -/
def Obligations.SpillRequestsNeedSpillPolicy : Prop :=
  ∀ (s : State) (a : AckRec) (o : Nat), s.power = .running → (s.policy a.ctx).mode ≠ 1 →
    (∀ i, o / 4 ^ i % 4 = if a.outcomes / 4 ^ i % 4 = 2 then 1 else a.outcomes / 4 ^ i % 4) →
    exec (.ackRec a) s = exec (.ackRec { a with outcomes := o }) s
end

