-- ==== Sys2Proof/Laws/Keyed.lean ====
section
/-!
SUPPORT. Laws of the plain operations: keyed tables, bit fields, byte lists, refusal lists and saturation.
-/
namespace Sys2Proof.Machine

/-! ### Keyed tables -/

@[simp] theorem kget_nil {α : Type} (k : Nat) : kget ([] : KMap α) k = none := rfl

/-- A table answers what was set last. -/
@[simp] theorem kget_kset_same {α : Type} (m : KMap α) (k : Nat) (v : α) : kget (kset m k v) k = some v := by
  induction m with
  | nil => simp [kset, kget]
  | cons e m ih =>
    simp only [kset]
    split
    · simp [kget]
    · split
      · simp [kget]
      · rename_i h
        simp [kget, Ne.symm h, ih]

/-- Setting one key leaves every other. -/
theorem kget_kset_ne {α : Type} (m : KMap α) (k j : Nat) (v : α) (h : j ≠ k) : kget (kset m k v) j = kget m j := by
  induction m with
  | nil => simp [kset, kget, Ne.symm h]
  | cons e m ih =>
    simp only [kset]
    split
    · simp [kget, Ne.symm h]
    · split
      · rename_i h'
        subst h'
        simp [kget, Ne.symm h]
      · simp only [kget, ih]

@[simp] theorem kgetD_kset_same {α : Type} (m : KMap α) (k : Nat) (v d : α) : kgetD (kset m k v) k d = v := by simp [kgetD]

theorem kgetD_kset_ne {α : Type} (m : KMap α) (k j : Nat) (v d : α) (h : j ≠ k) :
    kgetD (kset m k v) j d = kgetD m j d := by simp [kgetD, kget_kset_ne m k j v h]

@[simp] theorem kgetD_nil {α : Type} (k : Nat) (d : α) : kgetD ([] : KMap α) k d = d := rfl

/-- A removed key answers nothing. -/
@[simp] theorem kget_kdel_same {α : Type} (m : KMap α) (k : Nat) : kget (kdel m k) k = none := by
  induction m with
  | nil => rfl
  | cons e m ih =>
    unfold kdel at ih ⊢
    by_cases h : e.1 = k
    · simp [h, ih]
    · simp [h, kget, ih]

/-- Removing one key leaves every other. -/
theorem kget_kdel_ne {α : Type} (m : KMap α) (k j : Nat) (h : j ≠ k) : kget (kdel m k) j = kget m j := by
  induction m with
  | nil => rfl
  | cons e m ih =>
    unfold kdel at ih ⊢
    by_cases h' : e.1 = k
    · simp [h', kget, Ne.symm h, ih]
    · simp [h', kget, ih]

/-! ### Bit fields -/

/-- A field reads what was put into it. -/
theorem bits_setBits_same (v hi lo x : Nat) (h : lo ≤ hi) : bits (setBits v hi lo x) hi lo = x % 2 ^ (hi - lo + 1) := by
  have e : hi + 1 = (hi - lo + 1) + lo := by omega
  have hl : v % 2 ^ lo < 2 ^ lo := Nat.mod_lt _ (Nat.two_pow_pos lo)
  unfold bits setBits
  rw [show v / 2 ^ (hi + 1) * 2 ^ (hi + 1) + x % 2 ^ (hi - lo + 1) * 2 ^ lo + v % 2 ^ lo
      = (v / 2 ^ (hi + 1) * 2 ^ (hi - lo + 1) + x % 2 ^ (hi - lo + 1)) * 2 ^ lo + v % 2 ^ lo by
    rw [e, Nat.pow_add, Nat.add_mul, Nat.mul_assoc]]
  rw [Nat.mul_comm _ (2 ^ lo), Nat.mul_add_div (Nat.two_pow_pos lo), Nat.div_eq_of_lt hl, Nat.add_zero,
    Nat.mul_comm, Nat.mul_add_mod, Nat.mod_mod]

/-- Below a changed field a number keeps its bits. -/
theorem setBits_mod (v hi lo x : Nat) (h : lo ≤ hi) : setBits v hi lo x % 2 ^ lo = v % 2 ^ lo := by
  obtain ⟨k, rfl⟩ := Nat.exists_eq_add_of_le h
  unfold setBits
  rw [show lo + k + 1 = (k + 1) + lo by omega, Nat.pow_add, ← Nat.mul_assoc, Nat.add_assoc, Nat.add_comm,
    Nat.add_mul_mod_self_right, Nat.add_comm, Nat.add_mul_mod_self_right, Nat.mod_mod]

/-- Above a changed field a number keeps its bits. -/
theorem setBits_div (v hi lo x : Nat) (h : lo ≤ hi) : setBits v hi lo x / 2 ^ (hi + 1) = v / 2 ^ (hi + 1) := by
  have hl : v % 2 ^ lo < 2 ^ lo := Nat.mod_lt _ (Nat.two_pow_pos lo)
  have hx : x % 2 ^ (hi - lo + 1) + 1 ≤ 2 ^ (hi - lo + 1) := Nat.mod_lt _ (Nat.two_pow_pos _)
  have e : 2 ^ (hi + 1) = 2 ^ (hi - lo + 1) * 2 ^ lo := by rw [← Nat.pow_add]; congr 1; omega
  have hb : x % 2 ^ (hi - lo + 1) * 2 ^ lo + v % 2 ^ lo < 2 ^ (hi + 1) := by
    have := Nat.mul_le_mul_right (2 ^ lo) hx
    rw [Nat.add_mul, Nat.one_mul] at this
    omega
  unfold setBits
  rw [Nat.add_assoc, Nat.mul_comm, Nat.mul_add_div (Nat.two_pow_pos _), Nat.div_eq_of_lt hb, Nat.add_zero]

/-- A field below a changed one keeps its value. -/
theorem bits_setBits_below (v hi lo x hi' lo' : Nat) (hl : lo ≤ hi) (h : hi' < lo) (h' : lo' ≤ hi') :
    bits (setBits v hi lo x) hi' lo' = bits v hi' lo' := by
  have q : ∀ y : Nat, bits y hi' lo' = y % 2 ^ lo % 2 ^ (lo' + (hi' - lo' + 1)) / 2 ^ lo' := by
    intro y
    rw [Nat.mod_mod_of_dvd _ (Nat.pow_dvd_pow 2 (by omega)), Nat.pow_add, Nat.mod_mul_right_div_self]
    rfl
  rw [q, q, setBits_mod v hi lo x hl]

/-- A field above a changed one keeps its value. -/
theorem bits_setBits_above (v hi lo x hi' lo' : Nat) (hl : lo ≤ hi) (h : hi < lo') :
    bits (setBits v hi lo x) hi' lo' = bits v hi' lo' := by
  have q : ∀ y : Nat, y / 2 ^ lo' = y / 2 ^ (hi + 1) / 2 ^ (lo' - (hi + 1)) := by
    intro y
    rw [Nat.div_div_eq_div_mul, ← Nat.pow_add]
    congr 2
    omega
  unfold bits
  rw [q, setBits_div v hi lo x hl, ← q]

/-- A changed number of 32 bits stays one. -/
theorem setBits_lt (v hi lo x : Nat) (hl : lo ≤ hi) (h : hi < 32) (hv : v < 2 ^ 32) : setBits v hi lo x < 2 ^ 32 := by
  have e : 2 ^ 32 = 2 ^ (hi + 1) * 2 ^ (31 - hi) := by rw [← Nat.pow_add]; congr 1; omega
  rw [e] at hv ⊢
  rw [Nat.mul_comm] at hv ⊢
  rw [← Nat.div_lt_iff_lt_mul (Nat.two_pow_pos _)] at hv ⊢
  rwa [setBits_div v hi lo x hl]

@[simp] theorem bits_zero (hi lo : Nat) : bits 0 hi lo = 0 := by simp [bits]

/-- A field never holds more than its bits. -/
theorem bits_lt (v hi lo : Nat) : bits v hi lo < 2 ^ (hi - lo + 1) := Nat.mod_lt _ (Nat.two_pow_pos _)

/-! ### Refusals -/

@[simp] theorem firstOf_nil : firstOf [] = none := rfl

theorem firstOf_cons (c : Bool) (st : Nat) (l : List (Bool × Nat)) :
    firstOf ((c, st) :: l) = if c then some st else firstOf l := rfl

/-- No refusal stands where no condition holds. -/
theorem firstOf_none (l : List (Bool × Nat)) (h : ∀ x ∈ l, x.1 = false) : firstOf l = none := by
  induction l with
  | nil => rfl
  | cons x l ih =>
    obtain ⟨c, st⟩ := x
    have hc : c = false := h (c, st) (by simp)
    subst hc
    simpa [firstOf] using ih fun y hy => h y (by simp [hy])

/-! ### Byte lists -/

@[simp] theorem toBytes_length (n v : Nat) : (toBytes n v).length = n := by
  induction n generalizing v with
  | zero => rfl
  | succ n ih => simp [toBytes, ih]

/-- Little-endian bytes spell their number again. -/
theorem ofBytes_toBytes (n v : Nat) : ofBytes (toBytes n v) = v % 256 ^ n := by
  induction n generalizing v with
  | zero => simp [toBytes, ofBytes, Nat.mod_one]
  | succ n ih =>
    simp only [toBytes, ofBytes, ih, BitVec.toNat_ofNat]
    rw [show (256 : Nat) ^ (n + 1) = 256 * 256 ^ n by rw [Nat.pow_succ, Nat.mul_comm], Nat.mod_mul]

/-- Dropping and taking bytes of a number. -/
theorem drop_toBytes (i k v : Nat) : (toBytes k v).drop i = toBytes (k - i) (v / 256 ^ i) := by
  induction i generalizing k v with
  | zero => simp
  | succ i ih =>
    cases k with
    | zero => simp [toBytes]
    | succ k => simp [toBytes, ih, Nat.div_div_eq_div_mul, Nat.pow_succ, Nat.mul_comm]

theorem take_toBytes (n k v : Nat) : (toBytes k v).take n = toBytes (min n k) v := by
  induction n generalizing k v with
  | zero => simp [toBytes]
  | succ n ih =>
    cases k with
    | zero => simp [toBytes]
    | succ k => simp [toBytes, ih, Nat.succ_min_succ]

/-- A field of a number's bytes is those digits of the number. -/
theorem leAt_toBytes (k v i n : Nat) : leAt (toBytes k v) i n = v / 256 ^ i % 256 ^ min n (k - i) := by
  simp [leAt, slice, drop_toBytes, take_toBytes, ofBytes_toBytes]

end Sys2Proof.Machine
end

