-- ==== Sys2Proof/Laws/State.lean ====
section
/-!
SUPPORT. What each shared operation leaves unchanged, field by field, and the gates of the meanings.
-/
namespace Sys2Proof.Machine

/-! ### `State.wr` changes regs alone -/

@[simp] theorem State.wr_pending (s : State) (off v : Nat) : (s.wr off v).pending = s.pending := rfl

@[simp] theorem State.wr_free (s : State) (off v : Nat) : (s.wr off v).free = s.free := rfl

@[simp] theorem State.wr_us (s : State) (off v : Nat) : (s.wr off v).us = s.us := rfl

@[simp] theorem State.wr_power (s : State) (off v : Nat) : (s.wr off v).power = s.power := rfl

@[simp] theorem State.wr_pins (s : State) (off v : Nat) : (s.wr off v).pins = s.pins := rfl

@[simp] theorem State.wr_cnts (s : State) (off v : Nat) : (s.wr off v).cnts = s.cnts := rfl

@[simp] theorem State.wr_latches (s : State) (off v : Nat) : (s.wr off v).latches = s.latches := rfl

@[simp] theorem State.wr_out (s : State) (off v : Nat) : (s.wr off v).out = s.out := rfl

@[simp] theorem State.wr_mem (s : State) (off v : Nat) : (s.wr off v).mem = s.mem := rfl

@[simp] theorem State.wr_evt (s : State) (off v : Nat) : (s.wr off v).evt = s.evt := rfl

@[simp] theorem State.wr_hq (s : State) (off v : Nat) : (s.wr off v).hq = s.hq := rfl

@[simp] theorem State.wr_hst (s : State) (off v : Nat) : (s.wr off v).hst = s.hst := rfl

@[simp] theorem State.wr_bootReply (s : State) (off v : Nat) : (s.wr off v).bootReply = s.bootReply := rfl

@[simp] theorem State.wr_noc (s : State) (off v : Nat) : (s.wr off v).noc = s.noc := rfl

@[simp] theorem State.wr_dcMissed (s : State) (off v : Nat) : (s.wr off v).dcMissed = s.dcMissed := rfl

@[simp] theorem State.wr_sec (s : State) (off v : Nat) : (s.wr off v).sec = s.sec := rfl

@[simp] theorem State.wr_txn (s : State) (off v : Nat) : (s.wr off v).txn = s.txn := rfl

@[simp] theorem State.wr_boot (s : State) (off v : Nat) : (s.wr off v).boot = s.boot := rfl

@[simp] theorem State.wr_eth (s : State) (off v : Nat) : (s.wr off v).eth = s.eth := rfl

@[simp] theorem State.wr_spi (s : State) (off v : Nat) : (s.wr off v).spi = s.spi := rfl

@[simp] theorem State.wr_facets (s : State) (off v : Nat) : (s.wr off v).facets = s.facets := rfl

@[simp] theorem State.wr_tctrs (s : State) (off v : Nat) : (s.wr off v).tctrs = s.tctrs := rfl

@[simp] theorem State.wr_rtc (s : State) (off v : Nat) : (s.wr off v).rtc = s.rtc := rfl

@[simp] theorem State.wr_prs (s : State) (off v : Nat) : (s.wr off v).prs = s.prs := rfl

@[simp] theorem State.wr_kvm (s : State) (off v : Nat) : (s.wr off v).kvm = s.kvm := rfl

@[simp] theorem State.wr_srv (s : State) (off v : Nat) : (s.wr off v).srv = s.srv := rfl

@[simp] theorem State.wr_res (s : State) (off v : Nat) : (s.wr off v).res = s.res := rfl

@[simp] theorem State.wr_mir (s : State) (off v : Nat) : (s.wr off v).mir = s.mir := rfl

@[simp] theorem State.wr_shd (s : State) (off v : Nat) : (s.wr off v).shd = s.shd := rfl

@[simp] theorem State.wr_fab (s : State) (off v : Nat) : (s.wr off v).fab = s.fab := rfl

@[simp] theorem State.wr_fences (s : State) (off v : Nat) : (s.wr off v).fences = s.fences := rfl

@[simp] theorem State.wr_pwr (s : State) (off v : Nat) : (s.wr off v).pwr = s.pwr := rfl

@[simp] theorem State.wr_tap (s : State) (off v : Nat) : (s.wr off v).tap = s.tap := rfl

/-! ### `State.setFld` changes regs alone -/

@[simp] theorem State.setFld_pending (s : State) (r : FieldRef) (v di : Nat) : (s.setFld r v di).pending = s.pending := rfl

@[simp] theorem State.setFld_free (s : State) (r : FieldRef) (v di : Nat) : (s.setFld r v di).free = s.free := rfl

@[simp] theorem State.setFld_us (s : State) (r : FieldRef) (v di : Nat) : (s.setFld r v di).us = s.us := rfl

@[simp] theorem State.setFld_power (s : State) (r : FieldRef) (v di : Nat) : (s.setFld r v di).power = s.power := rfl

@[simp] theorem State.setFld_pins (s : State) (r : FieldRef) (v di : Nat) : (s.setFld r v di).pins = s.pins := rfl

@[simp] theorem State.setFld_cnts (s : State) (r : FieldRef) (v di : Nat) : (s.setFld r v di).cnts = s.cnts := rfl

@[simp] theorem State.setFld_latches (s : State) (r : FieldRef) (v di : Nat) : (s.setFld r v di).latches = s.latches := rfl

@[simp] theorem State.setFld_out (s : State) (r : FieldRef) (v di : Nat) : (s.setFld r v di).out = s.out := rfl

@[simp] theorem State.setFld_mem (s : State) (r : FieldRef) (v di : Nat) : (s.setFld r v di).mem = s.mem := rfl

@[simp] theorem State.setFld_evt (s : State) (r : FieldRef) (v di : Nat) : (s.setFld r v di).evt = s.evt := rfl

@[simp] theorem State.setFld_hq (s : State) (r : FieldRef) (v di : Nat) : (s.setFld r v di).hq = s.hq := rfl

@[simp] theorem State.setFld_hst (s : State) (r : FieldRef) (v di : Nat) : (s.setFld r v di).hst = s.hst := rfl

@[simp] theorem State.setFld_bootReply (s : State) (r : FieldRef) (v di : Nat) : (s.setFld r v di).bootReply = s.bootReply := rfl

@[simp] theorem State.setFld_noc (s : State) (r : FieldRef) (v di : Nat) : (s.setFld r v di).noc = s.noc := rfl

@[simp] theorem State.setFld_dcMissed (s : State) (r : FieldRef) (v di : Nat) : (s.setFld r v di).dcMissed = s.dcMissed := rfl

@[simp] theorem State.setFld_sec (s : State) (r : FieldRef) (v di : Nat) : (s.setFld r v di).sec = s.sec := rfl

@[simp] theorem State.setFld_txn (s : State) (r : FieldRef) (v di : Nat) : (s.setFld r v di).txn = s.txn := rfl

@[simp] theorem State.setFld_boot (s : State) (r : FieldRef) (v di : Nat) : (s.setFld r v di).boot = s.boot := rfl

@[simp] theorem State.setFld_eth (s : State) (r : FieldRef) (v di : Nat) : (s.setFld r v di).eth = s.eth := rfl

@[simp] theorem State.setFld_spi (s : State) (r : FieldRef) (v di : Nat) : (s.setFld r v di).spi = s.spi := rfl

@[simp] theorem State.setFld_facets (s : State) (r : FieldRef) (v di : Nat) : (s.setFld r v di).facets = s.facets := rfl

@[simp] theorem State.setFld_tctrs (s : State) (r : FieldRef) (v di : Nat) : (s.setFld r v di).tctrs = s.tctrs := rfl

@[simp] theorem State.setFld_rtc (s : State) (r : FieldRef) (v di : Nat) : (s.setFld r v di).rtc = s.rtc := rfl

@[simp] theorem State.setFld_prs (s : State) (r : FieldRef) (v di : Nat) : (s.setFld r v di).prs = s.prs := rfl

@[simp] theorem State.setFld_kvm (s : State) (r : FieldRef) (v di : Nat) : (s.setFld r v di).kvm = s.kvm := rfl

@[simp] theorem State.setFld_srv (s : State) (r : FieldRef) (v di : Nat) : (s.setFld r v di).srv = s.srv := rfl

@[simp] theorem State.setFld_res (s : State) (r : FieldRef) (v di : Nat) : (s.setFld r v di).res = s.res := rfl

@[simp] theorem State.setFld_mir (s : State) (r : FieldRef) (v di : Nat) : (s.setFld r v di).mir = s.mir := rfl

@[simp] theorem State.setFld_shd (s : State) (r : FieldRef) (v di : Nat) : (s.setFld r v di).shd = s.shd := rfl

@[simp] theorem State.setFld_fab (s : State) (r : FieldRef) (v di : Nat) : (s.setFld r v di).fab = s.fab := rfl

@[simp] theorem State.setFld_fences (s : State) (r : FieldRef) (v di : Nat) : (s.setFld r v di).fences = s.fences := rfl

@[simp] theorem State.setFld_pwr (s : State) (r : FieldRef) (v di : Nat) : (s.setFld r v di).pwr = s.pwr := rfl

@[simp] theorem State.setFld_tap (s : State) (r : FieldRef) (v di : Nat) : (s.setFld r v di).tap = s.tap := rfl

/-! ### `State.bumpRaw` changes cnts alone -/

@[simp] theorem State.bumpRaw_pending (s : State) (c n : Nat) : (s.bumpRaw c n).pending = s.pending := rfl

@[simp] theorem State.bumpRaw_free (s : State) (c n : Nat) : (s.bumpRaw c n).free = s.free := rfl

@[simp] theorem State.bumpRaw_us (s : State) (c n : Nat) : (s.bumpRaw c n).us = s.us := rfl

@[simp] theorem State.bumpRaw_power (s : State) (c n : Nat) : (s.bumpRaw c n).power = s.power := rfl

@[simp] theorem State.bumpRaw_pins (s : State) (c n : Nat) : (s.bumpRaw c n).pins = s.pins := rfl

@[simp] theorem State.bumpRaw_regs (s : State) (c n : Nat) : (s.bumpRaw c n).regs = s.regs := rfl

@[simp] theorem State.bumpRaw_latches (s : State) (c n : Nat) : (s.bumpRaw c n).latches = s.latches := rfl

@[simp] theorem State.bumpRaw_out (s : State) (c n : Nat) : (s.bumpRaw c n).out = s.out := rfl

@[simp] theorem State.bumpRaw_mem (s : State) (c n : Nat) : (s.bumpRaw c n).mem = s.mem := rfl

@[simp] theorem State.bumpRaw_evt (s : State) (c n : Nat) : (s.bumpRaw c n).evt = s.evt := rfl

@[simp] theorem State.bumpRaw_hq (s : State) (c n : Nat) : (s.bumpRaw c n).hq = s.hq := rfl

@[simp] theorem State.bumpRaw_hst (s : State) (c n : Nat) : (s.bumpRaw c n).hst = s.hst := rfl

@[simp] theorem State.bumpRaw_bootReply (s : State) (c n : Nat) : (s.bumpRaw c n).bootReply = s.bootReply := rfl

@[simp] theorem State.bumpRaw_noc (s : State) (c n : Nat) : (s.bumpRaw c n).noc = s.noc := rfl

@[simp] theorem State.bumpRaw_dcMissed (s : State) (c n : Nat) : (s.bumpRaw c n).dcMissed = s.dcMissed := rfl

@[simp] theorem State.bumpRaw_sec (s : State) (c n : Nat) : (s.bumpRaw c n).sec = s.sec := rfl

@[simp] theorem State.bumpRaw_txn (s : State) (c n : Nat) : (s.bumpRaw c n).txn = s.txn := rfl

@[simp] theorem State.bumpRaw_boot (s : State) (c n : Nat) : (s.bumpRaw c n).boot = s.boot := rfl

@[simp] theorem State.bumpRaw_eth (s : State) (c n : Nat) : (s.bumpRaw c n).eth = s.eth := rfl

@[simp] theorem State.bumpRaw_spi (s : State) (c n : Nat) : (s.bumpRaw c n).spi = s.spi := rfl

@[simp] theorem State.bumpRaw_facets (s : State) (c n : Nat) : (s.bumpRaw c n).facets = s.facets := rfl

@[simp] theorem State.bumpRaw_tctrs (s : State) (c n : Nat) : (s.bumpRaw c n).tctrs = s.tctrs := rfl

@[simp] theorem State.bumpRaw_rtc (s : State) (c n : Nat) : (s.bumpRaw c n).rtc = s.rtc := rfl

@[simp] theorem State.bumpRaw_prs (s : State) (c n : Nat) : (s.bumpRaw c n).prs = s.prs := rfl

@[simp] theorem State.bumpRaw_kvm (s : State) (c n : Nat) : (s.bumpRaw c n).kvm = s.kvm := rfl

@[simp] theorem State.bumpRaw_srv (s : State) (c n : Nat) : (s.bumpRaw c n).srv = s.srv := rfl

@[simp] theorem State.bumpRaw_res (s : State) (c n : Nat) : (s.bumpRaw c n).res = s.res := rfl

@[simp] theorem State.bumpRaw_mir (s : State) (c n : Nat) : (s.bumpRaw c n).mir = s.mir := rfl

@[simp] theorem State.bumpRaw_shd (s : State) (c n : Nat) : (s.bumpRaw c n).shd = s.shd := rfl

@[simp] theorem State.bumpRaw_fab (s : State) (c n : Nat) : (s.bumpRaw c n).fab = s.fab := rfl

@[simp] theorem State.bumpRaw_fences (s : State) (c n : Nat) : (s.bumpRaw c n).fences = s.fences := rfl

@[simp] theorem State.bumpRaw_pwr (s : State) (c n : Nat) : (s.bumpRaw c n).pwr = s.pwr := rfl

@[simp] theorem State.bumpRaw_tap (s : State) (c n : Nat) : (s.bumpRaw c n).tap = s.tap := rfl

/-! ### `State.holdRaw` changes evt, tap, cnts, pins, regs alone -/

@[simp] theorem State.holdRaw_pending (s : State) (e : EventRec) : (s.holdRaw e).pending = s.pending := by
  unfold State.holdRaw
  dsimp only
  (repeat' split) <;> rfl

@[simp] theorem State.holdRaw_free (s : State) (e : EventRec) : (s.holdRaw e).free = s.free := by
  unfold State.holdRaw
  dsimp only
  (repeat' split) <;> rfl

@[simp] theorem State.holdRaw_us (s : State) (e : EventRec) : (s.holdRaw e).us = s.us := by
  unfold State.holdRaw
  dsimp only
  (repeat' split) <;> rfl

@[simp] theorem State.holdRaw_power (s : State) (e : EventRec) : (s.holdRaw e).power = s.power := by
  unfold State.holdRaw
  dsimp only
  (repeat' split) <;> rfl

@[simp] theorem State.holdRaw_latches (s : State) (e : EventRec) : (s.holdRaw e).latches = s.latches := by
  unfold State.holdRaw
  dsimp only
  (repeat' split) <;> rfl

@[simp] theorem State.holdRaw_out (s : State) (e : EventRec) : (s.holdRaw e).out = s.out := by
  unfold State.holdRaw
  dsimp only
  (repeat' split) <;> rfl

@[simp] theorem State.holdRaw_mem (s : State) (e : EventRec) : (s.holdRaw e).mem = s.mem := by
  unfold State.holdRaw
  dsimp only
  (repeat' split) <;> rfl

@[simp] theorem State.holdRaw_hq (s : State) (e : EventRec) : (s.holdRaw e).hq = s.hq := by
  unfold State.holdRaw
  dsimp only
  (repeat' split) <;> rfl

@[simp] theorem State.holdRaw_hst (s : State) (e : EventRec) : (s.holdRaw e).hst = s.hst := by
  unfold State.holdRaw
  dsimp only
  (repeat' split) <;> rfl

@[simp] theorem State.holdRaw_bootReply (s : State) (e : EventRec) : (s.holdRaw e).bootReply = s.bootReply := by
  unfold State.holdRaw
  dsimp only
  (repeat' split) <;> rfl

@[simp] theorem State.holdRaw_noc (s : State) (e : EventRec) : (s.holdRaw e).noc = s.noc := by
  unfold State.holdRaw
  dsimp only
  (repeat' split) <;> rfl

@[simp] theorem State.holdRaw_dcMissed (s : State) (e : EventRec) : (s.holdRaw e).dcMissed = s.dcMissed := by
  unfold State.holdRaw
  dsimp only
  (repeat' split) <;> rfl

@[simp] theorem State.holdRaw_sec (s : State) (e : EventRec) : (s.holdRaw e).sec = s.sec := by
  unfold State.holdRaw
  dsimp only
  (repeat' split) <;> rfl

@[simp] theorem State.holdRaw_txn (s : State) (e : EventRec) : (s.holdRaw e).txn = s.txn := by
  unfold State.holdRaw
  dsimp only
  (repeat' split) <;> rfl

@[simp] theorem State.holdRaw_boot (s : State) (e : EventRec) : (s.holdRaw e).boot = s.boot := by
  unfold State.holdRaw
  dsimp only
  (repeat' split) <;> rfl

@[simp] theorem State.holdRaw_eth (s : State) (e : EventRec) : (s.holdRaw e).eth = s.eth := by
  unfold State.holdRaw
  dsimp only
  (repeat' split) <;> rfl

@[simp] theorem State.holdRaw_spi (s : State) (e : EventRec) : (s.holdRaw e).spi = s.spi := by
  unfold State.holdRaw
  dsimp only
  (repeat' split) <;> rfl

@[simp] theorem State.holdRaw_facets (s : State) (e : EventRec) : (s.holdRaw e).facets = s.facets := by
  unfold State.holdRaw
  dsimp only
  (repeat' split) <;> rfl

@[simp] theorem State.holdRaw_tctrs (s : State) (e : EventRec) : (s.holdRaw e).tctrs = s.tctrs := by
  unfold State.holdRaw
  dsimp only
  (repeat' split) <;> rfl

@[simp] theorem State.holdRaw_rtc (s : State) (e : EventRec) : (s.holdRaw e).rtc = s.rtc := by
  unfold State.holdRaw
  dsimp only
  (repeat' split) <;> rfl

@[simp] theorem State.holdRaw_prs (s : State) (e : EventRec) : (s.holdRaw e).prs = s.prs := by
  unfold State.holdRaw
  dsimp only
  (repeat' split) <;> rfl

@[simp] theorem State.holdRaw_kvm (s : State) (e : EventRec) : (s.holdRaw e).kvm = s.kvm := by
  unfold State.holdRaw
  dsimp only
  (repeat' split) <;> rfl

@[simp] theorem State.holdRaw_srv (s : State) (e : EventRec) : (s.holdRaw e).srv = s.srv := by
  unfold State.holdRaw
  dsimp only
  (repeat' split) <;> rfl

@[simp] theorem State.holdRaw_res (s : State) (e : EventRec) : (s.holdRaw e).res = s.res := by
  unfold State.holdRaw
  dsimp only
  (repeat' split) <;> rfl

@[simp] theorem State.holdRaw_mir (s : State) (e : EventRec) : (s.holdRaw e).mir = s.mir := by
  unfold State.holdRaw
  dsimp only
  (repeat' split) <;> rfl

@[simp] theorem State.holdRaw_shd (s : State) (e : EventRec) : (s.holdRaw e).shd = s.shd := by
  unfold State.holdRaw
  dsimp only
  (repeat' split) <;> rfl

@[simp] theorem State.holdRaw_fab (s : State) (e : EventRec) : (s.holdRaw e).fab = s.fab := by
  unfold State.holdRaw
  dsimp only
  (repeat' split) <;> rfl

@[simp] theorem State.holdRaw_fences (s : State) (e : EventRec) : (s.holdRaw e).fences = s.fences := by
  unfold State.holdRaw
  dsimp only
  (repeat' split) <;> rfl

@[simp] theorem State.holdRaw_pwr (s : State) (e : EventRec) : (s.holdRaw e).pwr = s.pwr := by
  unfold State.holdRaw
  dsimp only
  (repeat' split) <;> rfl

/-- Only an FE event reaches the pins. -/
theorem State.holdRaw_pins_mild (s : State) (e : EventRec) (h : e.cls ≠ 3) : (s.holdRaw e).pins = s.pins := by
  unfold State.holdRaw
  dsimp only
  rw [if_neg h]
  split <;> rfl

/-- Only an FE event reaches the registers. -/
theorem State.holdRaw_regs_mild (s : State) (e : EventRec) (h : e.cls ≠ 3) : (s.holdRaw e).regs = s.regs := by
  unfold State.holdRaw
  dsimp only
  rw [if_neg h]
  split <;> rfl

/-! ### `State.raiseSat` changes evt, tap, cnts alone -/

@[simp] theorem State.raiseSat_pending (s : State) (c : Nat) : (s.raiseSat c).pending = s.pending := by
  unfold State.raiseSat
  dsimp only
  split <;> simp

@[simp] theorem State.raiseSat_free (s : State) (c : Nat) : (s.raiseSat c).free = s.free := by
  unfold State.raiseSat
  dsimp only
  split <;> simp

@[simp] theorem State.raiseSat_us (s : State) (c : Nat) : (s.raiseSat c).us = s.us := by
  unfold State.raiseSat
  dsimp only
  split <;> simp

@[simp] theorem State.raiseSat_power (s : State) (c : Nat) : (s.raiseSat c).power = s.power := by
  unfold State.raiseSat
  dsimp only
  split <;> simp

@[simp] theorem State.raiseSat_pins (s : State) (c : Nat) : (s.raiseSat c).pins = s.pins := by
  unfold State.raiseSat
  dsimp only
  split <;> simp [State.holdRaw_pins_mild, satEvent]

@[simp] theorem State.raiseSat_regs (s : State) (c : Nat) : (s.raiseSat c).regs = s.regs := by
  unfold State.raiseSat
  dsimp only
  split <;> simp [State.holdRaw_regs_mild, satEvent]

@[simp] theorem State.raiseSat_latches (s : State) (c : Nat) : (s.raiseSat c).latches = s.latches := by
  unfold State.raiseSat
  dsimp only
  split <;> simp

@[simp] theorem State.raiseSat_out (s : State) (c : Nat) : (s.raiseSat c).out = s.out := by
  unfold State.raiseSat
  dsimp only
  split <;> simp

@[simp] theorem State.raiseSat_mem (s : State) (c : Nat) : (s.raiseSat c).mem = s.mem := by
  unfold State.raiseSat
  dsimp only
  split <;> simp

@[simp] theorem State.raiseSat_hq (s : State) (c : Nat) : (s.raiseSat c).hq = s.hq := by
  unfold State.raiseSat
  dsimp only
  split <;> simp

@[simp] theorem State.raiseSat_hst (s : State) (c : Nat) : (s.raiseSat c).hst = s.hst := by
  unfold State.raiseSat
  dsimp only
  split <;> simp

@[simp] theorem State.raiseSat_bootReply (s : State) (c : Nat) : (s.raiseSat c).bootReply = s.bootReply := by
  unfold State.raiseSat
  dsimp only
  split <;> simp

@[simp] theorem State.raiseSat_noc (s : State) (c : Nat) : (s.raiseSat c).noc = s.noc := by
  unfold State.raiseSat
  dsimp only
  split <;> simp

@[simp] theorem State.raiseSat_dcMissed (s : State) (c : Nat) : (s.raiseSat c).dcMissed = s.dcMissed := by
  unfold State.raiseSat
  dsimp only
  split <;> simp

@[simp] theorem State.raiseSat_sec (s : State) (c : Nat) : (s.raiseSat c).sec = s.sec := by
  unfold State.raiseSat
  dsimp only
  split <;> simp

@[simp] theorem State.raiseSat_txn (s : State) (c : Nat) : (s.raiseSat c).txn = s.txn := by
  unfold State.raiseSat
  dsimp only
  split <;> simp

@[simp] theorem State.raiseSat_boot (s : State) (c : Nat) : (s.raiseSat c).boot = s.boot := by
  unfold State.raiseSat
  dsimp only
  split <;> simp

@[simp] theorem State.raiseSat_eth (s : State) (c : Nat) : (s.raiseSat c).eth = s.eth := by
  unfold State.raiseSat
  dsimp only
  split <;> simp

@[simp] theorem State.raiseSat_spi (s : State) (c : Nat) : (s.raiseSat c).spi = s.spi := by
  unfold State.raiseSat
  dsimp only
  split <;> simp

@[simp] theorem State.raiseSat_facets (s : State) (c : Nat) : (s.raiseSat c).facets = s.facets := by
  unfold State.raiseSat
  dsimp only
  split <;> simp

@[simp] theorem State.raiseSat_tctrs (s : State) (c : Nat) : (s.raiseSat c).tctrs = s.tctrs := by
  unfold State.raiseSat
  dsimp only
  split <;> simp

@[simp] theorem State.raiseSat_rtc (s : State) (c : Nat) : (s.raiseSat c).rtc = s.rtc := by
  unfold State.raiseSat
  dsimp only
  split <;> simp

@[simp] theorem State.raiseSat_prs (s : State) (c : Nat) : (s.raiseSat c).prs = s.prs := by
  unfold State.raiseSat
  dsimp only
  split <;> simp

@[simp] theorem State.raiseSat_kvm (s : State) (c : Nat) : (s.raiseSat c).kvm = s.kvm := by
  unfold State.raiseSat
  dsimp only
  split <;> simp

@[simp] theorem State.raiseSat_srv (s : State) (c : Nat) : (s.raiseSat c).srv = s.srv := by
  unfold State.raiseSat
  dsimp only
  split <;> simp

@[simp] theorem State.raiseSat_res (s : State) (c : Nat) : (s.raiseSat c).res = s.res := by
  unfold State.raiseSat
  dsimp only
  split <;> simp

@[simp] theorem State.raiseSat_mir (s : State) (c : Nat) : (s.raiseSat c).mir = s.mir := by
  unfold State.raiseSat
  dsimp only
  split <;> simp

@[simp] theorem State.raiseSat_shd (s : State) (c : Nat) : (s.raiseSat c).shd = s.shd := by
  unfold State.raiseSat
  dsimp only
  split <;> simp

@[simp] theorem State.raiseSat_fab (s : State) (c : Nat) : (s.raiseSat c).fab = s.fab := by
  unfold State.raiseSat
  dsimp only
  split <;> simp

@[simp] theorem State.raiseSat_fences (s : State) (c : Nat) : (s.raiseSat c).fences = s.fences := by
  unfold State.raiseSat
  dsimp only
  split <;> simp

@[simp] theorem State.raiseSat_pwr (s : State) (c : Nat) : (s.raiseSat c).pwr = s.pwr := by
  unfold State.raiseSat
  dsimp only
  split <;> simp

/-! ### `State.bump` changes evt, tap, cnts alone -/

@[simp] theorem State.bump_pending (s : State) (c n : Nat) : (s.bump c n).pending = s.pending := by
  unfold State.bump
  dsimp only
  split <;> simp

@[simp] theorem State.bump_free (s : State) (c n : Nat) : (s.bump c n).free = s.free := by
  unfold State.bump
  dsimp only
  split <;> simp

@[simp] theorem State.bump_us (s : State) (c n : Nat) : (s.bump c n).us = s.us := by
  unfold State.bump
  dsimp only
  split <;> simp

@[simp] theorem State.bump_power (s : State) (c n : Nat) : (s.bump c n).power = s.power := by
  unfold State.bump
  dsimp only
  split <;> simp

@[simp] theorem State.bump_pins (s : State) (c n : Nat) : (s.bump c n).pins = s.pins := by
  unfold State.bump
  dsimp only
  split <;> simp

@[simp] theorem State.bump_regs (s : State) (c n : Nat) : (s.bump c n).regs = s.regs := by
  unfold State.bump
  dsimp only
  split <;> simp

@[simp] theorem State.bump_latches (s : State) (c n : Nat) : (s.bump c n).latches = s.latches := by
  unfold State.bump
  dsimp only
  split <;> simp

@[simp] theorem State.bump_out (s : State) (c n : Nat) : (s.bump c n).out = s.out := by
  unfold State.bump
  dsimp only
  split <;> simp

@[simp] theorem State.bump_mem (s : State) (c n : Nat) : (s.bump c n).mem = s.mem := by
  unfold State.bump
  dsimp only
  split <;> simp

@[simp] theorem State.bump_hq (s : State) (c n : Nat) : (s.bump c n).hq = s.hq := by
  unfold State.bump
  dsimp only
  split <;> simp

@[simp] theorem State.bump_hst (s : State) (c n : Nat) : (s.bump c n).hst = s.hst := by
  unfold State.bump
  dsimp only
  split <;> simp

@[simp] theorem State.bump_bootReply (s : State) (c n : Nat) : (s.bump c n).bootReply = s.bootReply := by
  unfold State.bump
  dsimp only
  split <;> simp

@[simp] theorem State.bump_noc (s : State) (c n : Nat) : (s.bump c n).noc = s.noc := by
  unfold State.bump
  dsimp only
  split <;> simp

@[simp] theorem State.bump_dcMissed (s : State) (c n : Nat) : (s.bump c n).dcMissed = s.dcMissed := by
  unfold State.bump
  dsimp only
  split <;> simp

@[simp] theorem State.bump_sec (s : State) (c n : Nat) : (s.bump c n).sec = s.sec := by
  unfold State.bump
  dsimp only
  split <;> simp

@[simp] theorem State.bump_txn (s : State) (c n : Nat) : (s.bump c n).txn = s.txn := by
  unfold State.bump
  dsimp only
  split <;> simp

@[simp] theorem State.bump_boot (s : State) (c n : Nat) : (s.bump c n).boot = s.boot := by
  unfold State.bump
  dsimp only
  split <;> simp

@[simp] theorem State.bump_eth (s : State) (c n : Nat) : (s.bump c n).eth = s.eth := by
  unfold State.bump
  dsimp only
  split <;> simp

@[simp] theorem State.bump_spi (s : State) (c n : Nat) : (s.bump c n).spi = s.spi := by
  unfold State.bump
  dsimp only
  split <;> simp

@[simp] theorem State.bump_facets (s : State) (c n : Nat) : (s.bump c n).facets = s.facets := by
  unfold State.bump
  dsimp only
  split <;> simp

@[simp] theorem State.bump_tctrs (s : State) (c n : Nat) : (s.bump c n).tctrs = s.tctrs := by
  unfold State.bump
  dsimp only
  split <;> simp

@[simp] theorem State.bump_rtc (s : State) (c n : Nat) : (s.bump c n).rtc = s.rtc := by
  unfold State.bump
  dsimp only
  split <;> simp

@[simp] theorem State.bump_prs (s : State) (c n : Nat) : (s.bump c n).prs = s.prs := by
  unfold State.bump
  dsimp only
  split <;> simp

@[simp] theorem State.bump_kvm (s : State) (c n : Nat) : (s.bump c n).kvm = s.kvm := by
  unfold State.bump
  dsimp only
  split <;> simp

@[simp] theorem State.bump_srv (s : State) (c n : Nat) : (s.bump c n).srv = s.srv := by
  unfold State.bump
  dsimp only
  split <;> simp

@[simp] theorem State.bump_res (s : State) (c n : Nat) : (s.bump c n).res = s.res := by
  unfold State.bump
  dsimp only
  split <;> simp

@[simp] theorem State.bump_mir (s : State) (c n : Nat) : (s.bump c n).mir = s.mir := by
  unfold State.bump
  dsimp only
  split <;> simp

@[simp] theorem State.bump_shd (s : State) (c n : Nat) : (s.bump c n).shd = s.shd := by
  unfold State.bump
  dsimp only
  split <;> simp

@[simp] theorem State.bump_fab (s : State) (c n : Nat) : (s.bump c n).fab = s.fab := by
  unfold State.bump
  dsimp only
  split <;> simp

@[simp] theorem State.bump_fences (s : State) (c n : Nat) : (s.bump c n).fences = s.fences := by
  unfold State.bump
  dsimp only
  split <;> simp

@[simp] theorem State.bump_pwr (s : State) (c n : Nat) : (s.bump c n).pwr = s.pwr := by
  unfold State.bump
  dsimp only
  split <;> simp

/-! ### `State.raiseRec` changes evt, tap, cnts, pins, regs alone -/

@[simp] theorem State.raiseRec_pending (s : State) (e : EventRec) : (s.raiseRec e).pending = s.pending := by
  unfold State.raiseRec
  dsimp only
  split <;> simp

@[simp] theorem State.raiseRec_free (s : State) (e : EventRec) : (s.raiseRec e).free = s.free := by
  unfold State.raiseRec
  dsimp only
  split <;> simp

@[simp] theorem State.raiseRec_us (s : State) (e : EventRec) : (s.raiseRec e).us = s.us := by
  unfold State.raiseRec
  dsimp only
  split <;> simp

@[simp] theorem State.raiseRec_power (s : State) (e : EventRec) : (s.raiseRec e).power = s.power := by
  unfold State.raiseRec
  dsimp only
  split <;> simp

@[simp] theorem State.raiseRec_latches (s : State) (e : EventRec) : (s.raiseRec e).latches = s.latches := by
  unfold State.raiseRec
  dsimp only
  split <;> simp

@[simp] theorem State.raiseRec_out (s : State) (e : EventRec) : (s.raiseRec e).out = s.out := by
  unfold State.raiseRec
  dsimp only
  split <;> simp

@[simp] theorem State.raiseRec_mem (s : State) (e : EventRec) : (s.raiseRec e).mem = s.mem := by
  unfold State.raiseRec
  dsimp only
  split <;> simp

@[simp] theorem State.raiseRec_hq (s : State) (e : EventRec) : (s.raiseRec e).hq = s.hq := by
  unfold State.raiseRec
  dsimp only
  split <;> simp

@[simp] theorem State.raiseRec_hst (s : State) (e : EventRec) : (s.raiseRec e).hst = s.hst := by
  unfold State.raiseRec
  dsimp only
  split <;> simp

@[simp] theorem State.raiseRec_bootReply (s : State) (e : EventRec) : (s.raiseRec e).bootReply = s.bootReply := by
  unfold State.raiseRec
  dsimp only
  split <;> simp

@[simp] theorem State.raiseRec_noc (s : State) (e : EventRec) : (s.raiseRec e).noc = s.noc := by
  unfold State.raiseRec
  dsimp only
  split <;> simp

@[simp] theorem State.raiseRec_dcMissed (s : State) (e : EventRec) : (s.raiseRec e).dcMissed = s.dcMissed := by
  unfold State.raiseRec
  dsimp only
  split <;> simp

@[simp] theorem State.raiseRec_sec (s : State) (e : EventRec) : (s.raiseRec e).sec = s.sec := by
  unfold State.raiseRec
  dsimp only
  split <;> simp

@[simp] theorem State.raiseRec_txn (s : State) (e : EventRec) : (s.raiseRec e).txn = s.txn := by
  unfold State.raiseRec
  dsimp only
  split <;> simp

@[simp] theorem State.raiseRec_boot (s : State) (e : EventRec) : (s.raiseRec e).boot = s.boot := by
  unfold State.raiseRec
  dsimp only
  split <;> simp

@[simp] theorem State.raiseRec_eth (s : State) (e : EventRec) : (s.raiseRec e).eth = s.eth := by
  unfold State.raiseRec
  dsimp only
  split <;> simp

@[simp] theorem State.raiseRec_spi (s : State) (e : EventRec) : (s.raiseRec e).spi = s.spi := by
  unfold State.raiseRec
  dsimp only
  split <;> simp

@[simp] theorem State.raiseRec_facets (s : State) (e : EventRec) : (s.raiseRec e).facets = s.facets := by
  unfold State.raiseRec
  dsimp only
  split <;> simp

@[simp] theorem State.raiseRec_tctrs (s : State) (e : EventRec) : (s.raiseRec e).tctrs = s.tctrs := by
  unfold State.raiseRec
  dsimp only
  split <;> simp

@[simp] theorem State.raiseRec_rtc (s : State) (e : EventRec) : (s.raiseRec e).rtc = s.rtc := by
  unfold State.raiseRec
  dsimp only
  split <;> simp

@[simp] theorem State.raiseRec_prs (s : State) (e : EventRec) : (s.raiseRec e).prs = s.prs := by
  unfold State.raiseRec
  dsimp only
  split <;> simp

@[simp] theorem State.raiseRec_kvm (s : State) (e : EventRec) : (s.raiseRec e).kvm = s.kvm := by
  unfold State.raiseRec
  dsimp only
  split <;> simp

@[simp] theorem State.raiseRec_srv (s : State) (e : EventRec) : (s.raiseRec e).srv = s.srv := by
  unfold State.raiseRec
  dsimp only
  split <;> simp

@[simp] theorem State.raiseRec_res (s : State) (e : EventRec) : (s.raiseRec e).res = s.res := by
  unfold State.raiseRec
  dsimp only
  split <;> simp

@[simp] theorem State.raiseRec_mir (s : State) (e : EventRec) : (s.raiseRec e).mir = s.mir := by
  unfold State.raiseRec
  dsimp only
  split <;> simp

@[simp] theorem State.raiseRec_shd (s : State) (e : EventRec) : (s.raiseRec e).shd = s.shd := by
  unfold State.raiseRec
  dsimp only
  split <;> simp

@[simp] theorem State.raiseRec_fab (s : State) (e : EventRec) : (s.raiseRec e).fab = s.fab := by
  unfold State.raiseRec
  dsimp only
  split <;> simp

@[simp] theorem State.raiseRec_fences (s : State) (e : EventRec) : (s.raiseRec e).fences = s.fences := by
  unfold State.raiseRec
  dsimp only
  split <;> simp

@[simp] theorem State.raiseRec_pwr (s : State) (e : EventRec) : (s.raiseRec e).pwr = s.pwr := by
  unfold State.raiseRec
  dsimp only
  split <;> simp

theorem State.raiseRec_pins_mild (s : State) (e : EventRec) (h : e.cls ≠ 3) : (s.raiseRec e).pins = s.pins := by
  unfold State.raiseRec
  dsimp only
  split <;> simp [State.holdRaw_pins_mild _ _ h]

theorem State.raiseRec_regs_mild (s : State) (e : EventRec) (h : e.cls ≠ 3) : (s.raiseRec e).regs = s.regs := by
  unfold State.raiseRec
  dsimp only
  split <;> simp [State.holdRaw_regs_mild _ _ h]

/-! ### `State.raise` changes evt, tap, cnts, pins, regs alone -/

@[simp] theorem State.raise_pending (s : State) (c u x d0 d1 st : Nat) : (s.raise c u x d0 d1 st).pending = s.pending := by
  simp [State.raise]

@[simp] theorem State.raise_free (s : State) (c u x d0 d1 st : Nat) : (s.raise c u x d0 d1 st).free = s.free := by
  simp [State.raise]

@[simp] theorem State.raise_us (s : State) (c u x d0 d1 st : Nat) : (s.raise c u x d0 d1 st).us = s.us := by
  simp [State.raise]

@[simp] theorem State.raise_power (s : State) (c u x d0 d1 st : Nat) : (s.raise c u x d0 d1 st).power = s.power := by
  simp [State.raise]

@[simp] theorem State.raise_latches (s : State) (c u x d0 d1 st : Nat) : (s.raise c u x d0 d1 st).latches = s.latches := by
  simp [State.raise]

@[simp] theorem State.raise_out (s : State) (c u x d0 d1 st : Nat) : (s.raise c u x d0 d1 st).out = s.out := by
  simp [State.raise]

@[simp] theorem State.raise_mem (s : State) (c u x d0 d1 st : Nat) : (s.raise c u x d0 d1 st).mem = s.mem := by
  simp [State.raise]

@[simp] theorem State.raise_hq (s : State) (c u x d0 d1 st : Nat) : (s.raise c u x d0 d1 st).hq = s.hq := by
  simp [State.raise]

@[simp] theorem State.raise_hst (s : State) (c u x d0 d1 st : Nat) : (s.raise c u x d0 d1 st).hst = s.hst := by
  simp [State.raise]

@[simp] theorem State.raise_bootReply (s : State) (c u x d0 d1 st : Nat) : (s.raise c u x d0 d1 st).bootReply = s.bootReply := by
  simp [State.raise]

@[simp] theorem State.raise_noc (s : State) (c u x d0 d1 st : Nat) : (s.raise c u x d0 d1 st).noc = s.noc := by
  simp [State.raise]

@[simp] theorem State.raise_dcMissed (s : State) (c u x d0 d1 st : Nat) : (s.raise c u x d0 d1 st).dcMissed = s.dcMissed := by
  simp [State.raise]

@[simp] theorem State.raise_sec (s : State) (c u x d0 d1 st : Nat) : (s.raise c u x d0 d1 st).sec = s.sec := by
  simp [State.raise]

@[simp] theorem State.raise_txn (s : State) (c u x d0 d1 st : Nat) : (s.raise c u x d0 d1 st).txn = s.txn := by
  simp [State.raise]

@[simp] theorem State.raise_boot (s : State) (c u x d0 d1 st : Nat) : (s.raise c u x d0 d1 st).boot = s.boot := by
  simp [State.raise]

@[simp] theorem State.raise_eth (s : State) (c u x d0 d1 st : Nat) : (s.raise c u x d0 d1 st).eth = s.eth := by
  simp [State.raise]

@[simp] theorem State.raise_spi (s : State) (c u x d0 d1 st : Nat) : (s.raise c u x d0 d1 st).spi = s.spi := by
  simp [State.raise]

@[simp] theorem State.raise_facets (s : State) (c u x d0 d1 st : Nat) : (s.raise c u x d0 d1 st).facets = s.facets := by
  simp [State.raise]

@[simp] theorem State.raise_tctrs (s : State) (c u x d0 d1 st : Nat) : (s.raise c u x d0 d1 st).tctrs = s.tctrs := by
  simp [State.raise]

@[simp] theorem State.raise_rtc (s : State) (c u x d0 d1 st : Nat) : (s.raise c u x d0 d1 st).rtc = s.rtc := by
  simp [State.raise]

@[simp] theorem State.raise_prs (s : State) (c u x d0 d1 st : Nat) : (s.raise c u x d0 d1 st).prs = s.prs := by
  simp [State.raise]

@[simp] theorem State.raise_kvm (s : State) (c u x d0 d1 st : Nat) : (s.raise c u x d0 d1 st).kvm = s.kvm := by
  simp [State.raise]

@[simp] theorem State.raise_srv (s : State) (c u x d0 d1 st : Nat) : (s.raise c u x d0 d1 st).srv = s.srv := by
  simp [State.raise]

@[simp] theorem State.raise_res (s : State) (c u x d0 d1 st : Nat) : (s.raise c u x d0 d1 st).res = s.res := by
  simp [State.raise]

@[simp] theorem State.raise_mir (s : State) (c u x d0 d1 st : Nat) : (s.raise c u x d0 d1 st).mir = s.mir := by
  simp [State.raise]

@[simp] theorem State.raise_shd (s : State) (c u x d0 d1 st : Nat) : (s.raise c u x d0 d1 st).shd = s.shd := by
  simp [State.raise]

@[simp] theorem State.raise_fab (s : State) (c u x d0 d1 st : Nat) : (s.raise c u x d0 d1 st).fab = s.fab := by
  simp [State.raise]

@[simp] theorem State.raise_fences (s : State) (c u x d0 d1 st : Nat) : (s.raise c u x d0 d1 st).fences = s.fences := by
  simp [State.raise]

@[simp] theorem State.raise_pwr (s : State) (c u x d0 d1 st : Nat) : (s.raise c u x d0 d1 st).pwr = s.pwr := by
  simp [State.raise]

/-- An event that is not FE leaves the pins. -/
theorem State.raise_pins_mild (s : State) (c u x d0 d1 st : Nat) (h : eventClass c ≠ 3) : (s.raise c u x d0 d1 st).pins = s.pins :=
  State.raiseRec_pins_mild _ _ h

/-- An event that is not FE leaves the registers. -/
theorem State.raise_regs_mild (s : State) (c u x d0 d1 st : Nat) (h : eventClass c ≠ 3) : (s.raise c u x d0 d1 st).regs = s.regs :=
  State.raiseRec_regs_mild _ _ h

/-! ### `State.accessEvent` changes evt, tap, cnts, pins, regs alone -/

@[simp] theorem State.accessEvent_pending (s : State) (org : Originator) (off n : Nat) : (s.accessEvent org off n).pending = s.pending := by
  unfold State.accessEvent
  dsimp only
  split <;> simp

@[simp] theorem State.accessEvent_free (s : State) (org : Originator) (off n : Nat) : (s.accessEvent org off n).free = s.free := by
  unfold State.accessEvent
  dsimp only
  split <;> simp

@[simp] theorem State.accessEvent_us (s : State) (org : Originator) (off n : Nat) : (s.accessEvent org off n).us = s.us := by
  unfold State.accessEvent
  dsimp only
  split <;> simp

@[simp] theorem State.accessEvent_power (s : State) (org : Originator) (off n : Nat) : (s.accessEvent org off n).power = s.power := by
  unfold State.accessEvent
  dsimp only
  split <;> simp

@[simp] theorem State.accessEvent_latches (s : State) (org : Originator) (off n : Nat) : (s.accessEvent org off n).latches = s.latches := by
  unfold State.accessEvent
  dsimp only
  split <;> simp

@[simp] theorem State.accessEvent_out (s : State) (org : Originator) (off n : Nat) : (s.accessEvent org off n).out = s.out := by
  unfold State.accessEvent
  dsimp only
  split <;> simp

@[simp] theorem State.accessEvent_mem (s : State) (org : Originator) (off n : Nat) : (s.accessEvent org off n).mem = s.mem := by
  unfold State.accessEvent
  dsimp only
  split <;> simp

@[simp] theorem State.accessEvent_hq (s : State) (org : Originator) (off n : Nat) : (s.accessEvent org off n).hq = s.hq := by
  unfold State.accessEvent
  dsimp only
  split <;> simp

@[simp] theorem State.accessEvent_hst (s : State) (org : Originator) (off n : Nat) : (s.accessEvent org off n).hst = s.hst := by
  unfold State.accessEvent
  dsimp only
  split <;> simp

@[simp] theorem State.accessEvent_bootReply (s : State) (org : Originator) (off n : Nat) : (s.accessEvent org off n).bootReply = s.bootReply := by
  unfold State.accessEvent
  dsimp only
  split <;> simp

@[simp] theorem State.accessEvent_noc (s : State) (org : Originator) (off n : Nat) : (s.accessEvent org off n).noc = s.noc := by
  unfold State.accessEvent
  dsimp only
  split <;> simp

@[simp] theorem State.accessEvent_dcMissed (s : State) (org : Originator) (off n : Nat) : (s.accessEvent org off n).dcMissed = s.dcMissed := by
  unfold State.accessEvent
  dsimp only
  split <;> simp

@[simp] theorem State.accessEvent_sec (s : State) (org : Originator) (off n : Nat) : (s.accessEvent org off n).sec = s.sec := by
  unfold State.accessEvent
  dsimp only
  split <;> simp

@[simp] theorem State.accessEvent_txn (s : State) (org : Originator) (off n : Nat) : (s.accessEvent org off n).txn = s.txn := by
  unfold State.accessEvent
  dsimp only
  split <;> simp

@[simp] theorem State.accessEvent_boot (s : State) (org : Originator) (off n : Nat) : (s.accessEvent org off n).boot = s.boot := by
  unfold State.accessEvent
  dsimp only
  split <;> simp

@[simp] theorem State.accessEvent_eth (s : State) (org : Originator) (off n : Nat) : (s.accessEvent org off n).eth = s.eth := by
  unfold State.accessEvent
  dsimp only
  split <;> simp

@[simp] theorem State.accessEvent_spi (s : State) (org : Originator) (off n : Nat) : (s.accessEvent org off n).spi = s.spi := by
  unfold State.accessEvent
  dsimp only
  split <;> simp

@[simp] theorem State.accessEvent_facets (s : State) (org : Originator) (off n : Nat) : (s.accessEvent org off n).facets = s.facets := by
  unfold State.accessEvent
  dsimp only
  split <;> simp

@[simp] theorem State.accessEvent_tctrs (s : State) (org : Originator) (off n : Nat) : (s.accessEvent org off n).tctrs = s.tctrs := by
  unfold State.accessEvent
  dsimp only
  split <;> simp

@[simp] theorem State.accessEvent_rtc (s : State) (org : Originator) (off n : Nat) : (s.accessEvent org off n).rtc = s.rtc := by
  unfold State.accessEvent
  dsimp only
  split <;> simp

@[simp] theorem State.accessEvent_prs (s : State) (org : Originator) (off n : Nat) : (s.accessEvent org off n).prs = s.prs := by
  unfold State.accessEvent
  dsimp only
  split <;> simp

@[simp] theorem State.accessEvent_kvm (s : State) (org : Originator) (off n : Nat) : (s.accessEvent org off n).kvm = s.kvm := by
  unfold State.accessEvent
  dsimp only
  split <;> simp

@[simp] theorem State.accessEvent_srv (s : State) (org : Originator) (off n : Nat) : (s.accessEvent org off n).srv = s.srv := by
  unfold State.accessEvent
  dsimp only
  split <;> simp

@[simp] theorem State.accessEvent_res (s : State) (org : Originator) (off n : Nat) : (s.accessEvent org off n).res = s.res := by
  unfold State.accessEvent
  dsimp only
  split <;> simp

@[simp] theorem State.accessEvent_mir (s : State) (org : Originator) (off n : Nat) : (s.accessEvent org off n).mir = s.mir := by
  unfold State.accessEvent
  dsimp only
  split <;> simp

@[simp] theorem State.accessEvent_shd (s : State) (org : Originator) (off n : Nat) : (s.accessEvent org off n).shd = s.shd := by
  unfold State.accessEvent
  dsimp only
  split <;> simp

@[simp] theorem State.accessEvent_fab (s : State) (org : Originator) (off n : Nat) : (s.accessEvent org off n).fab = s.fab := by
  unfold State.accessEvent
  dsimp only
  split <;> simp

@[simp] theorem State.accessEvent_fences (s : State) (org : Originator) (off n : Nat) : (s.accessEvent org off n).fences = s.fences := by
  unfold State.accessEvent
  dsimp only
  split <;> simp

@[simp] theorem State.accessEvent_pwr (s : State) (org : Originator) (off n : Nat) : (s.accessEvent org off n).pwr = s.pwr := by
  unfold State.accessEvent
  dsimp only
  split <;> simp

/-! ### `State.tread` changes evt, tap, cnts alone -/

@[simp] theorem State.tread_pending (s : State) (sp off n : Nat) : (s.tread sp off n).pending = s.pending := by
  unfold State.tread
  (repeat' split) <;> simp

@[simp] theorem State.tread_free (s : State) (sp off n : Nat) : (s.tread sp off n).free = s.free := by
  unfold State.tread
  (repeat' split) <;> simp

@[simp] theorem State.tread_us (s : State) (sp off n : Nat) : (s.tread sp off n).us = s.us := by
  unfold State.tread
  (repeat' split) <;> simp

@[simp] theorem State.tread_power (s : State) (sp off n : Nat) : (s.tread sp off n).power = s.power := by
  unfold State.tread
  (repeat' split) <;> simp

@[simp] theorem State.tread_pins (s : State) (sp off n : Nat) : (s.tread sp off n).pins = s.pins := by
  unfold State.tread
  (repeat' split) <;> simp

@[simp] theorem State.tread_regs (s : State) (sp off n : Nat) : (s.tread sp off n).regs = s.regs := by
  unfold State.tread
  (repeat' split) <;> simp

@[simp] theorem State.tread_latches (s : State) (sp off n : Nat) : (s.tread sp off n).latches = s.latches := by
  unfold State.tread
  (repeat' split) <;> simp

@[simp] theorem State.tread_out (s : State) (sp off n : Nat) : (s.tread sp off n).out = s.out := by
  unfold State.tread
  (repeat' split) <;> simp

@[simp] theorem State.tread_mem (s : State) (sp off n : Nat) : (s.tread sp off n).mem = s.mem := by
  unfold State.tread
  (repeat' split) <;> simp

@[simp] theorem State.tread_hq (s : State) (sp off n : Nat) : (s.tread sp off n).hq = s.hq := by
  unfold State.tread
  (repeat' split) <;> simp

@[simp] theorem State.tread_hst (s : State) (sp off n : Nat) : (s.tread sp off n).hst = s.hst := by
  unfold State.tread
  (repeat' split) <;> simp

@[simp] theorem State.tread_bootReply (s : State) (sp off n : Nat) : (s.tread sp off n).bootReply = s.bootReply := by
  unfold State.tread
  (repeat' split) <;> simp

@[simp] theorem State.tread_noc (s : State) (sp off n : Nat) : (s.tread sp off n).noc = s.noc := by
  unfold State.tread
  (repeat' split) <;> simp

@[simp] theorem State.tread_dcMissed (s : State) (sp off n : Nat) : (s.tread sp off n).dcMissed = s.dcMissed := by
  unfold State.tread
  (repeat' split) <;> simp

@[simp] theorem State.tread_sec (s : State) (sp off n : Nat) : (s.tread sp off n).sec = s.sec := by
  unfold State.tread
  (repeat' split) <;> simp

@[simp] theorem State.tread_txn (s : State) (sp off n : Nat) : (s.tread sp off n).txn = s.txn := by
  unfold State.tread
  (repeat' split) <;> simp

@[simp] theorem State.tread_boot (s : State) (sp off n : Nat) : (s.tread sp off n).boot = s.boot := by
  unfold State.tread
  (repeat' split) <;> simp

@[simp] theorem State.tread_eth (s : State) (sp off n : Nat) : (s.tread sp off n).eth = s.eth := by
  unfold State.tread
  (repeat' split) <;> simp

@[simp] theorem State.tread_spi (s : State) (sp off n : Nat) : (s.tread sp off n).spi = s.spi := by
  unfold State.tread
  (repeat' split) <;> simp

@[simp] theorem State.tread_facets (s : State) (sp off n : Nat) : (s.tread sp off n).facets = s.facets := by
  unfold State.tread
  (repeat' split) <;> simp

@[simp] theorem State.tread_tctrs (s : State) (sp off n : Nat) : (s.tread sp off n).tctrs = s.tctrs := by
  unfold State.tread
  (repeat' split) <;> simp

@[simp] theorem State.tread_rtc (s : State) (sp off n : Nat) : (s.tread sp off n).rtc = s.rtc := by
  unfold State.tread
  (repeat' split) <;> simp

@[simp] theorem State.tread_prs (s : State) (sp off n : Nat) : (s.tread sp off n).prs = s.prs := by
  unfold State.tread
  (repeat' split) <;> simp

@[simp] theorem State.tread_kvm (s : State) (sp off n : Nat) : (s.tread sp off n).kvm = s.kvm := by
  unfold State.tread
  (repeat' split) <;> simp

@[simp] theorem State.tread_srv (s : State) (sp off n : Nat) : (s.tread sp off n).srv = s.srv := by
  unfold State.tread
  (repeat' split) <;> simp

@[simp] theorem State.tread_res (s : State) (sp off n : Nat) : (s.tread sp off n).res = s.res := by
  unfold State.tread
  (repeat' split) <;> simp

@[simp] theorem State.tread_mir (s : State) (sp off n : Nat) : (s.tread sp off n).mir = s.mir := by
  unfold State.tread
  (repeat' split) <;> simp

@[simp] theorem State.tread_shd (s : State) (sp off n : Nat) : (s.tread sp off n).shd = s.shd := by
  unfold State.tread
  (repeat' split) <;> simp

@[simp] theorem State.tread_fab (s : State) (sp off n : Nat) : (s.tread sp off n).fab = s.fab := by
  unfold State.tread
  (repeat' split) <;> simp

@[simp] theorem State.tread_fences (s : State) (sp off n : Nat) : (s.tread sp off n).fences = s.fences := by
  unfold State.tread
  (repeat' split) <;> simp

@[simp] theorem State.tread_pwr (s : State) (sp off n : Nat) : (s.tread sp off n).pwr = s.pwr := by
  unfold State.tread
  (repeat' split) <;> simp

/-! ### `State.twrite` changes evt, tap, cnts, mem alone -/

@[simp] theorem State.twrite_pending (s : State) (sp off : Nat) (bs : List Byte) (p : Bool) : (s.twrite sp off bs p).pending = s.pending := by
  unfold State.twrite
  dsimp only
  (repeat' split) <;> simp

@[simp] theorem State.twrite_free (s : State) (sp off : Nat) (bs : List Byte) (p : Bool) : (s.twrite sp off bs p).free = s.free := by
  unfold State.twrite
  dsimp only
  (repeat' split) <;> simp

@[simp] theorem State.twrite_us (s : State) (sp off : Nat) (bs : List Byte) (p : Bool) : (s.twrite sp off bs p).us = s.us := by
  unfold State.twrite
  dsimp only
  (repeat' split) <;> simp

@[simp] theorem State.twrite_power (s : State) (sp off : Nat) (bs : List Byte) (p : Bool) : (s.twrite sp off bs p).power = s.power := by
  unfold State.twrite
  dsimp only
  (repeat' split) <;> simp

@[simp] theorem State.twrite_pins (s : State) (sp off : Nat) (bs : List Byte) (p : Bool) : (s.twrite sp off bs p).pins = s.pins := by
  unfold State.twrite
  dsimp only
  (repeat' split) <;> simp

@[simp] theorem State.twrite_regs (s : State) (sp off : Nat) (bs : List Byte) (p : Bool) : (s.twrite sp off bs p).regs = s.regs := by
  unfold State.twrite
  dsimp only
  (repeat' split) <;> simp

@[simp] theorem State.twrite_latches (s : State) (sp off : Nat) (bs : List Byte) (p : Bool) : (s.twrite sp off bs p).latches = s.latches := by
  unfold State.twrite
  dsimp only
  (repeat' split) <;> simp

@[simp] theorem State.twrite_out (s : State) (sp off : Nat) (bs : List Byte) (p : Bool) : (s.twrite sp off bs p).out = s.out := by
  unfold State.twrite
  dsimp only
  (repeat' split) <;> simp

@[simp] theorem State.twrite_hq (s : State) (sp off : Nat) (bs : List Byte) (p : Bool) : (s.twrite sp off bs p).hq = s.hq := by
  unfold State.twrite
  dsimp only
  (repeat' split) <;> simp

@[simp] theorem State.twrite_hst (s : State) (sp off : Nat) (bs : List Byte) (p : Bool) : (s.twrite sp off bs p).hst = s.hst := by
  unfold State.twrite
  dsimp only
  (repeat' split) <;> simp

@[simp] theorem State.twrite_bootReply (s : State) (sp off : Nat) (bs : List Byte) (p : Bool) : (s.twrite sp off bs p).bootReply = s.bootReply := by
  unfold State.twrite
  dsimp only
  (repeat' split) <;> simp

@[simp] theorem State.twrite_noc (s : State) (sp off : Nat) (bs : List Byte) (p : Bool) : (s.twrite sp off bs p).noc = s.noc := by
  unfold State.twrite
  dsimp only
  (repeat' split) <;> simp

@[simp] theorem State.twrite_dcMissed (s : State) (sp off : Nat) (bs : List Byte) (p : Bool) : (s.twrite sp off bs p).dcMissed = s.dcMissed := by
  unfold State.twrite
  dsimp only
  (repeat' split) <;> simp

@[simp] theorem State.twrite_sec (s : State) (sp off : Nat) (bs : List Byte) (p : Bool) : (s.twrite sp off bs p).sec = s.sec := by
  unfold State.twrite
  dsimp only
  (repeat' split) <;> simp

@[simp] theorem State.twrite_txn (s : State) (sp off : Nat) (bs : List Byte) (p : Bool) : (s.twrite sp off bs p).txn = s.txn := by
  unfold State.twrite
  dsimp only
  (repeat' split) <;> simp

@[simp] theorem State.twrite_boot (s : State) (sp off : Nat) (bs : List Byte) (p : Bool) : (s.twrite sp off bs p).boot = s.boot := by
  unfold State.twrite
  dsimp only
  (repeat' split) <;> simp

@[simp] theorem State.twrite_eth (s : State) (sp off : Nat) (bs : List Byte) (p : Bool) : (s.twrite sp off bs p).eth = s.eth := by
  unfold State.twrite
  dsimp only
  (repeat' split) <;> simp

@[simp] theorem State.twrite_spi (s : State) (sp off : Nat) (bs : List Byte) (p : Bool) : (s.twrite sp off bs p).spi = s.spi := by
  unfold State.twrite
  dsimp only
  (repeat' split) <;> simp

@[simp] theorem State.twrite_facets (s : State) (sp off : Nat) (bs : List Byte) (p : Bool) : (s.twrite sp off bs p).facets = s.facets := by
  unfold State.twrite
  dsimp only
  (repeat' split) <;> simp

@[simp] theorem State.twrite_tctrs (s : State) (sp off : Nat) (bs : List Byte) (p : Bool) : (s.twrite sp off bs p).tctrs = s.tctrs := by
  unfold State.twrite
  dsimp only
  (repeat' split) <;> simp

@[simp] theorem State.twrite_rtc (s : State) (sp off : Nat) (bs : List Byte) (p : Bool) : (s.twrite sp off bs p).rtc = s.rtc := by
  unfold State.twrite
  dsimp only
  (repeat' split) <;> simp

@[simp] theorem State.twrite_prs (s : State) (sp off : Nat) (bs : List Byte) (p : Bool) : (s.twrite sp off bs p).prs = s.prs := by
  unfold State.twrite
  dsimp only
  (repeat' split) <;> simp

@[simp] theorem State.twrite_kvm (s : State) (sp off : Nat) (bs : List Byte) (p : Bool) : (s.twrite sp off bs p).kvm = s.kvm := by
  unfold State.twrite
  dsimp only
  (repeat' split) <;> simp

@[simp] theorem State.twrite_srv (s : State) (sp off : Nat) (bs : List Byte) (p : Bool) : (s.twrite sp off bs p).srv = s.srv := by
  unfold State.twrite
  dsimp only
  (repeat' split) <;> simp

@[simp] theorem State.twrite_res (s : State) (sp off : Nat) (bs : List Byte) (p : Bool) : (s.twrite sp off bs p).res = s.res := by
  unfold State.twrite
  dsimp only
  (repeat' split) <;> simp

@[simp] theorem State.twrite_mir (s : State) (sp off : Nat) (bs : List Byte) (p : Bool) : (s.twrite sp off bs p).mir = s.mir := by
  unfold State.twrite
  dsimp only
  (repeat' split) <;> simp

@[simp] theorem State.twrite_shd (s : State) (sp off : Nat) (bs : List Byte) (p : Bool) : (s.twrite sp off bs p).shd = s.shd := by
  unfold State.twrite
  dsimp only
  (repeat' split) <;> simp

@[simp] theorem State.twrite_fab (s : State) (sp off : Nat) (bs : List Byte) (p : Bool) : (s.twrite sp off bs p).fab = s.fab := by
  unfold State.twrite
  dsimp only
  (repeat' split) <;> simp

@[simp] theorem State.twrite_fences (s : State) (sp off : Nat) (bs : List Byte) (p : Bool) : (s.twrite sp off bs p).fences = s.fences := by
  unfold State.twrite
  dsimp only
  (repeat' split) <;> simp

@[simp] theorem State.twrite_pwr (s : State) (sp off : Nat) (bs : List Byte) (p : Bool) : (s.twrite sp off bs p).pwr = s.pwr := by
  unfold State.twrite
  dsimp only
  (repeat' split) <;> simp

/-! ### `State.hwrite` changes evt, tap, cnts, mem alone -/

@[simp] theorem State.hwrite_pending (s : State) (a : Nat) (bs : List Byte) : (s.hwrite a bs).pending = s.pending := by
  unfold State.hwrite
  split <;> simp

@[simp] theorem State.hwrite_free (s : State) (a : Nat) (bs : List Byte) : (s.hwrite a bs).free = s.free := by
  unfold State.hwrite
  split <;> simp

@[simp] theorem State.hwrite_us (s : State) (a : Nat) (bs : List Byte) : (s.hwrite a bs).us = s.us := by
  unfold State.hwrite
  split <;> simp

@[simp] theorem State.hwrite_power (s : State) (a : Nat) (bs : List Byte) : (s.hwrite a bs).power = s.power := by
  unfold State.hwrite
  split <;> simp

@[simp] theorem State.hwrite_pins (s : State) (a : Nat) (bs : List Byte) : (s.hwrite a bs).pins = s.pins := by
  unfold State.hwrite
  split <;> simp

@[simp] theorem State.hwrite_regs (s : State) (a : Nat) (bs : List Byte) : (s.hwrite a bs).regs = s.regs := by
  unfold State.hwrite
  split <;> simp

@[simp] theorem State.hwrite_latches (s : State) (a : Nat) (bs : List Byte) : (s.hwrite a bs).latches = s.latches := by
  unfold State.hwrite
  split <;> simp

@[simp] theorem State.hwrite_out (s : State) (a : Nat) (bs : List Byte) : (s.hwrite a bs).out = s.out := by
  unfold State.hwrite
  split <;> simp

@[simp] theorem State.hwrite_hq (s : State) (a : Nat) (bs : List Byte) : (s.hwrite a bs).hq = s.hq := by
  unfold State.hwrite
  split <;> simp

@[simp] theorem State.hwrite_hst (s : State) (a : Nat) (bs : List Byte) : (s.hwrite a bs).hst = s.hst := by
  unfold State.hwrite
  split <;> simp

@[simp] theorem State.hwrite_bootReply (s : State) (a : Nat) (bs : List Byte) : (s.hwrite a bs).bootReply = s.bootReply := by
  unfold State.hwrite
  split <;> simp

@[simp] theorem State.hwrite_noc (s : State) (a : Nat) (bs : List Byte) : (s.hwrite a bs).noc = s.noc := by
  unfold State.hwrite
  split <;> simp

@[simp] theorem State.hwrite_dcMissed (s : State) (a : Nat) (bs : List Byte) : (s.hwrite a bs).dcMissed = s.dcMissed := by
  unfold State.hwrite
  split <;> simp

@[simp] theorem State.hwrite_sec (s : State) (a : Nat) (bs : List Byte) : (s.hwrite a bs).sec = s.sec := by
  unfold State.hwrite
  split <;> simp

@[simp] theorem State.hwrite_txn (s : State) (a : Nat) (bs : List Byte) : (s.hwrite a bs).txn = s.txn := by
  unfold State.hwrite
  split <;> simp

@[simp] theorem State.hwrite_boot (s : State) (a : Nat) (bs : List Byte) : (s.hwrite a bs).boot = s.boot := by
  unfold State.hwrite
  split <;> simp

@[simp] theorem State.hwrite_eth (s : State) (a : Nat) (bs : List Byte) : (s.hwrite a bs).eth = s.eth := by
  unfold State.hwrite
  split <;> simp

@[simp] theorem State.hwrite_spi (s : State) (a : Nat) (bs : List Byte) : (s.hwrite a bs).spi = s.spi := by
  unfold State.hwrite
  split <;> simp

@[simp] theorem State.hwrite_facets (s : State) (a : Nat) (bs : List Byte) : (s.hwrite a bs).facets = s.facets := by
  unfold State.hwrite
  split <;> simp

@[simp] theorem State.hwrite_tctrs (s : State) (a : Nat) (bs : List Byte) : (s.hwrite a bs).tctrs = s.tctrs := by
  unfold State.hwrite
  split <;> simp

@[simp] theorem State.hwrite_rtc (s : State) (a : Nat) (bs : List Byte) : (s.hwrite a bs).rtc = s.rtc := by
  unfold State.hwrite
  split <;> simp

@[simp] theorem State.hwrite_prs (s : State) (a : Nat) (bs : List Byte) : (s.hwrite a bs).prs = s.prs := by
  unfold State.hwrite
  split <;> simp

@[simp] theorem State.hwrite_kvm (s : State) (a : Nat) (bs : List Byte) : (s.hwrite a bs).kvm = s.kvm := by
  unfold State.hwrite
  split <;> simp

@[simp] theorem State.hwrite_srv (s : State) (a : Nat) (bs : List Byte) : (s.hwrite a bs).srv = s.srv := by
  unfold State.hwrite
  split <;> simp

@[simp] theorem State.hwrite_res (s : State) (a : Nat) (bs : List Byte) : (s.hwrite a bs).res = s.res := by
  unfold State.hwrite
  split <;> simp

@[simp] theorem State.hwrite_mir (s : State) (a : Nat) (bs : List Byte) : (s.hwrite a bs).mir = s.mir := by
  unfold State.hwrite
  split <;> simp

@[simp] theorem State.hwrite_shd (s : State) (a : Nat) (bs : List Byte) : (s.hwrite a bs).shd = s.shd := by
  unfold State.hwrite
  split <;> simp

@[simp] theorem State.hwrite_fab (s : State) (a : Nat) (bs : List Byte) : (s.hwrite a bs).fab = s.fab := by
  unfold State.hwrite
  split <;> simp

@[simp] theorem State.hwrite_fences (s : State) (a : Nat) (bs : List Byte) : (s.hwrite a bs).fences = s.fences := by
  unfold State.hwrite
  split <;> simp

@[simp] theorem State.hwrite_pwr (s : State) (a : Nat) (bs : List Byte) : (s.hwrite a bs).pwr = s.pwr := by
  unfold State.hwrite
  split <;> simp

/-! ### `State.qwrite` changes evt, tap, cnts, mem alone -/

@[simp] theorem State.qwrite_pending (s : State) (a : Nat) (bs : List Byte) : (s.qwrite a bs).pending = s.pending := by
  unfold State.qwrite
  split <;> simp

@[simp] theorem State.qwrite_free (s : State) (a : Nat) (bs : List Byte) : (s.qwrite a bs).free = s.free := by
  unfold State.qwrite
  split <;> simp

@[simp] theorem State.qwrite_us (s : State) (a : Nat) (bs : List Byte) : (s.qwrite a bs).us = s.us := by
  unfold State.qwrite
  split <;> simp

@[simp] theorem State.qwrite_power (s : State) (a : Nat) (bs : List Byte) : (s.qwrite a bs).power = s.power := by
  unfold State.qwrite
  split <;> simp

@[simp] theorem State.qwrite_pins (s : State) (a : Nat) (bs : List Byte) : (s.qwrite a bs).pins = s.pins := by
  unfold State.qwrite
  split <;> simp

@[simp] theorem State.qwrite_regs (s : State) (a : Nat) (bs : List Byte) : (s.qwrite a bs).regs = s.regs := by
  unfold State.qwrite
  split <;> simp

@[simp] theorem State.qwrite_latches (s : State) (a : Nat) (bs : List Byte) : (s.qwrite a bs).latches = s.latches := by
  unfold State.qwrite
  split <;> simp

@[simp] theorem State.qwrite_out (s : State) (a : Nat) (bs : List Byte) : (s.qwrite a bs).out = s.out := by
  unfold State.qwrite
  split <;> simp

@[simp] theorem State.qwrite_hq (s : State) (a : Nat) (bs : List Byte) : (s.qwrite a bs).hq = s.hq := by
  unfold State.qwrite
  split <;> simp

@[simp] theorem State.qwrite_hst (s : State) (a : Nat) (bs : List Byte) : (s.qwrite a bs).hst = s.hst := by
  unfold State.qwrite
  split <;> simp

@[simp] theorem State.qwrite_bootReply (s : State) (a : Nat) (bs : List Byte) : (s.qwrite a bs).bootReply = s.bootReply := by
  unfold State.qwrite
  split <;> simp

@[simp] theorem State.qwrite_noc (s : State) (a : Nat) (bs : List Byte) : (s.qwrite a bs).noc = s.noc := by
  unfold State.qwrite
  split <;> simp

@[simp] theorem State.qwrite_dcMissed (s : State) (a : Nat) (bs : List Byte) : (s.qwrite a bs).dcMissed = s.dcMissed := by
  unfold State.qwrite
  split <;> simp

@[simp] theorem State.qwrite_sec (s : State) (a : Nat) (bs : List Byte) : (s.qwrite a bs).sec = s.sec := by
  unfold State.qwrite
  split <;> simp

@[simp] theorem State.qwrite_txn (s : State) (a : Nat) (bs : List Byte) : (s.qwrite a bs).txn = s.txn := by
  unfold State.qwrite
  split <;> simp

@[simp] theorem State.qwrite_boot (s : State) (a : Nat) (bs : List Byte) : (s.qwrite a bs).boot = s.boot := by
  unfold State.qwrite
  split <;> simp

@[simp] theorem State.qwrite_eth (s : State) (a : Nat) (bs : List Byte) : (s.qwrite a bs).eth = s.eth := by
  unfold State.qwrite
  split <;> simp

@[simp] theorem State.qwrite_spi (s : State) (a : Nat) (bs : List Byte) : (s.qwrite a bs).spi = s.spi := by
  unfold State.qwrite
  split <;> simp

@[simp] theorem State.qwrite_facets (s : State) (a : Nat) (bs : List Byte) : (s.qwrite a bs).facets = s.facets := by
  unfold State.qwrite
  split <;> simp

@[simp] theorem State.qwrite_tctrs (s : State) (a : Nat) (bs : List Byte) : (s.qwrite a bs).tctrs = s.tctrs := by
  unfold State.qwrite
  split <;> simp

@[simp] theorem State.qwrite_rtc (s : State) (a : Nat) (bs : List Byte) : (s.qwrite a bs).rtc = s.rtc := by
  unfold State.qwrite
  split <;> simp

@[simp] theorem State.qwrite_prs (s : State) (a : Nat) (bs : List Byte) : (s.qwrite a bs).prs = s.prs := by
  unfold State.qwrite
  split <;> simp

@[simp] theorem State.qwrite_kvm (s : State) (a : Nat) (bs : List Byte) : (s.qwrite a bs).kvm = s.kvm := by
  unfold State.qwrite
  split <;> simp

@[simp] theorem State.qwrite_srv (s : State) (a : Nat) (bs : List Byte) : (s.qwrite a bs).srv = s.srv := by
  unfold State.qwrite
  split <;> simp

@[simp] theorem State.qwrite_res (s : State) (a : Nat) (bs : List Byte) : (s.qwrite a bs).res = s.res := by
  unfold State.qwrite
  split <;> simp

@[simp] theorem State.qwrite_mir (s : State) (a : Nat) (bs : List Byte) : (s.qwrite a bs).mir = s.mir := by
  unfold State.qwrite
  split <;> simp

@[simp] theorem State.qwrite_shd (s : State) (a : Nat) (bs : List Byte) : (s.qwrite a bs).shd = s.shd := by
  unfold State.qwrite
  split <;> simp

@[simp] theorem State.qwrite_fab (s : State) (a : Nat) (bs : List Byte) : (s.qwrite a bs).fab = s.fab := by
  unfold State.qwrite
  split <;> simp

@[simp] theorem State.qwrite_fences (s : State) (a : Nat) (bs : List Byte) : (s.qwrite a bs).fences = s.fences := by
  unfold State.qwrite
  split <;> simp

@[simp] theorem State.qwrite_pwr (s : State) (a : Nat) (bs : List Byte) : (s.qwrite a bs).pwr = s.pwr := by
  unfold State.qwrite
  split <;> simp

/-! ### `State.emit` changes out alone -/

@[simp] theorem State.emit_pending (s : State) (o : Output) : (s.emit o).pending = s.pending := rfl

@[simp] theorem State.emit_free (s : State) (o : Output) : (s.emit o).free = s.free := rfl

@[simp] theorem State.emit_us (s : State) (o : Output) : (s.emit o).us = s.us := rfl

@[simp] theorem State.emit_power (s : State) (o : Output) : (s.emit o).power = s.power := rfl

@[simp] theorem State.emit_pins (s : State) (o : Output) : (s.emit o).pins = s.pins := rfl

@[simp] theorem State.emit_regs (s : State) (o : Output) : (s.emit o).regs = s.regs := rfl

@[simp] theorem State.emit_cnts (s : State) (o : Output) : (s.emit o).cnts = s.cnts := rfl

@[simp] theorem State.emit_latches (s : State) (o : Output) : (s.emit o).latches = s.latches := rfl

@[simp] theorem State.emit_mem (s : State) (o : Output) : (s.emit o).mem = s.mem := rfl

@[simp] theorem State.emit_evt (s : State) (o : Output) : (s.emit o).evt = s.evt := rfl

@[simp] theorem State.emit_hq (s : State) (o : Output) : (s.emit o).hq = s.hq := rfl

@[simp] theorem State.emit_hst (s : State) (o : Output) : (s.emit o).hst = s.hst := rfl

@[simp] theorem State.emit_bootReply (s : State) (o : Output) : (s.emit o).bootReply = s.bootReply := rfl

@[simp] theorem State.emit_noc (s : State) (o : Output) : (s.emit o).noc = s.noc := rfl

@[simp] theorem State.emit_dcMissed (s : State) (o : Output) : (s.emit o).dcMissed = s.dcMissed := rfl

@[simp] theorem State.emit_sec (s : State) (o : Output) : (s.emit o).sec = s.sec := rfl

@[simp] theorem State.emit_txn (s : State) (o : Output) : (s.emit o).txn = s.txn := rfl

@[simp] theorem State.emit_boot (s : State) (o : Output) : (s.emit o).boot = s.boot := rfl

@[simp] theorem State.emit_eth (s : State) (o : Output) : (s.emit o).eth = s.eth := rfl

@[simp] theorem State.emit_spi (s : State) (o : Output) : (s.emit o).spi = s.spi := rfl

@[simp] theorem State.emit_facets (s : State) (o : Output) : (s.emit o).facets = s.facets := rfl

@[simp] theorem State.emit_tctrs (s : State) (o : Output) : (s.emit o).tctrs = s.tctrs := rfl

@[simp] theorem State.emit_rtc (s : State) (o : Output) : (s.emit o).rtc = s.rtc := rfl

@[simp] theorem State.emit_prs (s : State) (o : Output) : (s.emit o).prs = s.prs := rfl

@[simp] theorem State.emit_kvm (s : State) (o : Output) : (s.emit o).kvm = s.kvm := rfl

@[simp] theorem State.emit_srv (s : State) (o : Output) : (s.emit o).srv = s.srv := rfl

@[simp] theorem State.emit_res (s : State) (o : Output) : (s.emit o).res = s.res := rfl

@[simp] theorem State.emit_mir (s : State) (o : Output) : (s.emit o).mir = s.mir := rfl

@[simp] theorem State.emit_shd (s : State) (o : Output) : (s.emit o).shd = s.shd := rfl

@[simp] theorem State.emit_fab (s : State) (o : Output) : (s.emit o).fab = s.fab := rfl

@[simp] theorem State.emit_fences (s : State) (o : Output) : (s.emit o).fences = s.fences := rfl

@[simp] theorem State.emit_pwr (s : State) (o : Output) : (s.emit o).pwr = s.pwr := rfl

@[simp] theorem State.emit_tap (s : State) (o : Output) : (s.emit o).tap = s.tap := rfl

/-! ### `State.setSq` changes hq alone -/

@[simp] theorem State.setSq_pending (s : State) (n : Nat) (q : SqState) : (s.setSq n q).pending = s.pending := rfl

@[simp] theorem State.setSq_free (s : State) (n : Nat) (q : SqState) : (s.setSq n q).free = s.free := rfl

@[simp] theorem State.setSq_us (s : State) (n : Nat) (q : SqState) : (s.setSq n q).us = s.us := rfl

@[simp] theorem State.setSq_power (s : State) (n : Nat) (q : SqState) : (s.setSq n q).power = s.power := rfl

@[simp] theorem State.setSq_pins (s : State) (n : Nat) (q : SqState) : (s.setSq n q).pins = s.pins := rfl

@[simp] theorem State.setSq_regs (s : State) (n : Nat) (q : SqState) : (s.setSq n q).regs = s.regs := rfl

@[simp] theorem State.setSq_cnts (s : State) (n : Nat) (q : SqState) : (s.setSq n q).cnts = s.cnts := rfl

@[simp] theorem State.setSq_latches (s : State) (n : Nat) (q : SqState) : (s.setSq n q).latches = s.latches := rfl

@[simp] theorem State.setSq_out (s : State) (n : Nat) (q : SqState) : (s.setSq n q).out = s.out := rfl

@[simp] theorem State.setSq_mem (s : State) (n : Nat) (q : SqState) : (s.setSq n q).mem = s.mem := rfl

@[simp] theorem State.setSq_evt (s : State) (n : Nat) (q : SqState) : (s.setSq n q).evt = s.evt := rfl

@[simp] theorem State.setSq_hst (s : State) (n : Nat) (q : SqState) : (s.setSq n q).hst = s.hst := rfl

@[simp] theorem State.setSq_bootReply (s : State) (n : Nat) (q : SqState) : (s.setSq n q).bootReply = s.bootReply := rfl

@[simp] theorem State.setSq_noc (s : State) (n : Nat) (q : SqState) : (s.setSq n q).noc = s.noc := rfl

@[simp] theorem State.setSq_dcMissed (s : State) (n : Nat) (q : SqState) : (s.setSq n q).dcMissed = s.dcMissed := rfl

@[simp] theorem State.setSq_sec (s : State) (n : Nat) (q : SqState) : (s.setSq n q).sec = s.sec := rfl

@[simp] theorem State.setSq_txn (s : State) (n : Nat) (q : SqState) : (s.setSq n q).txn = s.txn := rfl

@[simp] theorem State.setSq_boot (s : State) (n : Nat) (q : SqState) : (s.setSq n q).boot = s.boot := rfl

@[simp] theorem State.setSq_eth (s : State) (n : Nat) (q : SqState) : (s.setSq n q).eth = s.eth := rfl

@[simp] theorem State.setSq_spi (s : State) (n : Nat) (q : SqState) : (s.setSq n q).spi = s.spi := rfl

@[simp] theorem State.setSq_facets (s : State) (n : Nat) (q : SqState) : (s.setSq n q).facets = s.facets := rfl

@[simp] theorem State.setSq_tctrs (s : State) (n : Nat) (q : SqState) : (s.setSq n q).tctrs = s.tctrs := rfl

@[simp] theorem State.setSq_rtc (s : State) (n : Nat) (q : SqState) : (s.setSq n q).rtc = s.rtc := rfl

@[simp] theorem State.setSq_prs (s : State) (n : Nat) (q : SqState) : (s.setSq n q).prs = s.prs := rfl

@[simp] theorem State.setSq_kvm (s : State) (n : Nat) (q : SqState) : (s.setSq n q).kvm = s.kvm := rfl

@[simp] theorem State.setSq_srv (s : State) (n : Nat) (q : SqState) : (s.setSq n q).srv = s.srv := rfl

@[simp] theorem State.setSq_res (s : State) (n : Nat) (q : SqState) : (s.setSq n q).res = s.res := rfl

@[simp] theorem State.setSq_mir (s : State) (n : Nat) (q : SqState) : (s.setSq n q).mir = s.mir := rfl

@[simp] theorem State.setSq_shd (s : State) (n : Nat) (q : SqState) : (s.setSq n q).shd = s.shd := rfl

@[simp] theorem State.setSq_fab (s : State) (n : Nat) (q : SqState) : (s.setSq n q).fab = s.fab := rfl

@[simp] theorem State.setSq_fences (s : State) (n : Nat) (q : SqState) : (s.setSq n q).fences = s.fences := rfl

@[simp] theorem State.setSq_pwr (s : State) (n : Nat) (q : SqState) : (s.setSq n q).pwr = s.pwr := rfl

@[simp] theorem State.setSq_tap (s : State) (n : Nat) (q : SqState) : (s.setSq n q).tap = s.tap := rfl

/-! ### `State.setCq` changes hq alone -/

@[simp] theorem State.setCq_pending (s : State) (n : Nat) (q : CqState) : (s.setCq n q).pending = s.pending := rfl

@[simp] theorem State.setCq_free (s : State) (n : Nat) (q : CqState) : (s.setCq n q).free = s.free := rfl

@[simp] theorem State.setCq_us (s : State) (n : Nat) (q : CqState) : (s.setCq n q).us = s.us := rfl

@[simp] theorem State.setCq_power (s : State) (n : Nat) (q : CqState) : (s.setCq n q).power = s.power := rfl

@[simp] theorem State.setCq_pins (s : State) (n : Nat) (q : CqState) : (s.setCq n q).pins = s.pins := rfl

@[simp] theorem State.setCq_regs (s : State) (n : Nat) (q : CqState) : (s.setCq n q).regs = s.regs := rfl

@[simp] theorem State.setCq_cnts (s : State) (n : Nat) (q : CqState) : (s.setCq n q).cnts = s.cnts := rfl

@[simp] theorem State.setCq_latches (s : State) (n : Nat) (q : CqState) : (s.setCq n q).latches = s.latches := rfl

@[simp] theorem State.setCq_out (s : State) (n : Nat) (q : CqState) : (s.setCq n q).out = s.out := rfl

@[simp] theorem State.setCq_mem (s : State) (n : Nat) (q : CqState) : (s.setCq n q).mem = s.mem := rfl

@[simp] theorem State.setCq_evt (s : State) (n : Nat) (q : CqState) : (s.setCq n q).evt = s.evt := rfl

@[simp] theorem State.setCq_hst (s : State) (n : Nat) (q : CqState) : (s.setCq n q).hst = s.hst := rfl

@[simp] theorem State.setCq_bootReply (s : State) (n : Nat) (q : CqState) : (s.setCq n q).bootReply = s.bootReply := rfl

@[simp] theorem State.setCq_noc (s : State) (n : Nat) (q : CqState) : (s.setCq n q).noc = s.noc := rfl

@[simp] theorem State.setCq_dcMissed (s : State) (n : Nat) (q : CqState) : (s.setCq n q).dcMissed = s.dcMissed := rfl

@[simp] theorem State.setCq_sec (s : State) (n : Nat) (q : CqState) : (s.setCq n q).sec = s.sec := rfl

@[simp] theorem State.setCq_txn (s : State) (n : Nat) (q : CqState) : (s.setCq n q).txn = s.txn := rfl

@[simp] theorem State.setCq_boot (s : State) (n : Nat) (q : CqState) : (s.setCq n q).boot = s.boot := rfl

@[simp] theorem State.setCq_eth (s : State) (n : Nat) (q : CqState) : (s.setCq n q).eth = s.eth := rfl

@[simp] theorem State.setCq_spi (s : State) (n : Nat) (q : CqState) : (s.setCq n q).spi = s.spi := rfl

@[simp] theorem State.setCq_facets (s : State) (n : Nat) (q : CqState) : (s.setCq n q).facets = s.facets := rfl

@[simp] theorem State.setCq_tctrs (s : State) (n : Nat) (q : CqState) : (s.setCq n q).tctrs = s.tctrs := rfl

@[simp] theorem State.setCq_rtc (s : State) (n : Nat) (q : CqState) : (s.setCq n q).rtc = s.rtc := rfl

@[simp] theorem State.setCq_prs (s : State) (n : Nat) (q : CqState) : (s.setCq n q).prs = s.prs := rfl

@[simp] theorem State.setCq_kvm (s : State) (n : Nat) (q : CqState) : (s.setCq n q).kvm = s.kvm := rfl

@[simp] theorem State.setCq_srv (s : State) (n : Nat) (q : CqState) : (s.setCq n q).srv = s.srv := rfl

@[simp] theorem State.setCq_res (s : State) (n : Nat) (q : CqState) : (s.setCq n q).res = s.res := rfl

@[simp] theorem State.setCq_mir (s : State) (n : Nat) (q : CqState) : (s.setCq n q).mir = s.mir := rfl

@[simp] theorem State.setCq_shd (s : State) (n : Nat) (q : CqState) : (s.setCq n q).shd = s.shd := rfl

@[simp] theorem State.setCq_fab (s : State) (n : Nat) (q : CqState) : (s.setCq n q).fab = s.fab := rfl

@[simp] theorem State.setCq_fences (s : State) (n : Nat) (q : CqState) : (s.setCq n q).fences = s.fences := rfl

@[simp] theorem State.setCq_pwr (s : State) (n : Nat) (q : CqState) : (s.setCq n q).pwr = s.pwr := rfl

@[simp] theorem State.setCq_tap (s : State) (n : Nat) (q : CqState) : (s.setCq n q).tap = s.tap := rfl

/-! ### `State.sendMsix` changes out, hst alone -/

@[simp] theorem State.sendMsix_pending (s : State) (v : Nat) : (s.sendMsix v).pending = s.pending := by
  unfold State.sendMsix
  split <;> simp

@[simp] theorem State.sendMsix_free (s : State) (v : Nat) : (s.sendMsix v).free = s.free := by
  unfold State.sendMsix
  split <;> simp

@[simp] theorem State.sendMsix_us (s : State) (v : Nat) : (s.sendMsix v).us = s.us := by
  unfold State.sendMsix
  split <;> simp

@[simp] theorem State.sendMsix_power (s : State) (v : Nat) : (s.sendMsix v).power = s.power := by
  unfold State.sendMsix
  split <;> simp

@[simp] theorem State.sendMsix_pins (s : State) (v : Nat) : (s.sendMsix v).pins = s.pins := by
  unfold State.sendMsix
  split <;> simp

@[simp] theorem State.sendMsix_regs (s : State) (v : Nat) : (s.sendMsix v).regs = s.regs := by
  unfold State.sendMsix
  split <;> simp

@[simp] theorem State.sendMsix_cnts (s : State) (v : Nat) : (s.sendMsix v).cnts = s.cnts := by
  unfold State.sendMsix
  split <;> simp

@[simp] theorem State.sendMsix_latches (s : State) (v : Nat) : (s.sendMsix v).latches = s.latches := by
  unfold State.sendMsix
  split <;> simp

@[simp] theorem State.sendMsix_mem (s : State) (v : Nat) : (s.sendMsix v).mem = s.mem := by
  unfold State.sendMsix
  split <;> simp

@[simp] theorem State.sendMsix_evt (s : State) (v : Nat) : (s.sendMsix v).evt = s.evt := by
  unfold State.sendMsix
  split <;> simp

@[simp] theorem State.sendMsix_hq (s : State) (v : Nat) : (s.sendMsix v).hq = s.hq := by
  unfold State.sendMsix
  split <;> simp

@[simp] theorem State.sendMsix_bootReply (s : State) (v : Nat) : (s.sendMsix v).bootReply = s.bootReply := by
  unfold State.sendMsix
  split <;> simp

@[simp] theorem State.sendMsix_noc (s : State) (v : Nat) : (s.sendMsix v).noc = s.noc := by
  unfold State.sendMsix
  split <;> simp

@[simp] theorem State.sendMsix_dcMissed (s : State) (v : Nat) : (s.sendMsix v).dcMissed = s.dcMissed := by
  unfold State.sendMsix
  split <;> simp

@[simp] theorem State.sendMsix_sec (s : State) (v : Nat) : (s.sendMsix v).sec = s.sec := by
  unfold State.sendMsix
  split <;> simp

@[simp] theorem State.sendMsix_txn (s : State) (v : Nat) : (s.sendMsix v).txn = s.txn := by
  unfold State.sendMsix
  split <;> simp

@[simp] theorem State.sendMsix_boot (s : State) (v : Nat) : (s.sendMsix v).boot = s.boot := by
  unfold State.sendMsix
  split <;> simp

@[simp] theorem State.sendMsix_eth (s : State) (v : Nat) : (s.sendMsix v).eth = s.eth := by
  unfold State.sendMsix
  split <;> simp

@[simp] theorem State.sendMsix_spi (s : State) (v : Nat) : (s.sendMsix v).spi = s.spi := by
  unfold State.sendMsix
  split <;> simp

@[simp] theorem State.sendMsix_facets (s : State) (v : Nat) : (s.sendMsix v).facets = s.facets := by
  unfold State.sendMsix
  split <;> simp

@[simp] theorem State.sendMsix_tctrs (s : State) (v : Nat) : (s.sendMsix v).tctrs = s.tctrs := by
  unfold State.sendMsix
  split <;> simp

@[simp] theorem State.sendMsix_rtc (s : State) (v : Nat) : (s.sendMsix v).rtc = s.rtc := by
  unfold State.sendMsix
  split <;> simp

@[simp] theorem State.sendMsix_prs (s : State) (v : Nat) : (s.sendMsix v).prs = s.prs := by
  unfold State.sendMsix
  split <;> simp

@[simp] theorem State.sendMsix_kvm (s : State) (v : Nat) : (s.sendMsix v).kvm = s.kvm := by
  unfold State.sendMsix
  split <;> simp

@[simp] theorem State.sendMsix_srv (s : State) (v : Nat) : (s.sendMsix v).srv = s.srv := by
  unfold State.sendMsix
  split <;> simp

@[simp] theorem State.sendMsix_res (s : State) (v : Nat) : (s.sendMsix v).res = s.res := by
  unfold State.sendMsix
  split <;> simp

@[simp] theorem State.sendMsix_mir (s : State) (v : Nat) : (s.sendMsix v).mir = s.mir := by
  unfold State.sendMsix
  split <;> simp

@[simp] theorem State.sendMsix_shd (s : State) (v : Nat) : (s.sendMsix v).shd = s.shd := by
  unfold State.sendMsix
  split <;> simp

@[simp] theorem State.sendMsix_fab (s : State) (v : Nat) : (s.sendMsix v).fab = s.fab := by
  unfold State.sendMsix
  split <;> simp

@[simp] theorem State.sendMsix_fences (s : State) (v : Nat) : (s.sendMsix v).fences = s.fences := by
  unfold State.sendMsix
  split <;> simp

@[simp] theorem State.sendMsix_pwr (s : State) (v : Nat) : (s.sendMsix v).pwr = s.pwr := by
  unfold State.sendMsix
  split <;> simp

@[simp] theorem State.sendMsix_tap (s : State) (v : Nat) : (s.sendMsix v).tap = s.tap := by
  unfold State.sendMsix
  split <;> simp

/-! ### `State.signalCq` changes out, hst, hq alone -/

@[simp] theorem State.signalCq_pending (s : State) (n : Nat) : (s.signalCq n).pending = s.pending := by
  simp [State.signalCq]

@[simp] theorem State.signalCq_free (s : State) (n : Nat) : (s.signalCq n).free = s.free := by
  simp [State.signalCq]

@[simp] theorem State.signalCq_us (s : State) (n : Nat) : (s.signalCq n).us = s.us := by
  simp [State.signalCq]

@[simp] theorem State.signalCq_power (s : State) (n : Nat) : (s.signalCq n).power = s.power := by
  simp [State.signalCq]

@[simp] theorem State.signalCq_pins (s : State) (n : Nat) : (s.signalCq n).pins = s.pins := by
  simp [State.signalCq]

@[simp] theorem State.signalCq_regs (s : State) (n : Nat) : (s.signalCq n).regs = s.regs := by
  simp [State.signalCq]

@[simp] theorem State.signalCq_cnts (s : State) (n : Nat) : (s.signalCq n).cnts = s.cnts := by
  simp [State.signalCq]

@[simp] theorem State.signalCq_latches (s : State) (n : Nat) : (s.signalCq n).latches = s.latches := by
  simp [State.signalCq]

@[simp] theorem State.signalCq_mem (s : State) (n : Nat) : (s.signalCq n).mem = s.mem := by
  simp [State.signalCq]

@[simp] theorem State.signalCq_evt (s : State) (n : Nat) : (s.signalCq n).evt = s.evt := by
  simp [State.signalCq]

@[simp] theorem State.signalCq_bootReply (s : State) (n : Nat) : (s.signalCq n).bootReply = s.bootReply := by
  simp [State.signalCq]

@[simp] theorem State.signalCq_noc (s : State) (n : Nat) : (s.signalCq n).noc = s.noc := by
  simp [State.signalCq]

@[simp] theorem State.signalCq_dcMissed (s : State) (n : Nat) : (s.signalCq n).dcMissed = s.dcMissed := by
  simp [State.signalCq]

@[simp] theorem State.signalCq_sec (s : State) (n : Nat) : (s.signalCq n).sec = s.sec := by
  simp [State.signalCq]

@[simp] theorem State.signalCq_txn (s : State) (n : Nat) : (s.signalCq n).txn = s.txn := by
  simp [State.signalCq]

@[simp] theorem State.signalCq_boot (s : State) (n : Nat) : (s.signalCq n).boot = s.boot := by
  simp [State.signalCq]

@[simp] theorem State.signalCq_eth (s : State) (n : Nat) : (s.signalCq n).eth = s.eth := by
  simp [State.signalCq]

@[simp] theorem State.signalCq_spi (s : State) (n : Nat) : (s.signalCq n).spi = s.spi := by
  simp [State.signalCq]

@[simp] theorem State.signalCq_facets (s : State) (n : Nat) : (s.signalCq n).facets = s.facets := by
  simp [State.signalCq]

@[simp] theorem State.signalCq_tctrs (s : State) (n : Nat) : (s.signalCq n).tctrs = s.tctrs := by
  simp [State.signalCq]

@[simp] theorem State.signalCq_rtc (s : State) (n : Nat) : (s.signalCq n).rtc = s.rtc := by
  simp [State.signalCq]

@[simp] theorem State.signalCq_prs (s : State) (n : Nat) : (s.signalCq n).prs = s.prs := by
  simp [State.signalCq]

@[simp] theorem State.signalCq_kvm (s : State) (n : Nat) : (s.signalCq n).kvm = s.kvm := by
  simp [State.signalCq]

@[simp] theorem State.signalCq_srv (s : State) (n : Nat) : (s.signalCq n).srv = s.srv := by
  simp [State.signalCq]

@[simp] theorem State.signalCq_res (s : State) (n : Nat) : (s.signalCq n).res = s.res := by
  simp [State.signalCq]

@[simp] theorem State.signalCq_mir (s : State) (n : Nat) : (s.signalCq n).mir = s.mir := by
  simp [State.signalCq]

@[simp] theorem State.signalCq_shd (s : State) (n : Nat) : (s.signalCq n).shd = s.shd := by
  simp [State.signalCq]

@[simp] theorem State.signalCq_fab (s : State) (n : Nat) : (s.signalCq n).fab = s.fab := by
  simp [State.signalCq]

@[simp] theorem State.signalCq_fences (s : State) (n : Nat) : (s.signalCq n).fences = s.fences := by
  simp [State.signalCq]

@[simp] theorem State.signalCq_pwr (s : State) (n : Nat) : (s.signalCq n).pwr = s.pwr := by
  simp [State.signalCq]

@[simp] theorem State.signalCq_tap (s : State) (n : Nat) : (s.signalCq n).tap = s.tap := by
  simp [State.signalCq]

/-! ### `State.writeCq` changes evt, tap, cnts, mem, regs, hq, out, hst alone -/

@[simp] theorem State.writeCq_pending (s : State) (n sq tag op : Nat) (pr : Bool) (l : List Byte) : (s.writeCq n sq tag op pr l).pending = s.pending := by
  unfold State.writeCq
  dsimp only
  (repeat' split) <;> simp

@[simp] theorem State.writeCq_free (s : State) (n sq tag op : Nat) (pr : Bool) (l : List Byte) : (s.writeCq n sq tag op pr l).free = s.free := by
  unfold State.writeCq
  dsimp only
  (repeat' split) <;> simp

@[simp] theorem State.writeCq_us (s : State) (n sq tag op : Nat) (pr : Bool) (l : List Byte) : (s.writeCq n sq tag op pr l).us = s.us := by
  unfold State.writeCq
  dsimp only
  (repeat' split) <;> simp

@[simp] theorem State.writeCq_power (s : State) (n sq tag op : Nat) (pr : Bool) (l : List Byte) : (s.writeCq n sq tag op pr l).power = s.power := by
  unfold State.writeCq
  dsimp only
  (repeat' split) <;> simp

@[simp] theorem State.writeCq_pins (s : State) (n sq tag op : Nat) (pr : Bool) (l : List Byte) : (s.writeCq n sq tag op pr l).pins = s.pins := by
  unfold State.writeCq
  dsimp only
  (repeat' split) <;> simp

@[simp] theorem State.writeCq_latches (s : State) (n sq tag op : Nat) (pr : Bool) (l : List Byte) : (s.writeCq n sq tag op pr l).latches = s.latches := by
  unfold State.writeCq
  dsimp only
  (repeat' split) <;> simp

@[simp] theorem State.writeCq_bootReply (s : State) (n sq tag op : Nat) (pr : Bool) (l : List Byte) : (s.writeCq n sq tag op pr l).bootReply = s.bootReply := by
  unfold State.writeCq
  dsimp only
  (repeat' split) <;> simp

@[simp] theorem State.writeCq_noc (s : State) (n sq tag op : Nat) (pr : Bool) (l : List Byte) : (s.writeCq n sq tag op pr l).noc = s.noc := by
  unfold State.writeCq
  dsimp only
  (repeat' split) <;> simp

@[simp] theorem State.writeCq_dcMissed (s : State) (n sq tag op : Nat) (pr : Bool) (l : List Byte) : (s.writeCq n sq tag op pr l).dcMissed = s.dcMissed := by
  unfold State.writeCq
  dsimp only
  (repeat' split) <;> simp

@[simp] theorem State.writeCq_sec (s : State) (n sq tag op : Nat) (pr : Bool) (l : List Byte) : (s.writeCq n sq tag op pr l).sec = s.sec := by
  unfold State.writeCq
  dsimp only
  (repeat' split) <;> simp

@[simp] theorem State.writeCq_txn (s : State) (n sq tag op : Nat) (pr : Bool) (l : List Byte) : (s.writeCq n sq tag op pr l).txn = s.txn := by
  unfold State.writeCq
  dsimp only
  (repeat' split) <;> simp

@[simp] theorem State.writeCq_boot (s : State) (n sq tag op : Nat) (pr : Bool) (l : List Byte) : (s.writeCq n sq tag op pr l).boot = s.boot := by
  unfold State.writeCq
  dsimp only
  (repeat' split) <;> simp

@[simp] theorem State.writeCq_eth (s : State) (n sq tag op : Nat) (pr : Bool) (l : List Byte) : (s.writeCq n sq tag op pr l).eth = s.eth := by
  unfold State.writeCq
  dsimp only
  (repeat' split) <;> simp

@[simp] theorem State.writeCq_spi (s : State) (n sq tag op : Nat) (pr : Bool) (l : List Byte) : (s.writeCq n sq tag op pr l).spi = s.spi := by
  unfold State.writeCq
  dsimp only
  (repeat' split) <;> simp

@[simp] theorem State.writeCq_facets (s : State) (n sq tag op : Nat) (pr : Bool) (l : List Byte) : (s.writeCq n sq tag op pr l).facets = s.facets := by
  unfold State.writeCq
  dsimp only
  (repeat' split) <;> simp

@[simp] theorem State.writeCq_tctrs (s : State) (n sq tag op : Nat) (pr : Bool) (l : List Byte) : (s.writeCq n sq tag op pr l).tctrs = s.tctrs := by
  unfold State.writeCq
  dsimp only
  (repeat' split) <;> simp

@[simp] theorem State.writeCq_rtc (s : State) (n sq tag op : Nat) (pr : Bool) (l : List Byte) : (s.writeCq n sq tag op pr l).rtc = s.rtc := by
  unfold State.writeCq
  dsimp only
  (repeat' split) <;> simp

@[simp] theorem State.writeCq_prs (s : State) (n sq tag op : Nat) (pr : Bool) (l : List Byte) : (s.writeCq n sq tag op pr l).prs = s.prs := by
  unfold State.writeCq
  dsimp only
  (repeat' split) <;> simp

@[simp] theorem State.writeCq_kvm (s : State) (n sq tag op : Nat) (pr : Bool) (l : List Byte) : (s.writeCq n sq tag op pr l).kvm = s.kvm := by
  unfold State.writeCq
  dsimp only
  (repeat' split) <;> simp

@[simp] theorem State.writeCq_srv (s : State) (n sq tag op : Nat) (pr : Bool) (l : List Byte) : (s.writeCq n sq tag op pr l).srv = s.srv := by
  unfold State.writeCq
  dsimp only
  (repeat' split) <;> simp

@[simp] theorem State.writeCq_res (s : State) (n sq tag op : Nat) (pr : Bool) (l : List Byte) : (s.writeCq n sq tag op pr l).res = s.res := by
  unfold State.writeCq
  dsimp only
  (repeat' split) <;> simp

@[simp] theorem State.writeCq_mir (s : State) (n sq tag op : Nat) (pr : Bool) (l : List Byte) : (s.writeCq n sq tag op pr l).mir = s.mir := by
  unfold State.writeCq
  dsimp only
  (repeat' split) <;> simp

@[simp] theorem State.writeCq_shd (s : State) (n sq tag op : Nat) (pr : Bool) (l : List Byte) : (s.writeCq n sq tag op pr l).shd = s.shd := by
  unfold State.writeCq
  dsimp only
  (repeat' split) <;> simp

@[simp] theorem State.writeCq_fab (s : State) (n sq tag op : Nat) (pr : Bool) (l : List Byte) : (s.writeCq n sq tag op pr l).fab = s.fab := by
  unfold State.writeCq
  dsimp only
  (repeat' split) <;> simp

@[simp] theorem State.writeCq_fences (s : State) (n sq tag op : Nat) (pr : Bool) (l : List Byte) : (s.writeCq n sq tag op pr l).fences = s.fences := by
  unfold State.writeCq
  dsimp only
  (repeat' split) <;> simp

@[simp] theorem State.writeCq_pwr (s : State) (n sq tag op : Nat) (pr : Bool) (l : List Byte) : (s.writeCq n sq tag op pr l).pwr = s.pwr := by
  unfold State.writeCq
  dsimp only
  (repeat' split) <;> simp

/-! ### `State.completeWith` changes evt, tap, cnts, mem, regs, hq, out, hst, bootReply alone -/

@[simp] theorem State.completeWith_pending (s : State) (o : CmdOrigin) (op st : Nat) (l : List Byte) : (s.completeWith o op st l).pending = s.pending := by
  unfold State.completeWith
  split
  · rfl
  · dsimp only
    (repeat' split) <;> simp

@[simp] theorem State.completeWith_free (s : State) (o : CmdOrigin) (op st : Nat) (l : List Byte) : (s.completeWith o op st l).free = s.free := by
  unfold State.completeWith
  split
  · rfl
  · dsimp only
    (repeat' split) <;> simp

@[simp] theorem State.completeWith_us (s : State) (o : CmdOrigin) (op st : Nat) (l : List Byte) : (s.completeWith o op st l).us = s.us := by
  unfold State.completeWith
  split
  · rfl
  · dsimp only
    (repeat' split) <;> simp

@[simp] theorem State.completeWith_power (s : State) (o : CmdOrigin) (op st : Nat) (l : List Byte) : (s.completeWith o op st l).power = s.power := by
  unfold State.completeWith
  split
  · rfl
  · dsimp only
    (repeat' split) <;> simp

@[simp] theorem State.completeWith_pins (s : State) (o : CmdOrigin) (op st : Nat) (l : List Byte) : (s.completeWith o op st l).pins = s.pins := by
  unfold State.completeWith
  split
  · rfl
  · dsimp only
    (repeat' split) <;> simp

@[simp] theorem State.completeWith_latches (s : State) (o : CmdOrigin) (op st : Nat) (l : List Byte) : (s.completeWith o op st l).latches = s.latches := by
  unfold State.completeWith
  split
  · rfl
  · dsimp only
    (repeat' split) <;> simp

@[simp] theorem State.completeWith_noc (s : State) (o : CmdOrigin) (op st : Nat) (l : List Byte) : (s.completeWith o op st l).noc = s.noc := by
  unfold State.completeWith
  split
  · rfl
  · dsimp only
    (repeat' split) <;> simp

@[simp] theorem State.completeWith_dcMissed (s : State) (o : CmdOrigin) (op st : Nat) (l : List Byte) : (s.completeWith o op st l).dcMissed = s.dcMissed := by
  unfold State.completeWith
  split
  · rfl
  · dsimp only
    (repeat' split) <;> simp

@[simp] theorem State.completeWith_sec (s : State) (o : CmdOrigin) (op st : Nat) (l : List Byte) : (s.completeWith o op st l).sec = s.sec := by
  unfold State.completeWith
  split
  · rfl
  · dsimp only
    (repeat' split) <;> simp

@[simp] theorem State.completeWith_txn (s : State) (o : CmdOrigin) (op st : Nat) (l : List Byte) : (s.completeWith o op st l).txn = s.txn := by
  unfold State.completeWith
  split
  · rfl
  · dsimp only
    (repeat' split) <;> simp

@[simp] theorem State.completeWith_boot (s : State) (o : CmdOrigin) (op st : Nat) (l : List Byte) : (s.completeWith o op st l).boot = s.boot := by
  unfold State.completeWith
  split
  · rfl
  · dsimp only
    (repeat' split) <;> simp

@[simp] theorem State.completeWith_eth (s : State) (o : CmdOrigin) (op st : Nat) (l : List Byte) : (s.completeWith o op st l).eth = s.eth := by
  unfold State.completeWith
  split
  · rfl
  · dsimp only
    (repeat' split) <;> simp

@[simp] theorem State.completeWith_spi (s : State) (o : CmdOrigin) (op st : Nat) (l : List Byte) : (s.completeWith o op st l).spi = s.spi := by
  unfold State.completeWith
  split
  · rfl
  · dsimp only
    (repeat' split) <;> simp

@[simp] theorem State.completeWith_facets (s : State) (o : CmdOrigin) (op st : Nat) (l : List Byte) : (s.completeWith o op st l).facets = s.facets := by
  unfold State.completeWith
  split
  · rfl
  · dsimp only
    (repeat' split) <;> simp

@[simp] theorem State.completeWith_tctrs (s : State) (o : CmdOrigin) (op st : Nat) (l : List Byte) : (s.completeWith o op st l).tctrs = s.tctrs := by
  unfold State.completeWith
  split
  · rfl
  · dsimp only
    (repeat' split) <;> simp

@[simp] theorem State.completeWith_rtc (s : State) (o : CmdOrigin) (op st : Nat) (l : List Byte) : (s.completeWith o op st l).rtc = s.rtc := by
  unfold State.completeWith
  split
  · rfl
  · dsimp only
    (repeat' split) <;> simp

@[simp] theorem State.completeWith_prs (s : State) (o : CmdOrigin) (op st : Nat) (l : List Byte) : (s.completeWith o op st l).prs = s.prs := by
  unfold State.completeWith
  split
  · rfl
  · dsimp only
    (repeat' split) <;> simp

@[simp] theorem State.completeWith_kvm (s : State) (o : CmdOrigin) (op st : Nat) (l : List Byte) : (s.completeWith o op st l).kvm = s.kvm := by
  unfold State.completeWith
  split
  · rfl
  · dsimp only
    (repeat' split) <;> simp

@[simp] theorem State.completeWith_srv (s : State) (o : CmdOrigin) (op st : Nat) (l : List Byte) : (s.completeWith o op st l).srv = s.srv := by
  unfold State.completeWith
  split
  · rfl
  · dsimp only
    (repeat' split) <;> simp

@[simp] theorem State.completeWith_res (s : State) (o : CmdOrigin) (op st : Nat) (l : List Byte) : (s.completeWith o op st l).res = s.res := by
  unfold State.completeWith
  split
  · rfl
  · dsimp only
    (repeat' split) <;> simp

@[simp] theorem State.completeWith_mir (s : State) (o : CmdOrigin) (op st : Nat) (l : List Byte) : (s.completeWith o op st l).mir = s.mir := by
  unfold State.completeWith
  split
  · rfl
  · dsimp only
    (repeat' split) <;> simp

@[simp] theorem State.completeWith_shd (s : State) (o : CmdOrigin) (op st : Nat) (l : List Byte) : (s.completeWith o op st l).shd = s.shd := by
  unfold State.completeWith
  split
  · rfl
  · dsimp only
    (repeat' split) <;> simp

@[simp] theorem State.completeWith_fab (s : State) (o : CmdOrigin) (op st : Nat) (l : List Byte) : (s.completeWith o op st l).fab = s.fab := by
  unfold State.completeWith
  split
  · rfl
  · dsimp only
    (repeat' split) <;> simp

@[simp] theorem State.completeWith_fences (s : State) (o : CmdOrigin) (op st : Nat) (l : List Byte) : (s.completeWith o op st l).fences = s.fences := by
  unfold State.completeWith
  split
  · rfl
  · dsimp only
    (repeat' split) <;> simp

@[simp] theorem State.completeWith_pwr (s : State) (o : CmdOrigin) (op st : Nat) (l : List Byte) : (s.completeWith o op st l).pwr = s.pwr := by
  unfold State.completeWith
  split
  · rfl
  · dsimp only
    (repeat' split) <;> simp

/-! ### `State.complete` changes evt, tap, cnts, mem, regs, hq, out, hst, bootReply alone -/

@[simp] theorem State.complete_pending (s : State) (o : CmdOrigin) (op st hint res : Nat) : (s.complete o op st hint res).pending = s.pending := by
  simp [State.complete]

@[simp] theorem State.complete_free (s : State) (o : CmdOrigin) (op st hint res : Nat) : (s.complete o op st hint res).free = s.free := by
  simp [State.complete]

@[simp] theorem State.complete_us (s : State) (o : CmdOrigin) (op st hint res : Nat) : (s.complete o op st hint res).us = s.us := by
  simp [State.complete]

@[simp] theorem State.complete_power (s : State) (o : CmdOrigin) (op st hint res : Nat) : (s.complete o op st hint res).power = s.power := by
  simp [State.complete]

@[simp] theorem State.complete_pins (s : State) (o : CmdOrigin) (op st hint res : Nat) : (s.complete o op st hint res).pins = s.pins := by
  simp [State.complete]

@[simp] theorem State.complete_latches (s : State) (o : CmdOrigin) (op st hint res : Nat) : (s.complete o op st hint res).latches = s.latches := by
  simp [State.complete]

@[simp] theorem State.complete_noc (s : State) (o : CmdOrigin) (op st hint res : Nat) : (s.complete o op st hint res).noc = s.noc := by
  simp [State.complete]

@[simp] theorem State.complete_dcMissed (s : State) (o : CmdOrigin) (op st hint res : Nat) : (s.complete o op st hint res).dcMissed = s.dcMissed := by
  simp [State.complete]

@[simp] theorem State.complete_sec (s : State) (o : CmdOrigin) (op st hint res : Nat) : (s.complete o op st hint res).sec = s.sec := by
  simp [State.complete]

@[simp] theorem State.complete_txn (s : State) (o : CmdOrigin) (op st hint res : Nat) : (s.complete o op st hint res).txn = s.txn := by
  simp [State.complete]

@[simp] theorem State.complete_boot (s : State) (o : CmdOrigin) (op st hint res : Nat) : (s.complete o op st hint res).boot = s.boot := by
  simp [State.complete]

@[simp] theorem State.complete_eth (s : State) (o : CmdOrigin) (op st hint res : Nat) : (s.complete o op st hint res).eth = s.eth := by
  simp [State.complete]

@[simp] theorem State.complete_spi (s : State) (o : CmdOrigin) (op st hint res : Nat) : (s.complete o op st hint res).spi = s.spi := by
  simp [State.complete]

@[simp] theorem State.complete_facets (s : State) (o : CmdOrigin) (op st hint res : Nat) : (s.complete o op st hint res).facets = s.facets := by
  simp [State.complete]

@[simp] theorem State.complete_tctrs (s : State) (o : CmdOrigin) (op st hint res : Nat) : (s.complete o op st hint res).tctrs = s.tctrs := by
  simp [State.complete]

@[simp] theorem State.complete_rtc (s : State) (o : CmdOrigin) (op st hint res : Nat) : (s.complete o op st hint res).rtc = s.rtc := by
  simp [State.complete]

@[simp] theorem State.complete_prs (s : State) (o : CmdOrigin) (op st hint res : Nat) : (s.complete o op st hint res).prs = s.prs := by
  simp [State.complete]

@[simp] theorem State.complete_kvm (s : State) (o : CmdOrigin) (op st hint res : Nat) : (s.complete o op st hint res).kvm = s.kvm := by
  simp [State.complete]

@[simp] theorem State.complete_srv (s : State) (o : CmdOrigin) (op st hint res : Nat) : (s.complete o op st hint res).srv = s.srv := by
  simp [State.complete]

@[simp] theorem State.complete_res (s : State) (o : CmdOrigin) (op st hint res : Nat) : (s.complete o op st hint res).res = s.res := by
  simp [State.complete]

@[simp] theorem State.complete_mir (s : State) (o : CmdOrigin) (op st hint res : Nat) : (s.complete o op st hint res).mir = s.mir := by
  simp [State.complete]

@[simp] theorem State.complete_shd (s : State) (o : CmdOrigin) (op st hint res : Nat) : (s.complete o op st hint res).shd = s.shd := by
  simp [State.complete]

@[simp] theorem State.complete_fab (s : State) (o : CmdOrigin) (op st hint res : Nat) : (s.complete o op st hint res).fab = s.fab := by
  simp [State.complete]

@[simp] theorem State.complete_fences (s : State) (o : CmdOrigin) (op st hint res : Nat) : (s.complete o op st hint res).fences = s.fences := by
  simp [State.complete]

@[simp] theorem State.complete_pwr (s : State) (o : CmdOrigin) (op st hint res : Nat) : (s.complete o op st hint res).pwr = s.pwr := by
  simp [State.complete]

/-! ### `State.settle` changes hq alone -/

@[simp] theorem State.settle_pending (s : State) (o : CmdOrigin) (op : Nat) : (s.settle o op).pending = s.pending := by
  unfold State.settle
  split <;> rfl

@[simp] theorem State.settle_free (s : State) (o : CmdOrigin) (op : Nat) : (s.settle o op).free = s.free := by
  unfold State.settle
  split <;> rfl

@[simp] theorem State.settle_us (s : State) (o : CmdOrigin) (op : Nat) : (s.settle o op).us = s.us := by
  unfold State.settle
  split <;> rfl

@[simp] theorem State.settle_power (s : State) (o : CmdOrigin) (op : Nat) : (s.settle o op).power = s.power := by
  unfold State.settle
  split <;> rfl

@[simp] theorem State.settle_pins (s : State) (o : CmdOrigin) (op : Nat) : (s.settle o op).pins = s.pins := by
  unfold State.settle
  split <;> rfl

@[simp] theorem State.settle_regs (s : State) (o : CmdOrigin) (op : Nat) : (s.settle o op).regs = s.regs := by
  unfold State.settle
  split <;> rfl

@[simp] theorem State.settle_cnts (s : State) (o : CmdOrigin) (op : Nat) : (s.settle o op).cnts = s.cnts := by
  unfold State.settle
  split <;> rfl

@[simp] theorem State.settle_latches (s : State) (o : CmdOrigin) (op : Nat) : (s.settle o op).latches = s.latches := by
  unfold State.settle
  split <;> rfl

@[simp] theorem State.settle_out (s : State) (o : CmdOrigin) (op : Nat) : (s.settle o op).out = s.out := by
  unfold State.settle
  split <;> rfl

@[simp] theorem State.settle_mem (s : State) (o : CmdOrigin) (op : Nat) : (s.settle o op).mem = s.mem := by
  unfold State.settle
  split <;> rfl

@[simp] theorem State.settle_evt (s : State) (o : CmdOrigin) (op : Nat) : (s.settle o op).evt = s.evt := by
  unfold State.settle
  split <;> rfl

@[simp] theorem State.settle_hst (s : State) (o : CmdOrigin) (op : Nat) : (s.settle o op).hst = s.hst := by
  unfold State.settle
  split <;> rfl

@[simp] theorem State.settle_bootReply (s : State) (o : CmdOrigin) (op : Nat) : (s.settle o op).bootReply = s.bootReply := by
  unfold State.settle
  split <;> rfl

@[simp] theorem State.settle_noc (s : State) (o : CmdOrigin) (op : Nat) : (s.settle o op).noc = s.noc := by
  unfold State.settle
  split <;> rfl

@[simp] theorem State.settle_dcMissed (s : State) (o : CmdOrigin) (op : Nat) : (s.settle o op).dcMissed = s.dcMissed := by
  unfold State.settle
  split <;> rfl

@[simp] theorem State.settle_sec (s : State) (o : CmdOrigin) (op : Nat) : (s.settle o op).sec = s.sec := by
  unfold State.settle
  split <;> rfl

@[simp] theorem State.settle_txn (s : State) (o : CmdOrigin) (op : Nat) : (s.settle o op).txn = s.txn := by
  unfold State.settle
  split <;> rfl

@[simp] theorem State.settle_boot (s : State) (o : CmdOrigin) (op : Nat) : (s.settle o op).boot = s.boot := by
  unfold State.settle
  split <;> rfl

@[simp] theorem State.settle_eth (s : State) (o : CmdOrigin) (op : Nat) : (s.settle o op).eth = s.eth := by
  unfold State.settle
  split <;> rfl

@[simp] theorem State.settle_spi (s : State) (o : CmdOrigin) (op : Nat) : (s.settle o op).spi = s.spi := by
  unfold State.settle
  split <;> rfl

@[simp] theorem State.settle_facets (s : State) (o : CmdOrigin) (op : Nat) : (s.settle o op).facets = s.facets := by
  unfold State.settle
  split <;> rfl

@[simp] theorem State.settle_tctrs (s : State) (o : CmdOrigin) (op : Nat) : (s.settle o op).tctrs = s.tctrs := by
  unfold State.settle
  split <;> rfl

@[simp] theorem State.settle_rtc (s : State) (o : CmdOrigin) (op : Nat) : (s.settle o op).rtc = s.rtc := by
  unfold State.settle
  split <;> rfl

@[simp] theorem State.settle_prs (s : State) (o : CmdOrigin) (op : Nat) : (s.settle o op).prs = s.prs := by
  unfold State.settle
  split <;> rfl

@[simp] theorem State.settle_kvm (s : State) (o : CmdOrigin) (op : Nat) : (s.settle o op).kvm = s.kvm := by
  unfold State.settle
  split <;> rfl

@[simp] theorem State.settle_srv (s : State) (o : CmdOrigin) (op : Nat) : (s.settle o op).srv = s.srv := by
  unfold State.settle
  split <;> rfl

@[simp] theorem State.settle_res (s : State) (o : CmdOrigin) (op : Nat) : (s.settle o op).res = s.res := by
  unfold State.settle
  split <;> rfl

@[simp] theorem State.settle_mir (s : State) (o : CmdOrigin) (op : Nat) : (s.settle o op).mir = s.mir := by
  unfold State.settle
  split <;> rfl

@[simp] theorem State.settle_shd (s : State) (o : CmdOrigin) (op : Nat) : (s.settle o op).shd = s.shd := by
  unfold State.settle
  split <;> rfl

@[simp] theorem State.settle_fab (s : State) (o : CmdOrigin) (op : Nat) : (s.settle o op).fab = s.fab := by
  unfold State.settle
  split <;> rfl

@[simp] theorem State.settle_fences (s : State) (o : CmdOrigin) (op : Nat) : (s.settle o op).fences = s.fences := by
  unfold State.settle
  split <;> rfl

@[simp] theorem State.settle_pwr (s : State) (o : CmdOrigin) (op : Nat) : (s.settle o op).pwr = s.pwr := by
  unfold State.settle
  split <;> rfl

@[simp] theorem State.settle_tap (s : State) (o : CmdOrigin) (op : Nat) : (s.settle o op).tap = s.tap := by
  unfold State.settle
  split <;> rfl

/-! ### Registers -/

@[simp] theorem State.rd_wr_same (s : State) (off v : Nat) : (s.wr off v).rd off = v % 2 ^ 32 := by
  simp [State.rd, State.wr]

/-- A register keeps its value when another is written. -/
theorem State.rd_wr_ne (s : State) (off x v : Nat) (h : x ≠ off) : (s.wr off v).rd x = s.rd x := by
  simp [State.rd, State.wr, kget_kset_ne _ _ _ _ h]

/-- The register file decides every register. -/
theorem State.rd_congr (s t : State) (h : s.regs = t.regs) (off : Nat) : s.rd off = t.rd off := by
  simp [State.rd, h]

/-- The register file decides every field. -/
theorem State.fld_congr (s t : State) (h : s.regs = t.regs) (r : FieldRef) (di : Nat) : s.fld r di = t.fld r di := by
  simp [State.fld, State.rd_congr s t h]

/-- The register file decides every flag. -/
theorem State.flag_congr (s t : State) (h : s.regs = t.regs) (r : FieldRef) (di : Nat) : s.flag r di = t.flag r di := by
  simp [State.flag, State.fld_congr s t h]

@[simp] theorem State.bump_rd (s : State) (c n off : Nat) : (s.bump c n).rd off = s.rd off := State.rd_congr _ _ (by simp) _

@[simp] theorem State.bump_fld (s : State) (c n di : Nat) (r : FieldRef) : (s.bump c n).fld r di = s.fld r di :=
  State.fld_congr _ _ (by simp) _ _

@[simp] theorem State.bump_flag (s : State) (c n di : Nat) (r : FieldRef) : (s.bump c n).flag r di = s.flag r di :=
  State.flag_congr _ _ (by simp) _ _

/-- A field that was set reads its value. -/
theorem State.fld_setFld_same (s : State) (r : FieldRef) (v di : Nat) (hl : r.lo ≤ r.hi) (hh : r.hi < 32) :
    (s.setFld r v di).fld r di = v % 2 ^ (r.hi - r.lo + 1) := by
  have e : ∀ w : Nat, bits (w % 2 ^ 32) r.hi r.lo = bits w r.hi r.lo := by
    intro w
    unfold bits
    rw [show (32 : Nat) = r.lo + (32 - r.lo) by omega, Nat.pow_add, Nat.mod_mul_right_div_self,
      Nat.mod_mod_of_dvd _ (Nat.pow_dvd_pow 2 (by omega))]
  simp only [State.fld, State.setFld, State.rd_wr_same, e, bits_setBits_same _ _ _ _ hl]

/-- A field of another register keeps its value. -/
theorem State.fld_setFld_ne (s : State) (r q : FieldRef) (v di dj : Nat) (h : q.off + dj ≠ r.off + di) :
    (s.setFld r v di).fld q dj = s.fld q dj := by
  simp [State.fld, State.setFld, State.rd_wr_ne _ _ _ _ h]

/-! ### Counters -/

/-- A counter below its limit counts. -/
theorem State.bump_counter (s : State) (c n : Nat) (hd : c ≠ C.EVT_DE) (hx : c ≠ C.EVT_DROPPED) :
    kgetD (s.bump c n).cnts c 0 = min satMax (kgetD s.cnts c 0 + n) := by
  have hold : ∀ (t : State) (e : EventRec), kgetD (t.holdRaw e).cnts c 0 = kgetD t.cnts c 0 := by
    intro t e
    unfold State.holdRaw
    dsimp only
    (repeat' split) <;> simp [State.bumpRaw, kgetD_kset_ne _ _ _ _ _ hx]
  have sat : ∀ t : State, kgetD (t.raiseSat c).cnts c 0 = kgetD t.cnts c 0 := by
    intro t
    unfold State.raiseSat
    dsimp only
    split <;> simp [hold, State.bumpRaw, kgetD_kset_ne _ _ _ _ _ hd]
  have raw : kgetD (s.bumpRaw c n).cnts c 0 = min satMax (kgetD s.cnts c 0 + n) := by
    simp only [State.bumpRaw, kgetD_kset_same]
    split <;> omega
  unfold State.bump
  dsimp only
  split
  · rw [sat, raw]
  · exact raw

/-! ### The gates of the meanings -/

theorem State.on_running (s : State) (k : State → State) (h : s.power = .running) : s.on k = k s := if_pos h

theorem State.on_held (s : State) (k : State → State) (h : s.power ≠ .running) : s.on k = s := if_neg h

theorem State.aon_powered (s : State) (k : State → State) (h : s.power ≠ .unpowered) : s.aon k = k s := if_neg h

theorem State.aon_unpowered (s : State) (k : State → State) (h : s.power = .unpowered) : s.aon k = s := if_pos h

theorem State.reach_unpowered (s : State) (org : Originator) (k : State → State) (h : s.power = .unpowered) : s.reach org k = s := by
  unfold State.reach
  split
  · exact State.aon_unpowered s k h
  · exact State.on_held s k (by simp [h])

theorem State.alive_runs (s : State) (k : State → State) (h : s.power = .running) (hf : s.flag F.GLB_STATUS_fatal = false) :
    s.alive k = k s := by
  simp [State.alive, State.on_running s _ h, hf]

theorem State.alive_held (s : State) (k : State → State) (h : s.power ≠ .running) : s.alive k = s := State.on_held s _ h

/-- In the fatal condition no facet, Prism array or step series moves (R376). -/
theorem State.alive_fatal (s : State) (k : State → State) (hf : s.flag F.GLB_STATUS_fatal = true) : s.alive k = s := by
  unfold State.alive State.on
  split <;> simp [hf]

/-- A command register's write that passes the gate runs its command. -/
theorem State.gated_pass (s : State) (org : Originator) (off : Nat) (k : State → State) (hw : s.mayWrite org off = true)
    (hs : s.served off = true) : s.gated org off k = k s := by
  simp [State.gated, State.gate, hw, hs]

/-- Without authority the write is discarded with the register-access event (R456). -/
theorem State.gated_refused (s : State) (org : Originator) (off : Nat) (k : State → State) (hw : s.mayWrite org off = false)
    (hr : ∀ p, org ≠ .remote p) : s.gated org off k = s.accessEvent org off 5 := by
  cases org <;> simp_all [State.gated, State.gate]

/-- A command that waits behind no fence and that the queue gate lets through runs. -/
theorem State.engine_runs (s : State) (o : CmdOrigin) (op : Nat) (k : State → State) (hw : s.waitsFence o = false)
    (hq : s.queueGate o = none) : s.engine o op k = k s := by
  simp [State.engine, hw, hq]

/-- The queue gate answers a command that it does not let through. -/
theorem State.engine_refused (s : State) (o : CmdOrigin) (op st : Nat) (k : State → State) (hw : s.waitsFence o = false)
    (hq : s.queueGate o = some st) : s.engine o op k = s.complete o op st := by
  simp [State.engine, hw, hq]

end Sys2Proof.Machine
end

