-- ==== Sys2Proof/Laws/Frames.lean ====
section
/-!
SUPPORT. What each shared operation of the units can do, in one lemma each: the parts of the state it may change, named,
every other part being what it was.
-/
namespace Sys2Proof.Machine

set_option Elab.async false

/-- Two states that agree in every part are one state. -/
theorem State.eq_of_parts {s t : State}
    (h0 : s.pending = t.pending)    (h1 : s.free = t.free)    (h2 : s.us = t.us)    (h3 : s.power = t.power)
    (h4 : s.pins = t.pins)    (h5 : s.regs = t.regs)    (h6 : s.cnts = t.cnts)    (h7 : s.latches = t.latches)
    (h8 : s.out = t.out)    (h9 : s.mem = t.mem)    (h10 : s.evt = t.evt)    (h11 : s.hq = t.hq)
    (h12 : s.hst = t.hst)    (h13 : s.bootReply = t.bootReply)    (h14 : s.noc = t.noc)    (h15 : s.dcMissed = t.dcMissed)
    (h16 : s.sec = t.sec)    (h17 : s.txn = t.txn)    (h18 : s.boot = t.boot)    (h19 : s.eth = t.eth)
    (h20 : s.spi = t.spi)    (h21 : s.facets = t.facets)    (h22 : s.tctrs = t.tctrs)    (h23 : s.rtc = t.rtc)
    (h24 : s.prs = t.prs)    (h25 : s.kvm = t.kvm)    (h26 : s.srv = t.srv)    (h27 : s.res = t.res)
    (h28 : s.mir = t.mir)    (h29 : s.shd = t.shd)    (h30 : s.fab = t.fab)    (h31 : s.fences = t.fences)
    (h32 : s.pwr = t.pwr)    (h33 : s.tap = t.tap) : s = t := by
  cases s
  cases t
  simp_all

/-! ### Records and tables: one part each -/

theorem State.setLatch_frame (s : State) (org : Originator) (prev : Nat) (hi : Nat) : ∃ x0, (s.setLatch org prev hi) = { s with latches := x0 } := ⟨_, rfl⟩

theorem State.setFac_frame (s : State) (f : Nat) (x : Facet) : ∃ x0, (s.setFac f x) = { s with facets := x0 } := ⟨_, rfl⟩

theorem State.modFac_frame (s : State) (f : Nat) (g : Facet → Facet) : ∃ x0, (s.modFac f g) = { s with facets := x0 } := ⟨_, rfl⟩

theorem State.modSq_frame (s : State) (f : Nat) (g : Sqr → Sqr) : ∃ x0, (s.modSq f g) = { s with facets := x0 } := ⟨_, rfl⟩

theorem State.setTc_frame (s : State) (c : Nat) (t : Tctr) : ∃ x0, (s.setTc c t) = { s with tctrs := x0 } := ⟨_, rfl⟩

theorem State.setRlayer_frame (s : State) (k : Nat) (r : RLayer) : ∃ x0, (s.setRlayer k r) = { s with rtc := x0 } := ⟨_, rfl⟩

theorem State.modLaunch_frame (s : State) (pool : Nat) (g : Launch → Launch) : ∃ x0, (s.modLaunch pool g) = { s with srv := x0 } := ⟨_, rfl⟩

theorem State.modHome_frame (s : State) (c : Nat) (st : Nat) (y : Nat) (g : HomeLayer → HomeLayer) : ∃ x0, (s.modHome c st y g) = { s with prs := x0 } := ⟨_, rfl⟩

theorem State.modOwn_frame (s : State) (c : Nat) (st : Nat) (y : Nat) (g : OwnLayer → OwnLayer) : ∃ x0, (s.modOwn c st y g) = { s with prs := x0 } := ⟨_, rfl⟩

theorem State.setSeries_frame (s : State) (c : Nat) (k : Nat) (x : Series) : ∃ x0, (s.setSeries c k x) = { s with srv := x0 } := ⟨_, rfl⟩

theorem State.modStep_frame (s : State) (c : Nat) (k : Nat) (g : Step → Step) : ∃ x0, (s.modStep c k g) = { s with srv := x0 } := ⟨_, rfl⟩

theorem State.modRes_frame (s : State) (c : Nat) (g : ResCtx → ResCtx) : ∃ x0, (s.modRes c g) = { s with res := x0 } := ⟨_, rfl⟩

theorem State.setRes_frame (s : State) (c : Nat) (st : Nat) : ∃ x0, (s.setRes c st) = { s with regs := x0 } := ⟨_, rfl⟩

theorem State.setSem_frame (s : State) (n : Nat) (x : Sem) : ∃ x0, (s.setSem n x) = { s with res := x0 } := ⟨_, rfl⟩

theorem State.modLoad_frame (s : State) (id : Nat) (g : Load → Load) : ∃ x0, (s.modLoad id g) = { s with shd := x0 } := ⟨_, rfl⟩

theorem State.modPort_frame (s : State) (p : Nat) (g : FabPort → FabPort) : ∃ x0, (s.modPort p g) = { s with fab := x0 } := ⟨_, rfl⟩

theorem State.modReq_frame (s : State) (tag : Nat) (g : FabReq → FabReq) : ∃ x0, (s.modReq tag g) = { s with fab := x0 } := by
  unfold State.modReq
  split <;> exact ⟨_, rfl⟩

theorem State.setSend_frame (s : State) (d : Nat) (c : Nat) (x : SendStream) : ∃ x0, (s.setSend d c x) = { s with fab := x0 } := ⟨_, rfl⟩

theorem State.setRecv_frame (s : State) (src : Nat) (about : Nat) (c : Nat) (x : RecvStream) : ∃ x0, (s.setRecv src about c x) = { s with fab := x0 } := ⟨_, rfl⟩

theorem State.setMirPeer_frame (s : State) (i : Nat) (p : MirPeer) : ∃ x0, (s.setMirPeer i p) = { s with mir := x0 } := ⟨_, rfl⟩

theorem State.setQp_frame (s : State) (p : Nat) (q : Nat) (x : Qp) : ∃ x0, (s.setQp p q x) = { s with eth := x0 } := ⟨_, rfl⟩

theorem State.setQpState_frame (s : State) (p : Nat) (q : Nat) (st : Nat) : ∃ x0, (s.setQpState p q st) = { s with regs := x0 } := ⟨_, rfl⟩

theorem State.setQpStatus_frame (s : State) (p : Nat) (q : Nat) (st : Nat) : ∃ x0, (s.setQpStatus p q st) = { s with regs := x0 } := ⟨_, rfl⟩

theorem State.setNocBuf_frame (s : State) (die : Nat) (router : Nat) (input : Nat) (vc : Nat) (l : List NocFlit) : ∃ x0, (s.setNocBuf die router input vc l) = { s with noc := x0 } := ⟨_, rfl⟩

theorem State.sput_frame (s : State) (n : Nat) (d : DField) (v : Nat) : ∃ x0, (s.sput n d v) = { s with mem := x0 } := ⟨_, rfl⟩

theorem State.pput_frame (s : State) (f : Nat) (d : DField) (v : Nat) : ∃ x0, (s.pput f d v) = { s with mem := x0 } := ⟨_, rfl⟩

theorem State.setSflag_frame (s : State) (n : Nat) (b : Nat) (v : Bool) : ∃ x0, (s.setSflag n b v) = { s with mem := x0 } := ⟨_, rfl⟩

theorem State.put8_frame (s : State) (p : Nat × Nat) (v : Nat) : ∃ x0, (s.put8 p v) = { s with mem := x0 } := ⟨_, rfl⟩

theorem State.shdPut_frame (s : State) (i : Nat) (o : Nat) (bs : List Byte) : ∃ x0, (s.shdPut i o bs) = { s with mem := x0 } := ⟨_, rfl⟩

theorem State.mirPut_frame (s : State) (n : Nat) (slot : Nat) (off : Nat) (bs : List Byte) : ∃ x0, (s.mirPut n slot off bs) = { s with mem := x0 } := ⟨_, rfl⟩

theorem State.setBal_frame (s : State) (t : Nat) (v : Int) : ∃ x0, (s.setBal t v) = { s with srv := x0 } := ⟨_, rfl⟩

theorem State.scanStatus_frame (s : State) (f : Nat) (st : Nat) : ∃ x0, (s.scanStatus f st) = { s with regs := x0 } := ⟨_, rfl⟩

theorem State.ctxStatus_frame (s : State) (f : Nat) (st : Nat) : ∃ x0, (s.ctxStatus f st) = { s with regs := x0 } := ⟨_, rfl⟩

theorem State.mirSend_frame (s : State) (i : Nat) (e : List Byte) : ∃ x0, (s.mirSend i e) = { s with mir := x0 } := ⟨_, rfl⟩

theorem State.putOut_frame (s : State) (p : Nat) (input : Nat) (h : PktHdr) : ∃ x0, (s.putOut p input h) = { s with fab := x0 } := ⟨_, rfl⟩

theorem State.waitPkt_frame (s : State) (h : PktHdr) (b : PktBody) : ∃ x0, (s.waitPkt h b) = { s with fab := x0 } := ⟨_, rfl⟩

theorem State.tagStatus_frame (s : State) (tag : Nat) (st : Nat) : ∃ x0, (s.tagStatus tag st) = { s with facets := x0 } := by
  unfold State.tagStatus
  split <;> exact ⟨_, rfl⟩

theorem clearExpert_frame (s : State) : ∃ x0 x1, (clearExpert s) = { s with regs := x0, sec := x1 } := ⟨_, _, rfl⟩

theorem State.closeTxn_frame (s : State) : ∃ x0 x1, (s.closeTxn) = { s with regs := x0, txn := x1 } := ⟨_, _, rfl⟩

theorem State.stage_frame (s : State) (off : Nat) (v : Nat) (mask : Nat) : ∃ x0 x1, (s.stage off v mask) = { s with regs := x0, txn := x1 } := by
  unfold State.stage
  (repeat' split) <;> exact ⟨_, _, rfl⟩

theorem State.failPkt_frame (s : State) (h : PktHdr) (st : Nat) : ∃ x0 x1, (s.failPkt h st) = { s with facets := x0, fab := x1 } := by
  unfold State.failPkt
  obtain ⟨x, hx⟩ := State.modReq_frame s (ownTag h) fun r => { r with ended := true, status := worse r.status st }
  rw [hx]
  obtain ⟨y, hy⟩ := State.tagStatus_frame { s with fab := x } (ownTag h) st
  rw [hy]
  exact ⟨_, _, rfl⟩

theorem State.number_frame (s : State) (h : PktHdr) : ∃ x, (s.number h).2 = { s with fab := x } := by
  unfold State.number
  dsimp only
  (repeat' split) <;> exact ⟨_, rfl⟩

/-! ### Counting, events and what is sent -/

theorem State.bump_frame (s : State) (c n : Nat) : ∃ x0 x1 x2, s.bump c n = { s with cnts := x0, evt := x1, tap := x2 } := by
  refine ⟨(s.bump c n).cnts, (s.bump c n).evt, (s.bump c n).tap, State.eq_of_parts ?_ ?_ ?_ ?_ ?_ ?_ ?_ ?_ ?_ ?_ ?_ ?_ ?_ ?_ ?_ ?_ ?_ ?_ ?_ ?_ ?_ ?_ ?_ ?_ ?_ ?_ ?_ ?_ ?_ ?_ ?_ ?_ ?_ ?_⟩ <;> simp

theorem State.emit_frame (s : State) (e : Output) : ∃ x0, s.emit e = { s with out := x0 } := ⟨_, rfl⟩

theorem State.raise_frame (s : State) (code unit ctx d0 d1 status : Nat) : ∃ x0 x1 x2 x3 x4, s.raise code unit ctx d0 d1 status = { s with pins := x0, regs := x1, cnts := x2, evt := x3, tap := x4 } := by
  refine ⟨(s.raise code unit ctx d0 d1 status).pins, (s.raise code unit ctx d0 d1 status).regs, (s.raise code unit ctx d0 d1 status).cnts, (s.raise code unit ctx d0 d1 status).evt, (s.raise code unit ctx d0 d1 status).tap, State.eq_of_parts ?_ ?_ ?_ ?_ ?_ ?_ ?_ ?_ ?_ ?_ ?_ ?_ ?_ ?_ ?_ ?_ ?_ ?_ ?_ ?_ ?_ ?_ ?_ ?_ ?_ ?_ ?_ ?_ ?_ ?_ ?_ ?_ ?_ ?_⟩ <;> simp

theorem State.raise_mild_frame (s : State) (code unit ctx d0 d1 status : Nat) (h : eventClass code ≠ 3) : ∃ x0 x1 x2, s.raise code unit ctx d0 d1 status = { s with cnts := x0, evt := x1, tap := x2 } := by
  have hp := State.raise_pins_mild s code unit ctx d0 d1 status h
  have hr := State.raise_regs_mild s code unit ctx d0 d1 status h
  refine ⟨(s.raise code unit ctx d0 d1 status).cnts, (s.raise code unit ctx d0 d1 status).evt, (s.raise code unit ctx d0 d1 status).tap, State.eq_of_parts ?_ ?_ ?_ ?_ ?_ ?_ ?_ ?_ ?_ ?_ ?_ ?_ ?_ ?_ ?_ ?_ ?_ ?_ ?_ ?_ ?_ ?_ ?_ ?_ ?_ ?_ ?_ ?_ ?_ ?_ ?_ ?_ ?_ ?_⟩ <;> simp [hp, hr]

/-! ### Packets: what a send may change -/

/-- A fold of packet operations is a packet operation. -/
theorem State.sends_frame {α : Type} (f : State → α → State) (hf : ∀ s a, ∃ x0 x1 x2 x3 x4 x5, f s a = { s with facets := x0, fab := x1, out := x2, cnts := x3, evt := x4, tap := x5 })
    (l : List α) (s : State) : ∃ x0 x1 x2 x3 x4 x5, l.foldl f s = { s with facets := x0, fab := x1, out := x2, cnts := x3, evt := x4, tap := x5 } := by
  induction l generalizing s with
  | nil => exact ⟨_, _, _, _, _, _, rfl⟩
  | cons a l ih =>
    obtain ⟨_, _, _, _, _, _, h⟩ := hf s a
    obtain ⟨_, _, _, _, _, _, h2⟩ := ih (f s a)
    rw [List.foldl_cons, h2, h]
    exact ⟨_, _, _, _, _, _, rfl⟩

theorem State.noRoute_frame (s : State) (h : PktHdr) : ∃ x0 x1 x2 x3 x4 x5, (s.noRoute h) = { s with facets := x0, fab := x1, out := x2, cnts := x3, evt := x4, tap := x5 } := by
  unfold State.noRoute
  obtain ⟨_, _, h1⟩ := State.failPkt_frame s h St.state
  obtain ⟨_, _, _, h2⟩ := State.raise_mild_frame (s.failPkt h St.state) E.noRoute h.dst 0xFF 0 0 0 (by decide)
  rw [h2, h1]
  exact ⟨_, _, _, _, _, _, rfl⟩

theorem State.depart_frame (s : State) (p : Nat) (via : Nat) (h : PktHdr) (b : PktBody) : ∃ x0 x1, (s.depart p via h b) = { s with out := x0, fab := x1 } := by
  unfold State.depart
  obtain ⟨_, h1⟩ := State.number_frame s { h with via := via }
  dsimp only
  rw [h1]
  exact ⟨_, _, rfl⟩

theorem State.launchDirect_frame (s : State) (h : PktHdr) (b : PktBody) : ∃ x0 x1 x2 x3 x4 x5, (s.launchDirect h b) = { s with facets := x0, fab := x1, out := x2, cnts := x3, evt := x4, tap := x5 } := by
  unfold State.launchDirect
  split
  · obtain ⟨_, _, h1⟩ := State.failPkt_frame s h St.range
    rw [h1]
    exact ⟨_, _, _, _, _, _, rfl⟩
  · split
    · rename_i p via _
      obtain ⟨_, _, h1⟩ := State.depart_frame s p via h b
      rw [h1]
      exact ⟨_, _, _, _, _, _, rfl⟩
    · exact State.noRoute_frame s h

theorem State.post_frame (s : State) (h : PktHdr) (b : PktBody) : ∃ x0 x1 x2 x3 x4 x5, (s.post h b) = { s with facets := x0, fab := x1, out := x2, cnts := x3, evt := x4, tap := x5 } := by
  unfold State.post
  split
  · exact ⟨_, _, _, _, _, _, rfl⟩
  · exact State.launchDirect_frame s h b

theorem State.closeBatch_frame (s : State) (y : Nat) (dir : Nat) : ∃ x0 x1 x2 x3 x4 x5, (s.closeBatch y dir) = { s with facets := x0, fab := x1, out := x2, cnts := x3, evt := x4, tap := x5 } := by
  unfold State.closeBatch
  split
  · exact ⟨_, _, _, _, _, _, rfl⟩
  · rename_i l _
    dsimp only
    obtain ⟨_, _, _, _, _, _, h1⟩ := State.post_frame _ _ _
    rw [h1]
    obtain ⟨_, _, _, h2⟩ := State.bump_frame _ C.FAB_GW_BATCHES 1
    rw [h2]
    exact ⟨_, _, _, _, _, _, rfl⟩

theorem State.addEntry_frame (s : State) (y : Nat) (dir : Nat) (e : GwEntry) : ∃ x0 x1 x2 x3 x4 x5, (s.addEntry y dir e) = { s with facets := x0, fab := x1, out := x2, cnts := x3, evt := x4, tap := x5 } := by
  unfold State.addEntry
  dsimp only
  obtain ⟨_, _, _, _, _, _, h0⟩ := State.closeBatch_frame s y dir
  split
  · rw [h0]
    split
    · exact (State.closeBatch_frame _ y dir).elim fun _ h => by
        obtain ⟨_, _, _, _, _, h1⟩ := h
        rw [h1]
        exact ⟨_, _, _, _, _, _, rfl⟩
    · exact ⟨_, _, _, _, _, _, rfl⟩
  · split
    · exact (State.closeBatch_frame _ y dir).elim fun _ h => by
        obtain ⟨_, _, _, _, _, h1⟩ := h
        rw [h1]
        exact ⟨_, _, _, _, _, _, rfl⟩
    · exact ⟨_, _, _, _, _, _, rfl⟩

theorem State.launchMem_frame (s : State) (h : PktHdr) (r : MemReq) : ∃ x0 x1 x2 x3 x4 x5, (s.launchMem h r) = { s with facets := x0, fab := x1, out := x2, cnts := x3, evt := x4, tap := x5 } := by
  unfold State.launchMem
  (repeat' split)
  · obtain ⟨_, _, h1⟩ := State.failPkt_frame s h St.range
    rw [h1]
    exact ⟨_, _, _, _, _, _, rfl⟩
  · exact State.launchDirect_frame s h (.mem r)
  · obtain ⟨_, _, h1⟩ := State.failPkt_frame s h St.state
    rw [h1]
    exact ⟨_, _, _, _, _, _, rfl⟩
  · exact State.noRoute_frame s h
  · obtain ⟨_, h1⟩ := State.number_frame s h
    dsimp only
    obtain ⟨_, _, _, _, _, _, h2⟩ := State.addEntry_frame (s.number h).2 _ 0 _
    rw [h2, h1]
    exact ⟨_, _, _, _, _, _, rfl⟩
  · obtain ⟨_, _, h1⟩ := State.depart_frame s _ 255 h (.mem r)
    rw [h1]
    exact ⟨_, _, _, _, _, _, rfl⟩
  · exact State.noRoute_frame s h

theorem State.postMem_frame (s : State) (h : PktHdr) (r : MemReq) : ∃ x0 x1 x2 x3 x4 x5, (s.postMem h r) = { s with facets := x0, fab := x1, out := x2, cnts := x3, evt := x4, tap := x5 } := by
  unfold State.postMem
  split
  · exact ⟨_, _, _, _, _, _, rfl⟩
  · exact State.launchMem_frame s h r

theorem State.sendWords_frame (s : State) (dst : Nat) (ptype : Nat) (ws : List Nat) : ∃ x0 x1 x2 x3 x4 x5, (s.sendWords dst ptype ws) = { s with facets := x0, fab := x1, out := x2, cnts := x3, evt := x4, tap := x5 } := State.post_frame _ _ _

theorem State.sendStore_frame (s : State) (dst : Nat) (addr : Nat) (bs : List Byte) (rtag : Nat) (job : Nat) (poison : Bool) : ∃ x0 x1 x2 x3 x4 x5, (s.sendStore dst addr bs rtag job poison) = { s with facets := x0, fab := x1, out := x2, cnts := x3, evt := x4, tap := x5 } := State.sends_frame _ (fun _ _ => State.postMem_frame _ _ _) _ _

theorem State.sendBulk_frame (s : State) (dst : Nat) (addr : Nat) (bs : List Byte) : ∃ x0 x1 x2 x3 x4 x5, (s.sendBulk dst addr bs) = { s with facets := x0, fab := x1, out := x2, cnts := x3, evt := x4, tap := x5 } := State.sends_frame _ (fun _ _ => State.post_frame _ _ _) _ _

theorem State.sendAck_frame (s : State) (src : Nat) : ∃ x0 x1 x2 x3 x4 x5, (s.sendAck src) = { s with facets := x0, fab := x1, out := x2, cnts := x3, evt := x4, tap := x5 } := by
  unfold State.sendAck
  dsimp only
  obtain ⟨_, _, _, _, _, _, h1⟩ := State.sends_frame
    (fun s a => s.sendWords src 0x20 (a :: (List.range 6).map fun c => (s.recvOf src a c).done))
    (fun _ _ => State.sendWords_frame _ _ _ _) (((s.fab.recvs.filter fun e => e.1 / 2048 = src).map fun e => e.1 / 8 % 256).eraseDups) s
  rw [h1]
  exact ⟨_, _, _, _, _, _, rfl⟩

theorem State.performed_frame (s : State) (src : Nat) (about : Nat) (c : Nat) (seq : Nat) : ∃ x0 x1 x2 x3 x4 x5, (s.performed src about c seq) = { s with facets := x0, fab := x1, out := x2, cnts := x3, evt := x4, tap := x5 } := by
  unfold State.performed
  dsimp only
  (repeat' split)
  · exact ⟨_, _, _, _, _, _, rfl⟩
  · obtain ⟨_, _, _, _, _, _, h1⟩ := State.sendAck_frame (s.setRecv src about c _) src
    rw [h1]
    exact ⟨_, _, _, _, _, _, rfl⟩
  · exact ⟨_, _, _, _, _, _, rfl⟩

theorem respond_frame (h : PktHdr) (b : RespBody) (s : State) : ∃ x0 x1 x2 x3 x4 x5, (respond h b s) = { s with facets := x0, fab := x1, out := x2, cnts := x3, evt := x4, tap := x5 } := by
  unfold respond
  (repeat' split)
  · exact State.post_frame s _ _
  · obtain ⟨_, _, _, _, _, _, h1⟩ := State.addEntry_frame ({ s with fab := { s.fab with reqs := kdel s.fab.reqs h.rtag } } : State) _ 1 _
    rw [h1]
    exact ⟨_, _, _, _, _, _, rfl⟩
  · exact ⟨_, _, _, _, _, _, rfl⟩
  · exact ⟨_, _, _, _, _, _, rfl⟩

theorem doneOp_frame (h : PktHdr) (s : State) : ∃ x0 x1 x2 x3 x4 x5, (doneOp h s) = { s with facets := x0, fab := x1, out := x2, cnts := x3, evt := x4, tap := x5 } := by
  unfold doneOp
  (repeat' split)
  · exact State.performed_frame s _ _ _ _
  · obtain ⟨_, _, _, _, _, _, h1⟩ := State.addEntry_frame ({ s with fab := { s.fab with reqs := kdel s.fab.reqs h.rtag } } : State) _ 1 _
    rw [h1]
    exact ⟨_, _, _, _, _, _, rfl⟩
  · exact ⟨_, _, _, _, _, _, rfl⟩
  · exact ⟨_, _, _, _, _, _, rfl⟩

theorem sendLinkState_frame (s : State) : ∃ x0 x1 x2 x3 x4 x5, (sendLinkState s) = { s with facets := x0, fab := x1, out := x2, cnts := x3, evt := x4, tap := x5 } := State.sends_frame _ (fun _ _ => State.sendWords_frame _ _ _ _) _ _

theorem setPort_frame (p : Nat) (st : Nat) (s : State) : ∃ x0 x1 x2 x3 x4 x5 x6, (setPort p st s) = { s with facets := x0, fab := x1, out := x2, cnts := x3, evt := x4, tap := x5, regs := x6 } := by
  unfold setPort
  dsimp only
  split
  · exact ⟨_, _, _, _, _, _, _, rfl⟩
  · obtain ⟨_, _, _, _, _, _, h1⟩ := sendLinkState_frame _
    rw [h1]
    exact ⟨_, _, _, _, _, _, _, rfl⟩

theorem toRetrain_frame (p : Nat) (width : Nat) (s : State) : ∃ x0 x1 x2 x3 x4 x5 x6, (toRetrain p width s) = { s with facets := x0, fab := x1, out := x2, cnts := x3, evt := x4, tap := x5, regs := x6 } := by
  unfold toRetrain
  split
  · obtain ⟨_, _, _, _, _, _, _, h1⟩ := setPort_frame p 6 (s.modPort p fun f => { f with cred := [], rsv := [], width := width })
    rw [h1]
    obtain ⟨_, _, _, h2⟩ := State.bump_frame _ (C.FAB_P_RETRAINS + pdi p) 1
    rw [h2]
    exact ⟨_, _, _, _, _, _, _, rfl⟩
  · exact ⟨_, _, _, _, _, _, _, rfl⟩

/-! ### Accesses through a translation -/

theorem State.tread_frame (s : State) (sp off n : Nat) : ∃ x0 x1 x2, s.tread sp off n = { s with cnts := x0, evt := x1, tap := x2 } := by
  unfold State.tread
  (repeat' split)
  · obtain ⟨_, _, _, h1⟩ := State.bump_frame ({ s with tap := { s.tap with t1 := lastReads s.tap.t1 off n } } : State) C.TIER_T1_READ (lineCount off n)
    rw [h1]
    exact ⟨_, _, _, rfl⟩
  · exact State.bump_frame _ _ _
  · exact ⟨_, _, _, rfl⟩

theorem State.twrite_frame (s : State) (sp off : Nat) (bs : List Byte) (poison : Bool) : ∃ x0 x1 x2 x3, s.twrite sp off bs poison = { s with mem := x0, cnts := x1, evt := x2, tap := x3 } := by
  unfold State.twrite
  dsimp only
  (repeat' split)
  · obtain ⟨_, _, _, h1⟩ := State.bump_frame ({ s with mem := s.mem.write sp off bs poison } : State) C.TIER_T1_WRITE (lineCount off bs.length)
    rw [h1]
    exact ⟨_, _, _, _, rfl⟩
  · obtain ⟨_, _, _, h1⟩ := State.bump_frame ({ s with mem := s.mem.write sp off bs poison } : State) C.TIER_T2_WRITE (lineCount off bs.length)
    rw [h1]
    exact ⟨_, _, _, _, rfl⟩
  · exact ⟨_, _, _, _, rfl⟩

theorem State.writePiece_frame (s : State) (va : Nat) (bs : List Byte) (poison : Bool) : ∃ x0 x1 x2 x3 x4 x5 x6, (s.writePiece va bs poison) = { s with facets := x0, fab := x1, out := x2, cnts := x3, evt := x4, tap := x5, mem := x6 } := by
  unfold State.writePiece
  (repeat' split)
  · exact ⟨_, _, _, _, _, _, _, rfl⟩
  · obtain ⟨_, _, _, _, h1⟩ := State.twrite_frame s _ _ bs poison
    rw [h1]
    exact ⟨_, _, _, _, _, _, _, rfl⟩
  · obtain ⟨_, _, _, _, _, _, h1⟩ := State.sendStore_frame s _ _ bs 0 _ poison
    rw [h1]
    exact ⟨_, _, _, _, _, _, _, rfl⟩

theorem State.vwrite_frame (s : State) (va : Nat) (bs : List Byte) (poison : Bool) : ∃ x0 x1 x2 x3 x4 x5 x6, (s.vwrite va bs poison) = { s with facets := x0, fab := x1, out := x2, cnts := x3, evt := x4, tap := x5, mem := x6 } := by
  unfold State.vwrite
  generalize pieces va bs.length = l
  have key : ∀ (l : List (Nat × Nat)) (s : State), ∃ x0 x1 x2 x3 x4 x5 x6,
      l.foldl (fun s p => (s.bump C.MMU_WALKS).writePiece p.1 (slice bs (p.1 - va) p.2) poison) s = { s with facets := x0, fab := x1, out := x2, cnts := x3, evt := x4, tap := x5, mem := x6 } := by
    intro l
    induction l with
    | nil => exact fun s => ⟨_, _, _, _, _, _, _, rfl⟩
    | cons p l ih =>
      intro s
      obtain ⟨_, _, _, h1⟩ := State.bump_frame s C.MMU_WALKS 1
      obtain ⟨_, _, _, _, _, _, _, h2⟩ := State.writePiece_frame (s.bump C.MMU_WALKS) p.1 (slice bs (p.1 - va) p.2) poison
      obtain ⟨_, _, _, _, _, _, _, h3⟩ := ih ((s.bump C.MMU_WALKS).writePiece p.1 (slice bs (p.1 - va) p.2) poison)
      rw [List.foldl_cons, h3, h2, h1]
      exact ⟨_, _, _, _, _, _, _, rfl⟩
  exact key l s

/-! ### Events of the units -/

theorem State.accessEvent_frame (s : State) (org : Originator) (off reason : Nat) : ∃ x0 x1 x2 x3 x4, s.accessEvent org off reason = { s with pins := x0, regs := x1, cnts := x2, evt := x3, tap := x4 } := by
  unfold State.accessEvent
  obtain ⟨_, _, _, _, _, h1⟩ := State.raise_frame (if s.flag F.GLB_ACCESS_valid then s
    else s.wr F.GLB_ACCESS_valid.off (off % 2 ^ 26 + reason * 2 ^ 26 + (orgCode org) * 2 ^ 29 + 2 ^ 31)) E.registerAccess (orgCode org) 0xFF off (reason + 8 * (orgPkg org)) 0
  dsimp only
  rw [h1]
  split <;> exact ⟨_, _, _, _, _, rfl⟩

theorem State.bar2Event_frame (s : State) (off : Nat) : ∃ x0 x1 x2 x3 x4, (s.bar2Event off) = { s with pins := x0, regs := x1, cnts := x2, evt := x3, tap := x4 } := State.accessEvent_frame _ _ _ _

theorem State.protocolEvent_frame (s : State) (src : Nat) (ptype : Nat) : ∃ x0 x1 x2, (s.protocolEvent src ptype) = { s with cnts := x0, evt := x1, tap := x2 } := State.raise_mild_frame _ _ _ _ _ _ _ (by decide)

theorem State.abortTxn_frame (s : State) : ∃ x0 x1 x2 x3 x4, (s.abortTxn) = { s with regs := x0, txn := x1, cnts := x2, evt := x3, tap := x4 } := by
  unfold State.abortTxn
  split
  · obtain ⟨_, _, _, h1⟩ := State.bump_frame s.closeTxn C.CFG_ABORTS 1
    rw [h1]
    exact ⟨_, _, _, _, _, rfl⟩
  · exact ⟨_, _, _, _, _, rfl⟩

theorem State.mmuFault_frame (s : State) (va : Nat) (level : Nat) (reason : Nat) (facet : Nat) (ctx : Nat) : ∃ x0 x1 x2 x3 x4, (s.mmuFault va level reason facet ctx) = { s with pins := x0, regs := x1, cnts := x2, evt := x3, tap := x4 } := by
  unfold State.mmuFault
  dsimp only
  obtain ⟨_, _, _, h1⟩ := State.bump_frame s C.MMU_FAULTS 1
  rw [h1]
  split
  · obtain ⟨_, _, _, _, _, h2⟩ := State.raise_frame _ E.translationFault facet ctx va reason 0
    rw [h2]
    exact ⟨_, _, _, _, _, rfl⟩
  · obtain ⟨_, _, _, _, _, h2⟩ := State.raise_frame _ E.translationFault facet ctx va reason 0
    rw [h2]
    exact ⟨_, _, _, _, _, rfl⟩

theorem State.vcount_frame (s : State) (va : Nat) (n : Nat) (facet : Nat) : ∃ x0 x1 x2 x3 x4, (s.vcount va n facet) = { s with pins := x0, regs := x1, cnts := x2, evt := x3, tap := x4 } := by
  unfold State.vcount
  have key : ∀ (l : List (Nat × Nat)) (s : State), ∃ x0 x1 x2,
      l.foldl (fun s p =>
        have s := s.bump C.MMU_WALKS
        match s.walk p.1 false with
        | .fail _ _ => s
        | .ok sp off pkg _ _ _ _ => if pkg = s.self then s.tread sp off p.2 else s) s = { s with cnts := x0, evt := x1, tap := x2 } := by
    intro l
    induction l with
    | nil => exact fun s => ⟨_, _, _, rfl⟩
    | cons p l ih =>
      intro s
      obtain ⟨_, _, _, h1⟩ := State.bump_frame s C.MMU_WALKS 1
      rw [List.foldl_cons]
      dsimp only
      rw [h1]
      split
      · obtain ⟨_, _, _, h3⟩ := ih _
        rw [h3]
        exact ⟨_, _, _, rfl⟩
      · split
        · obtain ⟨_, _, _, h2⟩ := State.tread_frame _ _ _ p.2
          rw [h2]
          obtain ⟨_, _, _, h3⟩ := ih _
          rw [h3]
          exact ⟨_, _, _, rfl⟩
        · obtain ⟨_, _, _, h3⟩ := ih _
          rw [h3]
          exact ⟨_, _, _, rfl⟩
  split
  · obtain ⟨a, b, c, h1⟩ := key (pieces va n) s
    exact ⟨s.pins, s.regs, a, b, c, h1⟩
  · rename_i a l r _
    obtain ⟨_, _, _, _, _, h2⟩ := State.mmuFault_frame s a l r facet (vaCtx a)
    obtain ⟨x, y, z, h1⟩ := key (pieces va n) (s.mmuFault a l r facet (vaCtx a))
    rw [h2] at h1
    rw [h2]
    exact ⟨_, _, x, y, z, h1⟩

theorem setLevel_frame (level : Nat) (by_ : Nat) (s : State) : ∃ x0 x1 x2 x3 x4 x5, (setLevel level by_ s) = { s with sec := x0, pins := x1, regs := x2, cnts := x3, evt := x4, tap := x5 } := by
  unfold setLevel
  split
  · exact ⟨_, _, _, _, _, _, rfl⟩
  · dsimp only
    obtain ⟨_, _, _, _, _, h1⟩ := State.raise_frame ((((({ s with sec := { s.sec with level := level, levelBy := if level = 0 then 0 else by_ } } : State).setFld
      F.DBG_LEVEL_level level).setFld F.DBG_LEVEL_session (if level = 0 then 0 else by_)).setFld F.GLB_STATUS_debug level)) E.debugLevel by_ 0xFF level 0 0
    rw [h1]
    obtain ⟨_, _, _, h2⟩ := State.bump_frame _ C.DBG_LEVEL_CHANGES 1
    rw [h2]
    (repeat' split) <;> exact ⟨_, _, _, _, _, _, rfl⟩

end Sys2Proof.Machine
end

