-- ==== Sys2Proof/Laws/Memory.lean ====
section
/-!
SUPPORT. Laws of memory: a byte reads what was written last, a write leaves every other byte, and every operation keeps
the canonical form of `Mem.wf`.
-/
namespace Sys2Proof.Machine

/-! ### One byte -/

/-- A byte that lies below a canonical list's addresses reads as the default. -/
theorem cellGet_below (d : Byte) (m : List Host.Cell) (lo a : Nat) (h : cellsWf d lo m = true) (ha : a < lo) :
    cellGet d m a = d := by
  cases m with
  | nil => rfl
  | cons e m =>
    obtain ⟨j, b⟩ := e
    simp only [cellsWf, Bool.and_eq_true, decide_eq_true_eq] at h
    simp [cellGet, show j ≠ a by omega, show a < j by omega]

/-- A byte reads what was written. -/
theorem cellGet_cellSet_same (d : Byte) (m : List Host.Cell) (lo a : Nat) (b : Byte) (h : cellsWf d lo m = true) :
    cellGet d (cellSet d m a b) a = b := by
  induction m generalizing lo with
  | nil =>
    by_cases hb : b = d <;> simp [cellSet, cellGet, hb]
  | cons e m ih =>
    obtain ⟨j, c⟩ := e
    simp only [cellsWf, Bool.and_eq_true, decide_eq_true_eq] at h
    simp only [cellSet]
    split
    · by_cases hb : b = d
      · simp [cellGet, show j ≠ a by omega, *]
      · simp [hb, cellGet]
    · split
      · rename_i hj
        subst hj
        by_cases hb : b = d
        · simp [hb, cellGet_below d m _ a h.2 (by omega)]
        · simp [hb, cellGet]
      · rename_i h1 h2
        simp [cellGet, show j ≠ a by omega, show ¬ a < j by omega, ih _ h.2]

/-- A write of one byte leaves every other. -/
theorem cellGet_cellSet_ne (d : Byte) (m : List Host.Cell) (lo a x : Nat) (b : Byte) (h : cellsWf d lo m = true) (hx : x ≠ a) :
    cellGet d (cellSet d m a b) x = cellGet d m x := by
  induction m generalizing lo with
  | nil =>
    by_cases hb : b = d <;> simp [cellSet, cellGet, hb, Ne.symm hx]
  | cons e m ih =>
    obtain ⟨j, c⟩ := e
    simp only [cellsWf, Bool.and_eq_true, decide_eq_true_eq] at h
    simp only [cellSet]
    split
    · rename_i hj
      by_cases hb : b = d
      · simp [hb]
      · by_cases hxa : x < a
        · simp [hb, cellGet, Ne.symm hx, hxa, show j ≠ x by omega, show x < j by omega]
        · simp [hb, cellGet, Ne.symm hx, hxa]
    · split
      · rename_i h1 hj
        subst hj
        by_cases hb : b = d
        · by_cases hxa : x < a
          · simp [hb, cellGet, Ne.symm hx, hxa, cellGet_below d m _ x h.2 (by omega)]
          · simp [hb, cellGet, Ne.symm hx, hxa]
        · simp [hb, cellGet, Ne.symm hx]
      · simp only [cellGet, ih _ h.2]

/-- A canonical list from a higher address is one from a lower. -/
theorem cellsWf_mono (d : Byte) (m : List Host.Cell) (lo lo' : Nat) (h : cellsWf d lo m = true) (hl : lo' ≤ lo) :
    cellsWf d lo' m = true := by
  cases m with
  | nil => rfl
  | cons e m =>
    obtain ⟨j, b⟩ := e
    simp only [cellsWf, Bool.and_eq_true, decide_eq_true_eq] at h ⊢
    exact ⟨⟨by omega, h.1.2⟩, h.2⟩

/-- Writing a byte keeps the canonical form. -/
theorem cellSet_wf (d : Byte) (m : List Host.Cell) (lo a : Nat) (b : Byte) (h : cellsWf d lo m = true) (ha : lo ≤ a) :
    cellsWf d lo (cellSet d m a b) = true := by
  induction m generalizing lo with
  | nil =>
    by_cases hb : b = d <;> simp [cellSet, cellsWf, hb, ha]
  | cons e m ih =>
    obtain ⟨j, c⟩ := e
    simp only [cellSet]
    split
    · rename_i hj
      by_cases hb : b = d
      · simpa [hb] using h
      · simp only [cellsWf, Bool.and_eq_true, decide_eq_true_eq] at h
        simp [hb, cellsWf, ha, h, show a + 1 ≤ j by omega]
    · simp only [cellsWf, Bool.and_eq_true, decide_eq_true_eq] at h
      split
      · rename_i hj
        subst hj
        by_cases hb : b = d
        · simpa [hb] using cellsWf_mono d m (a + 1) lo h.2 (by omega)
        · simp [hb, cellsWf, ha, h]
      · simp [cellsWf, h, ih _ h.2 (by omega)]

/-! ### Byte lists -/

/-- Writing bytes keeps the canonical form. -/
theorem cellsWrite_wf (d : Byte) (m : List Host.Cell) (a : Nat) (l : List Byte) (h : cellsWf d 0 m = true) :
    cellsWf d 0 (cellsWrite d m a l) = true := by
  induction l generalizing m a with
  | nil => exact h
  | cons b l ih => exact ih _ _ (cellSet_wf d m 0 a b h (Nat.zero_le _))

/-- A byte outside the bytes written reads as before. -/
theorem cellGet_cellsWrite_out (d : Byte) (m : List Host.Cell) (a x : Nat) (l : List Byte) (h : cellsWf d 0 m = true)
    (hx : x < a ∨ a + l.length ≤ x) : cellGet d (cellsWrite d m a l) x = cellGet d m x := by
  induction l generalizing m a with
  | nil => rfl
  | cons b l ih =>
    simp only [List.length_cons] at hx
    simp only [cellsWrite]
    rw [ih _ _ (cellSet_wf d m 0 a b h (Nat.zero_le _)) (by omega), cellGet_cellSet_ne d m 0 a x b h (by omega)]

/-- A byte among the bytes written reads as written. -/
theorem cellGet_cellsWrite_in (d : Byte) (m : List Host.Cell) (a i : Nat) (l : List Byte) (h : cellsWf d 0 m = true)
    (hi : i < l.length) : cellGet d (cellsWrite d m a l) (a + i) = l.getD i d := by
  induction l generalizing m a i with
  | nil => simp at hi
  | cons b l ih =>
    simp only [cellsWrite]
    cases i with
    | zero =>
      have e := cellGet_cellsWrite_out d _ (a + 1) a l (cellSet_wf d m 0 a b h (Nat.zero_le _)) (by omega)
      rw [cellGet_cellSet_same d m 0 a b h] at e
      simpa using e
    | succ i =>
      rw [show a + (i + 1) = a + 1 + i by omega, ih _ _ _ (cellSet_wf d m 0 a b h (Nat.zero_le _)) (by simpa using hi)]
      rfl

@[simp] theorem cellsRead_length (d : Byte) (m : List Host.Cell) (a n : Nat) : (cellsRead d m a n).length = n := by
  induction n generalizing a with
  | zero => rfl
  | succ n ih => simp [cellsRead, ih]

/-- Reading is byte for byte. -/
theorem cellsRead_congr (d : Byte) (m m' : List Host.Cell) (a n : Nat) (h : ∀ i, i < n → cellGet d m (a + i) = cellGet d m' (a + i)) :
    cellsRead d m a n = cellsRead d m' a n := by
  induction n generalizing a with
  | zero => rfl
  | succ n ih =>
    simp only [cellsRead]
    rw [show cellGet d m a = cellGet d m' a from h 0 (by omega)]
    rw [ih (a + 1) fun i hi => by rw [show a + 1 + i = a + (i + 1) by omega]; exact h (i + 1) (by omega)]

/-- Bytes written read back. -/
theorem cellsRead_cellsWrite (d : Byte) (m : List Host.Cell) (a : Nat) (l : List Byte) (h : cellsWf d 0 m = true) :
    cellsRead d (cellsWrite d m a l) a l.length = l := by
  induction l generalizing m a with
  | nil => rfl
  | cons b l ih =>
    have hw := cellSet_wf d m 0 a b h (Nat.zero_le _)
    simp only [cellsWrite, List.length_cons, cellsRead]
    rw [cellGet_cellsWrite_out d _ _ _ _ hw (by omega), cellGet_cellSet_same d m 0 a b h, ih _ _ hw]

/-- Removing entries keeps the canonical form. -/
theorem cellsWf_filter (d : Byte) (m : List Host.Cell) (lo : Nat) (p : Host.Cell → Bool) (h : cellsWf d lo m = true) :
    cellsWf d lo (m.filter p) = true := by
  induction m generalizing lo with
  | nil => rfl
  | cons e m ih =>
    obtain ⟨j, b⟩ := e
    simp only [cellsWf, Bool.and_eq_true, decide_eq_true_eq] at h
    simp only [List.filter]
    split
    · simp [cellsWf, h, ih _ h.2]
    · exact cellsWf_mono d _ (j + 1) lo (ih _ h.2) (by omega)

/-! ### The memories of the package -/

/-- What the canonical form of all memories says of each. -/
theorem Mem.wf_iff (m : Mem) : m.wf = true ↔ (cellsWf 0 0 m.t0 = true ∧ cellsWf 0 0 m.t1 = true ∧ cellsWf 0 0 m.t2 = true ∧
    cellsWf 0 0 m.host = true ∧ cellsWf flashErased 0 m.flash = true) := by
  simp [Mem.wf, Bool.and_eq_true, and_assoc]

/-- The cells of every space of a canonical memory are canonical. -/
theorem Mem.wf_cells (m : Mem) (sp : Nat) (h : m.wf = true) : cellsWf 0 0 (m.cells sp) = true := by
  rw [Mem.wf_iff] at h
  match sp with
  | 0 => exact h.1
  | 1 => exact h.2.1
  | _ + 2 => exact h.2.2.1

/-- Canonical cells put into a space leave a canonical memory. -/
theorem Mem.wf_setCells (m : Mem) (sp : Nat) (c : List Host.Cell) (h : m.wf = true) (hc : cellsWf 0 0 c = true) :
    (m.setCells sp c).wf = true := by
  rw [Mem.wf_iff] at h ⊢
  match sp with
  | 0 => exact ⟨hc, h.2⟩
  | 1 => exact ⟨h.1, hc, h.2.2⟩
  | _ + 2 => exact ⟨h.1, h.2.1, hc, h.2.2.2⟩

/-- Poison marks are beside the canonical form. -/
@[simp] theorem Mem.wf_setPoison (m : Mem) (sp : Nat) (p : List Nat) : (m.setPoison sp p).wf = m.wf := by
  match sp with
  | 0 => rfl
  | 1 => rfl
  | _ + 2 => rfl

/-- A write keeps the canonical form. -/
theorem Mem.wf_write (m : Mem) (sp off : Nat) (bs : List Byte) (p : Bool) (h : m.wf = true) : (m.write sp off bs p).wf = true := by
  have hw := Mem.wf_setCells m sp _ h (cellsWrite_wf 0 _ off bs (Mem.wf_cells m sp h))
  unfold Mem.write
  split
  · exact h
  · cases p <;> simpa using hw

/-- Marking poison keeps the canonical form. -/
theorem Mem.wf_markPoison (m : Mem) (sp off n : Nat) (h : m.wf = true) : (m.markPoison sp off n).wf = true := by
  unfold Mem.markPoison
  split
  · exact h
  · simpa using h

/-- Clearing a range keeps the canonical form. -/
theorem Mem.wf_zero (m : Mem) (sp off n : Nat) (h : m.wf = true) : (m.zero sp off n).wf = true := by
  unfold Mem.zero
  simpa using Mem.wf_setCells m sp _ h (cellsWf_filter 0 _ 0 _ (Mem.wf_cells m sp h))

@[simp] theorem Mem.cells_setCells (m : Mem) (sp : Nat) (c : List Host.Cell) : (m.setCells sp c).cells sp = c := by
  match sp with
  | 0 => rfl
  | 1 => rfl
  | _ + 2 => rfl

@[simp] theorem Mem.cells_setPoison (m : Mem) (sp sp' : Nat) (p : List Nat) : (m.setPoison sp p).cells sp' = m.cells sp' := by
  match sp with
  | 0 => cases sp' <;> rfl
  | 1 => cases sp' <;> rfl
  | _ + 2 => cases sp' <;> rfl

/-- The cells of a written space. -/
theorem Mem.cells_write (m : Mem) (sp off : Nat) (bs : List Byte) (p : Bool) :
    (m.write sp off bs p).cells sp = cellsWrite 0 (m.cells sp) off bs := by
  unfold Mem.write
  split
  · rename_i h
    rw [h]
    rfl
  · cases p <;> simp

/-- A space reads the bytes written into it. -/
theorem Mem.read_write (m : Mem) (sp off : Nat) (bs : List Byte) (p : Bool) (h : m.wf = true) :
    (m.write sp off bs p).read sp off bs.length = bs := by
  unfold Mem.read
  rw [Mem.cells_write]
  exact cellsRead_cellsWrite 0 _ off bs (Mem.wf_cells m sp h)

/-- Memory after reset is canonical. -/
theorem reset_memory_wf : State.reset.mem.wf = true := rfl

end Sys2Proof.Machine
end

