-- ==== Sys2Proof/Tests/Slice0.lean ====
section
/-!
SUPPORT. Tests: a small state that meets the hypotheses of each statement, values of the spec's rules where a step can be followed by
hand, and a term refused by each check of well-formedness.
-/
open Sys2Proof Sys2Proof.Machine

set_option Elab.async false

namespace Sys2Proof.Tests

/-- The running package: BLANK, so that the host may write every register (R456). -/
def up : State := { State.reset with power := .running }

/-- The running package at configuration ready. -/
def ready : State := up.setFld F.GLB_STATUS_config_ready 1

/-- The state a command answers. -/
def after (i : Instr) (s : State) : State :=
  match exec i s with
  | .next t => t
  | _ => s

/-- The state an outcome holds. -/
def got (o : Out) : State :=
  match o with
  | .next t => t
  | _ => up

/-- The state after the loss of VDD_AON. -/
def lost : State := after .vddAonRemoval ready

/-- The host may write every register of a BLANK package that serves them all. -/
theorem test_up_grants : up.grants .host 0xC ∧ ready.grants .host 0x100000 ∧ (∀ o, up.mayWrite .host o = true) :=
  ⟨by decide, by decide, fun _ => rfl⟩

/-! ### The block and its queue -/

theorem test_step_runs_front : step { up with pending := [.d3hotEntry, .wake] } = exec .d3hotEntry { up with pending := [.wake] } := rfl
theorem test_step_idles : step up = .next { up with us := 1 } := rfl
theorem test_step_unpowered : lost.power = .unpowered ∧ lost.pending = [] := by decide
theorem test_dark_witness : lost.dark ∧ Instr.powerOnReset ∉ lost.pending ∧ step lost = .next lost := ⟨rfl, by decide, rfl⟩
theorem test_supply_loss : lost.regs = [] ∧ lost.pins.thermTripN = true := by decide
theorem test_held_in_reset : State.reset.power = .inReset ∧ actsInReset (.sqDoorbell 0 0) = false ∧ onSmbus (.sqDoorbell 0 0) = false ∧
    after (.sqDoorbell 0 0) State.reset = State.reset := by decide

/-- A package in the fatal condition. -/
def fatal : State := ready.setFld F.GLB_STATUS_fatal 1

theorem test_fatal_stops : fatal.flag F.GLB_STATUS_fatal = true ∧ stoppedByFatal (.tileClaim 0) = true ∧ after (.tileClaim 0) fatal = fatal := by decide
theorem test_queue_gate : engineOp (.touch (.queue 0 7) ⟨false, 0, 0, 0, 0, 0, 0, false⟩) = some (.queue 0 7, 0x08) ∧ up.waitsFence (.queue 0 7) = false ∧
    up.flag F.GLB_STATUS_config_ready = false ∧ fatal.flag F.GLB_STATUS_fatal = true := by decide

/-- A package in FIELD, where a remote package may write nothing. -/
def field : State := { ready with sec := { ready.sec with lifecycle := 2 } }

theorem test_no_authority : (Instr.counterClear (.remote 3) 1).wf = true ∧ field.mayWrite (.remote 3) 0x24 = false ∧ field.mayWrite .host 0x600008 = false ∧
    commandRegister (.counterClear (.remote 3) 1) = some (.remote 3, 0x24) ∧
    (after (.counterClear (.remote 3) 1) field).counter C.SEC_REMOTE_REFUSED = 1 := by decide
theorem test_unserved : (Instr.loupeSelect .host 0).wf = true ∧ fatal.mayWrite .host 0x100000 = true ∧ fatal.served 0x100000 = false ∧
    after (.beginTxn .host) fatal = fatal := by decide
theorem test_memory_canonical : ready.memoryCanonical ∧ (after .d3hotEntry ready).memoryCanonical ∧
    cellsWf 0 0 [(1, 5), (1, 6)] = false ∧ cellsWf 0 0 [(3, 0)] = false := by decide
/-! ### Registers, counters, transactions -/

theorem test_scratch_write : (after (.registerWrite .host 0xC 4 15 0xDEADBEEF) up).rd 0xC = 0xDEADBEEF := by decide
theorem test_id_read_only : after (.registerWrite .host 0 4 15 0xFFFFFFFF) up = up := by decide
theorem test_irregular_write : regularAccess 0xC 2 3 = false ∧ (after (.registerWrite .host 0xC 2 3 5) up).rd 0xC = 0 ∧
    (after (.registerWrite .host 0xC 2 3 5) up).evt.held.length = 1 := by decide
theorem test_unmapped_write : regFields 0x3F00000 = none ∧ after (.registerWrite .host 0x3F00000 4 15 1) up = up.accessEvent .host 0x3F00000 0 := by decide
theorem test_irregular_read : up.mayRead .host 0xC = true ∧ up.served 0xC = true ∧ field.mayRead .jtag 0xC = false ∧
    (after (.irregularRegisterRead .host 0xC 2 3) (up.wr 0xC 0x12345678)).out = [.readData .host 0xC 0x5678] := by decide
theorem test_counter_read : isCounterLo C.EVT_CE = true ∧ (C.EVT_CE ≠ 0x10) ∧
    (after (.counterLoRead .host C.EVT_CE) (up.bump C.EVT_CE 0x300000005)).latches = [⟨.host, C.EVT_CE, 3⟩] := by decide
theorem test_counter_clear : (after (.counterClear .host 0x20) ((up.bump C.EVT_CE 4).bump C.HQ_FETCHED 5)).counter C.EVT_CE = 0 ∧
    (after (.counterClear .host 0x20) ((up.bump C.EVT_CE 4).bump C.HQ_FETCHED 5)).counter C.HQ_FETCHED = 5 := by decide
theorem test_counter_saturates : (up.bump C.HQ_FETCHED (2 ^ 48)).counter C.HQ_FETCHED = 2 ^ 48 - 1 ∧
    (up.bump C.HQ_FETCHED (2 ^ 48)).counter C.EVT_DE = 1 ∧ C.HQ_FETCHED ≠ C.EVT_DE ∧ C.HQ_FETCHED ≠ C.EVT_DROPPED := by decide

/-- A transaction of the host is open. -/
def txn : State := after (.beginTxn .host) ready

theorem test_txn_opens : ready.txn.isOpen = false ∧ txn.txn = ⟨true, .host, [], false⟩ ∧ txn.fld F.CFG_TXN_STATUS_state = 1 := by decide
theorem test_txn_busy : (after (.beginTxn .host) txn).fld F.CFG_TXN_STATUS_status = 0x14 ∧ txn.grants (.smbus 9) 0x100000 ∧
    (after (.abortTxn (.smbus 9)) txn).fld F.CFG_TXN_STATUS_status = 0x13 := by decide
theorem test_txn_abort : (after (.abortTxn .host) txn).txn.isOpen = false ∧ (after .transactionTimeout txn).evt.held.length = 1 := by decide

/-- A transaction that stages RES_CTX_STREAM of context 0, which serves every package. -/
def staged : State := { txn.wr 0x1601028 0xFFFFFFFF with txn := { txn.txn with staged := [(0x160101C, (0x5A, 0xFF))] } }

/-- The same for a context that does not serve this package. -/
def broken : State := { txn with txn := { txn.txn with staged := [(0x160101C, (0x5A, 0xFF))] } }

theorem test_commit_one : staged.commitFails = [] ∧ 0x1600000 ≤ 0x160101C ∧ (∀ p, p < 12 → staged.portState p ≠ 4) ∧
    (after (.commitTxn .host) staged).txn.isOpen = false ∧ (after (.commitTxn .host) staged).rd 0x160101C = 0x5A := by decide
theorem test_commit_fails : firstFail broken.commitFails = some (0x11, 0x160101C) ∧ (after (.commitTxn .host) broken).rd 0x160101C = 0 ∧
    (after (.commitTxn .host) broken).fld F.CFG_TXN_STATUS_status = 0x11 := by decide
/-! ### Events, messages, probes, the network -/

/-- An event of class DE. -/
def de : EventRec := ⟨E.registerAccess, 1, 0, 0, 0xFF, 0, 0, 0, 0⟩

theorem test_event_places : heldWithin [] 0x500 ∧ heldWithin (holdEvent [] de).1 (agentOf de.code de.unit) ∧ de.cls ≤ 3 := by decide
theorem test_collector_order : pickEvent [⟨0, { de with cls := 0 }⟩, ⟨0, de⟩] = some ⟨0, de⟩ ∧ pickEvent [] = none := by decide

/-- A package with one event held, and one whose window for it is used up. -/
def one : State := up.accessEvent .host 8 0
def full : State := { one with evt := { one.evt with used := [(E.registerAccess, 16)] } }

theorem test_accept_none : up.nextEvent = none ∧ after .eventAccept up = up := by decide
theorem test_accept_one : (one.nextEvent.map fun h => one.suppress h.ev) = some false ∧ (after .eventAccept one).evt.seq = 1 := by decide
theorem test_accept_suppressed : (full.nextEvent.map fun h => full.suppress h.ev) = some true ∧ (after .eventAccept full).evt.seq = 0 ∧
    kgetD (after .eventAccept full).evt.suppressed E.registerAccess 0 = 1 := by decide
/-- A ring of 16 records in tier 1 with one early record. -/
def ring : State := { (up.wr 0x500004 0).wr 0x500008 0x80000000 with evt := { up.evt with early := [(3, de)] } }

theorem test_ring_drains : ring.ringRoom = decide (ring.ringActive ∧ ring.ringFull = false) ∧ ring.evt.lost = 0 ∧
    up.ringRoom = false ∧ after .eventRingDrain up = up := by decide
theorem test_rate_window : (after .eventRateWindow full).evt.used = [] := by decide
theorem test_ring_head : up.grants .host 0x500010 ∧ (1 % 65536 < up.ringLen ∨ up.ringLen ≤ 1 % 65536) ∧ up.ringLen ≤ 65535 % 65536 ∧
    (after (.evtRingHeadWrite .host 65535) up).evt.held.length = 1 := by decide

/-- A package whose host takes messages, with the message of vector 5 pending. -/
def msi : State := { up.setFld F.HST_LINK_up 1 with hst := ⟨true, false, [5]⟩ }
def msi5 : State := msi.setFld F.HQ_MSIX_CTRL_mask 0 80

theorem test_pending_message : msi5.hst.pba.contains 5 = true ∧ msi5.msixReady 5 = true ∧ (after (.msixPendingSend 5) msi5).hst.pba = [] ∧
    (after (.msixPendingSend 5) msi5).out = [.msix 0 0] := by decide

theorem test_probes : up.dcMissed = [0, 0, 0] ∧ (after (.dcProbe false true true) up).dcMissed = [1, 0, 0] ∧
    (after (.dcProbe false true true) (after (.dcProbe false true true) up)).pins.faultN = false := by decide

/-- A flit at router 0 of die 0 for router 1, and one for its own local port. -/
def flitA : NocFlit := ⟨0, 0, 0, 0, 1, 0, 0, 0, 77⟩
def flitB : NocFlit := { flitA with dstRouter := 0 }
def meshA : State := got (execNocFlitHop (.inject 0 0 0 0 (some flitA)) up)
def meshB : State := got (execNocFlitHop (.inject 0 0 0 0 (some flitB)) up)

theorem test_flit_hops : meshA.nocGrant 0 0 2 1 = some (0, 4) ∧ meshA.nocBuf 0 0 4 0 = [flitA] ∧ flitA.vc = 0 ∧
    bufKey 0 (nocNext 0 0 2).1 (nocNext 0 0 2).2 0 ≠ bufKey 0 0 4 0 ∧
    (after (.nocFlitHop (.mesh 0 0 2 1)) meshA).nocBuf 0 1 3 0 = [flitA] := by decide
theorem test_flit_leaves : meshB.nocGrant 0 0 4 0 = some (0, 4) ∧ (after (.nocFlitHop (.mesh 0 0 4 0)) meshB).out = [.noc 0 0 0 77] := by decide
/-! ### Host queues and the PCIe port -/

/-- Queue pair 0 enabled: CQ 0 of 8 entries at 0x2000, SQ 0 of 4 entries at 0x1000 in host memory. -/
def queues : State :=
  after (.sqEnable .host 0 (3 + 2 ^ 26)) ((after (.cqEnable .host 0 (7 + 2 ^ 27 + 2 ^ 28)) ((ready.setFld F.HST_LINK_up 1).wr 0x830000 0x2000)).wr 0x810000 0x1000)

theorem test_enables : queues.sq 0 = ⟨0, none, 0x1000, 4, 0⟩ ∧ queues.cq 0 = ⟨0, 0, 0x2000, 8, 0, true⟩ ∧ queues.rd 0x830010 = 2 ^ 16 ∧
    (7 + 2 ^ 27 + 2 ^ 28 < 2 ^ 32) ∧ tbit (7 + 2 ^ 27) 27 = true ∧ ready.flag F.HQ_CQ_CFG_enable (qdi 0) = false ∧
    ready.grants .host (0x830008 + qdi 0) ∧ ready.grants .host (0x810008 + qdi 0) := by decide
theorem test_sq_needs_cq : (after (.sqEnable .host 0 (3 + 2 ^ 26)) ready).evt.held.length = 1 ∧
    ready.flag F.HQ_CQ_CFG_enable (qdi (bits (3 + 2 ^ 26) 25 16)) = false ∧ tbit (3 + 2 ^ 26) 26 = true := by decide
theorem test_doorbell : queues.flag F.HQ_SQ_CFG_enable (qdi 0) = true ∧ 3 < queues.sqSize 0 ∧ queues.sqSize 0 ≤ 4 ∧
    ((after (.sqDoorbell 0 3) queues).sq 0).tail = 3 ∧ (after (.sqDoorbell 0 4) queues).flag F.HQ_SQ_STATUS_error 0 = true := by decide
theorem test_cq_doorbell : queues.flag F.HQ_CQ_CFG_enable (qdi 0) = true ∧ queues.flag F.HQ_CQ_STATUS_error (qdi 0) = false ∧
    queues.headOk 0 0 = true ∧ queues.headOk 0 1 = false ∧ (after (.cqDoorbell 0 1) queues).flag F.HQ_CQ_STATUS_error 0 = true := by decide
theorem test_bar2 : (after (.bar2IrregularAccess false 8 4 0) queues).out = [.bar2 0] ∧
    (after (.bar2IrregularAccess true 2 4 0) queues).evt.held.length = 1 := by decide

/-- SQ 0 with a TOUCH entry of tag 9 at its head. -/
def entry : List Byte := toBytes 1 0x08 ++ List.replicate 63 0 ++ toBytes 8 9 ++ List.replicate 56 0
def posted : State := (after (.sqDoorbell 0 1) (queues.hwrite 0x1000 entry)).setFld F.HQ_CTRL_enable 1

theorem test_fetch : posted.fetchPick = some 0 ∧ entryOk entry = true ∧ posted.hread 0x1000 128 = entry ∧
    (after (.sqFetch 0 true) posted).hq.inflight = [⟨0, 9, 8, false⟩] ∧ (after (.sqFetch 0 true) posted).fld F.HQ_SQ_STATUS_head 0 = 1 := by decide +kernel
theorem test_fetch_not_its_turn : posted.fetchPick ≠ some 1 ∧ (after (.sqFetch 0 false) posted).flag F.HQ_SQ_STATUS_error 0 = true := by decide
theorem test_completion : queues.memoryCanonical ∧ queues.flag F.HST_LINK_up = true ∧
    (queues.writeCq 0 0 9 8 false (toBytes 16 0x5)).hread 0x2000 32 =
      toBytes 16 5 ++ toBytes 8 9 ++ toBytes 2 0 ++ toBytes 2 0 ++ toBytes 1 8 ++ toBytes 1 1 ++ toBytes 2 0 := by decide

/-- CQ 0 with one entry not signalled and a coalescing time. -/
def coal : State := (queues.setCq 0 { queues.cq 0 with unsignalled := 1 }).setFld F.HQ_CQ_COAL_coal_time 5

theorem test_coalescing : (coal.cq 0).irqEn = true ∧ coal.fld F.HQ_CQ_COAL_coal_time (qdi 0) ≠ 0 ∧ coal.flag F.HQ_CQ_CFG_enable (qdi 0) = true ∧
    ((after (.cqCoalTimeout 0) coal).cq 0).unsignalled = 0 ∧ after (.cqCoalTimeout 0) queues = queues := by decide
theorem test_pcie : (after (.pcieLinkUp 6 16 true) up).flag F.HST_LINK_up = true ∧ (after (.pcieReset .perst) queues).hq = State.reset.hq ∧
    (∀ e ∈ queues.sec.sess, e = none) ∧ queues.txn.isOpen = false ∧ (after (.pcieReset .perst) queues).flag F.HST_LINK_up = false ∧
    (after (.pcieReset .flr) queues).flag F.HST_LINK_up = true ∧ (after .d3hotEntry posted).fetchable 0 = false := by decide
theorem test_window : (ready.vread (ready.windowAddr 0) 4).good = false ∧ (after (.bar4Access ⟨false, 0, 4, []⟩) ready).out = [.bar4 false []] ∧
    (ready.vread (ready.windowAddr 0) 0).good = true ∧ ready.windowHeld (ready.windowAddr 0) 0 = false ∧
    ready.writeFault (ready.windowAddr 0) ([] : List Byte).length = none ∧ ready.meetsKv (ready.windowAddr 0) 0 = false := by decide
theorem test_host_reads : (after (.hostReadTimeout .other) up).counter C.HST_CPL_TIMEOUT = 1 ∧
    posted.fetchPick = some 0 ∧ entry.length = 128 ∧ posted.memoryCanonical := by decide +kernel
/-! ### Storage ports and shards -/

/-- Storage port 0 enabled and up, with pause frames on priority 3. -/
def port : State := (((ready.setFld F.ETH_P_CTRL_enable 1).setFld F.ETH_P_CTRL_pfc_en 1).setFld F.ETH_P_CTRL_pfc_prio 3).setFld F.ETH_P_STATUS_up 1

theorem test_port : port.flag F.ETH_P_CTRL_enable (0x10000 * 0) = true ∧ port.eth.length = 2 ∧ port.fld F.ETH_P_CTRL_pfc_prio (0x10000 * 0) = 3 ∧
    ready.flag F.ETH_P_CTRL_enable (0x10000 * 1) = false ∧ ((after (.pfcPauseFrame 0 3 true) port).ethPort 0).paused = true ∧
    after (.pfcPauseFrame 0 2 true) port = port := by decide

/-- Queue pair 1 of port 0 with an MTU code of 5, a timeout of 14 and seven retries; then in RTS. -/
def pairReset : State := port.wr (qpOff 0 1 0) (5 * 2 ^ 8 + 7 * 2 ^ 11 + 14 * 2 ^ 16)
def pairRts : State := got (execQpToRts .host 0 1 pairReset)

theorem test_qp_to_rts : pairReset.rtsStatus 0 1 = 0 ∧ pairReset.grants .host (qpOff 0 1 0) ∧ pairRts.qpState 0 1 = 1 ∧ (pairRts.qp 0 1).rate = 400000 ∧
    pairRts.qpLoad 0 1 = none ∧ (after (.qpToReset .host 0 1) pairRts).qpState 0 1 = 0 := by decide
theorem test_qp_refused : bits (port.rd (qpOff 0 1 0)) 10 8 < 3 ∧ bits ((after (.qpToRts .host 0 1) port).rd (qpOff 0 1 0)) 31 24 = 0x10 ∧
    (pairReset.setFld F.ETH_P_STATUS_up 0).flag F.ETH_P_STATUS_up (0x10000 * 0) = false ∧
    (pairReset.setFld F.ETH_P_STATUS_up 0).rtsStatus 0 1 = 0x12 := by decide
theorem test_qp_rate : ((after (.cnpReceive 0 1) pairRts).qp 0 1).rate = 200000 ∧
    ((after (.qpRateTimer 0 1) (after (.cnpReceive 0 1) pairRts)).qp 0 1).rate = 208000 ∧ (pairRts.qp 0 1).cut = none := by decide

/-- A load of 1,024 bytes to tier 1 over queue pair 1 of port 0, all asked for, none landed. -/
def load : Load := ⟨0, .boot, 0x40, 0, 1, 0x4000, 1024, 5, 0, .storage 0 1 7, 0, true, 1024, 0, [], [], false, 0⟩
def loading : State := { pairRts with shd := { pairRts.shd with next := 1, loads := [load] } }

theorem test_payload_lands : loading.memoryCanonical ∧ loading.qpState 0 1 = 1 ∧ (loading.ethPort 0).paused = false ∧ load.failed = false ∧
    (after (.rdmaReadResponse ⟨0, 1, false, true, false, [1, 2, 3, 4]⟩) loading).mem.t1 = [(0x4000, 1), (0x4001, 2), (0x4002, 3), (0x4003, 4)] ∧
    ((after (.rdmaReadResponse ⟨0, 1, false, true, false, [1, 2, 3, 4]⟩) loading).shd.loads.map (·.landed)) = [4] := by decide
theorem test_ack_timeout : load.retry < bits (loading.rd (qpOff 0 1 0)) 13 11 ∧
    ((after (.rdmaAckTimeout 0 1) loading).shd.loads.map fun l => (l.retry, l.asked, l.landed)) = [(1, 1024, 0)] ∧ (loading.qpLoad 0 1).isSome = true ∧
    bits ((after (.qpToReset .host 0 1) loading).rd (qpOff 0 1 0)) 31 24 = 0x12 := by decide

/-- The same load after its last retry, and with its payload landed; and a fetch whose transport is over. -/
def spent : State := { loading with shd := { loading.shd with loads := [{ load with retry := 7 }] } }
def landed : State := { loading with shd := { loading.shd with loads := [{ load with landed := 1024, buf := List.replicate 1024 0 }] } }
def hashed : State := { loading with shd := { loading.shd with loads := [{ load with landed := 1024, sums := [0] }] } }
def fetched : State := { loading with shd := { loading.shd with loads := [{ load with op := 0x42, landed := 1024, digestAt := 0x9000 }] } }

theorem test_retries_spent : bits (spent.rd (qpOff 0 1 0)) 13 11 ≤ 7 ∧ (after (.rdmaAckTimeout 0 1) spent).qpState 0 1 = 2 := by decide
theorem test_chunk : min chunkBytes (1024 - chunkBytes * 0) = 1024 ∧ (landed.shd.loads.map (·.buf.length)) = [1024] := by decide +kernel
theorem test_load_ready : hashed.shd.loads.all Load_ready = true ∧ fetched.shd.loads.all Load_ready = true ∧ hashed.fab.bulks = [] ∧
    fetched.mem.poisoned 1 0x9000 48 = false ∧ hashed.memoryCanonical := by decide

/-- The shard table configured; tier 1 in use for context 0 at RESIDENT. -/
def shards : State := { ((ready.wr F.SHD_TABLE_LO_base.off 0x1000000).setFld F.RES_CTX_WSIZE_pages 4).setFld F.RES_CTX_STATE_state 3 with
  boot := { ready.boot with configured := [0x1500008, 0x150000C] } }

/-- A manifest entry: format 2, kind 0, 256 bytes at offset 0. -/
def manifest (n : Nat) : List Byte := toBytes 1 2 ++ toBytes 7 0 ++ toBytes 8 0 ++ toBytes 8 1 ++ toBytes 8 0 ++ toBytes 8 n ++ List.replicate 88 0

def ask : ShardRec := ⟨1, .hostMem, 0, 2 ^ 63 + 0x800000, 0, false⟩
def withEntry (n : Nat) : State := { shards with mem := shards.mem.write 1 0x800000 (manifest n) }

theorem test_shard_takes : shards.takes .boot ∧ shards.shardEarly ask = none ∧ shards.shardEarly { ask with tier := 3 } = some 0x10 ∧
    shards.shardEarly { ask with entryAddr := 0x800 } = none ∧ (0x800 : Nat) / 2 ^ 63 = 0 ∧
    (after (.loadShard .boot { ask with entryAddr := 0x800 }) shards).shd.next = 1 := by decide
theorem test_shard_begins : ((withEntry 256).tread 1 0x800000 128).shardRefusal ask (bindOf ((withEntry 256).mem.read 1 0x800000 128)) = none ∧
    (withEntry 256).mem.poisoned 1 (ask.entryAddr % 2 ^ 48) 128 = false ∧ (withEntry 256).memoryCanonical ∧
    ((after (.loadShard .boot ask) (withEntry 256)).shd.loads.map fun l => (l.op, l.len, l.landed)) = [(0x40, 256, 0)] ∧
    (after (.loadShard .boot ask) (withEntry 256)).shdGet 0 112 1 = 1 := by decide +kernel
theorem test_shard_empty : ((withEntry 0).tread 1 0x800000 128).shardRefusal ask (bindOf ((withEntry 0).mem.read 1 0x800000 128)) = none ∧
    (after (.loadShard .boot ask) (withEntry 0)).bootReply = some 0 ∧
    (after (.loadShard .boot ask) (withEntry 257)).bootReply = some 0x11 := by decide +kernel

def run : FetchRec := ⟨.fabric, 0x100000, 0x10000000000000 + 2 ^ 56, 256, 0x900000, false⟩

theorem test_fetch_begins : shards.fetchRefusal run = none ∧ shards.fetchRefusal { run with length := 0 } = none ∧
    shards.fetchRefusal { run with source := .hostMem } = some 0x10 ∧
    ((after (.fetch .boot run) shards).shd.loads.map fun l => (l.op, l.dst, l.len)) = [(0x42, 0x100000, 256)] := by decide

/-- Entry 5 of the shard table VALID, its shard of 64 bytes at 0x4000 of tier 1, and a scrub pass that reached it. -/
def valid : State :=
  let s := { shards.setFld F.SHD_SCRUB_enable 1 with mem := shards.mem.write 1 (0x1000000 + 128 * 5) (List.replicate 24 0 ++ toBytes 8 0 ++ toBytes 8 64 ++
    List.replicate 72 0 ++ [2, 16]) }
  { s with shd := { s.shd with scrub := some 5 } }

theorem test_scrub : valid.scrubPaused = false ∧ valid.memoryCanonical ∧ valid.shdGet 5 112 1 = 2 ∧ valid.shardCopies 5 = [(1, 0)] ∧
    valid.readHeld 1 0 (valid.shdGet 5 32 8) = false ∧ 0 + valid.shdGet 5 32 8 ≤ valid.shdBase := by decide +kernel
theorem test_scrub_pass : shards.flag F.SHD_SCRUB_enable = true ∧ (after .shardScrubPass shards).shd.scrub = none ∧ shards.shd.scrub = none ∧
    valid.shd.scrub.isSome = true ∧ (after .shardScrubPass valid).flag F.SHD_STATUS_overrun = true ∧
    (shards.setFld F.SHD_SCRUB_enable 0).flag F.SHD_SCRUB_enable = false := by decide
theorem test_scrub_bad : ({ valid with mem := valid.mem.markPoison 1 0 64 } : State).copyFault 5 (1, 0) = 2 ∧
    (after .shardScrubCheck { valid with mem := valid.mem.markPoison 1 0 64 }).shd.bad = [5] ∧
    (after .shardScrubCheck { valid with mem := valid.mem.markPoison 1 0 64 }).shdGet 5 112 1 = 3 := by decide +kernel
theorem test_bad_read : up.mayRead .host 0x1500014 = true ∧ up.served 0x1500014 = true ∧ field.mayRead .jtag 0x1500014 = false ∧
    (after (.shdBadRead .host) { up with shd := { up.shd with bad := [5, 6] } }).out = [.readData .host 0x1500014 (5 + 2 ^ 31)] := by decide
/-! ### SMBus, flash, sessions, debug -/

/-- The responder and the MC are up; endpoint 9 asks endpoint 0, or 0x20 once assigned. -/
def talk : State := { ready with boot := { ready.boot with smbusUp := true, mcUp := true } }
def bus : State := talk.setFld F.SMB_STATUS_eid 0x20
def req0 : MctpReq := ⟨9, 0, true⟩
def req : MctpReq := ⟨9, 0x20, true⟩

theorem test_mctp_gate : talk.mctpGate req0 true = .serve ∧ bus.mctpGate req true = .serve ∧ bus.mctpGate req false = .serve ∧
    ready.boot.smbusUp = false ∧ { talk with boot := { talk.boot with mcUp := false } }.boot.smbusUp = true := by decide
theorem test_set_eid : (0x20 % 256 ≠ 0 ∧ 0x20 % 256 ≠ 255) ∧ (after (.setEndpointId req0 0x20) talk).eid = 0x20 ∧
    (after (.setEndpointId req0 255) talk).out = [.smbus 9 [0, 1, 2]] ∧ (after (.setEndpointId req0 5) ready).out = [.smbusNack] ∧
    (after (.setEndpointId ⟨9, 0, false⟩ 5) talk).counter C.SMB_PEC_ERR = 1 := by decide
theorem test_sensors : (after (.getsensorreading req 4) (bus.setFld F.PWR_TEMP_MAX_stacks 81)).out = [.smbus 9 [1, 0x11, 0, 81]] ∧
    (after (.getstatesensorreadings req 6) { bus with evt := { bus.evt with health := 3 } }).evt.health = 1 ∧
    (after (.getstatesensorreadings req 6) { bus with evt := { bus.evt with health := 4 } }).evt.health = 4 := by decide
theorem test_vendor_read : bus.mayRead (.smbus req.eid) 0xC = true ∧ bus.served 0xC = true ∧
    (after (.vendorRegisterRead req 0xC) (bus.wr 0xC 0x01020304)).out = [.smbus 9 [0x7E, 0x82, 0, 4, 3, 2, 1]] ∧
    ({ bus with sec := { bus.sec with lifecycle := 2 } } : State).mayRead (.smbus req.eid) 0xC = false := by decide
theorem test_vendor_write : bus.vendorWriteOk req.eid 0xC = true ∧
    (after (.vendorRegisterWrite req 0xC 0xAAAAAAAA 0xFF00) (bus.wr 0xC 0x01020304)).rd 0xC = 0x0102AA04 ∧
    ({ bus with sec := { bus.sec with lifecycle := 2 } } : State).vendorWriteOk req.eid 0xC = false := by decide

/-- A flash of 16 MiB; an erase and a program in progress. -/
def flash : State := ready.setFld F.SPI_INFO_jedec_id 0x180000
def erasing : State := { flash with spi := some (.erase 0x1000 0x1000), mem := { flash.mem with flash := [(0xFFF, 1), (0x1000, 2), (0x1FFF, 3), (0x2000, 4)] } }
def programming : State := { flash with spi := some (.program 0x1000 [0x0F, 0xF0]), mem := { flash.mem with flash := [(0x1000, 0x3C)] } }

theorem test_flash_starts : spiRefusal .host (decide (256 < 16) || decide (flash.flashSize < flash.fld F.SPI_ADDR_addr + 16)) flash = none ∧
    flash.served 0x3B00000 = true ∧ flash.fld F.SPI_ADDR_addr = 0 ∧ spiRefusal .host (decide (flash.flashSize < flash.fld F.SPI_ADDR_addr + 0x10000)) flash = none ∧
    spiRefusal .host (decide (flash.flashSize < flash.fld F.SPI_ADDR_addr + 0x1000)) flash = none ∧
    spiRefusal .host (decide (256 < 300) || decide (flash.flashSize < flash.fld F.SPI_ADDR_addr + 300)) flash = some 0x11 ∧
    (after (.spiErase4k .host) flash).spi = some (.erase 0 0x1000) := by decide +kernel
theorem test_flash_ends : erasing.memoryCanonical ∧ programming.memoryCanonical ∧ (after (.spiCommandDone true) erasing).mem.flash = [(0xFFF, 1), (0x2000, 4)] ∧
    (after (.spiCommandDone true) programming).mem.flash = [(0x1000, 0x0C), (0x1001, 0xF0)] ∧
    (after (.spiCommandDone false) erasing).fld F.SPI_STATUS_status = 0x31 := by decide

/-- A request of JTAG to open slot 0 with every role, the challenge that follows, and the session opened. -/
def openMsg : SessMsg := ⟨0, 0, 1, 0x1F00, 0⟩
def sess : Sess := ⟨1, .jtag, 0, 0x1F, 7, true, 0⟩
def challenged : State := { talk with sec := { talk.sec with sess := [some { sess with isOpen := false }, none, none, none] } }
def opened : State := setExpertEn 1 { talk with sec := { talk.sec with sess := [some sess, none, none, none], level := 1, levelBy := 1 } }

theorem test_open : openRefusal .jtag openMsg talk = none ∧ talk.sec.sess.length = 4 ∧
    (((nth (after (.openSession .jtag openMsg) talk).sec.sess 0 none).map fun e => (e.number, e.org, e.slot, e.roles, e.isOpen)) =
      some (1, .jtag, 0, 0x1F, false)) := by decide
theorem test_auth_witness : authRefusal .jtag ⟨0, 1, 2, 0, 5⟩ challenged = none ∧ challenged.entryOf 1 = some 0 ∧ challenged.sec.fails.length = 8 ∧
    nth challenged.sec.sess 0 none = some { sess with isOpen := false } ∧ challenged.sec.locks.length = 8 := by decide
/-- The right response of `test_auth_witness`'s challenge, whatever the HMAC is. -/
theorem test_auth_right : Config.hmac384 (challenged.keySlot 0).key (ofBytes (authString challenged.sec.partId { sess with isOpen := false })) =
    (⟨0, 1, 2, 0, Config.hmac384 (challenged.keySlot 0).key (ofBytes (authString challenged.sec.partId { sess with isOpen := false }))⟩ : SessMsg).body := rfl
theorem test_close : closeRefusal .jtag ⟨0, 1, 2, 0, 0⟩ opened = none ∧ nth opened.sec.sess 0 none = some sess ∧
    (after (.closeSession .jtag ⟨0, 1, 2, 0, 0⟩) opened).sec.level = 0 ∧ (after (.closeSession .jtag ⟨0, 1, 2, 0, 0⟩) opened).flag F.CFG_LEVEL_expert_en = false ∧
    (after (.sessionIdleTimeout 0) opened).sec.sess = [none, none, none, none] ∧ (after (.challengeExpire 0) challenged).sec.sess = [none, none, none, none] := by decide
theorem test_expert_drop : opened.grants .host 0x100014 ∧ (after (.expertDrop .host) opened).flag F.CFG_LEVEL_expert_en = false := by decide
theorem test_set_debug : setDebugRefusal .jtag ⟨0, 0, 2, 1, 0⟩ (touchSession .jtag talk) = none ∧ sarg ⟨0, 0, 2, 1, 0⟩ 0 = 1 ∧
    (after (.setDebug .jtag ⟨0, 0, 2, 1, 0⟩) talk).sec.level = 1 ∧ setDebugRefusal .jtag ⟨0, 0, 2, 3, 0⟩ (touchSession .jtag talk) = some 0x11 := by decide
theorem test_set_expert : setExpertRefusal .jtag ⟨0, 0, 2, 1, 0⟩ (touchSession .jtag talk) = none ∧
    setExpertRefusal .jtag ⟨0, 0, 2, 0, 0⟩ (touchSession .jtag talk) = none ∧ setExpertRefusal .jtag ⟨1, 0, 2, 0, 0⟩ (touchSession .jtag talk) = some 0x10 := by decide

/-- A BLANK package whose slot 1 is free and slot 2 holds a key with provision. -/
def slots : State := { talk.setFld F.CFG_IMG_SVN_svn 3 with sec := { talk.sec with keys := talk.sec.keys.set 2 ⟨5, 32, 1⟩, imgKeys := talk.sec.imgKeys.set 2 ⟨5, 0, 1⟩ } }

theorem test_fuse_starts : slots.sessAuth .jtag 0 5 = true ∧ slots.boot.mcUp = true ∧ (slots.keySlot 1).state = 0 ∧ (slots.keySlot 2).state = 1 ∧
    (slots.imgSlot 1).state = 0 ∧ (slots.imgSlot 2).state = 1 ∧ slots.advanceOk = true ∧ 3 ≤ slots.fld F.CFG_IMG_SVN_svn ∧ slots.sec.svn < 3 ∧
    (after (.keyWrite .jtag ⟨0, 0, 4, 1, 77⟩) slots).sec.fuse = some (.key 1 0 77, .jtag, ⟨0, 0, 4, 1, 77⟩, 0x06) := by decide
/-- The generator of P-384 is a point of the curve. -/
theorem test_image_key : onP384 (0xaa87ca22be8b05378eb1c71ef320ad746e1d3b628ba79b9859f741e082542a385502f25dbf55296c3a545e3872760ab7 +
    2 ^ 192 * 2 ^ 192 * 0x3617de4a96262c6f5d9e98bf9292dc29f8f41dbd289a147ce9da3113b5f0b8c00a60b1ce1d7e819d7a431d7c90ea0e5f) = true := by decide
theorem test_fuse_busy : ({ slots with sec := { slots.sec with fuse := some (.svn 3, .jtag, ⟨0, 0, 4, 3, 0⟩, 0x0A) } } : State).sec.fuse.isSome = true ∧
    (after .fuseWriteDone { slots with sec := { slots.sec with fuse := some (.svn 3, .jtag, ⟨0, 0, 4, 3, 0⟩, 0x0A) } }).sec.svn = 3 := by decide

/-- A package at D2 with DBG_BUS in force and the Loupe on; and one in reset that may enter test mode. -/
def debug2 : State := { opened with sec := { opened.sec with level := 2, jtag := 0x21, loupeOn := true } }.setFld F.DBG_LOUPE_select 0x01
def testable : State := { opened with power := .inReset, sec := { opened.sec with level := 2 } }

theorem test_jtag : jtagListed 0x02 = true ∧ ready.jtagOk 0x02 = true ∧ jtagListed 0x44 = false ∧ jtagListed 0x21 = true ∧ ready.jtagOk 0x21 = false ∧
    ready.power ≠ .unpowered ∧ (after (.jtagInstruction 0x21) ready).flag F.DBG_JTAG_STATUS_refused = true := by decide
theorem test_test_mode : testable.testModeOk = true ∧ ready.testModeOk = false ∧ testable.power ≠ .unpowered ∧ testable.sec.sess.length = 4 := by decide
theorem test_dbg_bus : debug2.sec.jtag = 0x21 ∧ debug2.sec.level = 2 ∧ debug2.served 0xC = true ∧ debug2.power = .running ∧
    (after (.dbgBus true 0xC 0x55) debug2).rd 0xC = 0x55 ∧ (after (.dbgBus false 0xC 0) (debug2.wr 0xC 9)).out = [.jtag [0, 9]] := by decide
theorem test_loupe : debug2.grants .host 0x600008 ∧ 0x01040010 < 2 ^ 25 ∧ 4 ≤ 0x01040010 / 65536 % 256 ∧ loupeUnitOk (0x01040010 % 256) (0x01040010 / 256 % 256) = true ∧
    loupeLevel (0x01040010 % 256) = some 1 ∧ ready.sec.level < 1 ∧ loupeLevel 0x33 = none ∧ loupeUnitOk 0x20 16 = false ∧
    (after (.loupeSelect .host 0x01040010) debug2).rd 0x600008 = 0x01040010 := by decide
theorem test_loupe_frame : debug2.probe = some 0 ∧ debug2.sec.loupeOn = true ∧ (after .loupeFrame debug2).out = [.loupe [0xA0, 0, 0, 0, 0]] := by decide
/-! ### Resets and start-up -/

theorem test_power_on : (after .powerOnReset fatal).regs = [] ∧ (after .powerOnReset fatal).power = .inReset := by decide
theorem test_start_up : State.reset.power = .inReset ∧ State.reset.sec.testMode = false ∧ (after (.startUp 13) State.reset).pins.smbAddr = 5 ∧
    ({ State.reset with sec := { State.reset.sec with testMode := true } } : State).sec.testMode = true := by decide
theorem test_resets : fatal.power = .running ∧ fatal.sec.fuse = none ∧ fatal.sec.testMode = false ∧ (after .sysRstPulse fatal).flag F.GLB_STATUS_fatal = false ∧
    (after .sysRstPulse fatal).flag F.CLK_RST_CAUSE_sys_rst = true ∧ (after .pwrOkLoss fatal).power = .inReset := by decide
theorem test_reset_command : bits 0xD1000001 31 24 = 0xD1 ∧ bits 0xD1000001 1 0 = 1 ∧ opened.expertOk .host = true ∧ opened.grants .host 0x400000 ∧
    opened.sec.fuse = none ∧ (after (.packageResetCmd .host 0xD1000001) opened).flag F.CLK_RST_CAUSE_software = true ∧ bits 0xD2000001 31 24 ≠ 0xD1 ∧
    bits 0xD1000000 1 0 = 0 := by decide

/-- The MC is up and reads the image slots; the same with slot A failed. -/
def booting : State := got (execMcUp up)
def secondSlot : State := { booting with boot := { booting.boot with failedA := true } }

theorem test_mc_up : up.boot.mcUp = false ∧ booting.fld F.CFG_BOOT_phase = 1 ∧ booting.boot.smbusUp = true := by decide
theorem test_slot_a : booting.imageStatus 0 false = some 0x31 ∧ booting.imageStatus 0 true = some 0x10 ∧ booting.boot.failedA = false ∧
    (after (.imageSlotCheck true) booting).fld F.CFG_IMG_STATUS_status_a = 0x10 ∧ booting.headerOk 0 = false ∧ up.fld F.CFG_BOOT_phase ≠ 1 := by decide
theorem test_slot_b : secondSlot.imageStatus 0x800000 false = some 0x31 ∧ secondSlot.fld F.CFG_BOOT_phase = 1 ∧
    (after (.imageSlotCheck false) secondSlot).flag F.GLB_STATUS_config_failed = true ∧ (after (.imageSlotCheck false) secondSlot).fld F.CFG_BOOT_phase = 5 := by decide

/-- An image was applied, with 32 bytes to preload and a boot list of two records: WRITE_REG of GLB_SCRATCH, and one that is not listed. -/
def writeReg : List Byte := toBytes 4 0x60 ++ toBytes 4 0xC ++ toBytes 4 0x77 ++ toBytes 4 0xFF ++ List.replicate 48 0
def imaged : State := { booting with boot := { booting.boot with image := some 0, list := [writeReg, toBytes 1 0x34], preload := [(0x100, [1, 2, 3])] } }
def booted : State := got (execFabricReady (got (execConfigurationReady imaged)))
def second : State := { booted with boot := { booted.boot with index := 1 } }

theorem test_config_ready : imaged.boot.image.isSome = true ∧ imaged.flag F.GLB_STATUS_config_ready = false ∧ (∀ p, p < 12 → imaged.portState p ≠ 4) ∧
    imaged.memoryCanonical ∧ (after .configurationReady imaged).mem.t1 = [(0x100, 1), (0x101, 2), (0x102, 3)] ∧ booting.boot.image = none ∧
    (after .configurationReady imaged).pins.vid0 = 0x1E := by decide
theorem test_fabric_ready : (after .configurationReady imaged).tier2Settled = true ∧ booted.flag F.CFG_BOOT_done = true ∧
    ({ up with boot := { up.boot with t2Code := 2 } } : State).tier2Settled = false := by decide
theorem test_boot_command : booted.bootReply = none ∧ booted.bootNext = some writeReg ∧ leAt writeReg 0 1 = 0x60 ∧ leAt writeReg 4 4 = 0xC ∧
    booted.served 0xC = true ∧ (after .bootCommandIssue booted).rd 0xC = 0x77 ∧ (after .bootCommandIssue booted).boot.index = 1 := by decide +kernel
theorem test_boot_command_fails : second.bootNext = some (toBytes 1 0x34) ∧ (after .bootCommandIssue second).flag F.CFG_BOOT_cmds_failed = true ∧
    (after .bootCommandIssue second).boot.index = 1 := by decide +kernel

/-- A whole image for slot A: the header with its two sections, an empty field table and a Prism program of four bytes, and the
signature block of slot 0. -/
def image : List Byte := toBytes 4 0x46435A53 ++ toBytes 4 1 ++ toBytes 4 1024 ++ toBytes 4 0 ++ toBytes 8 0x11 ++ [7, 16, 0xB0, 0] ++ toBytes 4 2 ++ toBytes 8 0x22 ++
  List.replicate 216 0 ++ (toBytes 4 1 ++ toBytes 4 512 ++ toBytes 4 0 ++ toBytes 4 0) ++ (toBytes 4 2 ++ toBytes 4 512 ++ toBytes 4 4 ++ toBytes 4 0) ++
  List.replicate 736 0
def place : Nat → List Byte → List Host.Cell
  | _, [] => []
  | a, b :: l => (a, b) :: place (a + 1) l
def programmed : State := { booting with mem := { booting.mem with flash := place 0 image } }

/-- Its header and its contents pass; the signature's verification is opaque. -/
theorem test_image_header : programmed.headerOk 0 = true ∧ programmed.imageSize 0 = 1024 ∧ programmed.keyAccepted 0 = true := by decide +kernel
theorem test_image_contents : programmed.contentOk 0 = true := by decide +kernel

/-! ### Facets -/

/-- Facet 0, enabled, with context bytes at the given offsets and a change of its own. -/
def facet (cells : List (Nat × Nat)) (g : Facet → Facet) : State :=
  let s := ready.setFld F.FCT_CTRL_enable 1
  s.setFac 0 (g { s.fac 0 with slots := cells.foldl (fun m c => cellsWrite 0 m c.1 (toBytes 1 c.2)) [], valid := [true, false, false, false] })

/-- A vector entry of ones. -/
def ones : QEnt := vecEnt (List.replicate 32 1) (2 ^ 32 - 1) false

/-- CU 0 in region 1 passes vector queue 0 to output VO0; it holds one entry, or none. -/
def cuWord : List (Nat × Nat) := [(0x280, 1), (0x281, 1), (0x282, 9), (0x283, 63)]
def cu : State := facet cuWord fun x => { x with inq := [(0, [ones])], cred := [(0, 15)] }
def fired : State := got (execUnitFire 0 0 cu)

theorem test_fire : cu.live ∧ cu.canFire 0 0 = true ∧ (fired.fac 0).fly.length = 1 ∧ (fired.fac 0).inq = [] ∧ (fired.fac 0).credits 0 = 16 ∧
    klist ((got (execCuResult 0 0 fired)).fac 0).outq 0 = [ones] := by decide +kernel
theorem test_stalls : (facet cuWord id).canFire 0 0 = false ∧ ((facet cuWord id).fac 0).inputsReady 0 = false ∧
    (facet [] fun x => { x with scan := 1 }).frozen 0 = true ∧ ((facet cuWord fun x => { x with inq := [(0, [ones])], outq := [(0, List.replicate 16 ones)] }).canFire 0 0 = false) ∧
    (takeFiring 0 [⟨0, [], false⟩]).1 = some ⟨0, [], false⟩ := by decide +kernel

/-- Output VO0 of CU 0 at switch 1's port 6, which switch 1's output 2 selects; an entry in that output; a steering node. -/
def hop : State := facet [(0x51, 0x6), (0x5C, 1)] fun x => { x with outq := [(0, [ones])] }
def atOutput : State := facet [] fun x => { x with swb := [(sKey 0 8 6, [ones])] }
def steering (tok : Nat) : State :=
  facet [(0x50, 0x8), (0x5C, 1)] fun x => { x with steer := [(1, ⟨some (mkEnt 2 [tok] 1 false), some ones, none⟩)] }

theorem test_hops : hop.frozen 0 = false ∧ (hop.fac 0).srcList (srcOf 0 1 6) = [ones] ∧
    ((inputsOf 0 1 6).map fun q => (hop.fac 0).sinks 0 q.1 q.2).flatten = [.out (sKey 0 1 2)] ∧ (hop.fac 0).sinkFree (.out (sKey 0 1 2)) = true ∧
    facing 8 6 = .unit 4 0 ∧ queueAt 0 0 = some 0 ∧ (atOutput.fac 0).credits (qKey 4 0) ≠ 0 ∧
    ((got (execEntryHop 0 .vector (.output 8 6) atOutput)).fac 0).inq = [(qKey 4 0, [ones])] := by decide +kernel
theorem test_steer : ((steering 1).fac 0).steerChoice 1 = some (ones, some 8, ⟨none, none, none⟩) ∧
    ((steering 0).fac 0).steerChoice 1 = some (ones, none, ⟨none, none, none⟩) ∧ ((steering 1).fac 0).steerOuts 1 8 ≠ [] ∧
    ((facet [] id).fac 0).steerChoice 1 = none ∧ ((got (execSteerPair 0 1 (steering 1))).fac 0).steer = [] := by decide +kernel

/-- A scalar. -/
def oneEnt : QEnt := mkEnt 1 [7] 1 false

/-- A full queue of CU 0, which waits for a second queue, in monitored region 1; with a spill area, without oneEnt. -/
def stuck (area : Nat) : State :=
  (facet [(0x2, 2), (0x280, 0x30), (0x281, 1), (0x282, 9), (0x283, 63)] fun x => { x with inq := [(4, List.replicate 16 oneEnt)], cred := [(4, 0)], area := area }).setFld F.FCT_DLK_enable 1
def spilling : State := got (execDeadlockDetect 0 1 (stuck (8 + 8 * 65536)))
def spilled : State := got (execSpillComplete 0 spilling)

theorem test_deadlock : (stuck 0).regionStopped 0 1 = true ∧ (stuck 0).spillFits 0 1 = false ∧ (stuck (8 + 8 * 65536)).spillFits 0 1 = true ∧
    (spilling.fac 0).spill = some 1 ∧ ((got (execDeadlockDetect 0 1 (stuck 0))).fac 0).inq = [] := by decide +kernel
theorem test_spill : (spilled.fac 0).ext = [(4, 0)] ∧ (spilled.fac 0).credits 4 = 16 ∧ (spilled.fac 0).spill = none ∧
    spilled.slotCount (spillOff 0 (spilled.fac 0) 0) = 16 ∧ klist ((got (execSpillRefill 0 4 spilled)).fac 0).head 4 = [oneEnt] := by decide +kernel

/-- An image that passes every check, waiting in facet 0's load; slot 1 valid and pending. -/
def goodImage : List Byte := toBytes 4096 (1 + 2 ^ 512 * (2 ^ 96 - 1) * ((2 ^ 4480 - 1) / (2 ^ 128 - 1)))
def ctxLoading : State := facet [] fun x => { x with source := List.replicate 4 0, load := some ⟨1, 0x30000, false, none, goodImage⟩ }
def ctxPending : State := facet [] fun x => { x with valid := [true, true, false, false], pend := some (1, false) }

theorem test_ctx_load : imageStatus goodImage = none ∧ goodImage.length = 4096 := by
  delta goodImage imageStatus switchOk cuFormOk cuRangeOk muFormOk muRangeOk
  simp only [leAt_toBytes, toBytes_length]
  decide +kernel
theorem test_ctx_loading : ctxLoading.live ∧ ((ctxLoading.fac 0).load.map (·.slot)) = some 1 ∧ imageStatus [] = some 0x10 := by decide +kernel
theorem test_ctx_switch : (ctxPending.fac 0).quiescent = true ∧ ((got (execContextSwitchEffect 0 ctxPending)).fac 0).active = 1 ∧
    ctxPending.grants .host (fctOff 0 8) ∧ ((facet [] id).fac 0).loadRefusal 1 = none ∧ ((facet [] id).fac 0).isValid 0 = true := by decide +kernel
theorem test_windows : up.grants .host (windowOff 0 1 + 8) ∧ ((facet [] id).fac 0).loadRefusal 0 = some 0x12 ∧
    ((got (execContextWindowWrite .host 0 1 8 0x55 (facet [] id))).fac 0).slots = [(0x1008, 0x55)] ∧
    ((got (execDescriptorWindowWrite .boot 0 0 4 9 (facet [] id))).fac 0).dstage ≠ [] ∧ up.grants .boot (fctOff 0 0x20000) ∧
    (got (execFctSpillWrite .host 0 (1000 + 8 * 65536) up)).rd (fctOff 0 0x1C) = 1000 + 8 * 65536 ∧ up.spillClash 0 1000 8 = false := by decide +kernel
theorem test_scan : ((got (execScanOut .host 0 false { (facet [] id) with sec := { up.sec with level := 1 } })).fac 0).scan = 2 ∧
    ((got (execScanIn .host 0 { (facet [] id) with sec := { up.sec with level := 2 } })).fac 0).scan = 4 ∧ (up.pins.thermTripN = true) ∧
    ((got (execScanRelease .host 0 (facet [] fun x => { x with scan := 1 }))).fac 0).scan = 0 := by decide +kernel

/-! ### The sequencer -/

/-- Page tables in tier 1 that map the first pages of the address space, writable, to tier 1 from 0x30000. -/
def tabled : State :=
  let m := (ready.mem.write 1 0 (toBytes 8 0x10011)).write 1 0x10000 (toBytes 8 0x20011)
  { (ready.setFld F.MMU_ROOT_HI_space 1) with mem := (m.write 1 0x20000 (toBytes 8 0x30013)).write 1 0x20008 (toBytes 8 0x40013) }

/-- A macro-instruction's bytes: opcode, X register, dimension M, context image, A and C. -/
def code (op x m img a c : Nat) : List Byte :=
  toBytes 8 (op + x * 2 ^ 56) ++ toBytes 16 m ++ toBytes 8 img ++ toBytes 8 0 ++ toBytes 8 a ++ toBytes 8 0 ++ toBytes 8 c

/-- The launch that facet 0 runs for context 0 in the decode pool. -/
def launch0 : Launch := ⟨1, 0, 0, 0, 0, 0, List.replicate 16 0, none, [0], 0, none, 0, 0, [], [], [], false⟩

/-- Facet 0 at index `ix` of the program SETX X3, 7; LOADX X4, [8]; COPY of 64 bytes; BARRIER; END. -/
def seqAt (ix : Nat) : State :=
  let p := (code 0x10 3 0 0 7 0 ++ code 0x11 4 0 0 8 0 ++ code 5 0 64 0x10000 0 0x11000 ++ code 0x20 0 0 0 0 0 ++ code 0x3F 0 0 0 0 0)
  { (tabled.setFld F.FCT_CTRL_enable 1) with mem := tabled.mem.write 1 0x30000 p, facets := tabled.facets.modify 0 fun x => { x with sq := { x.sq with running := true, launch := 1, index := ix } }, srv := { tabled.srv with pools := [⟨[], some launch0⟩, ⟨[], none⟩] } }

/-- The COPY in hand; its tile claimed, started where the facet is configured, finished well and badly, reported; and the instruction's end. -/
def copying : State := got (execCopyTile 0 (seqAt 2))
def claimed : State := got (execTileClaim 0 copying)
def configured (s : State) : State :=
  s.setFac 0 { s.fac 0 with valid := [true, false, false, false], source := [0x10000, 0, 0, 0] }
def runningTile : State := got (execTileClaim 0 (configured copying))
def finished : State := got (execTileFinish 0 ⟨0, 0, none, false⟩ runningTile)
def finished2 : State := got (execTileFinish 0 ⟨2, 0, none, false⟩ runningTile)
def reported : State := got (execTileReport 0 finished)
def exhausted : State := got (execTileClaim 0 reported)

/-- The program's instructions. -/
def setx3 : Macro := macroOf (code 0x10 3 0 0 7 0)
def loadx4 : Macro := macroOf (code 0x11 4 0 0 8 0)
def copy64 : Macro := macroOf (code 5 0 64 0x10000 0 0x11000)

theorem test_setx : (seqAt 0).atIssue 0 launch0 setx3 ∧ ((seqAt 0).judge launch0 setx3 ((seqAt 0).sqr 0).xs 0).refusal = none ∧
    ((got (execSetx 0 (seqAt 0))).sqr 0).xs.take 5 = [0, 0, 0, 7, 0] := by decide +kernel
theorem test_loadx : (seqAt 1).atIssue 0 launch0 loadx4 ∧ ((seqAt 1).judge launch0 loadx4 ((seqAt 1).sqr 0).xs 1).refusal = none ∧
    ((got (execLoadx 0 (seqAt 1))).sqr 0).index = 2 := by decide +kernel
theorem test_copy_issues : (seqAt 2).atIssue 0 launch0 copy64 ∧ ((seqAt 2).judge launch0 copy64 ((seqAt 2).sqr 0).xs 2).refusal = none ∧
    (copying.sqr 0).claiming = true ∧ (copying.sqr 0).named = [(0, 2)] ∧ copying.tctrs.length = 64 ∧ copying.rtc.queue.length = 2 := by decide +kernel
theorem test_claim : (copying.tc 0).state = 0 ∧ (claimed.sqr 0).ahead = some ⟨0, 0, 2, 0⟩ ∧ (claimed.tc 0).next = 1 ∧
    (runningTile.sqr 0).run = some (⟨0, 0, 2, 0⟩, none) := by decide +kernel
theorem test_finish : finished.memoryCanonical ∧ (runningTile.launchOf 0).isSome = true ∧ (finished.sqr 0).fin = [(⟨0, 0, 2, 0⟩, 0)] ∧
    finished.mem.read 1 0x41000 8 = runningTile.mem.read 1 0x30000 8 ∧ (finished2.sqr 0).ret = [⟨0, 0, 2, 0⟩] ∧ finished.fencing 0 = false := by decide +kernel
theorem test_walk_copy : runningTile.walk 0x11000 true = .ok 1 0x41000 runningTile.self false true 1 0x20008 := by decide +kernel
theorem test_report : (reported.tc 0).state = 2 ∧ (reported.tc 0).done = 1 ∧ (exhausted.sqr 0).index = 3 ∧ (exhausted.sqr 0).cur = none := by decide +kernel
theorem test_return : ((got (execTileReturn 0 finished2)).tc 0).ret = [0] ∧ (finished2.tc 0).waiters = [] := by decide +kernel

/-! ### Launches and pools -/

/-- The launch queued in the decode pool; running without facet 1; facet 0 waiting at its barrier, asked to gate. -/
def queued : State := { ready with srv := { ready.srv with pools := [⟨[{ launch0 with facets := [] }], none⟩, ⟨[], none⟩] } }
def started : State := got (execLaunchStart 0 queued)
def seqOf (g : Facet → Facet) : State := { (seqAt 3) with facets := (seqAt 3).facets.modify 0 g }
def waiting : State := seqOf fun x => { x with sq := { x.sq with waiting := true, cur := some ⟨macroOf (code 0x20 0 0 0 0 0), 0, 0, 0, 0, none, false, [], 0, 0⟩ } }

theorem test_launch : (queued.members 0).filter queued.idleFacet = List.range 32 ++ (List.range 32).map (· + 36) ∧ queued.tctrs.length = 64 ∧
    queued.srv.pools.length = 2 ∧ (started.sqr 5).running = true ∧ (started.sqr 32).running = false ∧ (started.tc 3).inc = 1 := by decide +kernel
theorem test_barrier_release : waiting.mayPass 0 (macroOf (code 0x20 0 0 0 0 0)) = true ∧ (waiting.sqr 0).running = true ∧
    ((got (execBarrierRelease 0 waiting)).sqr 0).index = 4 := by decide +kernel
theorem test_stand_down : (seqOf fun x => { x with gated := 1 }).lastActive 0 = true ∧ (started.setFac 5 { started.fac 5 with gated := 1 }).lastActive 5 = false ∧
    ((got (execStandDownRequest 0 .shutter (seqOf fun x => { x with gated := 1 }))).fac 0).gated = 0 := by decide +kernel
theorem test_join : (seqAt 0).idleFacet 1 = true ∧ ((seqAt 0).fac 1).pool = 0 ∧ launch0.facets.contains 1 = false ∧
    ((got (execFacetJoinPool 1 (seqAt 0))).sqr 1).running = true ∧ (seqAt 0).idleFacet 0 = false ∧ (ready.fac 1).quiescent = true ∧
    ((got (execFacetJoinPool 1 (ready.setFac 1 { ready.fac 1 with pool := 3 }))).fac 1).pool = 0 := by decide +kernel
theorem test_counter_reset : ready.grants .host (0x3300014 + 0x40 * 3) ∧ ready.expertOk .boot = true ∧ (claimed.tc 0).state = 1 ∧
    ((got (execTileCounterReset .boot 3 ready)).tc 3).inc = 1 := by decide +kernel

/-! ### The Reticle and Prism -/

/-- A sample at die 0's queue: exact, and fidelity. -/
def sample (exact : Bool) : Sample := ⟨0, 0, 3, 5, ⟨0, 0, 2, 0⟩, 0, exact, [⟨5, 0, 0, 1, 0x9000, [1, 2], false⟩], []⟩
def sampled (exact : Bool) : State := { ready with rtc := { ready.rtc with queue := [[sample exact], []], layers := [(3, ⟨0, 0, 0, true, false, false, 0⟩)] } }

theorem test_sample : (sampled true).rtc.queue.length = 2 ∧ (sampled true).self = 0 ∧
    ((got (execReticleSampleDone 0 ⟨true, 0, 0, true⟩ (sampled true))).sqr 5).fin = [(⟨0, 0, 2, 0⟩, 0)] ∧
    ((got (execReticleSampleDone 0 ⟨false, 0, 0, false⟩ (sampled true))).sqr 5).ret = [⟨0, 0, 2, 0⟩] ∧
    ((got (execReticleSampleDone 0 ⟨false, 1, 1, true⟩ (sampled false))).rlayer 3).hist = 1 := by decide +kernel

/-- Context 0 resident and active, its layer 0 in the given state. -/
def layered (st : Nat) : State :=
  { (ready.setFld F.RES_CTX_STATE_state 3) with rtc := { ready.rtc with layers := [(0, ⟨st, 0, 0, true, false, false, 0⟩)] } }

theorem test_layer : (layered 4).resident 0 = true ∧ (layered 4).layersOf 0 = 1 ∧ (layered 4).grants .boot 0x3400014 ∧
    ((got (execForceFallback .boot 0 0 (layered 4))).rlayer 0).state = 2 ∧ ((got (execClearLayer .boot 0 0 (layered 4))).rlayer 0).state = 0 ∧
    ((got (execRestoreLayer .boot 0 0 (layered 3))).rlayer 0).restoring = true := by decide +kernel

/-- A home layer with one token of one list, merged with a slot open, or not merged. -/
def homeTok (merged : Bool) (total : Nat) : HomeTok := ⟨[], total, [], merged, if merged then [⟨9, 2, 0x3F800000, none⟩] else [], [], false⟩
def homeL (k : HomeTok) : HomeLayer := ⟨0, 1, 0, 0, 0, 1, 8, [(0, k)], [], 1, false⟩
def homed (k : HomeTok) : State := { ready with prs := { ready.prs with home := [homeL k] } }
def settledTok : HomeTok := { homeTok true 1 with slots := [⟨9, 2, 0, some 0⟩] }

theorem test_home : (homed (homeTok false 2)).homeLayer 0 1 0 = some (homeL (homeTok false 2)) ∧
    (validPairs ((homed (homeTok false 2)).route 0).n []).2 = false ∧
    ((after (.candidatePacket ⟨0, 0, 1, 0, 0, 0, 0, 2, []⟩) (homed (homeTok false 2))).prs.home.map fun h => h.toks.map (·.2.lists)) = [[[0]]] ∧
    ((after (.candidatePacket ⟨0, 0, 1, 0, 0, 0, 0, 1, []⟩) (homed (homeTok false 1))).prs.home.map fun h => h.toks.map (·.2.merged)) = [[true]] := by decide +kernel
theorem test_ack : ((after (.ackRec ⟨0, 0, 0, 1, 3, 0, 0, [0], 0⟩) (homed (homeTok true 1))).prs.home.map fun h =>
      (h.waitAcks, h.toks.map fun t => t.2.slots.map (·.out))) = [(0, [[some 0]])] ∧ (homeL settledTok).mayEnd = false ∧
    ({ homeL settledTok with waitAcks := 0 } : HomeLayer).mayEnd = true := by decide +kernel
theorem test_prism_return : (after (.returnRec ⟨0, 0, 0, 1, 3, 0, 0, 2, 1, false, [], []⟩) (homed (homeTok true 1))).counter C.PRS_RETURNS = 1 ∧
    ((homeTok true 1).slots[0]?.map (·.out)) = some none := by decide +kernel

/-- An owned layer, open and closed, of resident context 0. -/
def ownL (closed : Bool) : OwnLayer := ⟨0, 1, 0, [(5, 1)], [], [], [], [(0, 0)], closed, false⟩
def owning (closed : Bool) : State := { (layered 0) with prs := { ready.prs with own := [ownL closed] } }
def rec1 : DispRec := ⟨0, .drop, 0, 0, 0, 1, 7, 0, 0, 0, 0, 4, [⟨2, 5, 0⟩], [], [], false⟩

theorem test_own : (owning false).ownLayer 0 1 0 = some (ownL false) ∧ (owning false).recordRefusal false rec1 ≠ none ∧
    (after (.dispatchRec rec1) (owning false)).counter C.PRS_REFUSED = 1 ∧ (owning false).mustWait { rec1 with layer := 9 } = false ∧
    ((after (.endRecord ⟨0, 0, 0, 1, 7, 3⟩) (owning false)).prs.own.map (·.ends)) = [[(7, 3)]] ∧ (owning false).givenUp 0 1 = false := by decide +kernel
theorem test_own_closes : ((after (.closeTimeout 0 1 0) (owning false)).prs.own.map fun o => (o.closed, o.silent)) = [(true, true)] ∧
    after (.closeTimeout 0 1 0) (owning true) = owning true ∧ ready.resident 0 = false := by decide +kernel

/-- The same with a routing record of eight rows for the layer, whose local expert 5 exists. -/
def routed (n : Nat) : State :=
  let s := ((((owning false).setFld F.MMU_ROOT_HI_space 1).setFld F.SEQ_CTX_SHAPE_exp_layers 1).setFld F.PRS_CTRL_enable 1)
  { s with mem := (tabled.mem.write 1 0x30000 (toBytes 56 (15 + 2 ^ 16 + 8 * 2 ^ 48 + 0x1000 * 2 ^ 384))).write 1 0x31028 [1],
           srv := { s.srv with gens := [(0, ⟨0, 0, 0, 0, 0, 0⟩)] }, prs := { s.prs with own := [{ ownL false with count := [(5, n)] }] } }

theorem test_admit : (routed 1).recordRefusal false rec1 = none ∧ ((routed 1).route (((routed 1).recAddr 0 0 0).getD 0)).rows = 8 ∧
    (routed 1).vle (((routed 1).route 0).locals + 8 * 5) 8 = 1 ∧ ((after (.dispatchRec rec1) (routed 1)).prs.own.map (·.count)) = [[(5, 2)]] ∧
    (after (.dispatchRec rec1) (routed 4)).counter C.PRS_DROPPED = 1 := by decide +kernel
/-- The layer closed, with the metadata of its expert's row 0 naming home 7. -/
def rowDone : State :=
  let m := (tabled.mem.write 1 0x30000 (toBytes 72 (8 * 2 ^ 48 + 0x3000 * 2 ^ 512))).write 1 (0x33000 + 640 + 2) [7]
  { (owning true).setFld F.MMU_ROOT_HI_space 1 with mem := m }

theorem test_row_written : leAt ((rowDone.vread (0x3000 + 640) 16).bytes) 2 2 = 7 ∧ (rowDone.route 0).retArea = 0x3000 ∧
    rowDone.ownLayer 0 1 0 = some (ownL true) ∧ 0 < kgetD (ownL true).count (ownKey 0 5) 0 ∧
    (after (.returnRowWritten 0 1 0 0 5 0) rowDone).counter C.PRS_RECORDS = 0 := by decide +kernel

/-! ### The KVM and the MMU -/

/-- The KVM ready with eight frames in tier 1 and eight in tier 2, its tables and the page root in tier 1 beyond them, set and
committed; slot 0 IDLE with one token. -/
def kvmRegs : List (Nat × Nat) :=
  [(0x1300000, 0x1000000), (0x1300008, 8), (0x1300010, 0), (0x1300018, 8), (0x1300020, 0x2000000), (0x1300028, 0x3000000),
   (0x3600000, 0x4000000), (0x3600004, 2 ^ 16), (0x1000000, 0x5000000)]
def kvmInit : State :=
  let s := kvmRegs.foldl (fun s r => s.wr r.1 r.2) ready
  { s with boot := { s.boot with configured := [0x1300000, 0x1300020, 0x1300028, 0x3600000] }, kvm := { s.kvm with init := true } }
def kvm : State :=
  let s := got (execPftInit kvmInit)
  (s.sput 0 D.state Sl.idle).sput 0 D.length 1

/-- A record for slots 0 and 1, and what the commands make of it; from the boot list. -/
def krec : KvmRec := ⟨false, 0, 0, 1, 60, 0x1234, 0, false⟩
def published : State := got (execPublish .boot krec kvm)
def pausing : State := got (execPause .boot krec kvm)
def paused : State := got (execPauseMoveDone 0 pausing)
def resuming : State := got (execResume .boot krec paused)

theorem test_kvm_ready : kvmInit.kvm.init = true ∧ kvm.kvmReady = true ∧ kvm.takes .boot ∧ kvm.memoryCanonical ∧ kvm.kvm.f1 = ⟨0, 7, 8⟩ ∧
    kvm.kvm.f2 = ⟨8, 15, 8⟩ ∧ ready.kvm.init = false := by decide +kernel
theorem test_publish : publishRefusal krec kvm = none ∧ kvm.kvmHeld 1 krec = false ∧ published.dirFind 0x1234 = some 0 ∧
    published.sget 1 D.state = Sl.holder ∧ publishRefusal krec ready = some 0x15 := by decide +kernel
theorem test_take_up_retire : takeUpRefusal { krec with slot := 2 } { published with srv := { published.srv with gens := [(0, ⟨0, 0, 0, 0, 0, 0⟩)] } } = none ∧
    retireRefusal krec published = none ∧ (got (execRetire .boot krec published)).sget 1 D.state = 0 := by decide +kernel
theorem test_fork_free : forkRefusal krec kvm = none ∧ (got (execFork .boot krec kvm)).sget 1 D.length = 1 ∧ freeSeqRefusal krec kvm = none ∧
    (got (execFreeSeq .boot krec kvm)).sget 0 D.length = 0 := by decide +kernel
theorem test_pause : pauseRefusal krec kvm = none ∧ (kget pausing.kvm.moves 0).map (·.op) = some 6 ∧ paused.sget 0 D.state = Sl.paused ∧
    resumeRefusal krec paused = none ∧ (got (execResumeMoveDone 0 resuming)).sget 0 D.state = Sl.idle ∧ touchRefusal krec paused = none := by decide +kernel
theorem test_kvm_waits : pausing.kvmHeld 8 krec = true ∧ (got (execTouch .boot krec pausing)).kvm.waiting = [(.boot, 8, krec)] := by decide +kernel

/-- The paused slot a minute later, and after the check. -/
def late : State := { paused with us := 60000000 }
def expired : State := got (execTtlCheck late)

theorem test_expiry : (late.kvm.ttl.filter fun e => e.2 ≤ late.us) = [(0, 60000000)] ∧ expired.sget 0 D.state = 0 ∧ expired.kvm.fifo = [0] ∧
    expired.mayRead .host 0x130004C = true ∧ (got (execKvmExpiredRead .host expired)).kvm.fifo = [] := by decide +kernel

/-- Frame 3 in quarantine under epoch 0, with an advance asked for; and after it. -/
def quarantined : State := kvm.quarantine 3
def advanced : State := got (execEpochAdvance quarantined)

theorem test_reclaim : quarantined.kvm.wanted = 1 ∧ advanced.kvm.epoch = 1 ∧ precedes 32 (advanced.pget 3 P.stamp) advanced.kvm.oldest = true ∧
    advanced.kvm.q.n = 1 ∧ (got (execReclaim advanced)).kvm.f1.tail = 3 ∧ precedes 32 (quarantined.pget 3 P.stamp) quarantined.kvm.oldest = false := by decide +kernel
theorem test_invalidate : ready.grants .host 0x3600008 ∧ (got (execInvalidateAll .host ready)).kvm.inv = true := by decide +kernel

/-! ### Serving and steps -/

/-- Context 0 configured, resident and running with generation 5 current, tenant 0 enabled with 100 tokens of budget, Aperture on. -/
def serving : State :=
  let s := ((((kvm.sclear 0).setFld F.RES_CTX_STATE_state 3).setFld F.SEQ_CTX_CTRL_run 1).setFld F.ADM_CTRL_enable 1).setFld F.ADM_T_CTL_enable 1
  let s := ((((s.setFld F.ADM_T_CAP_cap 1000).setFld F.ADM_QCFG_qmax 1).setFld F.SEQ_CTX_GEN_current 5).setFld F.SEQ_CTX_GEN_STATUS_current_valid 1).setFld F.SEQ_CTX_LIMITS_decode_max 8
  let s := ((s.setFld F.SEQ_CTX_LIMITS_active_max 4).setFld F.SEQ_CTX_PREFILL_prefill_max 8).setFld F.SEQ_CTX_PREFILL_chunk 8
  let s := s.wr 0x1000118 0x6000000
  { s with boot := { s.boot with configured := 0x1000000 :: 0x1000100 :: s.boot.configured }, kvm := { s.kvm with waiting := [] },
           srv := { s.srv with gens := [(0, ⟨5, 0x100, 0x200, 0x300, 65536, 8⟩)], bal := [(0, 100)] } }

/-- A request of four prompt tokens and ten more for slot 3, its prompt in tier 1; and one that a full queue cannot take. -/
def sreq : SubmitRec := ⟨false, false, false, true, 0, 0, 0, 3, 0, 4, 10, 0, 0, 0, 0, 2 ^ 63, 2 ^ 63, 7, 9, false⟩
def submitted : State := got (execSubmit .boot sreq serving)
def creq : SubmitRec := ⟨false, false, false, false, 0, 0, 0, 3, 0, 0, 0, 0, 0, 0, 0, 0, 0, 0, 9, false⟩
def borrowedReq : State := submitted.setSflag 3 Fl.borrowed true
def impatient : State := submitted.setFld F.ADM_MAXWAIT_maxwait 0

theorem test_submit : serving.takes .boot ∧ serving.submitRefusal sreq = none ∧ serving.admission 0 14 = .accept false ∧ submitted.srv.queue = [3] ∧
    submitted.sget 3 D.state = Sl.queued ∧ submitted.balOf 0 = 86 ∧ SubmitRec_res { sreq with promptLen := 0, maxNew := 0 } = 0 ∧
    serving.submitRefusal { sreq with promptLen := 0, maxNew := 0 } = none := by decide +kernel
theorem test_admission : submitted.submitRefusal { sreq with slot := 4 } = none ∧ submitted.admission 0 14 = .refuse ∧ borrowedReq.admission 0 14 = .displace 3 ∧
    (submitted.req 3).isSome = true ∧ (got (execSubmit .boot { sreq with slot := 4 } borrowedReq)).srv.queue = [4] := by decide +kernel
theorem test_cancel : cancelRsv creq = false ∧ submitted.sget 3 D.reqTag = 9 ∧ (got (execCancel .boot creq submitted)).srv.queue = [] ∧
    (got (execCancel .boot creq (submitted.sput 3 D.state Sl.decode))).sflag 3 Fl.cancel = true := by decide +kernel
theorem test_ticks : 0 ∈ submitted.tenants ∧ (got (execBudgetTick (serving.setFld F.ADM_T_RATE_rate 5000))).balOf 0 = 105 ∧
    impatient.srv.queue.filter impatient.waited = [3] ∧ (got (execAdmissionWaitExpire impatient)).srv.queue = [] := by decide +kernel

/-- Generation 6 staged for context 0, then made current; and a training launch of no slot. -/
def grec : GenRec := ⟨0, 0, 6, 0, 0, 0, 0, false⟩
def staged6 : State := got (execStageGen .boot grec serving)
def active6 : State := got (execActivateGen .boot grec staged6)
def trec : TrainRec := ⟨0, 0, 0, 0x200, 2 ^ 63, 0, false⟩
def training : State := got (execTrainLaunch .boot trec serving)
def trained : State :=
  { serving with srv := { serving.srv with pools := [⟨[], some { launch0 with train := some ⟨.boot, []⟩, facets := [] }⟩, ⟨[], none⟩] } }

theorem test_generations : serving.stageRefusal grec = none ∧ staged6.otherRole 0 = 1 ∧ active6.curGen 0 = some 6 ∧ active6.otherRole 0 = 2 ∧
    active6.genSlot 0 5 = some 0 ∧ active6.pinnedTo 0 5 = 0 ∧ active6.latchedBy 0 5 = false ∧
    ((got (execRetireGen .boot { grec with generation := 5 } active6)).gen 0 0) = none := by decide +kernel
theorem test_training : serving.trainRefusal trec = none ∧ ((nth training.srv.pools 0 ⟨[], none⟩).queue.map (·.prog)) = [0x200] ∧
    trained.mirrorHeld 0 = false ∧ (nth (got (execTrainLaunchEnd 0 trained)).srv.pools 0 ⟨[], none⟩).run = none := by decide +kernel

/-- The prefill step of slot 3, its launch, its commit; an empty decode step; another package's census. -/
def built : State := got (execStepBuild 0 1 submitted)
def launched : State := got (execStepLaunchWrite 0 1 built)
def ended : State := launched.modStep 0 1 fun x => { x with left := 0 }
def emptyStep : State := got (execStepBuild 0 0 serving)
def peered : State := (serving.setFld F.RES_CTX_SERVEn_serve 2)
def peerBuilt : State := got (execStepBuild 0 0 peered)

theorem test_build : submitted.mayBuild 0 = true ∧ (submitted.gen 0 (submitted.latch 0 1)).isSome = true ∧
    (((built.series 0 1).built.map fun x => (x.num, x.gen, x.phase, x.tokens)) = some (2 ^ 31, 5, 0, 4)) := by decide +kernel
theorem test_launch_write : (((built.series 0 1).built.map fun x => (built.censusDone 0 x, x.counted.total, x.ents.all fun e => !built.promptFails e))) = some (true, 4, true) ∧
    ((launched.series 0 1).built.map (·.phase)) = some 2 ∧ ((nth launched.srv.pools 1 ⟨[], none⟩).queue.map (·.prog)) = [0x300] := by decide +kernel
theorem test_commit : ended.mirrorHeld 0 = false ∧ ((got (execStepCommit 0 1 ended)).series 0 1).built = none ∧
    ((got (execStepLaunchWrite 0 0 emptyStep)).series 0 0).idle = true := by decide +kernel
theorem test_census : (peered.peersOf 0).contains 1 = true ∧ peered.isLost 1 = false ∧
    ((((got (execStepCensus 1 0 0 7 2 peerBuilt)).series 0 0).built.map (·.census)) = some [(1, 7, 2)]) ∧
    (got (execCensusTimeout 0 0 peerBuilt)).counter C.SEQ_CENSUS_TIMEOUT = 1 := by decide +kernel

/-- A pass of draft context 1 for target context 0, its launch ended. -/
def passing : State :=
  let x : Step := ⟨0, 5, 0, [], 0, 0, 1, [], 1, some 1, [], 0, 255, 0, none⟩
  (serving.setSeries 0 0 { serving.series 0 0 with built := some x }).setSeries 1 0
    { serving.series 1 0 with built := some { x with phase := 2, pair := some 0, pass := 0 } }

theorem test_pass : (got (execDraftPassNext 0 passing)).counter C.SEQ_STEPS = 1 ∧ (passing.series 1 0).built.isSome = true := by decide +kernel
theorem test_focus : serving.moving = false ∧ (serving.members 1).length = 8 ∧
    ({ (serving.setFld F.SEQ_FOCUS_CTRL_enable 1) with srv := { serving.srv with tdec := 1000000 } } : State).focusToward = 2 ∧
    (serving.setFld F.SEQ_FOCUS_LIM_np_fixed 8).fld F.SEQ_FOCUS_LIM_np_fixed = 8 := by decide +kernel

/-! ### Residency -/

/-- Context 0 in the given state, home tier 2, one weight page whose tables are there, its image at 0x10000 of tier 2. -/
def res (st : Nat) : State :=
  let s := (((tabled.setFld F.RES_CTX_STATE_state st).setFld F.RES_CTX_STATE_home 2).setFld F.RES_CTX_WSIZE_pages 1).setFld F.RES_CTX_T2_base 1
  let s := (s.setFld F.TIER_T2_STATUS_enabled 1).setFld F.TIER_SCRUB_enable 1
  let m := (s.mem.write 1 (8 * 512) (toBytes 8 0x60011)).write 1 0x60000 (toBytes 8 0x70011)
  { s with boot := { s.boot with t2Code := 2 }, mem := m.write 2 0x10000 [1, 2, 3] }
def lreq : GenRec := ⟨2, 0, 6, 0, 0, 0, 0, false⟩
/-- A PROMOTE under way, and its copy front at the end; a DEMOTE under way. -/
def promoting : State := (res 2).modRes 0 fun x => { x with promote := some .boot }
def copied : State := promoting.setFld F.RES_CTX_FRONT_pages 1
def demoting : State := (res 3).modRes 0 fun x => { x with demote := some .boot }

theorem test_load_ctx : (res 0).takes .boot ∧ (res 0).resBusy = false ∧ (res 0).loadCtxRefusal lreq = none ∧ (res 1).loadCtxRefusal lreq = some 0x12 ∧
    (res 1).noSteps 0 = true ∧ (res 1).loading 0 = false ∧ (res 1).runs 0 = false := by decide +kernel
theorem test_promote : (res 1).shareTaken 0 = false ∧ promoting.weightPages 0 = 1 ∧ promoting.loadHeld 2 (promoting.imageBase 0) 65536 = false ∧
    promoting.mem.poisoned 2 (promoting.imageBase 0) 65536 = false ∧ copied.fld F.RES_CTX_FRONT_pages (0x80 * 0) = 1 ∧
    (copied.resCtx 0).promote = some .boot ∧ (got (execPromoteCopyDone 0 copied)).counter C.RES_PROMOTIONS = 1 := by decide +kernel
theorem test_demote : (res 3).fld F.RES_CTX_STATE_home (0x80 * 0) = 2 ∧ (demoting.resCtx 0).demote = some .boot ∧ demoting.noSteps 0 = true ∧
    demoting.resBusy = true ∧ (seqAt 0).res.queue = [] := by decide +kernel
theorem test_preempt : (got (execPreempt .boot 0 false (res 3))).launchesQuiet 0 = true ∧ (got (execPreempt .boot 0 false (res 3))).mirrorHeld 0 = false ∧
    (got (execPreemptComplete 0 (got (execPreempt .boot 0 false (res 3))))).counter C.RES_PREEMPTS = 1 ∧
    (trained.launchesQuiet 0) = true ∧ (seqAt 0).launchesQuiet 0 = false := by decide +kernel

/-- Semaphore 3 held by context 0, with context 1 waiting; context 0 pre-empted. -/
def sem (x : Sem) : State := ({ (res 3) with res := { (res 3).res with sems := [(3, x)], ctxs := [(0, ⟨none, false, none, none, some 0⟩)] } } : State).setFld F.RES_CTX_STATE_state 3 0x80

theorem test_sem : ((got (execAcquire .boot 1 3 true false (sem ⟨some 0, none, []⟩))).sem 3).wait = [(1, .boot, 0)] ∧
    ((got (execRelease .boot 0 3 false (sem ⟨some 0, none, [(1, .boot, 0)]⟩))).sem 3).holder = some 1 ∧
    ((got (execSemHorizonExpire 3 (sem ⟨some 0, none, [(1, .boot, 0)]⟩))).sem 3).broken = some 0 ∧ (sem ⟨some 0, none, []⟩).resident 1 = true ∧
    ((got (execAcquire .boot 1 4 true false (sem ⟨some 0, none, []⟩))).sem 4).holder = some 1 := by decide +kernel
theorem test_tier2 : ({ up with boot := { up.boot with t2Code := 1, image := some 0 } } : State).boot.image.isSome = true ∧
    (res 0).inSpace 1 (64 * 5) 64 = true ∧ (res 0).readHeld 1 (64 * 5) 64 = false ∧ (res 0).scrubPaused = false ∧
    (got (execTierScrubRead 1 5 2 (res 0))).mem.poisoned 1 320 64 = true := by decide +kernel

/-- A matrix multiply of 128 columns on facet 0, its tile 0 running, with a ring of two slots: its operand's descriptor at 0x800, the
headers at 0x900; then with its first unit being filled. -/
def mm : Macro := { copy64 with op := 1, tileM := 1, tileN := 1, b := 0x800 }
def ringed : State :=
  let s := { runningTile with mem := runningTile.mem.write 1 0x30800 (toBytes 8 0 ++ toBytes 8 0x900 ++ toBytes 8 0x10000 ++ toBytes 8 0 ++ toBytes 8 1) }
  s.setFac 0 { s.fac 0 with ring := some ⟨0, 0, 8, 2, 0, [], []⟩, sq := { s.sqr 0 with cur := some ⟨mm, 8, 128, 128, 1, none, false, [], 0, 0⟩ } }
def filling : State := got (execCondenserFillStart 0 ringed)

theorem test_fill_start : ((ringed.sqr 0).run.map fun y => y.1.tile) = some 0 ∧
    ((ringed.fac 0).ring.bind fun r => (ringed.sqr 0).cur.bind fun i => (ringed.ringNow 0 r i).nextUnit [0]) = some (0, 0) ∧
    (filling.fac 0).ring.map (·.units) = some [(0, 0, 8, 0)] := by decide +kernel
theorem test_fill : ((filling.sqr 0).cur.map fun i => nth (filling.tileUnits i 0) 0 (0, 0)) = some (0x900, 128) ∧ filling.vheld (0x900, 128) = false ∧
    (filling.vread 0x900 128).good = true ∧ (filling.vread 0x900 128).bad = false ∧
    (got (execUnitFillDone 0 filling)).counter C.TIER_UNITS = 1 := by decide +kernel

/-! ### Links -/

/-- Port 3 enabled and in the given state, with its own image loaded. -/
def linked (st : Nat) : State := ((up.setFld F.FAB_P_CTRL_enable 1 0x30000).setFld F.FAB_P_STATUS_state st 0x30000).setFld F.GLB_STATUS_config_ready 1
/-- The link layer of port 3 of an ACTIVE port. -/
def linkedWith (g : FabPort → FabPort) : State := (linked 5).modPort 3 g
def hdr0 : PktHdr := ⟨1, 0, 0x10, 2, false, 0, 0, 0, 0, 255, 0, 2, false⟩
def tag0 : FrameTag := ⟨0, 0, false, false, 2, 1, true, false, false, false, 0, 0, 0, true, true⟩
def queuedFlit : State := linkedWith fun f => { f with outq := [(44, [⟨hdr0, 0⟩])], cred := [(16, 5)] }

theorem test_link_detect : (linked 1).portEnabled 3 = true ∧ (linked 1).trainWidth 3 = 1 ∧ laneMask 1 = 0xFF ∧ up.fab.ports.length = 12 ∧
    (got (execLinkDetect 3 0xFF (linked 1))).portState 3 = 2 ∧ (got (execLinkDetect 3 0x0F (linked 1))).portState 3 = 1 := by decide +kernel
theorem test_ident : (linked 4).identReady = true ∧ (up.setFld F.FAB_P_STATUS_state 4 0x30000).identReady = false ∧ (linked 4).peerOf 3 = (4, 4) ∧
    (got (execIdent 3 ⟨4, 4, 0, true⟩ (linked 4))).portState 3 = 5 ∧ (got (execIdent 3 ⟨5, 4, 0, true⟩ (linked 4))).portState 3 = 8 ∧
    (got (execIdent 3 ⟨4, 4, 1, true⟩ (linked 6))).portState 3 = 7 := by decide +kernel
theorem test_retrain : (linked 8).grants .boot (0x1810000 + 0x10000 * 3) ∧ (got (execLockLoss 3 (linked 5))).portState 3 = 6 ∧
    (got (execPortRetrain .boot 3 (linked 8))).portState 3 = 1 ∧ (got (execRetrainLimitExpire 3 (linked 6))).portState 3 = 7 := by decide +kernel
theorem test_lanes : tbit (laneMask ((((linked 5).setFld F.FAB_P_STATUS_width 1 0x30000)).fld F.FAB_P_STATUS_width (0x10000 * 3))) 0 = true ∧
    tbit ((linked 5).fld F.FAB_P_LANE_failed (0x10000 * 3)) 0 = false ∧ 256 * (linked 5).fld F.FAB_P_LANE_lane_limit (0x10000 * 3) < 65536 ∧
    (got (execLaneErrorWindow 3 [65536] 0 ((linked 5).setFld F.FAB_P_STATUS_width 1 0x30000))).portState 3 = 6 ∧
    (got (execLaneErrorWindow 3 [65536] 0 (((linked 5).setFld F.FAB_P_STATUS_width 1 0x30000).setFld F.FAB_P_LANE_spare_en 0 0x30000))).portState 3 = 7 := by decide +kernel
theorem test_frame_send : queuedFlit.grantFlit 3 = some (2, 12, ⟨hdr0, 0⟩) ∧ ((got (execFrameSend 3 queuedFlit)).fport 3).next = 1 ∧
    ((linkedWith fun f => { f with again := [⟨7, hdr0, true, false⟩] }).fport 3).again = [⟨7, hdr0, true, false⟩] ∧ (linked 5).grantFlit 3 = none := by decide +kernel
theorem test_frame_receive : (linked 5).tagBad 3 tag0 = false ∧ (linked 5).tagBad 3 { tag0 with phase := 6 } = true ∧ ((linked 5).fport 3).expect = 0 ∧
    ((linked 5).fport 3).holds 2 1 < (linked 5).creditsOf 2 ∧ precedes 12 0 9 = true ∧
    ((got (execDataFlitReceive 3 tag0 hdr0 (linked 5))).fport 3).inb = [⟨hdr0, 2, 1, 1, false, false⟩] := by decide +kernel
theorem test_credit_return : (up.setFld F.FAB_CTX_RSV_held 1).rsvQuiet 0 = true ∧ ((up.setFld F.SEQ_CTX_CTRL_run 1).rsvQuiet 0) = false := by decide +kernel
theorem test_packet_forward : ((linked 5).leaveBuffer { hdr0 with dst := 4, src := 2 }).nextPort { hdr0 with dst := 4, src := 2, hops := 1 } = some (3, 255) ∧
    phaseUsed 2 1 = true ∧ up.isLost 2 = false ∧ 0 < (up.setFld F.FAB_ID_groups 1).fld F.FAB_ID_groups ∧
    ((up.setFld F.FAB_LOSTn_lost 4).isLost 2) = true ∧ (got (execLinkState 4 0x1FF up)).fld F.FAB_GMAP_m_group (4 * 4) = 0xFF := by decide +kernel
theorem test_epoch_switch : (up.sendOf 4 0).unacked = [] ∧ (up.sendOf 4 0).wait = [] ∧ up.fab.reqs = [] ∧
    (got (execRouteEpochSwitch 4 (up.setFld F.FAB_EPOCH_p_draining 1 16))).fld F.FAB_EPOCH_p_epoch 16 = 1 := by decide +kernel

/-! ### Fabric operations -/

/-- Two groups, the port to member 4 ACTIVE. -/
def meshed : State := ((linked 5).setFld F.FAB_ID_groups 2).setFld F.FAB_ID_package 0
/-- The header of the next packet from package 4 of a type; the same through the far gateway's own entry. -/
def hdrOf (pt : Nat) : PktHdr := ⟨0, 4, pt, vcOf pt, false, 0, 0, 0, 0x1000, 255, 0, 1, false⟩
def stored : MemReq := ⟨2 ^ 52 + 64, 4, 0, false, 0, 0, [1, 2, 3, 4], false, false⟩
def bulk : BulkReq := ⟨2 ^ 52, 256, 0, 0, [], []⟩
def homed1 (o : HomeOp) : State := { meshed with fab := { meshed.fab with home := [(3, [o])] } }
def reqOf (k : Nat) (b : Bool) : FabReq := ⟨k, 4, 2 ^ 52, 256, 2 ^ 52, 0, .load 0 0, 0, 0, b, 0, false, []⟩
def asked (r : FabReq) : State := { meshed with fab := { meshed.fab with reqs := [(0x1000, r)] } }
def batched : State := { meshed with fab := { meshed.fab with batches := [(8, [⟨2, 0, 0, 4, 0, 0, 4, 0, 0, 0, 0, false, [1], false⟩])] } }

/-- A header is the next of its stream, and an answer to its source has a way. -/
theorem test_next_packet : meshed.isLost 4 = false ∧ meshed.tornJob 0 = false ∧ (meshed.recvOf 4 meshed.self 0).gapped = false ∧
    (meshed.recvOf 4 meshed.self 0).base = 0 ∧ (meshed.recvOf 4 meshed.self 4).marks = [] ∧ (meshed.fixedPort meshed.self 4).isSome = true ∧
    4 / 9 < meshed.fld F.FAB_ID_groups ∧ (meshed.sendOf 4 1).wait = [] ∧ meshed.self = 0 := by decide +kernel
theorem test_mem_packets : meshed.memRefusal (hdrOf 2) stored = none ∧ meshed.memRefusal (hdrOf 3) { stored with aop := 3 } = none ∧
    meshed.memRefusal (hdrOf 1) { stored with addr := 4 * 2 ^ 52 } = some 0x10 ∧ meshed.bulkRefusal (hdrOf 5) bulk = none ∧
    meshed.bulkRefusal (hdrOf 5) { bulk with addr := 8 } = some 0x11 ∧ meshed.readHeld 1 0 256 = false ∧ meshed.mem.poisoned 1 0 256 = false := by decide +kernel
theorem test_home_agent : (homed1 (.mem (hdrOf 2) stored)).homeWaits (.mem (hdrOf 2) stored) = false ∧
    (got (execHomeAgentPerform 3 (homed1 (.mem (hdrOf 2) stored)))).mem.read 1 64 4 = [1, 2, 3, 4] ∧
    (got (execHomeAgentPerform 3 (homed1 (.mem (hdrOf 3) { stored with aop := 1, opnd0 := 5 })))).mem.read 1 64 4 = [5, 0, 0, 0] ∧
    (got (execHomeAgentPerform 3 (homed1 (.mem (hdrOf 1) stored)))).out.length = 1 ∧
    (homed1 (.mem (hdrOf 1) { stored with addr := 2 * 2 ^ 52 })).homeWaits (.mem (hdrOf 1) { stored with addr := 2 * 2 ^ 52 }) = true := by decide +kernel
theorem test_mirror_idle : (homed1 (.mem (hdrOf 2) stored)).mirIdle ∧ ({ meshed with us := 1 } : State).mirIdle :=
  ⟨by unfold State.mirIdle; decide +kernel, by unfold State.mirIdle; decide +kernel⟩
theorem test_mirror_ring : ringPlace 1024 900 256 200 = none ∧ ringPlace 1024 900 512 200 = some 256 ∧ ringPlace 1024 300 512 200 = some 300 ∧
    ringPlace 1024 512 512 256 = some 512 ∧ ringPlace 1024 300 512 212 = none := by decide
theorem test_bulk_data : (got (execBulkData (hdrOf 7) { bulk with data := [9, 8] } (asked (reqOf 6 false)))).mem.read 1 0 2 = [9, 8] ∧
    (got (execBulkData (hdrOf 7) bulk meshed)).counter C.FAB_LATE = 1 := by decide +kernel
theorem test_response : (kget (got (execFabResponse (hdrOf 4) ⟨0x15, 3, 0, 0, [], false⟩ (asked (reqOf 6 false)))).fab.reqs 0x1000).map (·.backing) = some true ∧
    (reqOf 6 true).backing = true ∧ FabReq_timed (reqOf 6 false) = true ∧ (asked (reqOf 6 true)).shd.loads = [] ∧
    ({ (asked (reqOf 6 true)) with us := 1000000 } : State).waitedOut (reqOf 6 true) = true := by decide +kernel
theorem test_batches : meshed.fab.tag + 1 < 2 ^ 32 ∧ ((kgetD batched.fab.batches 8 []).length = 1) ∧
    (got (execGwBatchClose 4 0 batched)).counter C.FAB_GW_BATCHES = 1 ∧
    (got (execGwBatch (hdrOf 8) [⟨2, 0, 0, 4, 0, 0, 4, 0, 0, 0, 0, false, [1], false⟩] meshed)).fab.tag = meshed.fab.tag + 1 := by decide +kernel

/-- A stream to package 4 with two packets not acknowledged, the second of facet 5; a fence over it. -/
def streaming : State := { meshed with fab := { meshed.fab with sends := [(32, ⟨2, [(0, 2, 0), (1, 2, 6)], []⟩)], pend := [(4, 1)] } }
def fenced (b : Nat) : State := { streaming with fab := { streaming.fab with fence := some ⟨[(4, 0, b)], 0⟩ } }
def vec (n j d : Nat) : TdVector := ⟨n, j, 0, d, false⟩

theorem test_acks : ((got (execE2eAck 4 4 [1] streaming)).sendOf 4 0).unacked = [(1, 2, 6)] ∧ streaming.isLost 4 = false ∧
    kget streaming.fab.pend 4 = some 1 ∧ streaming.openFor 5 = [4] ∧ streaming.openFor 6 = [] ∧
    (got (execFenceTimeout (some 5) streaming)).openFor 5 = [] := by decide +kernel
theorem test_streams_idle : streaming.mirIdle := by unfold State.mirIdle; decide +kernel
theorem test_fence : (fenced 0).fenceMet (4, 0, 0) = true ∧ (fenced 1).fenceMet (4, 0, 1) = false ∧ meshed.grants .boot 0x1800034 ∧
    streaming.fenceOver 255 = [(4, 0, 2)] ∧ meshed.flag F.FAB_FENCE_STATUS_busy = false := by decide +kernel
theorem test_teardown : meshed.grants .boot 0x1800080 ∧ meshed.fab.nonces = [] ∧ (got (execTeardownVector (.port 3) (vec 7 0 16) meshed)).isLost 4 = true ∧
    (got (execTeardownVector (.port 3) (vec 7 9 0) (meshed.setFld F.FAB_CTX_JOB_job 9))).flag F.FAB_CTX_JOB_torn (8 * 0) = true ∧
    meshed.noSteps 0 = true ∧ meshed.mir.unsafe_ = [] := by decide +kernel

/-! ### Failures and recovery -/

/-- Heartbeats on, the own image loaded; peer 4 in the given state. -/
def hb (st : Nat) : State := ((up.setFld F.GLB_STATUS_config_ready 1).setFld F.FAB_HB_enable 1).setFld F.FAB_HB_STATE_p_state st 16
/-- Every member of the group SUSPECT for one period less than lost_n. -/
def alone : State := (List.range 8).foldl (fun s p => s.setFld F.FAB_HB_STATE_p_state 2 (4 * (p + 1))) ((hb 0).setFld F.FAB_HB_lost_n 1)

theorem test_heartbeat_tick : up.live ∧ up.mir.unsafe_ = [] ∧ (hb 1).identReady = true ∧ (hb 1).globalPorts = [] ∧
    (got (execHeartbeatTick (hb 1))).missed 4 = 1 ∧ (got (execHeartbeatTick (hb 1))).peerState 3 = 1 := by decide +kernel
theorem test_isolate : alone.fld F.FAB_HB_lost_n ≤ alone.fab.alone + 1 ∧ alone.fld F.FAB_HB_STATUS_self = 0 ∧ alone.peerState 8 = 2 ∧ alone.peerState 9 = 0 ∧
    alone.globalPorts = [] ∧ (got (execHeartbeatTick alone)).fld F.FAB_HB_STATUS_self = 3 := by decide +kernel
theorem test_heartbeat : (hb 2).appliance = 0 ∧ (got (execHeartbeat 4 ⟨5, 1, 0, 2 ^ 7⟩ (hb 2))).isLost 7 = true ∧ (got (execHeartbeat 4 ⟨5, 2, 0, 0⟩ (hb 2))).peerState 4 = 3 := by decide +kernel
theorem test_peer_timeouts : (hb 1).peerState 4 = 1 ∧ (got (execPeerLostTimeout 4 (hb 2))).isLost 4 = true ∧ (hb 3).grants .boot 0x1802420 ∧
    (got (execHbClear .boot 4 (hb 3))).peerState 4 = 2 ∧ (got (execIsolateClear .boot (alone.setFld F.FAB_HB_STATUS_self 3))).fld F.FAB_HB_STATUS_self = 0 := by decide +kernel
theorem test_fatal_stop : ((linked 5).setFld F.GLB_STATUS_fatal 1).power = .running ∧ (linked 5).fab.ports.length = 12 ∧
    (got (execFatalStop ((linked 5).setFld F.GLB_STATUS_fatal 1))).portState 3 = 7 := by decide +kernel

/-- Incoming mirRing 0 from package 4, with the publish word beyond the consume offset; the entry of slot 7 in the given state. -/
def mirRing (st : Nat) : State :=
  let s := (((up.setFld F.KVM_MIR_IN_SRC_valid 1).setFld F.KVM_MIR_IN_SRC_source 4).setFld F.KVM_MIR_IN_SIZE_size 1).setFld F.KVM_MIR_CTRL_enable 1
  let s := (s.setFld F.KVM_MIR_TABLE_LO_base 0x10).setFld F.KVM_MIR_PEERS_peers 0xFFFFFF04
  { s with mem := (s.mem.write 1 0 [0, 2]).write 1 (0x10000 + 256 * 7) (List.replicate 128 0 ++ List.replicate 32 0xFF ++ toBytes 1 st) }
def entryOfKind (k : Nat) : MirEntry := ⟨k, false, 0, 7, 0, 0, 0, 9, [1, 2]⟩

theorem test_mirror_apply : (mirRing 1).ringOn 0 = true ∧ (nth (mirRing 1).mir.took 0 (256, 0)).1 = 256 ∧ (mirRing 1).ringPublished 0 = 512 ∧
    (mirRing 1).mirState 0 7 = 1 ∧ (mirRing 0).mirState 0 7 = 0 ∧ (got (execMirrorEntryApply 0 (entryOfKind 2) (mirRing 1))).mirGet 0 7 164 4 = 9 ∧
    (0 < (mirRing 1).mir.took.length) := by decide +kernel
theorem test_mirror_suspend : (mirRing 1).mirPeers = [4] ∧ (mirRing 1).mirSuspended 0 = false ∧ (got (execMirrorTimeout 0 (mirRing 1))).mirSuspended 0 = true ∧
    0 < (mirRing 1).mir.peers.length := by decide +kernel

/-- Context 0 resident, torn down, with run 0; and the source of mirRing 0 lost. -/
def torn : State := ((up.setFld F.RES_CTX_STATE_state 3).setFld F.FAB_CTX_JOB_torn 1).setFld F.FAB_TD_INFO_done 1
def lostRing (st : Nat) : State := (((mirRing st).setFld F.FAB_LOSTn_lost 16).setFld F.RES_CTX_STATE_state 3).setFld F.SEQ_TABLE_LO_base 0x40
def adopt0 : AdoptRec := ⟨0, 4, 2 ^ 63 + 0x80000, false⟩

theorem test_recover : torn.takes .boot ∧ torn.recoverRefusal ⟨0, 5, 2 ^ 31, 16, false⟩ = none ∧ torn.recoverRefusal ⟨0, 5, 2 ^ 31, 1, false⟩ = some 0x11 ∧
    ((got (execRecover .boot ⟨0, 5, 2 ^ 31, 16, false⟩ torn)).series 0 0).next = some 5 := by decide +kernel
theorem test_adopt : (lostRing 1).adoptRefusal adopt0 = none ∧ (lostRing 1).ringOf 4 = some 0 ∧ (lostRing 1).mirOf 0 0 1 = [7] ∧ (lostRing 0).mirOf 0 0 1 = [] ∧
    (lostRing 0).adoptRefusal adopt0 = none ∧ (lostRing 1).mirTables 0 7 = [] ∧ (lostRing 1).lowestEmpty 1 = [0] ∧
    torn.adoptRefusal adopt0 = some 0x11 := by decide +kernel
theorem test_drop_mirror : (List.range 4).filter (fun n => (mirRing 1).ringOn n && decide ((mirRing 1).ringSource n = 4)) = [0] ∧ (mirRing 1).mirSlots 0 = [7] ∧
    (mirRing 1).ringOf 5 = none := by decide +kernel

/-- A facet fenced by command; one whose corrected errors reached its limit; its die with four unfenced facets left. -/
def fencedFacet : State := got (execFenceFacet 3 (.command .boot) up)
def due : State := { (up.setFld F.FCT_FENCE_CFG_auto 1 0xC0000).setFld F.FCT_FENCE_CFG_ce_limit 0 0xC0000 with fences := ⟨[(3, [0])], [], []⟩ }
def dueAlone : State := { due with facets := due.facets.zipIdx.map fun x => if x.2 < 36 ∧ 3 < x.2 then { x.1 with fenced := true } else x.1 }

theorem test_fencing : up.grants .boot (fctOff 3 0x40) ∧ (up.fac 3).fenced = false ∧ (fencedFacet.fac 3).fenced = true ∧ (fencedFacet.fac 3).pool = 2 ∧
    (got (execUnfenceFacet .boot 3 fencedFacet)).fac 3 ≠ fencedFacet.fac 3 := by decide +kernel
theorem test_auto_fence : due.fenceDue 3 2 = true ∧ 4 < due.unfenced 0 ∧ dueAlone.unfenced (3 / 36) = 4 ∧ dueAlone.fenceDue 3 2 = true ∧
    up.fenceDue 3 2 = false ∧ ((got (execFenceFacet 3 (.auto 2) due)).fac 3).fenced = true ∧
    ((got (execFenceFacet 3 (.auto 2) dueAlone)).fac 3).fenced = false := by decide +kernel

/-! ### Power and temperature -/

/-- The capping loop on, a fixed power of 3 W above the peak limit of 0; the average still without a sample. -/
def capped : State :=
  let s := ((up.setFld F.PWR_CTRL_cap_en 1).setFld F.PWR_CAP_peak_limit 0).setFld F.PWR_W_k_weight 3000 52
  { s with pwr := { s.pwr with avg := (0, 0) } }
def noWork : PowerSample := ⟨[], [], []⟩

theorem fixed_le_estimate (s : State) (x : PowerSample) : s.fixedPower ≤ s.estimate x := Nat.le_add_left _ _
theorem peak_of_zero (v d n : Nat) (h : v = 0) (k : 0 < n) : 10 ^ 6 * v * d < n := by simpa [h] using k
theorem test_peak : 10 ^ 6 * capped.fld F.PWR_CAP_peak_limit * pwrDen < capped.estimate noWork :=
  peak_of_zero _ _ _ (by decide +kernel) (Nat.lt_of_lt_of_le (by decide +kernel) (fixed_le_estimate capped noWork))
theorem test_capped : capped.critDie 0 = false ∧ capped.flag F.PWR_CTRL_cap_en = true := by decide +kernel
theorem test_average (p : Nat) : (nextAverage (0, 0) p 1).1 ≤ 10 ^ 6 * capped.fld F.PWR_CAP_cap_set * (nextAverage (0, 0) p 1).2 := by
  simp [nextAverage, reduce]

/-- A package with the capping loop on whose weights are all zero: its estimate is zero. -/
def unweighted : State := (List.range 14).foldl (fun s k => s.setFld F.PWR_W_k_weight 0 (4 * k)) { up.setFld F.PWR_CTRL_cap_en 1 with pwr := capped.pwr }

theorem weightless (s : State) (x : PowerSample) (h : ∀ k, k < 14 → s.weight k = 0) : s.estimate x = 0 := by
  have z : ∀ l : List Nat, (l.map fun _ => 0).foldl (· + ·) 0 = 0 := by intro l; induction l with
    | nil => rfl
    | cons a l ih => rw [List.map_cons, List.foldl_cons]; exact ih
  have r : ∀ n : Nat, (List.replicate n 0).foldl (· + ·) 0 = 0 := by intro n; induction n with
    | zero => rfl
    | succ n ih => rw [List.replicate_succ, List.foldl_cons]; exact ih
  have w9 := h 9 (by decide)
  have w10 := h 10 (by decide)
  have w11 := h 11 (by decide)
  have w12 := h 12 (by decide)
  have w13 := h 13 (by decide)
  have d : ∀ c, s.dynamic c = 0 := by
    intro c
    have : ((List.range 9).map fun k => nth c k 0 * s.weight k) = (List.range 9).map fun _ => 0 :=
      List.map_congr_left fun k hk => by rw [h k (by have := List.mem_range.mp hk; omega), Nat.mul_zero]
    simp only [State.dynamic, this, z]
  simp [State.estimate, State.diePower, State.dieLeak, State.fixedPower, leakPower, dynPower, d, w9, w10, w11, w12, w13, z, r]
theorem test_below_peak : unweighted.estimate noWork ≤ 10 ^ 6 * unweighted.fld F.PWR_CAP_peak_limit * pwrDen := by
  rw [weightless unweighted noWork (by decide +kernel)]; exact Nat.zero_le _

/-- A facet without work asked to gate, one gated and asked to ungate, one that ungates. -/
def gates (n : Nat) : State := up.modFac 5 fun x => { x with gated := n }

theorem test_gates : ((gates 1).fac 5).gatable = true ∧ ((gates 4).ungateOrder (5 / 36) fun x => decide (x.gated = 4)).head? = some 5 ∧
    ((dieFacets (5 / 36)).filter fun g => decide (((gates 4).fac g).gated = 3)).length < (gates 4).fld F.PWR_SHUT_ungate_inflight ∧
    ((got (execShutterUngateDone 5 (gates 3))).fac 5).gated = 0 ∧ up.facets.length = 72 ∧ up.pwr.target.length = 2 ∧ up.pwr.limit.length = 2 ∧
    up.pwr.release.length = 2 ∧ up.pwr.chosen.length = 2 := by decide +kernel

/-- The die chose its idle phase once before; a target of point 3; an allowed sleep of 150 µs; a sleeping package. -/
def chosen : State := { up.setFld F.PWR_OPP_ph_point 3 20 with pwr := { up.pwr with chosen := [some 5, none], target := [some 3, none] } }
def sleepy : State := ((up.setFld F.PWR_LTR_tolerance 150).setFld F.PWR_STATE_max_state 4)

theorem test_points : up.diePhase 0 = 5 ∧ chosen.diePhase 0 = 5 ∧ nth up.pwr.chosen 0 none ≠ some 5 ∧ chosen.pstate = 0 ∧
    min (chosen.phasePoint 5) (nth chosen.pwr.limit 0 7) = 3 ∧ chosen.fld (pointField 0) ≠ 3 ∧ nth up.pwr.target 0 none = none := by decide +kernel
theorem test_sleep : sleepy.idle = true ∧ sleepy.deepest = 3 ∧ sleepy.pstate = 0 ∧ sleepy.keptAwake = false ∧ (sleepy.fac 9).gatable = true ∧ up.deepest = 0 ∧
    ((got (execWake ((gates 2).setFld F.PWR_STATE_state 3))).fac 5).gated = 4 := by decide +kernel
theorem test_sensor : atLeast (16 * 110) (up.fld F.PWR_THERM_crit) = true ∧ up.pwr.crit = [] ∧ up.pwr.hot = [] ∧ atLeast (16 * 110) (up.fld F.PWR_THERM_throttle) = true ∧
    atLeast 0 (up.fld F.PWR_THERM_throttle) = false ∧ atLeast (16 * 110) (up.fld F.PWR_THERM_stack_throttle) = true ∧
    (got (execThermalSensorUpdate 20 (16 * 110) up)).fld F.PWR_SHUT_STATUS_skip1 = 12 := by decide +kernel
theorem test_throttle : inGroup 0 [3] = true ∧ up.critDie 0 = false ∧ nth up.pwr.limit 0 7 = 7 ∧
    nth ({ up with pwr := { up.pwr with limit := [3, 7], release := [9, 0] } } : State).pwr.limit 0 7 < 7 ∧ inGroup 0 up.pwr.hot = false := by decide +kernel
theorem test_trip : (got (execThermalTrip 3 up)).pins.thermTripN = false ∧ (got (execThermalTrip 3 up)).flag F.GLB_STATUS_fatal = true := by decide +kernel

/-! ### Rules stated whole -/

def busyFacet : State := up.modFac 3 fun x => { x with sq := { x.sq with running := true } }

theorem test_busy_facet : busyFacet.grants .boot (fctOff 3 8) ∧ (busyFacet.sqr 3).running = true ∧
    (got (execContextLoad (.reg .boot) 3 1 busyFacet)).fld F.FCT_CTX_STATUS_status (0x40000 * 3) = 0x12 := by decide +kernel
theorem test_drop_policy : (up.policy 0).mode ≠ 1 := by decide +kernel
/-- Outcome 0b10 of slot 0 beside 0b11 of slot 1 becomes 0b01 beside 0b11. -/
theorem test_spill_outcomes (i : Nat) : 13 / 4 ^ i % 4 = if 14 / 4 ^ i % 4 = 2 then 1 else 14 / 4 ^ i % 4 := by
  match i with
  | 0 => decide
  | 1 => decide
  | i + 2 =>
    have h : 16 ≤ 4 ^ (i + 2) := by rw [Nat.pow_add]; have := Nat.one_le_pow i 4 (by decide); omega
    rw [Nat.div_eq_of_lt (by omega), Nat.div_eq_of_lt (by omega)]; rfl

/-! ### Well-formedness: a term for each check, which the check refuses -/

def nine : List Nat := List.replicate 9 0
def okTileMeet : TileMeet := ⟨0, 0, none, false⟩
def badTileMeet : TileMeet := { okTileMeet with residue := 3 }
def okCandPacket : CandPacket := ⟨0, 0, 0, 0, 0, 0, 0, 0, []⟩
def badCandPacket : CandPacket := { okCandPacket with die := 2 }
def okChoice : Choice := ⟨0, 0, 0⟩
def badChoice : Choice := { okChoice with expert := 2 ^ 16 }
def okDispRec : DispRec := ⟨0, .drop, 0, 0, 0, 0, 0, 0, 0, 0, 0, 0, [], [], [], false⟩
def badDispRec : DispRec := { okDispRec with ctx := 2 ^ 4 }
def okEndRec : EndRec := ⟨0, 0, 0, 0, 0, 0⟩
def badEndRec : EndRec := { okEndRec with ctx := 2 ^ 4 }
def okAckRec : AckRec := ⟨0, 0, 0, 0, 0, 0, 0, [], 0⟩
def badAckRec : AckRec := { okAckRec with ctx := 2 ^ 8 }
def okReturnRec : ReturnRec := ⟨0, 0, 0, 0, 0, 0, 0, 0, 0, false, [], []⟩
def badReturnRec : ReturnRec := { okReturnRec with ctx := 2 ^ 8 }
def okKvmRec : KvmRec := ⟨false, 0, 0, 0, 0, 0, 0, false⟩
def badKvmRec : KvmRec := { okKvmRec with ctx := 2 ^ 4 }
def okSubmitRec : SubmitRec := ⟨false, false, false, false, 0, 0, 0, 0, 0, 0, 0, 0, 0, 0, 0, 0, 0, 0, 0, false⟩
def badSubmitRec : SubmitRec := { okSubmitRec with ctx := 2 ^ 4 }
def okTrainRec : TrainRec := ⟨0, 0, 0, 0, 0, 0, false⟩
def badTrainRec : TrainRec := { okTrainRec with pool := 2 ^ 8 }
def okGenRec : GenRec := ⟨0, 0, 0, 0, 0, 0, 0, false⟩
def badGenRec : GenRec := { okGenRec with home := 2 ^ 8 }
def okShardRec : ShardRec := ⟨0, .hostMem, 0, 0, 0, false⟩
def badShardRec : ShardRec := { okShardRec with tier := 2 ^ 2 }
def okFetchRec : FetchRec := ⟨.hostMem, 0, 0, 0, 0, false⟩
def badFetchRec : FetchRec := { okFetchRec with dst := 2 ^ 64 }
def okFrameTag : FrameTag := ⟨0, 0, false, false, 0, 0, false, false, false, false, 0, 0, 0, false, false⟩
def badFrameTag : FrameTag := { okFrameTag with fpos := 2 ^ 12 }
def okPktHdr : PktHdr := ⟨0, 0, 0, 0, false, 0, 0, 0, 0, 0, 0, 0, false⟩
def badPktHdr : PktHdr := { okPktHdr with dst := 2 ^ 8 }
def okMemReq : MemReq := ⟨0, 0, 0, false, 0, 0, [], false, false⟩
def badMemReq : MemReq := { okMemReq with addr := 2 ^ 64 }
def okBulkReq : BulkReq := ⟨0, 0, 0, 0, [], []⟩
def badBulkReq : BulkReq := { okBulkReq with addr := 2 ^ 64 }
def okRespBody : RespBody := ⟨0, 0, 0, 0, [], false⟩
def badRespBody : RespBody := { okRespBody with status := 2 ^ 8 }
def okGwEntry : GwEntry := ⟨0, 0, 0, 0, 0, 0, 0, 0, 0, 0, 0, false, [], false⟩
def badGwEntry : GwEntry := { okGwEntry with op := 2 ^ 8 }
def okTdVector : TdVector := ⟨0, 0, 0, 0, false⟩
def badTdVector : TdVector := { okTdVector with nonce := 2 ^ 32 }
def okHbMsg : HbMsg := ⟨0, 0, 0, 0⟩
def badHbMsg : HbMsg := { okHbMsg with count := 2 ^ 32 }
def okMirEntry : MirEntry := ⟨0, false, 0, 0, 0, 0, 0, 0, []⟩
def badMirEntry : MirEntry := { okMirEntry with kind := 2 ^ 8 }
def okRecoverRec : RecoverRec := ⟨0, 0, 0, 0, false⟩
def badRecoverRec : RecoverRec := { okRecoverRec with ctx := 2 ^ 8 }
def okAdoptRec : AdoptRec := ⟨0, 0, 0, false⟩
def badAdoptRec : AdoptRec := { okAdoptRec with ctx := 2 ^ 8 }
def okPowerSample : PowerSample := ⟨nine, nine, nine⟩
def badPowerSample : PowerSample := { okPowerSample with counts0 := [] }
def okSessMsg : SessMsg := ⟨0, 0, 0, 0, 0⟩
def badSessMsg : SessMsg := { okSessMsg with status := 2 ^ 8 }
def okBar4Access : Bar4Access := ⟨false, 0, 0, []⟩
def badBar4Access : Bar4Access := { okBar4Access with off := 2 ^ 38 }
def okMctpReq : MctpReq := ⟨0, 0, false⟩
def badMctpReq : MctpReq := { okMctpReq with eid := 2 ^ 8 }
def okNocFlit : NocFlit := ⟨0, 0, 0, 0, 0, 0, 0, 0, 0⟩
def badNocFlit : NocFlit := { okNocFlit with vc := 6 }
def okRdmaResp : RdmaResp := ⟨0, 0, false, false, false, []⟩
def badRdmaResp : RdmaResp := { okRdmaResp with port := 2 }
def okIdentFrame : IdentFrame := ⟨0, 0, 0, false⟩
def badIdentFrame : IdentFrame := { okIdentFrame with package := 2 ^ 8 }

theorem test_wf_records0 : okTileMeet.wf = true ∧ (([{ okTileMeet with residue := 3 }, { okTileMeet with cu := 16 }, { okTileMeet with sramCe := some (2 ^ 16) }] : List TileMeet).all fun r => !r.wf) = true ∧
    okCandPacket.wf = true ∧ (([{ okCandPacket with die := 2 }, { okCandPacket with ctx := 16 }, { okCandPacket with step := 2 ^ 32 }, { okCandPacket with layer := 2 ^ 16 }, { okCandPacket with facet := 72 }, { okCandPacket with token := 2 ^ 32 }, { okCandPacket with 2 := 2 ^ 16 }, { okCandPacket with pairs := [(2 ^ 32, 0)] }] ++
      [{ okCandPacket with pairs := [(0, 2 ^ 16)] }] : List CandPacket).all fun r => !r.wf) = true ∧
    okChoice.wf = true ∧ (([{ okChoice with expert := 2 ^ 16 }, { okChoice with loc := 2 ^ 16 }, { okChoice with slot := 2 ^ 8 }] : List Choice).all fun r => !r.wf) = true ∧
    okDispRec.wf = true ∧ (([{ okDispRec with ctx := 2 ^ 4 }, { okDispRec with fmt := 2 ^ 8 }, { okDispRec with layer := 2 ^ 16 }, { okDispRec with generation := 2 ^ 16 }, { okDispRec with step := 2 ^ 32 }, { okDispRec with home := 144 }, { okDispRec with base := 2 ^ 8 }, { okDispRec with c := 2 ^ 8 }] ++
      [{ okDispRec with token := 2 ^ 32 }, { okDispRec with nblk := 2 ^ 16 }, { okDispRec with cap := 2 ^ 16 }, { okDispRec with choices := List.replicate 17 okChoice }, { okDispRec with choices := [{ okChoice with loc := 2 ^ 16 }] }, { okDispRec with nblk := 1 }] : List DispRec).all fun r => !r.wf) = true ∧
    okEndRec.wf = true ∧ (([{ okEndRec with ctx := 2 ^ 4 }, { okEndRec with layer := 2 ^ 16 }, { okEndRec with generation := 2 ^ 16 }, { okEndRec with step := 2 ^ 32 }, { okEndRec with home := 144 }, { okEndRec with count := 2 ^ 32 }] : List EndRec).all fun r => !r.wf) = true ∧
    okAckRec.wf = true ∧ (([{ okAckRec with ctx := 2 ^ 8 }, { okAckRec with layer := 2 ^ 16 }, { okAckRec with generation := 2 ^ 16 }, { okAckRec with step := 2 ^ 32 }, { okAckRec with owner := 144 }, { okAckRec with token := 2 ^ 32 }, { okAckRec with status := 2 ^ 8 }, { okAckRec with outcomes := 2 ^ 32 }] ++
      [{ okAckRec with slots := [16] }] : List AckRec).all fun r => !r.wf) = true ∧
    okReturnRec.wf = true ∧ (([{ okReturnRec with ctx := 2 ^ 8 }, { okReturnRec with layer := 2 ^ 16 }, { okReturnRec with generation := 2 ^ 16 }, { okReturnRec with step := 2 ^ 32 }, { okReturnRec with owner := 144 }, { okReturnRec with token := 2 ^ 32 }, { okReturnRec with slot := 2 ^ 8 }, { okReturnRec with expert := 2 ^ 16 }] ++
      [{ okReturnRec with nblk := 2 ^ 16 }, { okReturnRec with nblk := 1 }] : List ReturnRec).all fun r => !r.wf) = true := by decide +kernel

theorem test_wf_records1 : okKvmRec.wf = true ∧ (([{ okKvmRec with ctx := 2 ^ 4 }, { okKvmRec with slot := 2 ^ 18 }, { okKvmRec with slot2 := 2 ^ 18 }, { okKvmRec with ttl := 2 ^ 32 }, { okKvmRec with handle := 2 ^ 64 }, { okKvmRec with tenant := 2 ^ 12 }] : List KvmRec).all fun r => !r.wf) = true ∧
    okSubmitRec.wf = true ∧ (([{ okSubmitRec with ctx := 2 ^ 4 }, { okSubmitRec with draftCtx := 2 ^ 4 }, { okSubmitRec with draftD := 2 ^ 8 }, { okSubmitRec with slot := 2 ^ 18 }, { okSubmitRec with draftSlot := 2 ^ 18 }, { okSubmitRec with promptLen := 2 ^ 32 }, { okSubmitRec with maxNew := 2 ^ 32 }, { okSubmitRec with stop0 := 2 ^ 32 }] ++
      [{ okSubmitRec with stop1 := 2 ^ 32 }, { okSubmitRec with tenant := 2 ^ 12 }, { okSubmitRec with notifyEvery := 2 ^ 16 }, { okSubmitRec with promptAddr := 2 ^ 64 }, { okSubmitRec with outAddr := 2 ^ 64 }, { okSubmitRec with seed := 2 ^ 64 }, { okSubmitRec with reqTag := 2 ^ 64 }] : List SubmitRec).all fun r => !r.wf) = true ∧
    okTrainRec.wf = true ∧ (([{ okTrainRec with pool := 2 ^ 8 }, { okTrainRec with ctx := 2 ^ 4 }, { okTrainRec with nslots := 2 ^ 32 }, { okTrainRec with prog := 2 ^ 64 }, { okTrainRec with xregs := 2 ^ 64 }, { okTrainRec with slots := 2 ^ 64 }] : List TrainRec).all fun r => !r.wf) = true ∧
    okGenRec.wf = true ∧ (([{ okGenRec with home := 2 ^ 8 }, { okGenRec with ctx := 2 ^ 8 }, { okGenRec with generation := 2 ^ 16 }, { okGenRec with routeTbl := 2 ^ 64 }, { okGenRec with decodeProg := 2 ^ 64 }, { okGenRec with prefillProg := 2 ^ 64 }, { okGenRec with maxPositions := 2 ^ 32 }] : List GenRec).all fun r => !r.wf) = true ∧
    okShardRec.wf = true ∧ (([{ okShardRec with tier := 2 ^ 2 }, { okShardRec with ctx := 2 ^ 4 }, { okShardRec with entryAddr := 2 ^ 64 }, { okShardRec with srcAddr := 2 ^ 64 }, { okShardRec with source := .storage 2 0 0 }] : List ShardRec).all fun r => !r.wf) = true ∧
    okFetchRec.wf = true ∧ (([{ okFetchRec with dst := 2 ^ 64 }, { okFetchRec with srcAddr := 2 ^ 64 }, { okFetchRec with length := 2 ^ 32 }, { okFetchRec with digestAddr := 2 ^ 64 }, { okFetchRec with source := .storage 0 64 0 }] : List FetchRec).all fun r => !r.wf) = true ∧
    okFrameTag.wf = true ∧ (([{ okFrameTag with fpos := 2 ^ 12 }, { okFrameTag with ack := 2 ^ 12 }, { okFrameTag with vc := 2 ^ 3 }, { okFrameTag with phase := 2 ^ 3 }, { okFrameTag with crVc := 2 ^ 3 }, { okFrameTag with crPhase := 2 ^ 3 }, { okFrameTag with crCount := 2 ^ 6 }] : List FrameTag).all fun r => !r.wf) = true := by decide +kernel

theorem test_wf_records2 : okPktHdr.wf = true ∧ (([{ okPktHdr with dst := 2 ^ 8 }, { okPktHdr with src := 2 ^ 8 }, { okPktHdr with ptype := 2 ^ 8 }, { okPktHdr with vc := 2 ^ 3 }, { okPktHdr with seq := 2 ^ 32 }, { okPktHdr with job := 2 ^ 16 }, { okPktHdr with epoch := 2 ^ 16 }, { okPktHdr with rtag := 2 ^ 32 }] ++
      [{ okPktHdr with via := 2 ^ 8 }, { okPktHdr with hops := 2 ^ 8 }, { okPktHdr with flits := 2 ^ 16 }] : List PktHdr).all fun r => !r.wf) = true ∧
    okMemReq.wf = true ∧ (([{ okMemReq with addr := 2 ^ 64 }, { okMemReq with len := 2 ^ 16 }, { okMemReq with aop := 2 ^ 8 }, { okMemReq with opnd0 := 2 ^ 64 }, { okMemReq with opnd1 := 2 ^ 64 }, { okMemReq with data := List.replicate 257 0 }] : List MemReq).all fun r => !r.wf) = true ∧
    okBulkReq.wf = true ∧ (([{ okBulkReq with addr := 2 ^ 64 }, { okBulkReq with len := 2 ^ 32 }, { okBulkReq with retAddr := 2 ^ 64 }, { okBulkReq with off := 2 ^ 32 }, { okBulkReq with poison := [16] }] : List BulkReq).all fun r => !r.wf) = true ∧
    okRespBody.wf = true ∧ (([{ okRespBody with status := 2 ^ 8 }, { okRespBody with kind := 2 ^ 8 }, { okRespBody with addr := 2 ^ 64 }, { okRespBody with old := 2 ^ 64 }, { okRespBody with data := List.replicate 257 0 }] : List RespBody).all fun r => !r.wf) = true ∧
    okGwEntry.wf = true ∧ (([{ okGwEntry with op := 2 ^ 8 }, { okGwEntry with aux := 2 ^ 8 }, { okGwEntry with src := 2 ^ 8 }, { okGwEntry with dst := 2 ^ 8 }, { okGwEntry with rtag := 2 ^ 32 }, { okGwEntry with addr := 2 ^ 64 }, { okGwEntry with len := 2 ^ 16 }, { okGwEntry with job := 2 ^ 16 }] ++
      [{ okGwEntry with seq := 2 ^ 32 }, { okGwEntry with opnd0 := 2 ^ 64 }, { okGwEntry with opnd1 := 2 ^ 64 }] : List GwEntry).all fun r => !r.wf) = true ∧
    okTdVector.wf = true ∧ (([{ okTdVector with nonce := 2 ^ 32 }, { okTdVector with job := 2 ^ 16 }, { okTdVector with reason := 2 ^ 8 }, { okTdVector with dead := 2 ^ 144 }] : List TdVector).all fun r => !r.wf) = true ∧
    okHbMsg.wf = true ∧ (([{ okHbMsg with count := 2 ^ 32 }, { okHbMsg with state := 2 ^ 8 }, { okHbMsg with appliance := 2 ^ 64 }, { okHbMsg with lost := 2 ^ 144 }] : List HbMsg).all fun r => !r.wf) = true := by decide +kernel

theorem test_wf_records3 : okMirEntry.wf = true ∧ (([{ okMirEntry with kind := 2 ^ 8 }, { okMirEntry with ctx := 2 ^ 8 }, { okMirEntry with slot := 2 ^ 32 }, { okMirEntry with page := 2 ^ 32 }, { okMirEntry with first := 2 ^ 16 }, { okMirEntry with n := 2 ^ 16 }, { okMirEntry with group := 2 ^ 32 }] : List MirEntry).all fun r => !r.wf) = true ∧
    okRecoverRec.wf = true ∧ (([{ okRecoverRec with ctx := 2 ^ 8 }, { okRecoverRec with nextDecode := 2 ^ 32 }, { okRecoverRec with nextPrefill := 2 ^ 32 }, { okRecoverRec with dead := 2 ^ 144 }] : List RecoverRec).all fun r => !r.wf) = true ∧
    okAdoptRec.wf = true ∧ (([{ okAdoptRec with ctx := 2 ^ 8 }, { okAdoptRec with source := 2 ^ 8 }, { okAdoptRec with resultAddr := 2 ^ 64 }] : List AdoptRec).all fun r => !r.wf) = true ∧
    okPowerSample.wf = true ∧ (([{ okPowerSample with counts0 := [] }, { okPowerSample with counts1 := [] }, { okPowerSample with countsIod := [] }] : List PowerSample).all fun r => !r.wf) = true ∧
    okSessMsg.wf = true ∧ (([{ okSessMsg with status := 2 ^ 8 }, { okSessMsg with session := 2 ^ 16 }, { okSessMsg with tag := 2 ^ 32 }, { okSessMsg with args := 2 ^ 64 }, { okSessMsg with body := 2 ^ 896 }] : List SessMsg).all fun r => !r.wf) = true ∧
    okBar4Access.wf = true ∧ (([{ okBar4Access with off := 2 ^ 38 }, { okBar4Access with len := 1, write := true }] : List Bar4Access).all fun r => !r.wf) = true ∧
    okMctpReq.wf = true ∧ (([{ okMctpReq with eid := 2 ^ 8 }, { okMctpReq with dest := 2 ^ 8 }] : List MctpReq).all fun r => !r.wf) = true := by decide +kernel

theorem test_wf_records4 : okNocFlit.wf = true ∧ (([{ okNocFlit with vc := 6 }, { okNocFlit with srcDie := 3 }, { okNocFlit with dstDie := 3 }] : List NocFlit).all fun r => !r.wf) = true ∧
    okRdmaResp.wf = true ∧ (([{ okRdmaResp with port := 2 }, { okRdmaResp with qp := 64 }] : List RdmaResp).all fun r => !r.wf) = true ∧
    okIdentFrame.wf = true ∧ (([{ okIdentFrame with package := 2 ^ 8 }, { okIdentFrame with port := 2 ^ 8 }, { okIdentFrame with appliance := 2 ^ 64 }] : List IdentFrame).all fun r => !r.wf) = true := by decide +kernel

theorem test_wf_sources : (Originator.smbus 256).wf = false ∧ (Originator.remote 144).wf = false ∧ (CmdOrigin.queue 1024 0).wf = false ∧
    (CmdOrigin.queue 0 (2 ^ 64)).wf = false ∧ (CtxSource.reg (.remote 144)).wf = false ∧ (HopPlace.input 35 0).wf = false ∧ (HopPlace.input 0 8).wf = false ∧
    (HopPlace.output 35 0).wf = false ∧ (HopPlace.output 0 8).wf = false ∧ (LoadSource.storage 2 0 0).wf = false ∧ (LoadSource.storage 0 64 0).wf = false ∧
    (LoadSource.storage 0 0 (2 ^ 32)).wf = false := by decide
theorem test_wf_choices : (HostReadUse.sqEntry 1024).wf = false ∧ (HostReadUse.prompt 262144).wf = false ∧ (MctpOther.control 256).wf = false ∧
    (MctpOther.pldm 64 0).wf = false ∧ (MctpOther.pldm 0 256).wf = false ∧ (MctpOther.vendorKind 256).wf = false ∧ (MctpOther.messageType 128).wf = false ∧
    (FenceCause.auto 256).wf = false ∧ (FenceCause.command (.smbus 256)).wf = false ∧ (TdArrival.port 12).wf = false ∧ (TdArrival.window (.remote 144)).wf = false := by decide
theorem test_wf_places : (NocPlace.mesh 3 0 0 0).wf = false ∧ (NocPlace.mesh 0 0 6 0).wf = false ∧ (NocPlace.mesh 0 0 0 2).wf = false ∧ (NocPlace.d2d 3 0 0).wf = false ∧
    (NocPlace.d2d 0 0 2).wf = false ∧ (NocPlace.inject 3 0 0 0 none).wf = false ∧ (NocPlace.inject 0 0 0 0 (some badNocFlit)).wf = false := by decide
theorem test_wf_long (l : List Byte) (h : l.length = 4097) : ({ okBulkReq with data := l } : BulkReq).wf = false ∧ ({ okRdmaResp with data := l } : RdmaResp).wf = false := by
  simp [BulkReq.wf, RdmaResp.wf, h]

/-- Whether every command of a list is ill formed. -/
def illFormed (l : List Instr) : Bool := l.all fun c => !c.wf

theorem test_wf_commands0 : illFormed [.registerWrite (.smbus 256) 0 4 0 0, .registerWrite .host 0x4000000 4 0 0, .registerWrite .host 0 3 0 0, .registerWrite .host 0 4 (2 ^ 8) 0, .registerWrite .host 0 4 0 (2 ^ 64), .irregularRegisterRead (.smbus 256) 0 4 0, .irregularRegisterRead .host 0x4000000 4 0, .irregularRegisterRead .host 0 3 0, .irregularRegisterRead .host 0 4 (2 ^ 8), .counterLoRead (.smbus 256) 0, .counterLoRead .host 0x4000000, .counterClear (.smbus 256) 0] = true ∧
    illFormed [.counterClear .host (2 ^ 32), .unitFire 72 0, .unitFire 0 24, .cuResult 72 0, .cuResult 0 24, .agFire 72 0 0, .agFire 0 8 0, .agFire 0 0 4, .entryHop 72 .vector (.input 0 0), .entryHop 0 .vector (.input 35 0), .steerPair 72 0, .steerPair 0 35] = true ∧
    illFormed [.deadlockDetect 72 1, .deadlockDetect 0 0, .deadlockDetect 0 8, .spillComplete 72, .spillRefill 72 0, .spillRefill 0 192, .contextLoad (.reg (.smbus 256)) 0 0, .contextLoad .sequencer 72 0, .contextLoad .sequencer 0 4, .contextLoadDone 72, .contextSwitch (.reg (.smbus 256)) 0 0, .contextSwitch .sequencer 72 0] = true ∧
    illFormed [.contextSwitch .sequencer 0 4, .contextSwitchEffect 72, .contextInvalidate (.reg (.smbus 256)) 0 0, .contextInvalidate .sequencer 72 0, .contextInvalidate .sequencer 0 4, .contextWindowWrite (.smbus 256) 0 0 0 0, .contextWindowWrite .host 72 0 0 0, .contextWindowWrite .host 0 4 0 0, .contextWindowWrite .host 0 0 4096 0, .contextWindowWrite .host 0 0 0 (2 ^ 32), .fctSpillWrite (.smbus 256) 0 0, .fctSpillWrite .host 72 0] = true ∧
    illFormed [.fctSpillWrite .host 0 (2 ^ 32), .scanOut (.smbus 256) 0 false, .scanOut .host 72 false, .scanIn (.smbus 256) 0, .scanIn .host 72, .scanRelease (.smbus 256) 0, .scanRelease .host 72, .scanTransferDone 72, .descriptorWindowWrite (.smbus 256) 0 0 0 0, .descriptorWindowWrite .host 72 0 0 0, .descriptorWindowWrite .host 0 8 0 0, .descriptorWindowWrite .host 0 0 0x800 0] = true := by decide +kernel

theorem test_wf_commands1 : illFormed [.descriptorWindowWrite .host 0 0 0 (2 ^ 32), .launchStart 2, .matmul 72, .gatedFfn 72, .attention 72, .gateCand 72, .copyTile 72, .setx 72, .loadx 72, .barrier 72, .endInstr 72, .barrierRelease 72] = true ∧
    illFormed [.tileClaim 72, .tileFinish 72 okTileMeet, .tileFinish 0 badTileMeet, .tileReport 72, .tileReturn 72, .tileCounterReset (.smbus 256) 0, .tileCounterReset .host 64, .standDownRequest 72 .shutter, .facetJoinPool 72, .reticleSampleDone 2 ⟨true, 0, 0, true⟩, .forceFallback (.smbus 256) 0 0, .forceFallback .host 16 0] = true ∧
    illFormed [.forceFallback .host 0 (2 ^ 8), .restoreLayer (.smbus 256) 0 0, .restoreLayer .host 16 0, .restoreLayer .host 0 (2 ^ 8), .clearLayer (.smbus 256) 0 0, .clearLayer .host 16 0, .clearLayer .host 0 (2 ^ 8), .candidatePacket badCandPacket, .dispatchRec badDispRec, .spillRec badDispRec, .ackRec badAckRec, .layerEndSend 16 0 0] = true ∧
    illFormed [.layerEndSend 0 (2 ^ 32) 0, .layerEndSend 0 0 (2 ^ 16), .endRecord badEndRec, .returnRowWritten 16 0 0 0 0 0, .returnRowWritten 0 (2 ^ 32) 0 0 0 0, .returnRowWritten 0 0 (2 ^ 16) 0 0 0, .returnRowWritten 0 0 0 (2 ^ 16) 0 0, .returnRowWritten 0 0 0 0 (2 ^ 16) 0, .returnRowWritten 0 0 0 0 0 (2 ^ 16), .returnRec badReturnRec, .closeTimeout 16 0 0, .closeTimeout 0 (2 ^ 32) 0] = true ∧
    illFormed [.closeTimeout 0 0 (2 ^ 16), .returnTimeout 16 0 0 0, .returnTimeout 0 (2 ^ 32) 0 0, .returnTimeout 0 0 (2 ^ 16) 0, .returnTimeout 0 0 0 (2 ^ 32), .publish (.queue 1024 0) okKvmRec, .publish .boot badKvmRec, .takeUp (.queue 1024 0) okKvmRec, .takeUp .boot badKvmRec, .retire (.queue 1024 0) okKvmRec, .retire .boot badKvmRec, .fork (.queue 1024 0) okKvmRec] = true := by decide +kernel

theorem test_wf_commands2 : illFormed [.fork .boot badKvmRec, .freeSeq (.queue 1024 0) okKvmRec, .freeSeq .boot badKvmRec, .pause (.queue 1024 0) okKvmRec, .pause .boot badKvmRec, .pauseMoveDone 262144, .resume (.queue 1024 0) okKvmRec, .resume .boot badKvmRec, .resumeMoveDone 262144, .touch (.queue 1024 0) okKvmRec, .touch .boot badKvmRec, .kvmExpiredRead (.smbus 256)] = true ∧
    illFormed [.invalidateAll (.smbus 256), .invalidateContext (.smbus 256) 0, .invalidateContext .host 16, .invalidateRange (.smbus 256) 0, .invalidateRange .host (2 ^ 32), .submit (.queue 1024 0) okSubmitRec, .submit .boot badSubmitRec, .cancel (.queue 1024 0) okSubmitRec, .cancel .boot badSubmitRec, .stepBuild 16 0, .stepBuild 0 2, .stepCensus 144 0 0 0 0] = true ∧
    illFormed [.stepCensus 0 (2 ^ 32) 0 0 0, .stepCensus 0 0 16 0 0, .stepCensus 0 0 0 (2 ^ 32) 0, .stepCensus 0 0 0 0 (2 ^ 32), .censusTimeout 16 0, .censusTimeout 0 2, .stepLaunchWrite 16 0, .stepLaunchWrite 0 2, .idleWaitExpire 16 0, .idleWaitExpire 0 2, .draftPassNext 16, .stepCommit 16 0] = true ∧
    illFormed [.stepCommit 0 2, .trainLaunch (.queue 1024 0) okTrainRec, .trainLaunch .boot badTrainRec, .trainLaunchEnd 16, .stageGen (.queue 1024 0) okGenRec, .stageGen .boot badGenRec, .activateGen (.queue 1024 0) okGenRec, .activateGen .boot badGenRec, .retireGen (.queue 1024 0) okGenRec, .retireGen .boot badGenRec, .tier2TrainingDone (2 ^ 8) false, .tierScrubRead 1 (2 ^ 40) 0] = true ∧
    illFormed [.tierScrubRead 1 0 (2 ^ 8), .condenserFillStart 72, .unitFillDone 72, .loadCtx (.queue 1024 0) okGenRec, .loadCtx .boot badGenRec, .unloadCtx (.queue 1024 0) 0 false, .unloadCtx .boot (2 ^ 8) false, .promote (.queue 1024 0) 0 false, .promote .boot (2 ^ 8) false, .promoteCopyDone 16, .demote (.queue 1024 0) 0 false, .demote .boot (2 ^ 8) false] = true := by decide +kernel

theorem test_wf_commands3 : illFormed [.demoteComplete 16, .preempt (.queue 1024 0) 0 false, .preempt .boot (2 ^ 8) false, .preemptComplete 16, .creditReservationReturn 16, .acquire (.queue 1024 0) 0 0 false false, .acquire .boot (2 ^ 8) 0 false false, .acquire .boot 0 (2 ^ 16) false false, .release (.queue 1024 0) 0 0 false, .release .boot (2 ^ 8) 0 false, .release .boot 0 (2 ^ 16) false, .semHorizonExpire (2 ^ 16)] = true ∧
    illFormed [.loadShard (.queue 1024 0) okShardRec, .loadShard .boot badShardRec, .rdmaReadResponse badRdmaResp, .fetch (.queue 1024 0) okFetchRec, .fetch .boot badFetchRec, .shdBadRead (.smbus 256), .linkDetect 12 0, .linkDetect 0 (2 ^ 16), .linkEqualiseDone 12, .linkLockDone 12, .linkTrainFail 12, .identSendTick 12] = true ∧
    illFormed [.ident 12 okIdentFrame, .ident 0 badIdentFrame, .dataFlitReceive 12 okFrameTag okPktHdr, .dataFlitReceive 0 badFrameTag okPktHdr, .dataFlitReceive 0 okFrameTag badPktHdr, .retrainReq 12 0, .retrainReq 0 (2 ^ 8), .lockLoss 12, .portRetrain (.smbus 256) 0, .portRetrain .host 12, .retrainLimitExpire 12, .laneErrorWindow 12 [] 0] = true ∧
    illFormed [.laneErrorWindow 0 [] (2 ^ 16), .packetForward 12 okPktHdr, .packetForward 0 badPktHdr, .fabLoad badPktHdr okMemReq, .fabLoad okPktHdr badMemReq, .fabStore badPktHdr okMemReq, .fabStore okPktHdr badMemReq, .fabAtomic badPktHdr okMemReq, .fabAtomic okPktHdr badMemReq, .fabResponse badPktHdr okRespBody, .fabResponse okPktHdr badRespBody, .bulkWrite badPktHdr okBulkReq] = true ∧
    illFormed [.bulkWrite okPktHdr badBulkReq, .bulkRead badPktHdr okBulkReq, .bulkRead okPktHdr badBulkReq, .bulkData badPktHdr okBulkReq, .bulkData okPktHdr badBulkReq, .gwBatch badPktHdr [], .gwBatchClose 144 0, .gwBatchClose 0 3, .homeAgentPerform 13, .e2eAck 144 0 [], .e2eAck 0 144 [], .e2eAckDelayExpire 144] = true := by decide +kernel

theorem test_wf_commands4 : illFormed [.fabFence (.smbus 256) 0, .fabFence .host (2 ^ 8), .fabricRequestTimeout (2 ^ 32), .retryBackoffExpire (2 ^ 32), .routeEpochSwitch 144, .linkState 144 0, .linkState 0 (2 ^ 16), .teardownVector (.port 12) okTdVector, .teardownVector (.port 0) badTdVector, .heartbeat 144 okHbMsg, .heartbeat 0 badHbMsg, .peerSuspectTimeout 144] = true ∧
    illFormed [.peerLostTimeout 144, .hbClear (.smbus 256) 0, .hbClear .host 144, .isolateClear (.smbus 256), .mirrorEntryApply 4 okMirEntry, .mirrorEntryApply 0 badMirEntry, .mirrorTimeout 4, .recover (.queue 1024 0) okRecoverRec, .recover .boot badRecoverRec, .adoptAll (.queue 1024 0) okAdoptRec, .adoptAll .boot badAdoptRec, .dropMirror (.queue 1024 0) 0 false] = true ∧
    illFormed [.dropMirror .boot (2 ^ 8) false, .resync (.queue 1024 0) 0 false, .resync .boot (2 ^ 8) false, .fenceFacet 72 (.auto 0), .fenceFacet 0 (.auto 256), .unfenceFacet (.smbus 256) 0, .unfenceFacet .host 72, .powerSample badPowerSample, .shutterGate 72, .shutterUngateStart 72, .shutterUngateDone 72, .oppEvaluate 2] = true ∧
    illFormed [.oppChangeComplete 2, .thermalSensorUpdate 48 0, .thermalSensorUpdate 0 (2 ^ 16), .throttleStep 2, .thermalTrip 48, .startUp 8, .packageResetCmd (.smbus 256) 0, .packageResetCmd .host (2 ^ 32), .pcieLinkUp (2 ^ 8) 0 false, .pcieLinkUp 0 (2 ^ 8) false, .beginTxn (.smbus 256), .commitTxn (.smbus 256)] = true ∧
    illFormed [.abortTxn (.smbus 256), .expertDrop (.smbus 256), .openSession (.smbus 256) okSessMsg, .openSession .host badSessMsg, .authSession (.smbus 256) okSessMsg, .authSession .host badSessMsg, .closeSession (.smbus 256) okSessMsg, .closeSession .host badSessMsg, .setDebug (.smbus 256) okSessMsg, .setDebug .host badSessMsg, .setExpert (.smbus 256) okSessMsg, .setExpert .host badSessMsg] = true := by decide +kernel

theorem test_wf_commands5 : illFormed [.keyWrite (.smbus 256) okSessMsg, .keyWrite .host badSessMsg, .keyRevoke (.smbus 256) okSessMsg, .keyRevoke .host badSessMsg, .imgkeyWrite (.smbus 256) okSessMsg, .imgkeyWrite .host badSessMsg, .imgkeyRevoke (.smbus 256) okSessMsg, .imgkeyRevoke .host badSessMsg, .svnAdvance (.smbus 256) okSessMsg, .svnAdvance .host badSessMsg, .lifecycleAdvance (.smbus 256) okSessMsg, .lifecycleAdvance .host badSessMsg] = true ∧
    illFormed [.challengeExpire 4, .sessionIdleTimeout 4, .sessionLockoutExpire 8, .jtagInstruction (2 ^ 8), .dbgBus false 0x4000000 0, .dbgBus false 0 (2 ^ 32), .loupeSelect (.smbus 256) 0, .loupeSelect .host (2 ^ 32), .sqDoorbell 1024 0, .sqDoorbell 0 (2 ^ 32), .cqDoorbell 1024 0, .cqDoorbell 0 (2 ^ 32)] = true ∧
    illFormed [.bar2IrregularAccess false (2 ^ 24) 4 0, .bar2IrregularAccess false 0 3 0, .bar2IrregularAccess false 0 4 (2 ^ 64), .sqFetch 1024 false, .sqEnable (.smbus 256) 0 0, .sqEnable .host 1024 0, .sqEnable .host 0 (2 ^ 32), .cqEnable (.smbus 256) 0 0, .cqEnable .host 1024 0, .cqEnable .host 0 (2 ^ 32), .cqCoalTimeout 1024, .bar4Access badBar4Access] = true ∧
    illFormed [.hostReadTimeout (.sqEntry 1024), .ethLinkUp 2, .qpToRts (.smbus 256) 0 0, .qpToRts .host 2 0, .qpToRts .host 0 64, .qpToReset (.smbus 256) 0 0, .qpToReset .host 2 0, .qpToReset .host 0 64, .qpRateTimer 2 0, .qpRateTimer 0 64, .setEndpointId badMctpReq 0, .setEndpointId okMctpReq (2 ^ 8)] = true ∧
    illFormed [.getEndpointId badMctpReq, .getMctpVersionSupport badMctpReq 0, .getMctpVersionSupport okMctpReq (2 ^ 8), .getMessageTypeSupport badMctpReq, .getVendorDefinedMessageSupport badMctpReq 0, .getVendorDefinedMessageSupport okMctpReq (2 ^ 8), .gettid badMctpReq, .getpldmversion badMctpReq 0, .getpldmversion okMctpReq (2 ^ 6), .getpldmtypes badMctpReq, .getpldmcommands badMctpReq 0, .getpldmcommands okMctpReq (2 ^ 6)] = true := by decide +kernel

theorem test_wf_commands6 : illFormed [.getpdrrepositoryinfo badMctpReq, .getpdr badMctpReq 0, .getpdr okMctpReq (2 ^ 32), .getsensorreading badMctpReq 0, .getsensorreading okMctpReq (2 ^ 16), .getstatesensorreadings badMctpReq 0, .getstatesensorreadings okMctpReq (2 ^ 16), .vendorRegisterRead badMctpReq 0, .vendorRegisterRead okMctpReq (2 ^ 32), .vendorRegisterWrite badMctpReq 0 0 0, .vendorRegisterWrite okMctpReq (2 ^ 32) 0 0, .vendorRegisterWrite okMctpReq 0 (2 ^ 32) 0] = true ∧
    illFormed [.vendorRegisterWrite okMctpReq 0 0 (2 ^ 32), .spiRead (.smbus 256) 0, .spiRead .host (2 ^ 16), .spiProgram (.smbus 256) 0, .spiProgram .host (2 ^ 16), .spiErase4k (.smbus 256), .spiErase64k (.smbus 256), .evtRingHeadWrite (.smbus 256) 0, .evtRingHeadWrite .host (2 ^ 32), .msixPendingSend (2 ^ 11), .nocFlitHop (.d2d 3 0 0), .frameSend 12] = true ∧
    illFormed [.promoteFrontAdvance 16 0, .promoteFrontAdvance 0 (2 ^ 32), .ethLinkDown 2, .cnpReceive 2 0, .cnpReceive 0 64, .rdmaAckTimeout 2 0, .rdmaAckTimeout 0 64, .incomingRdmaRequest 2 0, .incomingRdmaRequest 0 64, .ethFrameDiscard 2, .pfcPauseFrame 2 0 false, .pfcPauseFrame 0 8 false] = true ∧
    illFormed [.hostReadCompletion (.sqEntry 1024) [], .mctpUnsupportedCommand badMctpReq .foreignVendor, .mctpUnsupportedCommand okMctpReq (.control 256), .spillRec okDispRec, .tierScrubRead 3 0 0, .laneErrorWindow 0 (List.replicate 17 0) 0, .gwBatch okPktHdr [badGwEntry], .e2eAck 0 0 [2 ^ 32], .fenceTimeout (some 72)] = true := by decide +kernel

end Sys2Proof.Tests
end

section
/-!
SUPPORT. The proofs of the scope's family: register accesses (O7), the host queues' doorbells and enables (O14), and the
host's reads and window accesses (O17).
-/
namespace Sys2Proof.Machine

/-! ### What a running package does with each command -/

theorem exec_sqDoorbell (n v : Nat) (s : State) (h : s.power = .running) :
    exec (.sqDoorbell n v) s = .next (sqDoorbell n v s) := congrArg _ (s.on_running _ h)

theorem exec_cqDoorbell (n v : Nat) (s : State) (h : s.power = .running) :
    exec (.cqDoorbell n v) s = .next (cqDoorbell n v s) := congrArg _ (s.on_running _ h)

theorem exec_bar2IrregularAccess (write : Bool) (off w v : Nat) (s : State) (h : s.power = .running) :
    exec (.bar2IrregularAccess write off w v) s = .next (bar2Irregular write off w s) := congrArg _ (s.on_running _ h)

theorem exec_sqEnable (org : Originator) (n v : Nat) (s : State) (h : s.power = .running) :
    exec (.sqEnable org n v) s = .next (sqEnable org n v s) := congrArg _ (s.on_running _ h)

theorem exec_cqEnable (org : Originator) (n v : Nat) (s : State) (h : s.power = .running) :
    exec (.cqEnable org n v) s = .next (cqEnable org n v s) := congrArg _ (s.on_running _ h)

theorem exec_sqFetch (n : Nat) (ok : Bool) (s : State) (h : s.power = .running) :
    exec (.sqFetch n ok) s = .next (sqFetch n ok s) := congrArg _ (s.on_running _ h)

theorem exec_hostReadTimeout (u : HostReadUse) (s : State) (h : s.power = .running) :
    exec (.hostReadTimeout u) s = .next (hostReadTimeout u s) := congrArg _ (s.on_running _ h)

theorem exec_hostReadCompletion (u : HostReadUse) (data : List Byte) (s : State) (h : s.power = .running) :
    exec (.hostReadCompletion u data) s = .next (hostReadCompletion u data s) := congrArg _ (s.on_running _ h)

/-- A BAR4 read of at most the 4,096 bytes one access can name. -/
theorem exec_bar4Access_read (off len : Nat) (bs : List Byte) (s : State) (h : s.power = .running) (hl : len ≤ 4096) :
    exec (.bar4Access ⟨false, off, len, bs⟩) s = .next (bar4Read (s.windowAddr off) len s) := by
  have e : exec (.bar4Access ⟨false, off, len, bs⟩) s = .next (bar4Read (s.windowAddr off) (len % 4097) s) :=
    congrArg _ (s.on_running _ h)
  rw [e, Nat.mod_eq_of_lt (by omega)]

theorem exec_bar4Access_write (off len : Nat) (bs : List Byte) (s : State) (h : s.power = .running) :
    exec (.bar4Access ⟨true, off, len, bs⟩) s = .next (bar4Write (s.windowAddr off) bs s) := congrArg _ (s.on_running _ h)

/-! ### Register accesses (R9, R441) -/

/-- A running package with the bits 0x1 staged for GLB_SCRATCH, which itself holds 0. No command stages bits of this RW
register; the statement admits the state all the same. -/
def scratchStaged : State :=
  { State.reset with power := .running, txn := ⟨true, .host, [(0xC, (1, 1))], false⟩ }

/-- A read answers the present value, the staged bits over the stored ones (R441), and not the stored value. -/
theorem scratchStaged_read : ∃ t, exec (.irregularRegisterRead .host 0xC 2 3) scratchStaged = .next t ∧
    t.out = [.readData .host 0xC 1] ∧ scratchStaged.rd 0xC = 0 :=
  ⟨_, rfl, by decide, by decide⟩

/-! ### Doorbells (R485) -/

/-- A tail doorbell of an enabled SQ moves the tail within the size, and is an error at or beyond it. -/
theorem sqDoorbell_enabled (s : State) (n v : Nat) (hn : n < 1024) (he : s.flag F.HQ_SQ_CFG_enable (qdi n) = true)
    (hv : v < 65536) :
    sqDoorbell n v s = if s.sqSize n ≤ v then sqError n 0 s else s.setSq n { s.sq n with tail := v } := by
  simp [sqDoorbell, Nat.not_le.2 hn, he, Nat.not_le.2 hv]

/-- A tail doorbell of an SQ that is off is discarded with the event. -/
theorem sqDoorbell_disabled (s : State) (n v : Nat) (he : s.flag F.HQ_SQ_CFG_enable (qdi n) = false) :
    sqDoorbell n v s = s.accessEvent .host (8 * n) 7 := by
  simp [sqDoorbell, State.bar2Event, he]

/-- A head doorbell of a working CQ moves the head where it frees written entries alone, and is an error elsewhere. -/
theorem cqDoorbell_enabled (s : State) (n v : Nat) (hn : n < 1024) (he : s.flag F.HQ_CQ_CFG_enable (qdi n) = true)
    (hr : s.flag F.HQ_CQ_STATUS_error (qdi n) = false) (hv : v < 65536) :
    cqDoorbell n v s = if s.headOk n v then s.setCq n { s.cq n with head := v } else cqError n s := by
  simp [cqDoorbell, Nat.not_le.2 hn, he, hr, Nat.not_le.2 hv]

/-- A read of a doorbell offset answers zero without an event. -/
theorem bar2Irregular_read (off w : Nat) (s : State) (h : off < 0x2000) :
    bar2Irregular false off w s = s.emit (.bar2 0) := by
  simp only [bar2Irregular, if_neg Bool.false_ne_true, if_neg (Nat.not_le.2 h)]

/-- A write that is no 32-bit doorbell is discarded with the event. -/
theorem bar2Irregular_write (off w : Nat) (s : State) (h : w ≠ 4 ∨ off % 4 ≠ 0 ∨ 0x2000 ≤ off) :
    bar2Irregular true off w s = s.accessEvent .host off 7 := by
  simp only [bar2Irregular, if_pos h, if_true, State.bar2Event]

/-! ### Enables (R481) -/

/-- An SQ state put in place is the one read. -/
@[simp] theorem State.sq_setSq_same (s : State) (n : Nat) (q : SqState) : (s.setSq n q).sq n = q := by
  simp [State.sq, State.setSq]

/-- A CQ state put in place is the one read. -/
@[simp] theorem State.cq_setCq_same (s : State) (n : Nat) (q : CqState) : (s.setCq n q).cq n = q := by
  simp [State.cq, State.setCq]

/-- The queue engine decides every CQ's state. -/
theorem State.cq_congr (s t : State) (h : s.hq = t.hq) (n : Nat) : s.cq n = t.cq n := by simp [State.cq, h]

/-- A 64-bit value keeps when a register of neither half is written. -/
theorem State.fld64_wr_ne (s : State) (off v di : Nat) (lo hi : FieldRef) (hl : lo.off + di ≠ off) (hh : hi.off + di ≠ off) :
    (s.wr off v).fld64 lo hi di = s.fld64 lo hi di := by
  simp only [State.fld64, State.fld, State.rd_wr_ne _ _ _ _ hl, State.rd_wr_ne _ _ _ _ hh]

section Enables
variable (org : Originator) (s : State) (n v : Nat) (hn : n < 1024) (hz : v % 65536 ≠ 0)
include hn hz

/-- Enabling a CQ starts it empty, with phase 1, the base, size and vector its registers give. -/
theorem cqEnable_starts (hg : s.grants org (0x830008 + qdi n)) (hon : tbit v 27 = true)
    (hoff : s.flag F.HQ_CQ_CFG_enable (qdi n) = false) :
    cqEnable org n v s = ((s.wr (0x830008 + qdi n) (v % 2 ^ 29)).setCq n
      ⟨0, 0, s.fld64 F.HQ_CQ_BASE_LO_base F.HQ_CQ_BASE_HI_base (qdi n), v % 65536 + 1, bits v 26 16, tbit v 28⟩).wr
        (0x830010 + qdi n) (2 ^ 16) := by
  have hb : (s.wr (0x830008 + qdi n) (v % 2 ^ 29)).fld64 F.HQ_CQ_BASE_LO_base F.HQ_CQ_BASE_HI_base (qdi n)
      = s.fld64 F.HQ_CQ_BASE_LO_base F.HQ_CQ_BASE_HI_base (qdi n) :=
    s.fld64_wr_ne _ _ _ _ _ (by simp [F.HQ_CQ_BASE_LO_base]) (by simp [F.HQ_CQ_BASE_HI_base])
  simp only [cqEnable, State.gated_pass s org _ _ hg.1 hg.2, hb, hon, hoff, if_neg hz, if_neg (Nat.not_le.2 hn)]
  rfl

/-- Enabling an SQ bound to an enabled CQ starts it empty, with the base, size and binding its registers give. -/
theorem sqEnable_starts (hg : s.grants org (0x810008 + qdi n)) (hon : tbit v 26 = true)
    (hoff : s.flag F.HQ_SQ_CFG_enable (qdi n) = false) (hcq : s.flag F.HQ_CQ_CFG_enable (qdi (bits v 25 16)) = true)
    (hsz : 2 ≤ s.cqSize (bits v 25 16)) :
    sqEnable org n v s = (((s.wr (0x810008 + qdi n) (v % 2 ^ 27)).setSq n
      ⟨0, none, s.fld64 F.HQ_SQ_BASE_LO_base F.HQ_SQ_BASE_HI_base (qdi n), v % 65536 + 1, bits v 25 16⟩).setFld
        F.HQ_SQ_STATUS_head 0 (qdi n)).setFld F.HQ_SQ_STATUS_error 0 (qdi n) := by
  have hb : (s.wr (0x810008 + qdi n) (v % 2 ^ 27)).fld64 F.HQ_SQ_BASE_LO_base F.HQ_SQ_BASE_HI_base (qdi n)
      = s.fld64 F.HQ_SQ_BASE_LO_base F.HQ_SQ_BASE_HI_base (qdi n) :=
    s.fld64_wr_ne _ _ _ _ _ (by simp [F.HQ_SQ_BASE_LO_base]) (by simp [F.HQ_SQ_BASE_HI_base])
  have hsz' : decide (s.cqSize (bits v 25 16) < 2) = false := decide_eq_false (Nat.not_lt.2 hsz)
  simp only [sqEnable, State.gated_pass s org _ _ hg.1 hg.2, hb, hon, hoff, hcq, hsz', if_neg hz, if_neg (Nat.not_le.2 hn)]
  rfl

/-- A binding to a disabled CQ is discarded with the event. -/
theorem sqEnable_unbound (hg : s.grants org (0x810008 + qdi n)) (hon : tbit v 26 = true)
    (hcq : s.flag F.HQ_CQ_CFG_enable (qdi (bits v 25 16)) = false) :
    sqEnable org n v s = s.accessEvent org (0x810008 + qdi n) 6 := by
  simp only [sqEnable, State.gated_pass s org _ _ hg.1 hg.2, hon, hcq, if_neg hz, if_neg (Nat.not_le.2 hn)]
  rfl

end Enables

/-! ### The window BAR4 (R478) -/

@[simp] theorem State.vcount_out (s : State) (va n f : Nat) : (s.vcount va n f).out = s.out := by
  obtain ⟨_, _, _, _, _, h⟩ := s.vcount_frame va n f
  rw [h]

@[simp] theorem State.vcount_mem (s : State) (va n f : Nat) : (s.vcount va n f).mem = s.mem := by
  obtain ⟨_, _, _, _, _, h⟩ := s.vcount_frame va n f
  rw [h]

/-- A read that goes through and meets nothing that waits answers the bytes. -/
theorem bar4Read_good (va n : Nat) (s : State) (hg : (s.vread va n).good = true) (hw : s.windowHeld va n = false) :
    bar4Read va n s = (s.vcount va n 127).emit (.bar4 true (s.vread va n).bytes) := by
  simp [bar4Read, hg, hw]

/-- A read whose translation fails answers Unsupported Request. -/
theorem bar4Read_failed (va n : Nat) (s : State) (hg : (s.vread va n).good = false) :
    bar4Read va n s = (s.vcount va n 127).emit (.bar4 false []) := by
  simp [bar4Read, hg]

/-- A write that no fault meets reaches memory, but for one through a kv entry. -/
theorem bar4Write_translated (va : Nat) (bs : List Byte) (s : State) (hf : s.writeFault va bs.length = none) :
    bar4Write va bs s = if s.meetsKv va bs.length then s else s.vwrite va bs := by
  simp [bar4Write, hf]

/-! ### Device reads of host memory (R479) -/

/-- The manifest read that times out ends its LOAD_SHARD with ERR_UNCORRECTED. -/
theorem hostReadTimeout_manifest (id : Nat) (o : CmdOrigin) (r : ShardRec) (s : State) (h : kget s.shd.asks id = some (o, r)) :
    hostReadTimeout (.manifest id) s =
      ({ s.bump C.HST_CPL_TIMEOUT with shd := { s.shd with asks := kdel s.shd.asks id } } : State).complete o 0x40 0x31 := by
  simp [hostReadTimeout, h, St.uncorrected]

/-- The completion of the entry read fetches the entry that it brought. -/
theorem hostReadCompletion_sqEntry (n : Nat) (data : List Byte) (s : State) (hp : s.fetchPick = some n) (hl : data.length = 128) :
    hostReadCompletion (.sqEntry n) data s =
      sqFetch n true (s.hostHolds ((s.sq n).base + 128 * s.fld F.HQ_SQ_STATUS_head (qdi n)) data) := by
  simp only [hostReadCompletion, if_pos hp, List.take_of_length_le (Nat.le_of_eq hl)]

/-- Host memory reads what a completion brought. -/
theorem State.hread_hostHolds (s : State) (a n : Nat) (bs : List Byte) (h : s.memoryCanonical) (hn : bs.length = n) :
    (s.hostHolds a bs).hread a n = bs := by
  subst hn
  obtain ⟨-, -, -, hhost, -⟩ := (Mem.wf_iff s.mem).1 h
  exact cellsRead_cellsWrite 0 s.mem.host a bs hhost

/-! ### The statements -/

/-- Refutes O7: its last clause says that a read of part of GLB_SCRATCH answers the stored value in every state, but a read
answers the present value (R441): with a bit staged for GLB_SCRATCH it answers that bit. The clause lacks the premise that
nothing is staged for this register. -/
theorem not_registerAccessesFollowRules : ¬ Obligations.RegisterAccessesFollowRules := by
  unfold Obligations.RegisterAccessesFollowRules
  intro h
  obtain ⟨t, ht, hout, -⟩ := (h.2 .host scratchStaged rfl).1 rfl (by decide)
  obtain ⟨u, hu, hread, hrd⟩ := scratchStaged_read
  obtain rfl : u = t := Host.Outcome.next.inj (hu.symm.trans ht)
  rw [hread, hrd] at hout
  exact absurd hout (by decide)

/-- Settles O14, command by command. -/
theorem queuesTakeDoorbellsAndConfiguration : Obligations.QueuesTakeDoorbellsAndConfiguration := by
  unfold Obligations.QueuesTakeDoorbellsAndConfiguration
  refine ⟨fun s hp => ⟨?_, ?_, ?_, ?_, ?_, ?_, ?_⟩, fun org s n v hp hn _ hz => ⟨?_, ?_, ?_⟩⟩
  · intro n v hn he hv hs
    rw [exec_sqDoorbell _ _ _ hp, sqDoorbell_enabled s n v hn he hv, if_neg (Nat.not_le.2 hs)]
  · intro n v hn he hv hs
    rw [exec_sqDoorbell _ _ _ hp, sqDoorbell_enabled s n v hn he hv, if_pos hs]
  · intro n v _ he
    rw [exec_sqDoorbell _ _ _ hp, sqDoorbell_disabled s n v he]
  · intro n v hn he hr hv hk
    rw [exec_cqDoorbell _ _ _ hp, cqDoorbell_enabled s n v hn he hr hv, if_pos hk]
  · intro n v hn he hr hv hk
    rw [exec_cqDoorbell _ _ _ hp, cqDoorbell_enabled s n v hn he hr hv, hk, if_neg Bool.false_ne_true]
  · intro off w v ho
    rw [exec_bar2IrregularAccess _ _ _ _ _ hp, bar2Irregular_read off w s ho]
  · intro off w v ho
    rw [exec_bar2IrregularAccess _ _ _ _ _ hp, bar2Irregular_write off w s ho]
  · intro hg hon hoff
    refine ⟨_, exec_cqEnable org n v s hp, ?_⟩
    rw [cqEnable_starts org s n v hn hz hg hon hoff]
    exact ⟨by simp, by simp, by simp, by rw [State.cq_congr _ _ (State.wr_hq _ _ _), State.cq_setCq_same]⟩
  · intro hg hon hoff hcq hsz
    refine ⟨_, exec_sqEnable org n v s hp, ?_⟩
    rw [sqEnable_starts org s n v hn hz hg hon hoff hcq hsz]
    exact ⟨by simp, by simp, rfl, State.sq_setSq_same _ n _⟩
  · intro hg hon hcq
    rw [exec_sqEnable org n v s hp, sqEnable_unbound org s n v hn hz hg hon hcq]

/-- Settles O17, access by access. -/
theorem hostReadsAndWindowAccesses : Obligations.HostReadsAndWindowAccesses := by
  unfold Obligations.HostReadsAndWindowAccesses
  refine ⟨fun s off len bs hp hl => ⟨?_, ?_, ?_, ?_⟩, fun s hp => ⟨?_, ?_, ?_, ?_⟩⟩
  · intro hg hw
    refine ⟨_, exec_bar4Access_read off len [] s hp hl, ?_⟩
    simp [bar4Read_good _ _ _ hg hw, State.emit]
  · intro hg
    refine ⟨_, exec_bar4Access_read off len [] s hp hl, ?_⟩
    simp [bar4Read_failed _ _ _ hg, State.emit]
  · intro hf hk
    rw [exec_bar4Access_write _ _ _ _ hp, bar4Write_translated _ _ _ hf, hk, if_neg Bool.false_ne_true]
  · intro hf hk
    rw [exec_bar4Access_write _ _ _ _ hp, bar4Write_translated _ _ _ hf, if_pos hk]
  · exact exec_hostReadTimeout .other s hp
  · intro id o r hk
    refine ⟨_, exec_hostReadTimeout (.manifest id) s hp, ?_, hostReadTimeout_manifest id o r s hk⟩
    simp [hostReadTimeout_manifest id o r s hk]
  · intro data
    exact exec_hostReadCompletion .other data s hp
  · intro n data hf hl
    refine ⟨?_, fun hc => s.hread_hostHolds _ 128 data hc hl⟩
    rw [exec_hostReadCompletion _ _ _ hp, hostReadCompletion_sqEntry n data s hf hl]
    exact (exec_sqFetch n true (s.hostHolds _ data) hp).symm

end Sys2Proof.Machine
end

section
/-!
SUPPORT. The proof of the architecture's family: the probes of the domain controllers and the mesh (O13).
-/
namespace Sys2Proof.Machine

/-! ### What a running package does with each command -/

theorem exec_dcProbe (dc0 dc1 dci : Bool) (s : State) (h : s.power = .running) :
    exec (.dcProbe dc0 dc1 dci) s = .next (probeAll [dc0, dc1, dci] s) := congrArg _ (s.on_running _ h)

theorem exec_nocFlitHop (p : NocPlace) (s : State) (h : s.power = .running) :
    exec (.nocFlitHop p) s = .next (nocMove p s) := congrArg _ (s.on_running _ h)

/-! ### An FE event (R375) -/

theorem State.holdRaw_faultN (s : State) (e : EventRec) (h : e.cls = 3) : (s.holdRaw e).pins.faultN = false := by
  simp [State.holdRaw, h]

theorem State.holdRaw_fatal (s : State) (e : EventRec) (h : e.cls = 3) :
    (s.holdRaw e).flag F.GLB_STATUS_fatal = true := by
  simp only [State.holdRaw, h, if_true, State.flag]
  rw [State.fld_setFld_same _ _ _ _ (by decide) (by decide)]
  decide

/-- An FE event asserts FAULT_N. -/
theorem State.raise_faultN (s : State) (c u x d0 d1 st : Nat) (h : eventClass c = 3) :
    (s.raise c u x d0 d1 st).pins.faultN = false := by
  unfold State.raise State.raiseRec
  dsimp only
  split <;> exact State.holdRaw_faultN _ _ h

/-- An FE event sets the fatal condition. -/
theorem State.raise_fatal (s : State) (c u x d0 d1 st : Nat) (h : eventClass c = 3) :
    (s.raise c u x d0 d1 st).flag F.GLB_STATUS_fatal = true := by
  unfold State.raise State.raiseRec
  dsimp only
  split <;> exact State.holdRaw_fatal _ _ h

/-! ### The probes of the domain controllers (R20) -/

/-- A round in which no controller misses its second probe in a row only counts. -/
theorem probeAll_counts (s : State) (x y z : Bool) (a b c : Nat) (h : s.dcMissed = [a, b, c])
    (hx : lostNow x a = false) (hy : lostNow y b = false) (hz : lostNow z c = false) :
    probeAll [x, y, z] s = { s with dcMissed := [missedNext x a, missedNext y b, missedNext z c] } := by
  simp [probeAll, h, nth, hx, hy, hz]

/-- The first controller's second miss in a row raises the FE event naming it; the others only count. -/
theorem probeAll_lost (s : State) (y z : Bool) (b c : Nat) (h : s.dcMissed = [1, b, c])
    (hy : lostNow y b = false) (hz : lostNow z c = false) :
    probeAll [false, y, z] s =
      { ({ s with dcMissed := [2, b, c] } : State).raise E.controllerLost 0 with
        dcMissed := [2, missedNext y b, missedNext z c] } := by
  have hx : lostNow false 1 = true := rfl
  have hm : missedNext false 1 = 2 := rfl
  simp [probeAll, h, nth, hx, hm, hy, hz]

/-! ### Input buffers of the mesh -/

@[simp] theorem State.nocBuf_setNocBuf_same (s : State) (die router input vc : Nat) (l : List NocFlit) :
    (s.setNocBuf die router input vc l).nocBuf die router input vc = l := by
  by_cases h : l = [] <;> simp [State.nocBuf, State.setNocBuf, h, kgetD]

/-- Replacing the flits of one input's channel leaves every other. -/
theorem State.nocBuf_setNocBuf_ne (s : State) (die router input vc die' router' input' vc' : Nat) (l : List NocFlit)
    (h : bufKey die' router' input' vc' ≠ bufKey die router input vc) :
    (s.setNocBuf die router input vc l).nocBuf die' router' input' vc' = s.nocBuf die' router' input' vc' := by
  unfold State.nocBuf State.setNocBuf
  dsimp only
  split
  · simp [kgetD, kget_kdel_ne _ _ _ h]
  · exact kgetD_kset_ne _ _ _ _ _ h

/-- The network decides every input buffer. -/
theorem State.nocBuf_congr (s t : State) (h : s.noc = t.noc) (die router input vc : Nat) :
    s.nocBuf die router input vc = t.nocBuf die router input vc := by simp [State.nocBuf, h]

@[simp] theorem State.bump_nocBuf (s : State) (c n die router input vc : Nat) :
    (s.bump c n).nocBuf die router input vc = s.nocBuf die router input vc := State.nocBuf_congr _ _ (by simp) _ _ _ _

/-! ### Grants (R24, R26) -/

/-- The state after a grant of an output took the head of its input's channel. -/
def State.nocTaken (s : State) (die router out plane vc i : Nat) : State :=
  { s.nocPop die router i vc with noc :=
    { (s.nocPop die router i vc).noc with rr := kset s.noc.rr (outKey die router out plane) ((i + 1) % 7) } }

/-- A grant takes the head of its input's channel: to the next router, or out of the mesh. -/
theorem nocMesh_granted (s : State) (die router out plane vc i : Nat) (f : NocFlit) (rest : List NocFlit)
    (hg : s.nocGrant die router out plane = some (vc, i)) (hb : s.nocBuf die router i vc = f :: rest) :
    nocMesh die router out plane s =
      if out < 4 then ((s.nocTaken die router out plane vc i).nocPush die (nocNext die router out).1
        (nocNext die router out).2 f).bump (hopCounter die)
      else (s.nocTaken die router out plane vc i).emit (.noc die router (out - 4) f.tag) := by
  simp only [nocMesh, hg, hb]
  rfl

/-- The input a grant served keeps the flits behind the one taken. -/
theorem State.nocBuf_nocTaken_same (s : State) (die router out plane vc i : Nat) :
    (s.nocTaken die router out plane vc i).nocBuf die router i vc = (s.nocBuf die router i vc).tail :=
  s.nocBuf_setNocBuf_same die router i vc _

/-- A grant leaves every other input's channel. -/
theorem State.nocBuf_nocTaken_ne (s : State) (die router out plane vc i die' router' input' vc' : Nat)
    (h : bufKey die' router' input' vc' ≠ bufKey die router i vc) :
    (s.nocTaken die router out plane vc i).nocBuf die' router' input' vc' = s.nocBuf die' router' input' vc' :=
  s.nocBuf_setNocBuf_ne die router i vc die' router' input' vc' _ h

/-- No hop counter is one that counts events. -/
theorem hopCounter_ne (die : Nat) : hopCounter die ≠ C.EVT_DE ∧ hopCounter die ≠ C.EVT_DROPPED := by
  unfold hopCounter
  (repeat' split) <;> decide

/-! ### The statement -/

/-- Settles O13: the probes by what a round counts and raises, the mesh by what a grant takes and where it puts it. -/
theorem controllersAndFlitsMove : Obligations.ControllersAndFlitsMove := by
  unfold Obligations.ControllersAndFlitsMove
  refine ⟨fun s a b c hp hm => ⟨?_, ?_, ?_⟩, fun s hp => ⟨?_, ?_, ?_⟩⟩
  · rw [exec_dcProbe _ _ _ _ hp, probeAll_counts s true true true a b c hm rfl rfl rfl]
    rfl
  · rintro rfl
    rw [exec_dcProbe _ _ _ _ hp, probeAll_counts s false true true 0 b c hm rfl rfl rfl]
    rfl
  · rintro rfl
    refine ⟨_, exec_dcProbe _ _ _ _ hp, ?_⟩
    rw [probeAll_lost s true true b c hm rfl rfl]
    exact ⟨rfl, State.raise_faultN _ _ _ _ _ _ _ (by decide), State.raise_fatal _ _ _ _ _ _ _ (by decide), by simp, by simp⟩
  · intro die router out plane vc i f rest hd hr ho hpl hg hb hv hk
    refine ⟨_, exec_nocFlitHop _ _ hp, ?_⟩
    obtain ⟨hde, hdr⟩ := hopCounter_ne die
    rw [nocMove, if_pos ⟨hd, hr, by omega, hpl⟩, nocMesh_granted s _ _ _ _ _ _ _ _ hg hb, if_pos ho]
    subst hv
    refine ⟨?_, ?_, ?_, ?_, ?_, ?_⟩
    · rw [State.bump_nocBuf, State.nocPush, State.nocBuf_setNocBuf_ne _ _ _ _ _ _ _ _ _ _ hk.symm,
        State.nocBuf_nocTaken_same, hb, List.tail_cons]
    · rw [State.bump_nocBuf, State.nocPush, State.nocBuf_setNocBuf_same, State.nocBuf_nocTaken_ne _ _ _ _ _ _ _ _ _ _ _ hk]
    · exact State.bump_counter _ _ _ hde hdr
    · rw [State.bump_out]; rfl
    · rw [State.bump_mem]; rfl
    · rw [State.bump_regs]; rfl
  · intro die router out plane vc i f rest hd hr ho ho' hpl hg hb
    refine ⟨_, exec_nocFlitHop _ _ hp, ?_⟩
    rw [nocMove, if_pos ⟨hd, hr, ho', hpl⟩, nocMesh_granted s _ _ _ _ _ _ _ _ hg hb, if_neg (by omega)]
    refine ⟨rfl, ?_, rfl, rfl, rfl⟩
    exact (s.nocBuf_nocTaken_same die router out plane vc i).trans (by rw [hb, List.tail_cons])
  · intro die router loc since f hd hr hv
    refine ⟨_, exec_nocFlitHop _ _ hp, ?_⟩
    have hi : nocInject die router loc since (some f) s = s.nocPush die router (4 + loc % 2) f := if_neg hv
    rw [nocMove, if_pos ⟨hd, hr⟩, hi]
    exact ⟨s.nocBuf_setNocBuf_same _ _ _ _ _, rfl⟩

end Sys2Proof.Machine
end

section
/-!
SUPPORT. What sending a packet, answering and acknowledging leave unchanged, when an answer can leave, and the admission of
a packet of its stream's next number.
-/
namespace Sys2Proof.Machine

/-! ### Counters that no event touches -/

/-- The counters that raising an event may change: one for each class, and that of dropped events. -/
def evtCounters : List Nat := [C.EVT_CE, C.EVT_DE, C.EVT_UE, C.EVT_FE, C.EVT_DROPPED]

theorem classCounter_mem : ∀ k < 4, classCounter k ∈ evtCounters := by decide

theorem State.bumpRaw_counter_ne (s : State) (x n c : Nat) (h : c ≠ x) : (s.bumpRaw x n).counter c = s.counter c :=
  kgetD_kset_ne _ _ _ _ _ h

section Counters
variable (s : State) (c : Nat) (hc : c ∉ evtCounters)
include hc

theorem State.holdRaw_counter (e : EventRec) : (s.holdRaw e).counter c = s.counter c := by
  have hx : c ≠ C.EVT_DROPPED := fun h => hc (by rw [h]; decide)
  unfold State.holdRaw
  dsimp only
  (repeat' split) <;> simp [State.counter, State.bumpRaw, kgetD_kset_ne _ _ _ _ _ hx]

theorem State.raiseSat_counter (x : Nat) : (s.raiseSat x).counter c = s.counter c := by
  have hd : c ≠ C.EVT_DE := fun h => hc (by rw [h]; decide)
  unfold State.raiseSat
  dsimp only
  split <;> simp only [State.holdRaw_counter _ c hc, State.bumpRaw_counter_ne _ _ _ c hd]

/-- Adding to one counter leaves every other that counts no events. -/
theorem State.bump_counter_ne (x n : Nat) (h : c ≠ x) : (s.bump x n).counter c = s.counter c := by
  unfold State.bump
  dsimp only
  split
  · rw [State.raiseSat_counter _ c hc, State.bumpRaw_counter_ne _ _ _ _ h]
  · exact State.bumpRaw_counter_ne _ _ _ _ h

/-- An event leaves every counter that counts no events. -/
theorem State.raise_counter (code u x d0 d1 st : Nat) (hk : eventClass code < 4) :
    (s.raise code u x d0 d1 st).counter c = s.counter c := by
  have hne : c ≠ classCounter (eventClass code) := fun h => hc (by rw [h]; exact classCounter_mem _ hk)
  have key : ∀ e : EventRec, e.cls = eventClass code → (s.raiseRec e).counter c = s.counter c := by
    intro e he
    rw [← s.bump_counter_ne c hc _ 1 hne, ← he, ← State.holdRaw_counter (s.bump (classCounter e.cls) 1) c hc e]
    unfold State.raiseRec
    dsimp only
    split <;> rfl
  exact key _ rfl

end Counters

/-! ### What the operations of a sender keep -/

/-- What each operation of a fold keeps, the fold keeps. -/
theorem foldl_keeps {α β : Type} (g : State → β) (f : State → α → State) (hf : ∀ t a, g (f t a) = g t) (l : List α) (t : State) :
    g (l.foldl f t) = g t := by
  induction l generalizing t with
  | nil => rfl
  | cons a l ih => rw [List.foldl_cons, ih, hf]

/-- What sending packets, completing requests and acknowledging keep: the memories, the registers, the mirrors, the home
agent's operations, the BULK_READs held and the next rtag; what was sent stays sent. -/
structure State.Sent (s t : State) : Prop where
  mem : t.mem = s.mem
  regs : t.regs = s.regs
  mir : t.mir = s.mir
  loads : s.shd.loads = [] → t.shd.loads = []
  out : s.out ⊆ t.out
  home : t.fab.home = s.fab.home
  bulks : t.fab.bulks = s.fab.bulks
  tag : t.fab.tag = s.fab.tag

namespace State.Sent

theorem refl (s : State) : s.Sent s := ⟨rfl, rfl, rfl, id, List.Subset.refl _, rfl, rfl, rfl⟩

theorem trans {s t u : State} (a : s.Sent t) (b : t.Sent u) : s.Sent u :=
  ⟨b.mem.trans a.mem, b.regs.trans a.regs, b.mir.trans a.mir, b.loads ∘ a.loads, List.Subset.trans a.out b.out,
    b.home.trans a.home, b.bulks.trans a.bulks, b.tag.trans a.tag⟩

/-- Another part of the fabric's state may change. -/
theorem of_fab (s : State) (f : Fab) (hh : f.home = s.fab.home) (hb : f.bulks = s.fab.bulks) (ht : f.tag = s.fab.tag) :
    s.Sent { s with fab := f } := ⟨rfl, rfl, rfl, id, List.Subset.refl _, hh, hb, ht⟩

theorem setReqs (s : State) (m : KMap FabReq) : s.Sent { s with fab := { s.fab with reqs := m } } := of_fab s _ rfl rfl rfl

theorem setBatches (s : State) (m : KMap (List GwEntry)) : s.Sent { s with fab := { s.fab with batches := m } } :=
  of_fab s _ rfl rfl rfl

theorem setRecv (s : State) (src about c : Nat) (x : RecvStream) : s.Sent (s.setRecv src about c x) := of_fab s _ rfl rfl rfl

theorem bump (s : State) (c n : Nat) : s.Sent (s.bump c n) := by
  constructor <;> simp

theorem tread (s : State) (sp off n : Nat) : s.Sent (s.tread sp off n) := by
  constructor <;> simp

theorem raise_mild (s : State) (code u x d0 d1 st : Nat) (h : eventClass code ≠ 3) :
    s.Sent (s.raise code u x d0 d1 st) := by
  constructor <;> simp [State.raise_regs_mild _ _ _ _ _ _ _ h]

theorem foldl {α : Type} (f : State → α → State) (hf : ∀ (s : State) (a : α), s.Sent (f s a)) (l : List α) (s : State) :
    s.Sent (l.foldl f s) := by
  induction l generalizing s with
  | nil => exact refl s
  | cons a l ih => exact (hf s a).trans (ih (f s a))

end State.Sent

/-! ### The ways a packet goes (R341, R348) -/

/-- A packet that is sent waits, completes here with a status, finds no route, or departs. -/
theorem State.post_cases {motive : State → Prop} (s : State) (h : PktHdr) (b : PktBody) (hw : motive (s.waitPkt h b))
    (hf : ∀ st, motive (s.failPkt h st)) (hn : motive (s.noRoute h)) (hd : ∀ p via, motive (s.depart p via h b)) :
    motive (s.post h b) := by
  unfold State.post State.launchDirect
  split
  · exact hw
  · split
    · exact hf _
    · split
      · exact hd _ _
      · exact hn

/-- Numbering a packet changes its own stream alone, and no stream for one of VC5. -/
theorem State.number_eq (s : State) (h : PktHdr) : ∃ q sends routes,
    s.number h = ({ h with seq := q }, { s with fab := { s.fab with sends := sends, routes := routes } }) ∧
      (∀ k, k ≠ 8 * h.dst + clsOf h.ptype → kget sends k = kget s.fab.sends k) ∧
      (clsOf h.ptype = 9 → sends = s.fab.sends) := by
  unfold State.number
  dsimp only
  split
  · exact ⟨h.seq, s.fab.sends, s.fab.routes, rfl, fun _ _ => rfl, fun _ => rfl⟩
  · rename_i hc
    split
    · exact ⟨_, _, _, rfl, fun k hk => kget_kset_ne _ _ _ _ hk, fun h9 => absurd h9 hc⟩
    · exact ⟨_, _, _, rfl, fun k hk => kget_kset_ne _ _ _ _ hk, fun h9 => absurd h9 hc⟩

/-- A packet that departs is sent with its type, destination and tag, and changes its own stream alone. -/
theorem State.depart_eq (s : State) (p via : Nat) (h : PktHdr) (b : PktBody) : ∃ g sends routes ports,
    s.depart p via h b =
      { s with fab := { s.fab with sends := sends, routes := routes, ports := ports }, out := s.out ++ [.packet g b] } ∧
      (g.ptype = h.ptype ∧ g.dst = h.dst ∧ g.rtag = h.rtag) ∧
      (∀ k, k ≠ 8 * h.dst + clsOf h.ptype → kget sends k = kget s.fab.sends k) ∧
      (clsOf h.ptype = 9 → sends = s.fab.sends) := by
  obtain ⟨q, sends, routes, e, hk, h9⟩ := s.number_eq { h with via := via }
  unfold State.depart
  rw [e]
  exact ⟨_, _, _, _, rfl, ⟨rfl, rfl, rfl⟩, hk, h9⟩

/-- A packet that completes at its source changes the request and the tile of its own tag alone. -/
theorem State.failPkt_eq (s : State) (h : PktHdr) (st : Nat) : ∃ facets reqs,
    s.failPkt h st = { s with facets := facets, fab := { s.fab with reqs := reqs } } ∧
      (ownTag h = 0 → facets = s.facets) ∧
      (∀ k, k ≠ ownTag h ∨ kget s.fab.reqs k = none → kget reqs k = kget s.fab.reqs k) := by
  have hm : ∃ reqs, (s.modReq (ownTag h) fun r => { r with ended := true, status := worse r.status st }) =
      { s with fab := { s.fab with reqs := reqs } } ∧
      (∀ k, k ≠ ownTag h ∨ kget s.fab.reqs k = none → kget reqs k = kget s.fab.reqs k) := by
    unfold State.modReq
    split
    · rename_i r hr
      refine ⟨_, rfl, fun k hk => kget_kset_ne _ _ _ _ ?_⟩
      rintro rfl
      simp [hr] at hk
    · exact ⟨s.fab.reqs, rfl, fun _ _ => rfl⟩
  obtain ⟨reqs, e, hk⟩ := hm
  unfold State.failPkt State.tagStatus
  rw [e]
  split
  · exact ⟨_, _, rfl, fun h0 => by omega, hk⟩
  · exact ⟨_, _, rfl, fun _ => rfl, hk⟩

namespace State.Sent

theorem modReq (s : State) (k : Nat) (g : FabReq → FabReq) : s.Sent (s.modReq k g) := by
  unfold State.modReq
  split
  · exact of_fab s _ rfl rfl rfl
  · exact refl s

theorem number (s : State) (h : PktHdr) : s.Sent (s.number h).2 := by
  obtain ⟨_, _, _, e, -⟩ := s.number_eq h
  rw [e]
  exact of_fab s _ rfl rfl rfl

theorem depart (s : State) (p via : Nat) (h : PktHdr) (b : PktBody) : s.Sent (s.depart p via h b) := by
  obtain ⟨_, _, _, _, e, -⟩ := s.depart_eq p via h b
  rw [e]
  exact ⟨rfl, rfl, rfl, id, List.subset_append_left _ _, rfl, rfl, rfl⟩

theorem failPkt (s : State) (h : PktHdr) (st : Nat) : s.Sent (s.failPkt h st) := by
  obtain ⟨_, _, e, -⟩ := s.failPkt_eq h st
  rw [e]
  exact ⟨rfl, rfl, rfl, id, List.Subset.refl _, rfl, rfl, rfl⟩

theorem noRoute (s : State) (h : PktHdr) : s.Sent (s.noRoute h) :=
  (failPkt s h _).trans (raise_mild _ _ _ _ _ _ _ (by decide))

theorem waitPkt (s : State) (h : PktHdr) (b : PktBody) : s.Sent (s.waitPkt h b) := of_fab s _ rfl rfl rfl

theorem post (s : State) (h : PktHdr) (b : PktBody) : s.Sent (s.post h b) :=
  s.post_cases h b (waitPkt s h b) (failPkt s h) (noRoute s h) fun p via => depart s p via h b

theorem launchDirect (s : State) (h : PktHdr) (b : PktBody) : s.Sent (s.launchDirect h b) := by
  unfold State.launchDirect
  split
  · exact failPkt s h _
  · split
    · exact depart s _ _ h b
    · exact noRoute s h

theorem closeBatch (s : State) (y dir : Nat) : s.Sent (s.closeBatch y dir) := by
  unfold State.closeBatch
  split
  · exact refl s
  · exact ((setBatches s _).trans (post _ _ _)).trans (bump _ _ _)

theorem addEntry (s : State) (y dir : Nat) (e : GwEntry) : s.Sent (s.addEntry y dir e) := by
  have join : ∀ t : State, t.Sent { t with fab := { t.fab with batches := kmod t.fab.batches (2 * y + dir) [] (· ++ [e]) } } :=
    fun t => setBatches t _
  unfold State.addEntry
  dsimp only
  split <;> split
  · exact ((closeBatch s y dir).trans (join _)).trans (closeBatch _ y dir)
  · exact (closeBatch s y dir).trans (join _)
  · exact (join s).trans (closeBatch _ y dir)
  · exact join s

theorem launchMem (s : State) (h : PktHdr) (r : MemReq) : s.Sent (s.launchMem h r) := by
  unfold State.launchMem
  (repeat' split)
  · exact failPkt s h _
  · exact launchDirect s h _
  · exact failPkt s h _
  · exact noRoute s h
  · exact (number s h).trans (addEntry _ _ _ _)
  · exact depart s _ _ h _
  · exact noRoute s h

theorem postMem (s : State) (h : PktHdr) (r : MemReq) : s.Sent (s.postMem h r) := by
  unfold State.postMem
  split
  · exact waitPkt s h _
  · exact launchMem s h r

theorem sendAck (s : State) (src : Nat) : s.Sent (s.sendAck src) :=
  (foldl _ (fun _ _ => post _ _ _) _ s).trans (of_fab _ _ rfl rfl rfl)

theorem performed (s : State) (src about c seq : Nat) : s.Sent (s.performed src about c seq) := by
  unfold State.performed
  dsimp only
  split
  · exact refl s
  · split
    · exact (setRecv s _ _ _ _).trans (sendAck _ src)
    · exact of_fab s _ rfl rfl rfl

theorem respond (h : PktHdr) (b : RespBody) (s : State) : s.Sent (respond h b s) := by
  unfold Machine.respond
  (repeat' split)
  · exact post s _ _
  · exact (setReqs s _).trans (addEntry _ _ _ _)
  · exact refl s
  · exact refl s

theorem doneOp (h : PktHdr) (s : State) : s.Sent (doneOp h s) := by
  unfold Machine.doneOp
  (repeat' split)
  · exact performed s _ _ _ _
  · exact (setReqs s _).trans (addEntry _ _ _ _)
  · exact refl s
  · exact refl s

theorem issueReq (s : State) (k : Nat) : s.Sent (s.issueReq k) := by
  unfold State.issueReq
  dsimp only
  (repeat' split)
  · exact refl s
  · exact postMem s _ _
  · exact postMem s _ _
  · exact post s _ _

theorem failLoad (s : State) (id : Nat) : s.Sent (s.failLoad id) :=
  ⟨rfl, rfl, rfl, fun h => by simp [State.failLoad, h], List.Subset.refl _, rfl, rfl, rfl⟩

theorem landed (s : State) (id : Nat) (bs : List Byte) : s.Sent (s.landed id bs) := by
  have hl : s.Sent { s with shd := { s.shd with loads := s.shd.loads.map fun (l : Load) =>
      if l.id = id then { l with landed := l.landed + bs.length, buf := l.buf ++ bs, retry := 0 } else l } } :=
    ⟨rfl, rfl, rfl, fun h => by simp [h], List.Subset.refl _, rfl, rfl, rfl⟩
  unfold State.landed
  dsimp only
  split
  · exact hl.trans (bump _ _ _)
  · exact hl

theorem finishReq (s : State) (k : Nat) : s.Sent (s.finishReq k) := by
  have drop : s.Sent { s with fab := { s.fab with reqs := kdel s.fab.reqs k } } := setReqs s _
  unfold State.finishReq
  dsimp only
  (repeat' split)
  · exact refl s
  · exact drop.trans (failLoad _ _)
  · exact drop.trans (landed _ _ _)
  · exact drop.trans (addEntry _ _ _ _)

theorem sweepReqs (s : State) : s.Sent s.sweepReqs := foldl _ finishReq _ s

end State.Sent

/-! ### Acknowledgements sent (R350) -/

/-- What an acknowledgement that is sent keeps besides: the facets, the send streams, the requests but the one of tag 0,
which no request has, and the counters that count no events. -/
structure State.Acked (s t : State) : Prop where
  facets : t.facets = s.facets
  us : t.us = s.us
  sends : t.fab.sends = s.fab.sends
  reqs : ∀ k, k ≠ 0 ∨ kget s.fab.reqs k = none → kget t.fab.reqs k = kget s.fab.reqs k
  counters : ∀ c, c ∉ evtCounters → t.counter c = s.counter c

namespace State.Acked

theorem of_fab (s : State) (f : Fab) (hs : f.sends = s.fab.sends) (hr : f.reqs = s.fab.reqs) :
    s.Acked { s with fab := f } := ⟨rfl, rfl, hs, fun k _ => by rw [← hr], fun _ _ => rfl⟩

theorem setRecv (s : State) (src about c : Nat) (x : RecvStream) : s.Acked (s.setRecv src about c x) := of_fab s _ rfl rfl

theorem trans {s t u : State} (a : s.Acked t) (b : t.Acked u) : s.Acked u :=
  ⟨b.facets.trans a.facets, b.us.trans a.us, b.sends.trans a.sends,
    fun k hk => (b.reqs k (hk.imp_right fun hn => (a.reqs k (.inr hn)).trans hn)).trans (a.reqs k hk),
    fun c hc => (b.counters c hc).trans (a.counters c hc)⟩

theorem failPkt (s : State) (h : PktHdr) (st : Nat) (ho : ownTag h = 0) : s.Acked (s.failPkt h st) := by
  obtain ⟨_, _, e, hf, hk⟩ := s.failPkt_eq h st
  rw [e]
  exact ⟨hf ho, rfl, rfl, fun k h0 => hk k (by rwa [ho]), fun _ _ => rfl⟩

theorem noRoute (s : State) (h : PktHdr) (ho : ownTag h = 0) : s.Acked (s.noRoute h) := by
  refine (failPkt s h St.state ho).trans ⟨?_, ?_, ?_, fun _ _ => ?_, fun c hc => ?_⟩
  · simp [State.noRoute]
  · simp [State.noRoute]
  · simp [State.noRoute]
  · simp [State.noRoute]
  · exact State.raise_counter _ c hc _ _ _ _ _ _ (by decide)

theorem sendWords (s : State) (dst : Nat) (ws : List Nat) : s.Acked (s.sendWords dst 0x20 ws) := by
  have hw : ∀ (h : PktHdr) (b : PktBody), clsOf h.ptype = 9 → ownTag h = 0 → s.Acked (s.post h b) := by
    intro h b h9 ho
    have hp : s.post h b = s.launchDirect h b := if_neg (by simp [State.pktWaits, h9])
    rw [hp]
    unfold State.launchDirect
    split
    · exact failPkt s h _ ho
    · split
      · rename_i p via _
        obtain ⟨_, _, _, _, e, -, -, hs⟩ := s.depart_eq p via h b
        rw [e]
        exact ⟨rfl, rfl, hs h9, fun _ _ => rfl, fun _ _ => rfl⟩
      · exact noRoute s h ho
  exact hw _ _ rfl rfl

theorem sendAck (s : State) (src : Nat) : s.Acked (s.sendAck src) := by
  have fold : ∀ (l : List Nat) (s : State),
      s.Acked (l.foldl (fun s a => s.sendWords src 0x20 (a :: (List.range 6).map fun c => (s.recvOf src a c).done)) s) := by
    intro l
    induction l with
    | nil => exact fun s => of_fab s _ rfl rfl
    | cons a l ih => exact fun s => (sendWords s src _).trans (ih _)
  exact (fold _ s).trans (of_fab _ _ rfl rfl)

theorem performed (s : State) (src about c seq : Nat) : s.Acked (s.performed src about c seq) := by
  unfold State.performed
  dsimp only
  split
  · exact of_fab s _ rfl rfl
  · split
    · exact (setRecv s _ _ _ _).trans (sendAck _ src)
    · exact of_fab s _ rfl rfl

end State.Acked

/-! ### Registers of the fabric -/

theorem State.accessEvent_rd (s : State) (org : Originator) (off n x : Nat) (hx : 0x1800000 ≤ x) :
    (s.accessEvent org off n).rd x = s.rd x := by
  have hne : x ≠ F.GLB_ACCESS_valid.off := by simp only [F.GLB_ACCESS_valid]; omega
  unfold State.accessEvent
  dsimp only
  rw [State.rd_congr _ _ (State.raise_regs_mild _ E.registerAccess _ _ _ _ _ (by decide))]
  split
  · rfl
  · exact State.rd_wr_ne _ _ _ _ hne

section Routes
variable (s t : State) (h : ∀ x, 0x1800000 ≤ x → t.rd x = s.rd x)
include h

theorem State.fabFld_congr (r : FieldRef) (hr : 0x1800000 ≤ r.off) (di : Nat) : t.fld r di = s.fld r di := by
  rw [State.fld, h _ (Nat.le_add_right_of_le hr), State.fld]

theorem State.self_congr : t.self = s.self := State.fabFld_congr s t h F.FAB_ID_package (by decide) 0

theorem State.portUp_congr : t.portUp = s.portUp := by
  funext p
  unfold State.portUp State.portState
  rw [State.fabFld_congr s t h F.FAB_P_STATUS_state (by decide)]

theorem State.groupUp_congr : t.groupUp = s.groupUp := by
  funext m x
  unfold State.groupUp State.me
  rw [State.self_congr s t h, State.portUp_congr s t h, State.fabFld_congr s t h F.FAB_GMAP_m_group (by decide)]

theorem State.globalUp_congr : t.globalUp = s.globalUp := by
  funext m q
  unfold State.globalUp State.me
  rw [State.self_congr s t h, State.portUp_congr s t h, State.fabFld_congr s t h F.FAB_GMAP_m_global (by decide)]

theorem State.portTo_congr : t.portTo = s.portTo := by
  funext x
  unfold State.portTo State.groupHop State.me
  rw [State.self_congr s t h, State.groupUp_congr s t h]

theorem State.pairLink_congr : t.pairLink = s.pairLink := by
  funext a b
  unfold State.pairLink State.linksTo
  rw [State.globalUp_congr s t h, State.fabFld_congr s t h F.FAB_GRT_LO_g_links (by decide),
    State.fabFld_congr s t h F.FAB_GRT_HI_g_links (by decide)]

/-- The fabric's registers decide the deterministic routes (R341). -/
theorem State.fixedPort_congr : t.fixedPort = s.fixedPort := by
  funext a b
  unfold State.fixedPort State.me
  rw [State.self_congr s t h, State.portTo_congr s t h, State.pairLink_congr s t h]

end Routes

/-! ### Answers on their way back (R352) -/

/-- An answer to package `d` can leave: a route, and room in the window of its stream. -/
def State.Road (s : State) (d : Nat) : Prop :=
  d ≠ s.self ∧ (s.fixedPort s.self d).isSome = true ∧ d / 9 < s.fld F.FAB_ID_groups ∧ (s.sendOf d 1).wait = [] ∧
    (s.sendOf d 1).unacked.length < 4096

/-- The answer `b` to the request of header `h` was sent. -/
def State.Answers (t : State) (h : PktHdr) (b : RespBody) : Prop :=
  ∃ g, .packet g (.resp b) ∈ t.out ∧ g.ptype = 4 ∧ g.dst = h.src ∧ g.rtag = h.rtag

/-- The fabric's registers and the stream to a package decide whether an answer can leave. -/
theorem State.Road.congr {s t : State} {d : Nat} (hs : s.Road d) (h : ∀ x, 0x1800000 ≤ x → t.rd x = s.rd x)
    (hk : t.sendOf d 1 = s.sendOf d 1) : t.Road d := by
  unfold State.Road
  rwa [State.self_congr s t h, State.fixedPort_congr s t h, State.fabFld_congr s t h F.FAB_ID_groups (by decide), hk]

theorem State.Answers.mono {s t : State} {h : PktHdr} {b : RespBody} (ha : s.Answers h b) (hs : s.Sent t) : t.Answers h b := by
  obtain ⟨g, hm, hg⟩ := ha
  exact ⟨g, hs.out hm, hg⟩

/-- A RESPONSE to a package that it can reach is sent. -/
theorem State.post_answers (s : State) (h : PktHdr) (b : RespBody) (n : Nat) (hr : s.Road h.src) :
    (s.post (s.header346 h.src 0x04 h.rtag h.job n) (.resp b)).Answers h b := by
  obtain ⟨-, hroute, hgroup, hwait, hroom⟩ := hr
  obtain ⟨p, hp⟩ := Option.isSome_iff_exists.1 hroute
  have hw : s.pktWaits (s.header346 h.src 0x04 h.rtag h.job n) = false := by
    have h1 : clsOf 0x04 = 1 := rfl
    simp [State.pktWaits, State.header346, h1, hwait, hroom]
  have hn : s.nextPort (s.header346 h.src 0x04 h.rtag h.job n) = some (p, 255) := by
    simp [State.nextPort, State.header346, vcOf, hp]
  have hl : s.post (s.header346 h.src 0x04 h.rtag h.job n) (.resp b) =
      s.depart p 255 (s.header346 h.src 0x04 h.rtag h.job n) (.resp b) := by
    rw [State.post, hw, if_neg Bool.false_ne_true, State.launchDirect, hn]
    exact if_neg (Nat.not_le.2 hgroup)
  obtain ⟨g, _, _, _, e, hg, -⟩ := s.depart_eq p 255 (s.header346 h.src 0x04 h.rtag h.job n) (.resp b)
  rw [hl, e]
  exact ⟨g, by simp, hg⟩

/-- A request is answered, and acknowledged as performed. -/
theorem doneOp_respond_answers (s : State) (h : PktHdr) (b : RespBody) (hr : s.Road h.src) :
    (doneOp h (respond h b s)).Answers h b := by
  have e : respond h b s = s.post (s.header346 h.src 0x04 h.rtag h.job (dataFlits b.data.length)) (.resp b) := if_pos hr.1
  exact (e ▸ s.post_answers h b _ hr).mono (.doneOp h _)

theorem doneOp_respond_sent (s : State) (h : PktHdr) (b : RespBody) : s.Sent (doneOp h (respond h b s)) :=
  (State.Sent.respond h b s).trans (.doneOp h _)

/-! ### Admission of the next number (R347, R349) -/

/-- A packet of type `pt` is the next of its stream from its source, whole, of its type's channel, and of no torn job. -/
def State.Next (s : State) (h : PktHdr) (pt : Nat) : Prop :=
  s.isLost h.src = false ∧ h.trunc = false ∧ h.ptype = pt ∧ h.vc = vcOf pt ∧ h.dst = s.self ∧
    s.tornJob h.job = false ∧ (s.recvOf h.src s.self (clsOf pt)).gapped = false ∧
    h.seq = (s.recvOf h.src s.self (clsOf pt)).base ∧ h.seq ∉ (s.recvOf h.src s.self (clsOf pt)).marks

/-- The state after a packet was admitted: its input buffer and its receive stream changed. -/
def State.admitted (s : State) (ports : List FabPort) (recvs : KMap RecvStream) : State :=
  { s with fab := { s.fab with ports := ports, recvs := recvs } }

theorem State.Sent.admitted (s : State) (ports : List FabPort) (recvs : KMap RecvStream) : s.Sent (s.admitted ports recvs) :=
  .of_fab s _ rfl rfl rfl

theorem State.Acked.admitted (s : State) (ports : List FabPort) (recvs : KMap RecvStream) : s.Acked (s.admitted ports recvs) :=
  .of_fab s _ rfl rfl

theorem State.Road.admitted {s : State} {d : Nat} (hr : s.Road d) (ports : List FabPort) (recvs : KMap RecvStream) :
    (s.admitted ports recvs).Road d := hr.congr (fun _ _ => rfl) rfl

theorem State.memRefusal_admitted (s : State) (ports : List FabPort) (recvs : KMap RecvStream) (h : PktHdr) (r : MemReq) :
    (s.admitted ports recvs).memRefusal h r = s.memRefusal h r := rfl

theorem State.bulkRefusal_admitted (s : State) (ports : List FabPort) (recvs : KMap RecvStream) (h : PktHdr) (r : BulkReq) :
    (s.admitted ports recvs).bulkRefusal h r = s.bulkRefusal h r := rfl

theorem State.leaveBuffer_eq (s : State) (h : PktHdr) : ∃ ports, s.leaveBuffer h = { s with fab := { s.fab with ports := ports } } := by
  unfold State.leaveBuffer
  split
  · exact ⟨s.fab.ports, rfl⟩
  · dsimp only
    split
    · exact ⟨s.fab.ports, rfl⟩
    · exact ⟨_, rfl⟩

theorem precedes_self (n a : Nat) : precedes n a a = false := by
  simp [precedes]

/-- A stream accepts its next number; an ordered one's base moves on. -/
theorem acceptSeq_next (s : State) (h : PktHdr) (about : Nat) (h9 : clsOf h.ptype ≠ 9)
    (hg : (s.recvOf h.src about (clsOf h.ptype)).gapped = false)
    (hb : h.seq = (s.recvOf h.src about (clsOf h.ptype)).base)
    (hm : h.seq ∉ (s.recvOf h.src about (clsOf h.ptype)).marks) :
    ∃ x, acceptSeq h about s = (true, s.setRecv h.src about (clsOf h.ptype) x) ∧
      (clsOf h.ptype = 0 → x.base = (h.seq + 1) % 2 ^ 32) := by
  by_cases ho : clsOf h.ptype = 0 ∨ clsOf h.ptype = 5
  · exact ⟨{ s.recvOf h.src about (clsOf h.ptype) with base := ((s.recvOf h.src about (clsOf h.ptype)).base + 1) % 2 ^ 32 },
      by simp only [acceptSeq, if_neg h9, if_pos ho, hg, if_neg Bool.false_ne_true, if_pos hb], fun _ => by rw [hb]⟩
  · have hp : precedes 32 h.seq (s.recvOf h.src about (clsOf h.ptype)).base = false := by rw [hb, precedes_self]
    have hz : ¬ 4096 ≤ (h.seq + 2 ^ 32 - (s.recvOf h.src about (clsOf h.ptype)).base) % 2 ^ 32 := by
      rw [← hb, Nat.add_sub_cancel_left]
      decide
    have hc : (s.recvOf h.src about (clsOf h.ptype)).marks.contains h.seq = false := by simpa using hm
    simp only [acceptSeq, if_neg h9, if_neg ho, hp, hc, Bool.or_false, if_neg Bool.false_ne_true, if_neg hz]
    exact ⟨_, rfl, fun h0 => absurd (.inl h0) ho⟩

/-- A packet of the next number is admitted. -/
theorem admitPkt_next (s : State) (h : PktHdr) (pt : Nat) (h9 : clsOf pt ≠ 9) (hn : s.Next h pt) : ∃ ports recvs,
    admitPkt h pt s.self s = (true, s.admitted ports recvs) ∧
      (clsOf pt = 0 → ((s.admitted ports recvs).recvOf h.src s.self 0).base = (h.seq + 1) % 2 ^ 32) := by
  obtain ⟨hl, ht, rfl, hv, -, hj, hg, hb, hm⟩ := hn
  obtain ⟨ports, e⟩ := s.leaveBuffer_eq h
  obtain ⟨x, hx, hx0⟩ := acceptSeq_next { s with fab := { s.fab with ports := ports } } h s.self h9 hg hb hm
  have hl' : State.isLost { s with fab := { s.fab with ports := ports } } h.src = false := hl
  have hj' : (State.setRecv { s with fab := { s.fab with ports := ports } } h.src s.self (clsOf h.ptype) x).tornJob h.job
      = false := hj
  refine ⟨ports, kset s.fab.recvs ((256 * h.src + s.self) * 8 + clsOf h.ptype) x, ?_, fun h0 => ?_⟩
  · simp only [admitPkt, e, hl', ht, hv, hx, hj', Bool.false_and, Bool.and_false, if_neg Bool.false_ne_true, ne_eq,
      not_true_eq_false, or_self, if_false]
    rfl
  · rw [← hx0 h0, h0]
    simp [State.recvOf, State.admitted]

end Sys2Proof.Machine
end

section
/-!
SUPPORT. The proof of the fabric's requests at their destination (O52): requests taken and refused, the home agent, answers
and bulk data, and the gateways' batches.
-/
namespace Sys2Proof.Machine

/-! ### What a running package does with each command -/

theorem exec_fabLoad (h : PktHdr) (r : MemReq) (s : State) (hp : s.power = .running) :
    exec (.fabLoad h r) s = .next (memPacket 1 h r s) := congrArg _ (s.on_running _ hp)

theorem exec_fabStore (h : PktHdr) (r : MemReq) (s : State) (hp : s.power = .running) :
    exec (.fabStore h r) s = .next (memPacket 2 h r s) := congrArg _ (s.on_running _ hp)

theorem exec_fabAtomic (h : PktHdr) (r : MemReq) (s : State) (hp : s.power = .running) :
    exec (.fabAtomic h r) s = .next (memPacket 3 h r s) := congrArg _ (s.on_running _ hp)

theorem exec_bulkWrite (h : PktHdr) (r : BulkReq) (s : State) (hp : s.power = .running) :
    exec (.bulkWrite h r) s = .next (bulkWrite h r s) := congrArg _ (s.on_running _ hp)

theorem exec_bulkRead (h : PktHdr) (r : BulkReq) (s : State) (hp : s.power = .running) :
    exec (.bulkRead h r) s = .next (bulkRead h r s) := congrArg _ (s.on_running _ hp)

theorem exec_bulkData (h : PktHdr) (r : BulkReq) (s : State) (hp : s.power = .running) :
    exec (.bulkData h r) s = .next (bulkData h r s) := congrArg _ (s.on_running _ hp)

theorem exec_fabResponse (h : PktHdr) (r : RespBody) (s : State) (hp : s.power = .running) :
    exec (.fabResponse h r) s = .next (fabResponse h r s) := congrArg _ (s.on_running _ hp)

theorem exec_gwBatch (h : PktHdr) (es : List GwEntry) (s : State) (hp : s.power = .running) :
    exec (.gwBatch h es) s = .next (gwBatch h es s) := congrArg _ (s.on_running _ hp)

theorem exec_gwBatchClose (y dir : Nat) (s : State) (hp : s.power = .running) :
    exec (.gwBatchClose y dir) s = .next (if dir < 2 then s.closeBatch y dir else s) := congrArg _ (s.on_running _ hp)

theorem exec_homeAgentPerform (i : Nat) (s : State) (hp : s.power = .running) :
    exec (.homeAgentPerform i) s = .next (homeAgent i s) := congrArg _ (s.on_running _ hp)

/-! ### Requests taken (R354, R355) -/

/-- Noting a hot line leaves the memories and every operation waiting (R358). -/
theorem hotLine_eq (a : Nat) (s : State) : ∃ hot, (hotLine a s).mem = s.mem ∧ (hotLine a s).fab = { s.fab with hotAt := hot } := by
  unfold hotLine
  dsimp only
  split
  · exact ⟨s.fab.hotAt, rfl, rfl⟩
  · split <;> split
    · exact ⟨s.fab.hotAt, rfl, rfl⟩
    · exact ⟨some s.ms, by rw [State.raise_mem, State.bump_mem]; rfl, by rw [State.raise_fab, State.bump_fab]; rfl⟩
    · exact ⟨s.fab.hotAt, rfl, rfl⟩
    · exact ⟨some s.ms, by rw [State.raise_mem, State.bump_mem]; rfl, by rw [State.raise_fab, State.bump_fab]; rfl⟩

/-- An operation joins its input's queue at the home agent, behind those there. -/
theorem toHome_spec (o : HomeOp) (src : Nat) (s : State) :
    (toHome o src s).mem = s.mem ∧ (toHome o src s).fab.recvs = s.fab.recvs ∧ (toHome o src s).fab.tag = s.fab.tag ∧
      kgetD (toHome o src s).fab.home (s.homeInput src) [] = kgetD s.fab.home (s.homeInput src) [] ++ [o] := by
  obtain ⟨hot, hm, hf⟩ := hotLine_eq (HomeOp_span o).1
    { s with fab := { s.fab with home := kmod s.fab.home (s.homeInput src) [] (· ++ [o]) } }
  unfold toHome
  dsimp only
  rw [hm, hf]
  exact ⟨rfl, rfl, rfl, by simp [kmod]⟩

/-- What is noted of a refused MMIO access leaves the fabric, the memories and the fabric's registers (R456, R457). -/
theorem remoteRefused_spec (h : PktHdr) (r : MemReq) (st : Nat) (s : State) :
    (remoteRefused h r st s).mem = s.mem ∧ (remoteRefused h r st s).fab = s.fab ∧
      ∀ x, 0x1800000 ≤ x → (remoteRefused h r st s).rd x = s.rd x := by
  unfold remoteRefused
  dsimp only
  split
  · exact ⟨rfl, rfl, fun _ _ => rfl⟩
  · split
    · exact ⟨by simp, by simp, fun _ _ => by simp⟩
    · exact ⟨by simp, by simp, fun x hx => by rw [State.accessEvent_rd _ _ _ _ _ hx, State.bump_rd]⟩

theorem takeMem_refused (h : PktHdr) (r : MemReq) (s : State) (st : Nat) (hr : s.memRefusal h r = some st) :
    takeMem h r s = doneOp h (respond h ⟨st, respKind h.ptype r.noReturn, r.addr, 0, [], false⟩ (remoteRefused h r st s)) := by
  simp only [takeMem, hr]

theorem takeMem_handed (h : PktHdr) (r : MemReq) (s : State) (hr : s.memRefusal h r = none) (hl : r.len ≠ 0) :
    takeMem h r s = toHome (.mem h r) h.src s := by
  simp only [takeMem, hr, if_neg hl]

/-- Taking a request gives no rtag away. -/
theorem takeMem_tag (h : PktHdr) (r : MemReq) (s : State) : (takeMem h r s).fab.tag = s.fab.tag := by
  cases hr : s.memRefusal h r with
  | some st =>
    obtain ⟨-, hf, -⟩ := remoteRefused_spec h r st s
    rw [takeMem_refused h r s st hr, (doneOp_respond_sent _ h _).tag, hf]
  | none =>
    by_cases hl : r.len = 0
    · simp only [takeMem, hr, if_pos hl]
      rw [(State.Sent.doneOp h _).tag]
      split
      · rfl
      · exact (State.Sent.respond h _ s).tag
    · obtain ⟨-, -, ht, -⟩ := toHome_spec (.mem h r) h.src s
      rw [takeMem_handed h r s hr hl, ht]

section Requests
variable (s : State) (h : PktHdr)

/-- A LOAD, STORE or ATOMIC of the next number is taken. -/
theorem memPacket_next (k : Nat) (hk : clsOf k = 0) (r : MemReq) (hn : s.Next h k) : ∃ ports recvs,
    memPacket k h r s = takeMem h r (s.admitted ports recvs) ∧
      ((s.admitted ports recvs).recvOf h.src s.self 0).base = (h.seq + 1) % 2 ^ 32 := by
  obtain ⟨ports, recvs, ha, hb⟩ := admitPkt_next s h k (by omega) hn
  obtain ⟨-, -, -, -, hd, -⟩ := hn
  exact ⟨ports, recvs, by simp only [memPacket, if_pos hd, ha, if_true], hb hk⟩

/-- A LOAD, STORE or ATOMIC that nothing refuses goes to the home agent without effect yet. -/
theorem memPacket_handed (k : Nat) (hk : clsOf k = 0) (r : MemReq) (hn : s.Next h k) (hr : s.memRefusal h r = none)
    (hl : r.len ≠ 0) :
    (memPacket k h r s).mem = s.mem ∧ ((memPacket k h r s).recvOf h.src s.self 0).base = (h.seq + 1) % 2 ^ 32 ∧
      kgetD (memPacket k h r s).fab.home (s.homeInput h.src) [] = kgetD s.fab.home (s.homeInput h.src) [] ++ [.mem h r] := by
  obtain ⟨ports, recvs, e, hb⟩ := memPacket_next s h k hk r hn
  obtain ⟨hm, hv, -, hh⟩ := toHome_spec (.mem h r) h.src (s.admitted ports recvs)
  rw [e, takeMem_handed h r _ ((s.memRefusal_admitted _ _ h r).trans hr) hl]
  refine ⟨hm, ?_, hh⟩
  rw [← hb, State.recvOf, hv, State.recvOf]

/-- A refused LOAD, STORE or ATOMIC is answered and has no effect. -/
theorem memPacket_refused (k : Nat) (hk : clsOf k = 0) (r : MemReq) (hn : s.Next h k) (st : Nat)
    (hr : s.memRefusal h r = some st) :
    (memPacket k h r s).mem = s.mem ∧ (memPacket k h r s).fab.home = s.fab.home ∧
      (s.Road h.src → (memPacket k h r s).Answers h ⟨st, respKind k r.noReturn, r.addr, 0, [], false⟩) := by
  obtain ⟨ports, recvs, e, -⟩ := memPacket_next s h k hk r hn
  obtain ⟨-, -, ht, -⟩ := hn
  obtain ⟨hm, hf, hrd⟩ := remoteRefused_spec h r st (s.admitted ports recvs)
  rw [e, takeMem_refused h r _ st ((s.memRefusal_admitted _ _ h r).trans hr), ht]
  have hs := doneOp_respond_sent (remoteRefused h r st (s.admitted ports recvs)) h
    ⟨st, respKind k r.noReturn, r.addr, 0, [], false⟩
  refine ⟨hs.mem.trans hm, by rw [hs.home, hf]; rfl, fun hroad => doneOp_respond_answers _ h _ ?_⟩
  exact (hroad.admitted ports recvs).congr hrd (by rw [State.sendOf, hf, State.sendOf])

/-- A BULK_WRITE that nothing refuses goes to the home agent without effect yet. -/
theorem bulkWrite_handed (r : BulkReq) (hn : s.Next h 5) (hr : s.bulkRefusal h r = none) (hl : r.len ≠ 0) :
    (bulkWrite h r s).mem = s.mem ∧
      kgetD (bulkWrite h r s).fab.home (s.homeInput h.src) [] = kgetD s.fab.home (s.homeInput h.src) [] ++ [.bulk h r] := by
  obtain ⟨ports, recvs, ha, -⟩ := admitPkt_next s h 5 (by decide) hn
  obtain ⟨-, -, -, -, hd, -⟩ := hn
  have e : bulkWrite h r s = toHome (.bulk h r) h.src (s.admitted ports recvs) := by
    simp [bulkWrite, hd, ha, State.bulkRefusal_admitted, hr, hl]
  obtain ⟨hm, -, -, hh⟩ := toHome_spec (.bulk h r) h.src (s.admitted ports recvs)
  rw [e]
  exact ⟨hm, hh⟩

/-- A refused BULK_WRITE is answered and has no effect. -/
theorem bulkWrite_refused (r : BulkReq) (hn : s.Next h 5) (st : Nat) (hr : s.bulkRefusal h r = some st) :
    (bulkWrite h r s).mem = s.mem ∧ (bulkWrite h r s).fab.home = s.fab.home ∧
      (s.Road h.src → (bulkWrite h r s).Answers h ⟨st, 2, r.addr, 0, [], false⟩) := by
  obtain ⟨ports, recvs, ha, -⟩ := admitPkt_next s h 5 (by decide) hn
  obtain ⟨-, -, -, -, hd, -⟩ := hn
  have e : bulkWrite h r s = doneOp h (respond h ⟨st, 2, r.addr, 0, [], false⟩ (s.admitted ports recvs)) := by
    simp [bulkWrite, hd, ha, State.bulkRefusal_admitted, hr]
  have hs := doneOp_respond_sent (s.admitted ports recvs) h ⟨st, 2, r.addr, 0, [], false⟩
  rw [e]
  exact ⟨hs.mem, hs.home, fun hroad => doneOp_respond_answers _ h _ (hroad.admitted ports recvs)⟩

/-! ### Bulk reads (R362) -/

/-- A packet of another class leaves a stream. -/
theorem State.post_sendOf_ne (p : PktHdr) (b : PktBody) (d c x : Nat) (hp : clsOf p.ptype = x) (hx : x < 8)
    (hc : c < 8) (hne : c ≠ x) : (s.post p b).sendOf d c = s.sendOf d c := by
  have hk : 8 * d + c ≠ 8 * p.dst + clsOf p.ptype := by omega
  have hf : ∀ st, (s.failPkt p st).sendOf d c = s.sendOf d c := by
    intro st
    obtain ⟨_, _, e, -⟩ := s.failPkt_eq p st
    rw [e]
    rfl
  refine s.post_cases (motive := fun t => t.sendOf d c = s.sendOf d c) p b ?_ hf ?_ fun q via => ?_
  · exact kgetD_kset_ne _ _ _ _ _ hk
  · rw [← hf St.state, State.sendOf, State.noRoute, State.raise_fab, State.sendOf]
  · obtain ⟨_, _, _, _, e, -, hs, -⟩ := s.depart_eq q via p b
    rw [e, State.sendOf, State.sendOf]
    exact congrArg (Option.getD · _) (hs _ hk)

/-- A BULK_READ answered leaves the memories; the RESPONSE follows the data, DONE where no line is poisoned. -/
theorem answerBulk_spec (r : BulkReq) :
    s.Sent (answerBulk s (h, r)) ∧
      (s.mem.poisoned (bits r.addr 55 52) (r.addr % 2 ^ 52) r.len = false → s.Road h.src →
        (answerBulk s (h, r)).Answers h ⟨0, 3, r.addr, 0, [], false⟩) := by
  have hread := State.Sent.tread s (bits r.addr 55 52) (r.addr % 2 ^ 52) r.len
  unfold answerBulk
  dsimp only
  refine ⟨((hread.trans (.foldl _ (fun _ _ => .post _ _ _) _ _)).trans (.post _ _ _)).trans (.performed _ _ _ _ _),
    fun hp hroad => ?_⟩
  rw [hp]
  refine (State.post_answers _ h _ 1 (hroad.congr (fun x _ => State.rd_congr _ _ ?_ x) ?_)).mono (.performed _ _ _ _ _)
  · exact State.Sent.regs (hread.trans (.foldl _ (fun _ _ => .post _ _ _) _ _))
  · refine (foldl_keeps (State.sendOf · h.src 1) _ (fun t i => ?_) _ _).trans ?_
    · exact State.post_sendOf_ne t _ _ _ 1 4 rfl (by decide) (by decide) (by decide)
    · rw [State.sendOf, State.tread_fab, State.sendOf]

end Requests

section BulkReads
variable (s : State) (h : PktHdr) (r : BulkReq) (hn : s.Next h 6) (hr : s.bulkRefusal h r = none) (hl : r.len ≠ 0)
include hn hr hl

/-- A BULK_READ of the next number that nothing refuses finds the table full, waits for its data, or is answered. -/
theorem bulkRead_next : ∃ ports recvs, bulkRead h r s =
    if 256 ≤ s.fab.bulks.length then doneOp h (respond h ⟨St.busy, 3, r.addr, 0, [], false⟩ (s.admitted ports recvs))
    else if s.readHeld (bits r.addr 55 52) (r.addr % 2 ^ 52) r.len then
      { (s.admitted ports recvs).bump C.SHD_HELD_READS with fab :=
        { (s.admitted ports recvs).fab with bulks := s.fab.bulks ++ [(h, r)] } }
    else answerBulk (s.admitted ports recvs) (h, r) := by
  obtain ⟨ports, recvs, ha, -⟩ := admitPkt_next s h 6 (by decide) hn
  obtain ⟨-, -, -, -, hd, -⟩ := hn
  refine ⟨ports, recvs, ?_⟩
  simp only [bulkRead, hd, ha, State.bulkRefusal_admitted, hr, hl, State.bump_fab, ne_eq, not_true_eq_false, if_false,
    Bool.not_true, if_neg Bool.false_ne_true]
  rfl

theorem bulkRead_busy (hb : 256 ≤ s.fab.bulks.length) :
    s.Sent (bulkRead h r s) ∧ (s.Road h.src → (bulkRead h r s).Answers h ⟨0x14, 3, r.addr, 0, [], false⟩) := by
  obtain ⟨ports, recvs, e⟩ := bulkRead_next s h r hn hr hl
  rw [e, if_pos hb]
  exact ⟨(State.Sent.admitted s ports recvs).trans (doneOp_respond_sent _ h _),
    fun hroad => doneOp_respond_answers _ h _ (hroad.admitted ports recvs)⟩

theorem bulkRead_held (hb : s.fab.bulks.length < 256) (hw : s.readHeld (bits r.addr 55 52) (r.addr % 2 ^ 52) r.len = true) :
    (bulkRead h r s).fab.bulks = s.fab.bulks ++ [(h, r)] ∧ (bulkRead h r s).mem = s.mem := by
  obtain ⟨ports, recvs, e⟩ := bulkRead_next s h r hn hr hl
  rw [e, if_neg (Nat.not_le.2 hb), if_pos hw]
  exact ⟨rfl, by rw [State.bump_mem]; rfl⟩

theorem bulkRead_answered (hb : s.fab.bulks.length < 256)
    (hw : s.readHeld (bits r.addr 55 52) (r.addr % 2 ^ 52) r.len = false) :
    s.Sent (bulkRead h r s) ∧ (s.mem.poisoned (bits r.addr 55 52) (r.addr % 2 ^ 52) r.len = false → s.Road h.src →
      (bulkRead h r s).Answers h ⟨0, 3, r.addr, 0, [], false⟩) := by
  obtain ⟨ports, recvs, e⟩ := bulkRead_next s h r hn hr hl
  rw [e, if_neg (Nat.not_le.2 hb), hw, if_neg Bool.false_ne_true]
  obtain ⟨hs, ha⟩ := answerBulk_spec (s.admitted ports recvs) h r
  exact ⟨(State.Sent.admitted s ports recvs).trans hs, fun hp hroad => ha hp (hroad.admitted ports recvs)⟩

end BulkReads

/-! ### The home agent (R353 to R355) -/

@[simp] theorem State.twrite_mem (s : State) (sp off : Nat) (bs : List Byte) (p : Bool) :
    (s.twrite sp off bs p).mem = s.mem.write sp off bs p := by
  unfold State.twrite
  dsimp only
  (repeat' split) <;> simp

/-- The state after an input's oldest operation was taken, `rest` being those behind it. -/
def State.homeTaken (s : State) (i : Nat) (rest : List HomeOp) : State :=
  { s with fab := { s.fab with home := if rest = [] then kdel s.fab.home i else kset s.fab.home i rest } }

theorem State.homeTaken_home (s : State) (i : Nat) (rest : List HomeOp) :
    kgetD (s.homeTaken i rest).fab.home i [] = rest := by
  unfold State.homeTaken
  dsimp only
  split
  · simp [kgetD, *]
  · exact kgetD_kset_same _ _ _ _

theorem homeAgent_waits (s : State) (i : Nat) (o : HomeOp) (rest : List HomeOp) (hk : kgetD s.fab.home i [] = o :: rest)
    (hw : s.homeWaits o = true) : ∃ n, homeAgent i s = s.bump C.SHD_HELD_READS n := by
  simp only [homeAgent, hk, hw, if_true]
  exact ⟨_, rfl⟩

theorem homeAgent_performs (s : State) (i : Nat) (o : HomeOp) (rest : List HomeOp) (hk : kgetD s.fab.home i [] = o :: rest)
    (hw : s.homeWaits o = false) : homeAgent i s = homePerform o (s.homeTaken i rest) := by
  simp only [homeAgent, hk, hw, if_neg Bool.false_ne_true]
  rfl

/-- Steps that become safe change registers and the list of those not yet safe alone (R386). -/
theorem mirrorSafe_spec (s : State) :
    (mirrorSafe s).mem = s.mem ∧ (mirrorSafe s).fab = s.fab ∧ (mirrorSafe s).mir.peers = s.mir.peers := by
  unfold mirrorSafe
  dsimp only
  refine ⟨?_, ?_, ?_⟩
  · refine foldl_keeps State.mem _ (fun _ _ => ?_) _ s
    rfl
  · refine foldl_keeps State.fab _ (fun _ _ => ?_) _ s
    rfl
  · refine congrArg Mir.peers (foldl_keeps State.mir _ (fun _ _ => ?_) _ s)
    rfl

/-- A fold whose operations leave the state leaves it. -/
theorem foldl_idle {α : Type} (f : State → α → State) (s : State) (hf : ∀ a, f s a = s) (l : List α) : l.foldl f s = s := by
  induction l with
  | nil => rfl
  | cons a l ih => rw [List.foldl_cons, hf, ih]

/-- Where nothing waits for a mirror peer, nothing is sent to one. -/
theorem mirrorPump_idle (s : State) (h : s.mirIdle) : mirrorPump s = s := by
  refine foldl_idle _ s (fun i => ?_) _
  have hq : (s.mirPeer i).queue = [] := by
    unfold State.mirPeer nth
    cases hp : s.mir.peers[i]? with
    | none => rfl
    | some p => exact h p (List.mem_of_getElem? hp)
  rw [hq]
  split <;> rfl

theorem mirrorHeard_idle (s : State) (h : s.mirIdle) : (mirrorHeard s).mem = s.mem ∧ (mirrorHeard s).fab = s.fab := by
  obtain ⟨hm, hf, hp⟩ := mirrorSafe_spec s
  rw [mirrorHeard, mirrorPump_idle _ (by unfold State.mirIdle; rwa [hp])]
  exact ⟨hm, hf⟩

/-- A LOAD of memory changes nothing but what is sent; unless a line is poisoned, its bytes go back. -/
theorem homeLoad_spec (h : PktHdr) (r : MemReq) (s : State) (hsp : bits r.addr 55 52 ≠ 3) :
    s.Sent (homeLoad h r s) ∧ (s.mem.poisoned (bits r.addr 55 52) (r.addr % 2 ^ 52) r.len = false → s.Road h.src →
      (homeLoad h r s).Answers h ⟨0, 0, r.addr, 0, s.mem.read (bits r.addr 55 52) (r.addr % 2 ^ 52) r.len, false⟩) := by
  have hread := State.Sent.tread s (bits r.addr 55 52) (r.addr % 2 ^ 52) r.len
  unfold homeLoad
  dsimp only
  rw [if_neg hsp]
  refine ⟨hread.trans (doneOp_respond_sent _ h _), fun hp hroad => ?_⟩
  rw [hp]
  refine doneOp_respond_answers _ h _ (hroad.congr (fun x _ => State.rd_congr _ _ hread.regs x) ?_)
  rw [State.sendOf, State.tread_fab, State.sendOf]

/-- A STORE to memory writes its bytes. -/
theorem homeStore_spec (h : PktHdr) (r : MemReq) (s : State) (hsp : bits r.addr 55 52 ≠ 3) (hi : s.mirIdle) :
    (homeStore h r s).fab.home = s.fab.home ∧
      (homeStore h r s).mem = s.mem.write (bits r.addr 55 52) (r.addr % 2 ^ 52) (slice r.data 0 r.len) r.poison := by
  obtain ⟨hm, hf⟩ := mirrorHeard_idle (s.twrite (bits r.addr 55 52) (r.addr % 2 ^ 52) (slice r.data 0 r.len) r.poison)
    (by rwa [State.mirIdle, State.twrite_mir])
  unfold homeStore
  dsimp only
  rw [if_neg hsp, (State.Sent.doneOp h _).home, (State.Sent.doneOp h _).mem, hm, hf, State.twrite_fab, State.twrite_mem]
  exact ⟨rfl, rfl⟩

/-- An ATOMIC writes the value its operation gives. -/
theorem homeAtomic_spec (h : PktHdr) (r : MemReq) (s : State) (hi : s.mirIdle) :
    (homeAtomic h r s).fab.home = s.fab.home ∧
      (homeAtomic h r s).mem = s.mem.write (bits r.addr 55 52) (r.addr % 2 ^ 52)
        (toBytes r.len (atomicNew r.aop r.len (s.mem.le (bits r.addr 55 52) (r.addr % 2 ^ 52) r.len) r.opnd0 r.opnd1)) := by
  have answered : ∀ (b : RespBody) (t : State), t.Sent (if r.noReturn then t else respond h b t) := by
    intro b t
    split
    · exact .refl t
    · exact .respond h b t
  have heard : ∀ b t, t.mirIdle → (doneOp h (mirrorHeard (if r.noReturn then t else respond h b t))).mem = t.mem ∧
      (doneOp h (mirrorHeard (if r.noReturn then t else respond h b t))).fab.home = t.fab.home := by
    intro b t ht
    obtain ⟨hm, hf⟩ := mirrorHeard_idle _ (show (if r.noReturn then t else respond h b t).mirIdle by
      rwa [State.mirIdle, (answered b t).mir])
    rw [(State.Sent.doneOp h _).mem, (State.Sent.doneOp h _).home, hm, hf]
    exact ⟨(answered b t).mem, (answered b t).home⟩
  unfold homeAtomic
  dsimp only
  obtain ⟨hm, hh⟩ := heard _ ((s.tread (bits r.addr 55 52) (r.addr % 2 ^ 52) r.len).twrite (bits r.addr 55 52) (r.addr % 2 ^ 52)
    (toBytes r.len (atomicNew r.aop r.len (s.mem.le (bits r.addr 55 52) (r.addr % 2 ^ 52) r.len) r.opnd0 r.opnd1)))
    (by rwa [State.mirIdle, State.twrite_mir, State.tread_mir])
  rw [hm, hh]
  simp

/-- Bulk data of a BULK_WRITE is written. -/
theorem homeBulk_spec (h : PktHdr) (r : BulkReq) (s : State) (hp : r.poison = []) (hi : s.mirIdle) :
    (homePerform (.bulk h r) s).fab.home = s.fab.home ∧
      (homePerform (.bulk h r) s).mem = s.mem.write (bits r.addr 55 52) (r.addr % 2 ^ 52) r.data := by
  have e : s.bulkInto r.addr r = s.twrite (bits r.addr 55 52) (r.addr % 2 ^ 52) r.data := by rw [State.bulkInto, hp]; rfl
  obtain ⟨hm, hf⟩ := mirrorHeard_idle (s.bulkInto r.addr r) (by rwa [e, State.mirIdle, State.twrite_mir])
  unfold homePerform
  dsimp only
  rw [(State.Sent.doneOp h _).home, (State.Sent.doneOp h _).mem, hm, hf, e, State.twrite_fab, State.twrite_mem]
  exact ⟨rfl, rfl⟩

/-! ### Answers and bulk data (R352, R362) -/

section Answers
variable (s : State) (h : PktHdr)

/-- The BULK_DATA of the next number is performed; without its request it is late, and with it its bytes are written. -/
theorem bulkData_next (r : BulkReq) (hn : s.Next h 7) : ∃ u, s.Sent u ∧ s.Acked u ∧
    (kget s.fab.reqs h.rtag = none → bulkData h r s = u.bump C.FAB_LATE) ∧
    (∀ q, kget s.fab.reqs h.rtag = some q → h.rtag ≠ 0 → q.kind = 6 → r.off + r.data.length ≤ q.len →
      bulkData h r s = pumpLoads (((u.bulkInto (q.ret + r.off) r).modReq h.rtag fun q =>
        { q with parts := kset q.parts r.off r.data }).sweepReqs)) := by
  obtain ⟨ports, recvs, ha, -⟩ := admitPkt_next s h 7 (by decide) hn
  obtain ⟨-, -, -, -, hd, -⟩ := hn
  have hk := (State.Acked.admitted s ports recvs).trans (.performed _ h.src s.self 4 h.seq)
  refine ⟨_, (State.Sent.admitted s ports recvs).trans (.performed _ h.src s.self 4 h.seq), hk, fun hq => ?_,
    fun q hq h0 h6 hb => ?_⟩
  · have hu := (hk.reqs h.rtag (.inr hq)).trans hq
    simp [bulkData, hd, ha, hu]
  · have hu := (hk.reqs h.rtag (.inl h0)).trans hq
    simp [bulkData, hd, ha, hu, h6, hb]

/-- The RESPONSE of the next number is performed, and finds the request of its tag; one of a read or an ATOMIC without
its request is late. -/
theorem fabResponse_next (r : RespBody) (hn : s.Next h 4) : ∃ u, s.Sent u ∧ s.Acked u ∧
    (kget s.fab.reqs h.rtag = none → r.kind ≠ 2 → r.kind ≠ 4 → fabResponse h r s = u.bump C.FAB_LATE) ∧
    (∀ q, kget s.fab.reqs h.rtag = some q → h.rtag ≠ 0 → fabResponse h r s = answered h.rtag q r u) := by
  obtain ⟨ports, recvs, ha, -⟩ := admitPkt_next s h 4 (by decide) hn
  obtain ⟨-, -, -, -, hd, -⟩ := hn
  have hk := (State.Acked.admitted s ports recvs).trans (.performed _ h.src s.self 1 h.seq)
  refine ⟨_, (State.Sent.admitted s ports recvs).trans (.performed _ h.src s.self 1 h.seq), hk, fun hq h2 h4 => ?_,
    fun q hq h0 => ?_⟩
  · have hu := (hk.reqs h.rtag (.inr hq)).trans hq
    simp [fabResponse, hd, ha, hu, h2, h4]
  · have hu := (hk.reqs h.rtag (.inl h0)).trans hq
    simp [fabResponse, hd, ha, hu]

/-- One more late packet is counted. -/
theorem late_counter (u : State) (hu : s.Acked u) :
    (u.bump C.FAB_LATE).counter C.FAB_LATE = min (2 ^ 48 - 1) (s.counter C.FAB_LATE + 1) := by
  rw [← hu.counters C.FAB_LATE (by decide)]
  exact State.bump_counter _ _ _ (by decide) (by decide)

/-- The bytes of BULK_DATA reach memory, where no load waits for them. -/
theorem bulkData_written (r : BulkReq) (hn : s.Next h 7) (q : FabReq) (hq : kget s.fab.reqs h.rtag = some q) (h0 : h.rtag ≠ 0)
    (h6 : q.kind = 6) (hb : r.off + r.data.length ≤ q.len) (hp : r.poison = []) (hl : s.shd.loads = []) :
    (bulkData h r s).mem = s.mem.write (bits (q.ret + r.off) 55 52) ((q.ret + r.off) % 2 ^ 52) r.data := by
  obtain ⟨u, hs, -, -, he⟩ := bulkData_next s h r hn
  have e : u.bulkInto (q.ret + r.off) r = u.twrite (bits (q.ret + r.off) 55 52) ((q.ret + r.off) % 2 ^ 52) r.data := by
    rw [State.bulkInto, hp]
    rfl
  rw [he q hq h0 h6 hb, e]
  have ht := (State.Sent.modReq (u.twrite (bits (q.ret + r.off) 55 52) ((q.ret + r.off) % 2 ^ 52) r.data) h.rtag fun q =>
    { q with parts := kset q.parts r.off r.data }).trans (.sweepReqs _)
  have hnil := ht.loads (by rw [State.twrite_shd]; exact hs.loads hl)
  rw [pumpLoads, hnil, List.foldl_nil, ht.mem, State.twrite_mem, hs.mem]

/-- A RESPONSE of NOT_READY within a second makes its request back off (R363). -/
theorem fabResponse_notReady (r : RespBody) (hn : s.Next h 4) (q : FabReq) (hq : kget s.fab.reqs h.rtag = some q)
    (h0 : h.rtag ≠ 0) (hr : r.status = 0x15) (hus : s.us < q.at_ + 1000000) :
    kget (fabResponse h r s).fab.reqs h.rtag = some { q with backing := true, status := 0x15, ended := false } ∧
      (fabResponse h r s).mem = s.mem := by
  obtain ⟨u, hs, hk, -, he⟩ := fabResponse_next s h r hn
  have hu := (hk.reqs h.rtag (.inl h0)).trans hq
  have hw : u.waitedOut q = false := by
    rw [State.waitedOut, hk.us]
    exact decide_eq_false (Nat.not_le.2 hus)
  have e : answered h.rtag q r u = u.modReq h.rtag fun q => { q with backing := true, status := r.status, ended := false } := by
    simp [answered, hr, St.notReady, hw]
  rw [he q hq h0, e, (State.Sent.modReq u _ _).mem, hs.mem, hr]
  exact ⟨by simp [State.modReq, hu], rfl⟩

end Answers

/-! ### Gateways (R359 to R361) -/

/-- A batch of one entry, of the next number, is performed and its entry served. -/
theorem gwBatch_next (s : State) (h : PktHdr) (e : GwEntry) (hn : s.Next h 8) : ∃ u, s.Sent u ∧ s.Acked u ∧
    gwBatch h [e] s = if e.op < 0x80 then forwardEntry h.src u e else returnEntry u e := by
  obtain ⟨ports, recvs, ha, -⟩ := admitPkt_next s h 8 (by decide) hn
  obtain ⟨-, -, -, -, hd, -⟩ := hn
  exact ⟨_, (State.Sent.admitted s ports recvs).trans (.performed _ h.src s.self 5 h.seq),
    (State.Acked.admitted s ports recvs).trans (.performed _ h.src s.self 5 h.seq), by simp [gwBatch, hd, ha]⟩

/-- An entry that goes forward takes the next rtag. -/
theorem forwardEntry_tag (near : Nat) (s : State) (e : GwEntry) (ht : s.fab.tag + 1 < 2 ^ 32) :
    (forwardEntry near s e).fab.tag = s.fab.tag + 1 := by
  by_cases hd : e.dst = s.self
  · simp only [forwardEntry, if_pos hd, takeMem_tag, if_pos ht]
  · rw [forwardEntry, if_neg hd, (State.Sent.sweepReqs _).tag]
    exact (State.Sent.issueReq _ _).tag.trans (if_pos ht)

/-- A PERFORMED entry for a packet of this package acknowledges it. -/
theorem returnEntry_performed (s : State) (e : GwEntry) (ho : e.op = 0x82) (hs : e.src = s.self)
    (hw : (s.sendOf e.dst 0).wait = []) :
    ((returnEntry s e).sendOf e.dst 0).unacked = (s.sendOf e.dst 0).unacked.filter fun u => u.1 ≠ e.seq := by
  have hset : ∀ x, (s.setSend e.dst 0 x).sendOf e.dst 0 = x := fun x => kgetD_kset_same _ _ _ _
  have hf : returnEntry s e = (s.setSend e.dst 0
      { s.sendOf e.dst 0 with unacked := (s.sendOf e.dst 0).unacked.filter fun u => u.1 ≠ e.seq }).flush e.dst 0 := by
    rw [returnEntry, if_pos ho, nearDone, if_pos hs, ackOne]
  rw [hf, State.flush, hset, hw, List.length_nil, flushStream, hset]

/-- A send leaves the open batches. -/
theorem State.post_batches (s : State) (h : PktHdr) (b : PktBody) : (s.post h b).fab.batches = s.fab.batches := by
  have hf : ∀ st, (s.failPkt h st).fab.batches = s.fab.batches := by
    intro st
    obtain ⟨_, _, e, -⟩ := s.failPkt_eq h st
    rw [e]
  refine s.post_cases (motive := fun t => t.fab.batches = s.fab.batches) h b rfl hf ?_ fun p via => ?_
  · rw [State.noRoute, State.raise_fab, hf]
  · obtain ⟨_, _, _, _, e, -⟩ := s.depart_eq p via h b
    rw [e]

/-- A send leaves the counters that count no events. -/
theorem State.post_counter (s : State) (h : PktHdr) (b : PktBody) (c : Nat) (hc : c ∉ evtCounters) :
    (s.post h b).counter c = s.counter c := by
  have hf : ∀ st, (s.failPkt h st).counter c = s.counter c := by
    intro st
    obtain ⟨_, _, e, -⟩ := s.failPkt_eq h st
    rw [e]
    rfl
  refine s.post_cases (motive := fun t => t.counter c = s.counter c) h b rfl hf ?_ fun p via => ?_
  · rw [State.noRoute, State.raise_counter _ c hc _ _ _ _ _ _ (by decide), hf]
  · obtain ⟨_, _, _, _, e, -⟩ := s.depart_eq p via h b
    rw [e]
    rfl

/-- An open batch that closes leaves, and is counted. -/
theorem closeBatch_open (s : State) (y dir : Nat) (h : kgetD s.fab.batches (2 * y + dir) [] ≠ []) :
    kgetD (s.closeBatch y dir).fab.batches (2 * y + dir) [] = [] ∧
      (s.closeBatch y dir).counter C.FAB_GW_BATCHES = min (2 ^ 48 - 1) (s.counter C.FAB_GW_BATCHES + 1) := by
  unfold State.closeBatch
  split
  · exact absurd ‹_› h
  · dsimp only
    refine ⟨?_, ?_⟩
    · rw [State.bump_fab, State.post_batches]
      simp [kgetD]
    · refine (State.bump_counter _ _ _ (by decide) (by decide)).trans ?_
      exact congrArg (fun n => min (2 ^ 48 - 1) (n + 1)) (State.post_counter _ _ _ C.FAB_GW_BATCHES (by decide))

theorem closeBatch_none (s : State) (y dir : Nat) (h : kgetD s.fab.batches (2 * y + dir) [] = []) : s.closeBatch y dir = s := by
  simp [State.closeBatch, h]

/-! ### The statement -/

/-- Settles O52, packet by packet: requests refused or handed on, the home agent's operations, answers, and batches. -/
theorem fabricRequestsArrive : Obligations.FabricRequestsArrive := by
  unfold Obligations.FabricRequestsArrive
  intro s hp next road answers
  refine ⟨?_, fun h r hn => ⟨fun hr hl => ?_, fun st hr => ?_⟩, fun h r hn hr hl => ⟨fun hb => ?_, fun hb hw => ?_, fun hb hw hq => ?_⟩,
    fun i o rest hk => ⟨fun hw => ?_, ?_, ?_⟩, fun i hk => ?_, fun h r hn => ⟨fun hq => ?_, fun q hq h0 h6 hb hpo hl => ?_⟩,
    fun h r hn => ⟨fun hq h2 h4 => ?_, fun q hq h0 hr hus => ?_⟩, fun h e hn ht ho => ?_, fun h e hn ho hsrc hw => ?_,
    fun y dir l hd hb hl => ?_, fun y dir hb => ?_⟩
  · intro i k h r hi hn
    have hrun : exec i s = .next (memPacket k h r s) ∧ clsOf k = 0 := by
      simp only [List.mem_cons, Prod.mk.injEq, List.not_mem_nil, or_false] at hi
      obtain ⟨rfl, rfl⟩ | ⟨rfl, rfl⟩ | ⟨rfl, rfl⟩ := hi
      · exact ⟨exec_fabLoad h r s hp, rfl⟩
      · exact ⟨exec_fabStore h r s hp, rfl⟩
      · exact ⟨exec_fabAtomic h r s hp, rfl⟩
    obtain ⟨he, hk⟩ := hrun
    exact ⟨fun hr hl => ⟨_, he, memPacket_handed s h k hk r hn hr hl⟩, fun st hr => ⟨_, he, memPacket_refused s h k hk r hn st hr⟩⟩
  · exact ⟨_, exec_bulkWrite h r s hp, bulkWrite_handed s h r hn hr hl⟩
  · exact ⟨_, exec_bulkWrite h r s hp, bulkWrite_refused s h r hn st hr⟩
  · obtain ⟨hs, ha⟩ := bulkRead_busy s h r hn hr hl hb
    exact ⟨_, exec_bulkRead h r s hp, hs.bulks, hs.mem, ha⟩
  · exact ⟨_, exec_bulkRead h r s hp, bulkRead_held s h r hn hr hl hb hw⟩
  · obtain ⟨hs, ha⟩ := bulkRead_answered s h r hn hr hl hb hw
    exact ⟨_, exec_bulkRead h r s hp, hs.bulks, hs.mem, ha hq⟩
  · obtain ⟨n, e⟩ := homeAgent_waits s i o rest hk hw
    exact ⟨_, exec_homeAgentPerform i s hp, by rw [e, State.bump_fab], by rw [e, State.bump_mem], by rw [e, State.bump_regs]⟩
  · rintro h r rfl hw hsp hi
    have hrun := exec_homeAgentPerform i s hp
    rw [homeAgent_performs s i _ rest hk hw] at hrun
    refine ⟨fun hpt => ?_, fun hpt => ?_, fun hpt => ?_⟩
    · obtain ⟨hs, ha⟩ := homeLoad_spec h r (s.homeTaken i rest) hsp
      refine ⟨_, hrun.trans (by rw [homePerform, if_pos hpt]), hs.mem, ?_, fun hpo hroad => ha hpo ?_⟩
      · rw [hs.home, State.homeTaken_home]
      · exact State.Road.congr hroad (fun _ _ => rfl) rfl
    · obtain ⟨hh, hm⟩ := homeStore_spec h r (s.homeTaken i rest) hsp hi
      exact ⟨_, hrun.trans (by rw [homePerform, if_neg (by omega), if_pos hpt]), by rw [hh, State.homeTaken_home], hm⟩
    · obtain ⟨hh, hm⟩ := homeAtomic_spec h r (s.homeTaken i rest) hi
      exact ⟨_, hrun.trans (by rw [homePerform, if_neg (by omega), if_neg (by omega)]), by rw [hh, State.homeTaken_home], hm⟩
  · rintro h r rfl hw hpo hi
    obtain ⟨hh, hm⟩ := homeBulk_spec h r (s.homeTaken i rest) hpo hi
    have hrun := exec_homeAgentPerform i s hp
    rw [homeAgent_performs s i _ rest hk hw] at hrun
    exact ⟨_, hrun, by rw [hh, State.homeTaken_home], hm⟩
  · rw [exec_homeAgentPerform i s hp, homeAgent, hk]
  · obtain ⟨u, hs, ha, he, -⟩ := bulkData_next s h r hn
    exact ⟨_, exec_bulkData h r s hp, by rw [he hq, State.bump_mem, hs.mem], by rw [he hq, late_counter s u ha]⟩
  · exact ⟨_, exec_bulkData h r s hp, bulkData_written s h r hn q hq h0 h6 hb hpo hl⟩
  · obtain ⟨u, hs, ha, he, -⟩ := fabResponse_next s h r hn
    exact ⟨_, exec_fabResponse h r s hp, by rw [he hq h2 h4, State.bump_mem, hs.mem],
      by rw [he hq h2 h4, State.bump_facets, ha.facets], by rw [he hq h2 h4, late_counter s u ha]⟩
  · exact ⟨_, exec_fabResponse h r s hp, fabResponse_notReady s h r hn q hq h0 hr hus⟩
  · obtain ⟨u, hs, -, he⟩ := gwBatch_next s h e hn
    refine ⟨_, exec_gwBatch h [e] s hp, ?_⟩
    rw [he, if_pos (by omega), forwardEntry_tag _ u e (by rwa [hs.tag]), hs.tag]
  · obtain ⟨u, hs, ha, he⟩ := gwBatch_next s h e hn
    have hsend : u.sendOf e.dst 0 = s.sendOf e.dst 0 := by rw [State.sendOf, ha.sends, State.sendOf]
    have hself : u.self = s.self := State.fld_congr _ _ hs.regs _ _
    refine ⟨_, exec_gwBatch h [e] s hp, ?_⟩
    rw [he, if_neg (by omega), returnEntry_performed u e ho (hsrc.trans hself.symm) (by rwa [hsend]), hsend]
  · obtain ⟨hc, hn⟩ := closeBatch_open s y dir (by rwa [hb])
    refine ⟨_, exec_gwBatchClose y dir s hp, ?_⟩
    rw [if_pos hd]
    exact ⟨hc, (State.Sent.closeBatch s y dir).mem, hn⟩
  · rw [exec_gwBatchClose y dir s hp, closeBatch_none s y dir hb, ite_self]

end Sys2Proof.Machine
end

section
/-!
SUPPORT. What the shared operations of a facet do and leave unchanged: keyed lists, a facet put in place, pops, credit
checks.
-/
namespace Sys2Proof.Machine

/-! ### Keyed lists and bit lists -/

@[simp] theorem klist_kset_same {α : Type} (m : KMap (List α)) (k : Nat) (l : List α) : klist (kset m k l) k = l := by
  simp [klist]

@[simp] theorem klist_kdel_same {α : Type} (m : KMap (List α)) (k : Nat) : klist (kdel m k) k = [] := by
  simp [klist, kgetD]

@[simp] theorem klist_kput_same {α : Type} (m : KMap (List α)) (k : Nat) (l : List α) : klist (kput m k l) k = l := by
  cases l with
  | nil => exact klist_kdel_same m k
  | cons a l => exact klist_kset_same m k (a :: l)

/-- Putting a list at one key leaves every other. -/
theorem klist_kput_ne {α : Type} (m : KMap (List α)) (k j : Nat) (l : List α) (h : j ≠ k) :
    klist (kput m k l) j = klist m j := by
  cases l with
  | nil => exact congrArg (·.getD []) (kget_kdel_ne m k j h)
  | cons a l => exact congrArg (·.getD []) (kget_kset_ne m k j (a :: l) h)

/-- Appending one value at each of several keys appends at a key its own value. -/
theorem klist_foldl_append {α : Type} (key : Nat → Nat) (hk : Function.Injective key) (val : Nat → α) (l : List Nat)
    (hl : l.Nodup) (m : KMap (List α)) (o : Nat) :
    klist (l.foldl (fun m i => kput m (key i) (klist m (key i) ++ [val i])) m) (key o)
      = klist m (key o) ++ if o ∈ l then [val o] else [] := by
  induction l generalizing m with
  | nil => simp
  | cons a l ih =>
    obtain ⟨ha, hl⟩ := List.nodup_cons.1 hl
    rw [List.foldl_cons, ih hl]
    by_cases h : o = a
    · subst h
      simp [ha]
    · rw [klist_kput_ne _ _ _ _ (fun e => h (hk e))]
      simp [h]

theorem tbit_eq_testBit (v i : Nat) : tbit v i = v.testBit i := (Nat.testBit_eq_decide_div_mod_eq).symm

theorem mem_bitList (v i : Nat) : i ∈ bitList v ↔ i < 8 ∧ tbit v i = true := by
  simp [bitList]

theorem bitList_nodup (v : Nat) : (bitList v).Nodup := List.nodup_range.filter _

/-! ### A facet put in place -/

/-- The facets decide each facet. -/
theorem State.fac_congr (s t : State) (h : s.facets = t.facets) (f : Nat) : s.fac f = t.fac f := by simp [State.fac, h]

theorem State.fac_setFac_same (s : State) (f : Nat) (x : Facet) (hf : f < s.facets.length) : (s.setFac f x).fac f = x := by
  simp [State.fac, State.setFac, nth, hf]

/-- Replacing one facet leaves every other. -/
theorem State.fac_setFac_ne (s : State) (f h : Nat) (x : Facet) (hh : h ≠ f) : (s.setFac f x).fac h = s.fac h := by
  simp [State.fac, State.setFac, nth, Ne.symm hh]

/-- What the facet put in place agrees on with the one before stays. -/
theorem State.setFac_keeps {α : Type} (g : Facet → α) (s : State) (f : Nat) (x : Facet) (h : g x = g (s.fac f)) :
    g ((s.setFac f x).fac f) = g (s.fac f) := by
  by_cases hf : f < s.facets.length
  · rw [s.fac_setFac_same f x hf, h]
  · rw [State.setFac, List.set_eq_of_length_le (Nat.not_lt.1 hf)]

@[simp] theorem State.setFac_mem (s : State) (f : Nat) (x : Facet) : (s.setFac f x).mem = s.mem := rfl

@[simp] theorem State.setFac_regs (s : State) (f : Nat) (x : Facet) : (s.setFac f x).regs = s.regs := rfl

@[simp] theorem State.setFac_counter (s : State) (f : Nat) (x : Facet) (c : Nat) : (s.setFac f x).counter c = s.counter c := rfl

@[simp] theorem State.bump_fac (s : State) (c n f : Nat) : (s.bump c n).fac f = s.fac f := State.fac_congr _ _ (by simp) f

@[simp] theorem State.twrite_fac (s : State) (sp off : Nat) (bs : List Byte) (p : Bool) (f : Nat) :
    (s.twrite sp off bs p).fac f = s.fac f := State.fac_congr _ _ (by simp) f

@[simp] theorem State.ctxStatus_fac (s : State) (f st h : Nat) : (s.ctxStatus f st).fac h = s.fac h := rfl

/-- No counter of a facet is one that counts events. -/
theorem facetCounter_notin (c f : Nat) (hc : 0x2000000 ≤ c) : c + fdi f ∉ evtCounters := by
  have hlow : ∀ e ∈ evtCounters, e < 0x2000000 := by decide
  exact fun h => absurd (hlow _ h) (by omega)

/-- A facet's counter counts a firing (R123). -/
theorem State.bump_fires (s : State) (f : Nat) :
    (s.bump (C.FCT_FIRES + fdi f)).counter (C.FCT_FIRES + fdi f) = min (2 ^ 48 - 1) (s.counter (C.FCT_FIRES + fdi f) + 1) := by
  have h := facetCounter_notin C.FCT_FIRES f (by decide)
  exact State.bump_counter s _ 1 (fun e => h (e ▸ by decide)) (fun e => h (e ▸ by decide))

/-! ### Pops (R94) -/

/-- A pop changes a head buffer, a queue and its credits alone. -/
theorem Facet.pop_keeps {α : Type} (g : Facet → α)
    (hg : ∀ x head inq cred, g { x with head := head, inq := inq, cred := cred } = g x) (x : Facet) (k : Nat) :
    g (x.pop k).2 = g x := by
  unfold Facet.pop
  split
  · exact hg x _ x.inq x.cred
  · split
    · exact hg x x.head _ _
    · rfl

theorem Facet.popAll_keeps {α : Type} (g : Facet → α)
    (hg : ∀ x head inq cred, g { x with head := head, inq := inq, cred := cred } = g x) (x : Facet) (ks : List Nat) :
    g (x.popAll ks).2 = g x := by
  induction ks generalizing x with
  | nil => rfl
  | cons k ks ih => exact (ih _).trans (x.pop_keeps g hg k)

/-! ### Credit checks (R95) -/

/-- A credit check changes nothing, or queues, credits and the sequencer of its facet, with the event. -/
theorem creditCheck_cases (f k : Nat) (s : State) : creditCheck f k s = s ∨ ∃ inq cred sq d0,
    creditCheck f k s = (s.setFac f { s.fac f with inq := inq, cred := cred, sq := sq }).raise E.creditOverflow f (d0 := d0) := by
  unfold creditCheck
  dsimp only
  split
  · exact .inl rfl
  · exact .inr ⟨_, _, _, _, rfl⟩

@[simp] theorem creditCheck_mem (f k : Nat) (s : State) : (creditCheck f k s).mem = s.mem := by
  obtain e | ⟨_, _, _, _, e⟩ := creditCheck_cases f k s <;> simp [e]

theorem creditCheck_fac_ne (f k : Nat) (s : State) (h : Nat) (hh : h ≠ f) : (creditCheck f k s).fac h = s.fac h := by
  obtain e | ⟨_, _, _, _, e⟩ := creditCheck_cases f k s
  · rw [e]
  · rw [e, State.fac_congr _ _ (State.raise_facets _ _ _ _ _ _ _), State.fac_setFac_ne _ _ _ _ hh]

theorem creditCheck_counter (f k : Nat) (s : State) (c : Nat) (hc : c ∉ evtCounters) :
    (creditCheck f k s).counter c = s.counter c := by
  obtain e | ⟨_, _, _, _, e⟩ := creditCheck_cases f k s
  · rw [e]
  · rw [e, State.raise_counter _ c hc _ _ _ _ _ _ (by decide), State.setFac_counter]

/-- A credit check leaves all of its facet but the queues, the credits and the sequencer. -/
theorem creditCheck_keeps {α : Type} (g : Facet → α)
    (hg : ∀ x inq cred sq, g { x with inq := inq, cred := cred, sq := sq } = g x) (f k : Nat) (s : State) :
    g ((creditCheck f k s).fac f) = g (s.fac f) := by
  obtain e | ⟨_, _, _, _, e⟩ := creditCheck_cases f k s
  · rw [e]
  · rw [e, State.fac_congr _ _ (State.raise_facets _ _ _ _ _ _ _)]
    exact s.setFac_keeps g f _ (hg _ _ _ _)

end Sys2Proof.Machine
end

section
/-!
SUPPORT. The proof of firings and results (O30).
-/
namespace Sys2Proof.Machine

/-! ### What a live package does with each command -/

theorem exec_unitFire (f u : Nat) (s : State) (hs : s.live) (hf : f < 72) :
    exec (.unitFire f u) s = .next (unitFire f u s) :=
  congrArg _ ((s.alive_runs _ hs.1 hs.2).trans (if_pos hf))

theorem exec_cuResult (f u : Nat) (s : State) (hs : s.live) : exec (.cuResult f u) s = .next (cuResult f u s) :=
  congrArg _ (s.alive_runs _ hs.1 hs.2)

/-! ### Firings (R96, R97) -/

/-- The queues a unit reads. -/
def Facet.inputs (x : Facet) (u : Nat) : List Nat := (bitList (x.readSet u)).map (qKey u)

/-- A firing pops the queues its unit reads, joins the pipeline and is counted; then the returned credits are checked. It
produces unless its unit skips on a false predicate. -/
theorem fire_eq (f u : Nat) (s : State) : ∃ p, (tbit ((s.fac f).unitCtl u) 4 = false → p = true) ∧
    fire f u s = ((s.fac f).inputs u).foldl (fun s k => creditCheck f k s)
      ((s.setFac f { ((s.fac f).popAll ((s.fac f).inputs u)).2 with
        fly := ((s.fac f).popAll ((s.fac f).inputs u)).2.fly ++ [⟨u, ((s.fac f).popAll ((s.fac f).inputs u)).1, p⟩] }).bump
          (C.FCT_FIRES + fdi f)) :=
  ⟨_, fun h => by rw [h]; rfl, rfl⟩

section Fires
variable (s : State) (f u : Nat)

theorem unitFire_fires (h : s.canFire f u = true) : unitFire f u s = fire f u s := if_pos h

/-- A unit that cannot fire is counted as stalled where it is enabled and its facet moves. -/
theorem unitFire_stalls (h : s.canFire f u = false) (hf : f < 72) (hu : u < 24) (hon : (s.fac f).unitOn u = true)
    (hz : s.frozen f = false) :
    unitFire f u s = s.bump ((if (s.fac f).inputsReady u then C.FCT_STALL_OUT else C.FCT_STALL_IN) + fdi f) := by
  cases hi : (s.fac f).inputsReady u <;> simp [unitFire, h, hf, hu, hon, hz, hi]

theorem unitFire_frozen (h : s.frozen f = true) : unitFire f u s = s := by
  simp [unitFire, State.canFire, h]

/-- What a firing leaves of its facet: the pipeline one longer, and the output buffers. -/
theorem fire_facet (hl : f < s.facets.length) : ∃ p, (tbit ((s.fac f).unitCtl u) 4 = false → p = true) ∧
    ((fire f u s).fac f).fly = (s.fac f).fly ++ [⟨u, ((s.fac f).popAll ((s.fac f).inputs u)).1, p⟩] ∧
    ((fire f u s).fac f).outq = (s.fac f).outq := by
  obtain ⟨p, hp, e⟩ := fire_eq f u s
  refine ⟨p, hp, ?_, ?_⟩
  · rw [e, foldl_keeps (fun t => (t.fac f).fly) _ (fun t k => creditCheck_keeps Facet.fly (fun _ _ _ _ => rfl) f k t),
      State.bump_fac, State.fac_setFac_same _ _ _ hl, Facet.popAll_keeps Facet.fly fun _ _ _ _ => rfl]
  · rw [e, foldl_keeps (fun t => (t.fac f).outq) _ (fun t k => creditCheck_keeps Facet.outq (fun _ _ _ _ => rfl) f k t),
      State.bump_fac, State.fac_setFac_same _ _ _ hl]
    exact Facet.popAll_keeps Facet.outq (fun _ _ _ _ => rfl) _ _

theorem fire_mem : (fire f u s).mem = s.mem := by
  obtain ⟨p, -, e⟩ := fire_eq f u s
  rw [e, foldl_keeps State.mem _ (fun t k => creditCheck_mem f k t), State.bump_mem, State.setFac_mem]

theorem fire_fac_ne (h : Nat) (hh : h ≠ f) : (fire f u s).fac h = s.fac h := by
  obtain ⟨p, -, e⟩ := fire_eq f u s
  rw [e, foldl_keeps (fun t => t.fac h) _ (fun t k => creditCheck_fac_ne f k t h hh), State.bump_fac,
    State.fac_setFac_ne _ _ _ _ hh]

theorem fire_counted : (fire f u s).counter (C.FCT_FIRES + fdi f) = min (2 ^ 48 - 1) (s.counter (C.FCT_FIRES + fdi f) + 1) := by
  have hc := facetCounter_notin C.FCT_FIRES f (by decide)
  obtain ⟨p, -, e⟩ := fire_eq f u s
  rw [e, foldl_keeps (fun t => t.counter _) _ (fun t k => creditCheck_counter f k t _ hc), State.bump_fires,
    State.setFac_counter]

end Fires

/-! ### Results (R82) -/

theorem oKey_injective (u : Nat) : Function.Injective (oKey u) := fun a b h => by
  simp only [oKey] at h
  omega

/-- An output among the four is written exactly where the write set names it. -/
theorem mem_writes (v o : Nat) (ho : o < 4) : o ∈ bitList (v % 16) ↔ tbit v o = true := by
  rw [mem_bitList, tbit_eq_testBit, tbit_eq_testBit, show (16 : Nat) = 2 ^ 4 from rfl, Nat.testBit_mod_two_pow]
  simp [ho, show o < 8 by omega]

/-- The output buffers after a result entered every output its unit writes. -/
def Facet.resultsIn (x : Facet) (u : Nat) (ops : List QEnt) : KMap (List QEnt) :=
  (bitList (x.writeSet u % 16)).foldl (fun m o => kput m (oKey u o) (klist m (oKey u o) ++ [x.resultEnt u o ops])) x.outq

theorem klist_resultsIn (x : Facet) (u : Nat) (ops : List QEnt) (o : Nat) (ho : o < 4) :
    klist (x.resultsIn u ops) (oKey u o) = klist x.outq (oKey u o) ++
      if tbit (x.writeSet u) o then [x.resultEnt u o ops] else [] := by
  rw [Facet.resultsIn, klist_foldl_append _ (oKey_injective u) (fun o => x.resultEnt u o ops) _ (bitList_nodup _)]
  simp only [mem_writes _ _ ho]

/-- A firing that produces leaves the pipeline, its result in the outputs; only the CU's own registers change besides. -/
theorem cuResult_produces (s : State) (f u : Nat) (g : Firing) (rest : List Firing)
    (hg : takeFiring u (s.fac f).fly = (some g, rest)) (hp : g.produce = true) : ∃ rows accs,
    cuResult f u s = s.setFac f { s.fac f with
      fly := rest, outq := (s.fac f).resultsIn u g.ops, rows := rows, accs := accs } := by
  by_cases hu : u < 16
  · exact ⟨_, _, by simp only [cuResult, hg, hp, if_pos hu, if_true]; rfl⟩
  · exact ⟨(s.fac f).rows, (s.fac f).accs, by simp only [cuResult, hg, hp, if_neg hu, if_true]; rfl⟩

/-- A firing that produces nothing only leaves the pipeline. -/
theorem cuResult_skips (s : State) (f u : Nat) (g : Firing) (rest : List Firing)
    (hg : takeFiring u (s.fac f).fly = (some g, rest)) (hp : g.produce = false) :
    cuResult f u s = s.setFac f { s.fac f with fly := rest } := by
  simp [cuResult, hg, hp]

/-! ### The statement -/

/-- Settles O30: a firing by what its pops and the credit checks after it leave, a result by the outputs it enters. -/
theorem unitsFireAndResultsEnter : Obligations.UnitsFireAndResultsEnter := by
  unfold Obligations.UnitsFireAndResultsEnter
  intro s f u hs hl hf hu x
  have hlen : f < s.facets.length := hl ▸ hf
  refine ⟨fun hc => ?_, fun hc hon hz hi => ?_, fun hc hon hz hi => ?_, fun hz => ?_, fun g rest hg hp => ?_,
    fun g rest hg hp => ?_⟩
  · obtain ⟨p, hp, hfly, hout⟩ := fire_facet s f u hlen
    exact ⟨_, _, (exec_unitFire f u s hs hf).trans (congrArg _ (unitFire_fires s f u hc)), hfly, rfl, rfl, hp,
      fire_counted s f u, fire_mem s f u, hout, fire_fac_ne s f u⟩
  · rw [exec_unitFire f u s hs hf, unitFire_stalls s f u hc hf hu hon hz, hi, if_neg Bool.false_ne_true]
  · rw [exec_unitFire f u s hs hf, unitFire_stalls s f u hc hf hu hon hz, hi, if_pos rfl]
  · rw [exec_unitFire f u s hs hf, unitFire_frozen s f u hz]
  · obtain ⟨rows, accs, e⟩ := cuResult_produces s f u g rest hg hp
    have hx : (cuResult f u s).fac f = { x with fly := rest, outq := x.resultsIn u g.ops, rows := rows, accs := accs } := by
      rw [e, State.fac_setFac_same _ _ _ hlen]
    refine ⟨_, exec_cuResult f u s hs, by rw [hx], by rw [e]; rfl, fun o ho ht => ?_, fun o ho ht => ?_, fun h hh => ?_⟩
    · rw [hx, klist_resultsIn x u g.ops o ho, if_pos ht]
    · rw [hx, klist_resultsIn x u g.ops o ho, ht, if_neg Bool.false_ne_true, List.append_nil]
    · rw [e, State.fac_setFac_ne _ _ _ _ hh]
  · rw [exec_cuResult f u s hs, cuResult_skips s f u g rest hg hp]

end Sys2Proof.Machine
end

section
/-!
SUPPORT. The proof of hops and steering (O31).
-/
namespace Sys2Proof.Machine

/-! ### What a live package does with each command -/

theorem exec_entryHop (f : Nat) (net : Net) (p : HopPlace) (s : State) (hs : s.live) :
    exec (.entryHop f net p) s = .next (entryHop f net p s) := congrArg _ (s.alive_runs _ hs.1 hs.2)

theorem exec_steerPair (f sw : Nat) (s : State) (hs : s.live) : exec (.steerPair f sw) s = .next (steerPair f sw s) :=
  congrArg _ (s.alive_runs _ hs.1 hs.2)

section Moves
variable (s : State) (f sw p : Nat) (hz : s.frozen f = false) (hf : f < 72)

/-! ### Hops (R92 to R94) -/

include hz hf in
theorem entryHop_input (net : Net) (hsw : sw < 35) (hp : p < 8) :
    entryHop f net (.input sw p) s = hopInput f (netNum net) sw p s := by
  simp only [entryHop, hz, Bool.false_eq_true, false_or, if_neg (Nat.not_le.2 hf), if_pos (And.intro hsw hp)]

include hz hf in
theorem entryHop_output (net : Net) (hsw : sw < 35) (hp : p < 8) :
    entryHop f net (.output sw p) s = hopOutput f (netNum net) sw p s := by
  simp only [entryHop, hz, Bool.false_eq_true, false_or, if_neg (Nat.not_le.2 hf), if_pos (And.intro hsw hp)]

/-- The consumers that select the source behind a switch input, at every input where it is presented. -/
def Facet.consumers (x : Facet) (net sw p : Nat) : List Sink :=
  ((inputsOf net sw p).map fun q => x.sinks net q.1 q.2).flatten

/-- The head of a source goes to all its consumers at once. -/
theorem hopInput_leaves (net : Nat) (e : QEnt) (l : List QEnt) (he : (s.fac f).srcList (srcOf net sw p) = e :: l)
    (hk : (s.fac f).consumers net sw p ≠ []) (hr : ((s.fac f).consumers net sw p).all (s.fac f).sinkFree = true) :
    hopInput f net sw p s = s.setFac f (((s.fac f).consumers net sw p).foldl (fun x k => x.sinkPut e k)
      ((s.fac f).srcPop (srcOf net sw p))) := by
  unfold Facet.consumers at hk hr
  simp only [hopInput, he, hr, hk, ne_eq, not_false_eq_true, decide_true, Bool.and_self, if_true]
  rfl

/-- An entry waits while a consumer has no room. -/
theorem hopInput_waits (net : Nat) (hr : ((s.fac f).consumers net sw p).all (s.fac f).sinkFree = false) :
    hopInput f net sw p s = s := by
  unfold Facet.consumers at hr
  unfold hopInput
  dsimp only
  split
  · rfl
  · rw [hr, Bool.and_false, if_neg Bool.false_ne_true]

/-- The head of a switch output enters the queue it faces against a credit, and waits without one. -/
theorem hopOutput_faces (net : Nat) (e : QEnt) (l : List QEnt) (u c q : Nat)
    (he : klist (s.fac f).swb (sKey net sw p) = e :: l) (hu : facing sw p = .unit u c) (hq : queueAt net c = some q) :
    hopOutput f net sw p s = if (s.fac f).credits (qKey u q) = 0 then s else s.setFac f { s.fac f with
      swb := kput (s.fac f).swb (sKey net sw p) l,
      inq := kput (s.fac f).inq (qKey u q) (klist (s.fac f).inq (qKey u q) ++ [e]),
      cred := kset (s.fac f).cred (qKey u q) ((s.fac f).credits (qKey u q) - 1) } := by
  simp only [hopOutput, he, hu, hq]

/-! ### Steering (R99, R100) -/

section Steering
variable (hsw : sw < 35)
include hz hf hsw

/-- A pair released goes to every output that selects it, once each has room. -/
theorem steerPair_releases (e : QEnt) (code : Nat) (n : Steer) (hc : (s.fac f).steerChoice sw = some (e, some code, n))
    (hk : (s.fac f).steerOuts sw code ≠ []) (hr : ((s.fac f).steerOuts sw code).all (s.fac f).sinkFree = true) :
    steerPair f sw s = s.setFac f (((s.fac f).steerOuts sw code).foldl (fun x k => x.sinkPut e k) ((s.fac f).setNode sw n)) := by
  simp [steerPair, hz, Nat.not_le.2 hf, Nat.not_le.2 hsw, hc, hk, hr]

theorem steerPair_discards (e : QEnt) (n : Steer) (hc : (s.fac f).steerChoice sw = some (e, none, n)) :
    steerPair f sw s = (s.setFac f ((s.fac f).setNode sw n)).bump (C.FCT_STEER_DISCARD + fdi f) := by
  simp [steerPair, hz, Nat.not_le.2 hf, Nat.not_le.2 hsw, hc]

end Steering

theorem steerPair_waits (hc : (s.fac f).steerChoice sw = none) : steerPair f sw s = s := by
  simp [steerPair, hc]

end Moves

/-! ### The statement -/

/-- Settles O31, hop by hop: from an input, from an output, and through a steering node. -/
theorem entriesHopAndSteer : Obligations.EntriesHopAndSteer := by
  unfold Obligations.EntriesHopAndSteer
  intro s f net sw p hs hz hf hsw hp hl x ks
  have hin := (exec_entryHop f net (.input sw p) s hs).trans (congrArg _ (entryHop_input s f sw p hz hf net hsw hp))
  have hout := (exec_entryHop f net (.output sw p) s hs).trans (congrArg _ (entryHop_output s f sw p hz hf net hsw hp))
  have hst := exec_steerPair f sw s hs
  refine ⟨fun e l he hk hr => ?_, fun _ hr => ?_, fun e l u c q he hu hq => ⟨fun hc => ?_, fun hc => ?_⟩,
    fun e code n hc hk hr => ?_, fun e n hc => ?_, fun hc => ?_⟩
  · rw [hin, hopInput_leaves s f sw p (netNum net) e l he hk hr]
    rfl
  · rw [hin, hopInput_waits s f sw p (netNum net) hr]
  · refine ⟨_, hout, ?_⟩
    rw [hopOutput_faces s f sw p (netNum net) e l u c q he hu hq, if_neg hc]
    refine ⟨rfl, ?_⟩
    rw [State.fac_setFac_same _ _ _ (hl ▸ hf)]
    exact ⟨klist_kput_same _ _ _, (congrArg (· + 1) (kgetD_kset_same _ _ _ _)).trans (Nat.sub_add_cancel (Nat.pos_of_ne_zero hc)),
      klist_kput_same _ _ _, rfl, fun h hh => State.fac_setFac_ne _ _ _ _ hh⟩
  · rw [hout, hopOutput_faces s f sw p (netNum net) e l u c q he hu hq, if_pos hc]
  · rw [hst, steerPair_releases s f sw hz hf hsw e code n hc hk hr]
  · rw [hst, steerPair_discards s f sw hz hf hsw e n hc]
  · rw [hst, steerPair_waits s f sw hc]

end Sys2Proof.Machine
end

section
/-!
SUPPORT. The proof of the context commands, the windows and the spill area of a facet (O33).
-/
namespace Sys2Proof.Machine

/-! ### What a package does with each command -/

theorem exec_contextLoadDone (f : Nat) (s : State) (hs : s.live) : exec (.contextLoadDone f) s = .next (loadDone f s) :=
  congrArg _ (s.alive_runs _ hs.1 hs.2)

theorem exec_contextSwitchEffect (f : Nat) (s : State) (hs : s.live) :
    exec (.contextSwitchEffect f) s = .next (tryStart f (switchEffect f s)) := congrArg _ (s.alive_runs _ hs.1 hs.2)

theorem exec_contextWindowWrite (org : Originator) (f n off d : Nat) (s : State) (h : s.power = .running) :
    exec (.contextWindowWrite org f n off d) s = .next (contextWindowWrite org f n off d s) := congrArg _ (s.on_running _ h)

theorem exec_descriptorWindowWrite (org : Originator) (f m off d : Nat) (s : State) (h : s.power = .running) :
    exec (.descriptorWindowWrite org f m off d) s = .next (descriptorWindowWrite org f m off d s) :=
  congrArg _ (s.on_running _ h)

theorem exec_fctSpillWrite (org : Originator) (f v : Nat) (s : State) (h : s.power = .running) :
    exec (.fctSpillWrite org f v) s = .next (fctSpillWrite org f v s) := congrArg _ (s.on_running _ h)

@[simp] theorem State.vcount_facets (s : State) (va n f : Nat) : (s.vcount va n f).facets = s.facets := by
  obtain ⟨_, _, _, _, _, h⟩ := s.vcount_frame va n f
  rw [h]

/-! ### Context commands of software (R108, R144) -/

section Commands
variable (org : Originator) (s : State) (f n : Nat) (h : s.power = .running) (hf : f < 72) (hn : n < 4)
  (hg : s.grants org (fctOff f 8)) (hx : s.expertOk org = true)
include hf hn hg hx

/-- A command register's context command with authority acts unless a program runs in the facet. -/
theorem byCtxSource_reg (k : Bool → Nat → State → State) :
    byCtxSource (.reg org) f n k s = if (s.fac f).sq.running then s.ctxStatus f 0x12 else k false n s := by
  simp [byCtxSource, Nat.not_le.2 hf, State.gated_pass s org _ _ hg.1 hg.2, State.expertArg, hx, Nat.mod_eq_of_lt hn, St.state]

include h

theorem exec_contextLoad_reg : exec (.contextLoad (.reg org) f n) s =
    .next (if (s.fac f).sq.running then s.ctxStatus f 0x12 else loadCmd f n (s.ctxAddrReg f) false s) := by
  have e : exec (.contextLoad (.reg org) f n) s = .next (byCtxSource (.reg org) f n (fun bySeq t s =>
    loadCmd f t (if bySeq then (s.fac f).curCtxAddr else s.ctxAddrReg f) bySeq s) s) := congrArg _ (s.on_running _ h)
  rw [e, byCtxSource_reg org s f n hf hn hg hx, if_neg Bool.false_ne_true]

theorem exec_contextSwitch_reg : exec (.contextSwitch (.reg org) f n) s =
    .next (if (s.fac f).sq.running then s.ctxStatus f 0x12 else switchCmd f n false s) :=
  (congrArg Host.Outcome.next (s.on_running _ h)).trans (congrArg _ (byCtxSource_reg org s f n hf hn hg hx _))

theorem exec_contextInvalidate_reg : exec (.contextInvalidate (.reg org) f n) s =
    .next (if (s.fac f).sq.running then s.ctxStatus f 0x12 else invalidateCmd f n s) :=
  (congrArg Host.Outcome.next (s.on_running _ h)).trans (congrArg _ (byCtxSource_reg org s f n hf hn hg hx _))

end Commands

section Slots
variable (s : State) (f n : Nat)

/-- A load that is not refused stages the image it reads. -/
theorem loadCmd_begins (a : Nat) (hr : (s.fac f).loadRefusal n = none) (hgood : (s.vread a 4096).good = true)
    (hbad : (s.vread a 4096).bad = false) (hw : a ≠ windowOff f n) :
    loadCmd f n a false s =
      (s.vcount a 4096 f).setFac f { s.fac f with load := some ⟨n, a, false, none, (s.vread a 4096).bytes⟩ } := by
  simp only [loadCmd, hr, startLoad, if_neg hw, hgood, hbad]
  rfl

theorem loadRefusal_active (ha : (s.fac f).active = n) : (s.fac f).loadRefusal n = some 0x12 := by
  simp [Facet.loadRefusal, ha, St.state]

theorem loadCmd_refused (a st : Nat) (hr : (s.fac f).loadRefusal n = some st) : loadCmd f n a false s = s.ctxStatus f st := by
  simp only [loadCmd, hr]

theorem invalidateCmd_active (ha : (s.fac f).active = n) : invalidateCmd f n s = s.ctxStatus f 0x12 := by
  simp [invalidateCmd, ha, St.state]

theorem invalidateCmd_idle (ha : (s.fac f).active ≠ n) (hl : (s.fac f).load = none) (hp : (s.fac f).pend = none) :
    invalidateCmd f n s = (s.setFac f { s.fac f with valid := (s.fac f).valid.set n false }).ctxStatus f 0x00 := by
  simp [invalidateCmd, ha, hl, hp, St.done]

theorem switchCmd_pends (hv : (s.fac f).isValid n = true) (ha : (s.fac f).active ≠ n) (hp : (s.fac f).pend = none) :
    switchCmd f n false s = s.setFac f { s.fac f with pend := some (n, false) } := by
  simp [switchCmd, hv, ha, hp]

theorem switchCmd_invalid (hv : (s.fac f).isValid n = false) : switchCmd f n false s = s.ctxStatus f 0x12 := by
  simp [switchCmd, hv, St.state]

/-! ### The end of a load (R105) -/

/-- The facet after a loaded image was committed to its slot. -/
def Facet.committed (x : Facet) (n a : Nat) (img : List Byte) : Facet :=
  { { x with load := none }.storeImage n img with valid := x.valid.set n true, source := x.source.set n a }

variable (a : Nat) (img : List Byte) (hl : (s.fac f).load = some ⟨n, a, false, none, img⟩)
include hl

theorem loadDone_commits (hi : imageStatus img = none) :
    loadDone f s = (s.setFac f ((s.fac f).committed n a img)).ctxStatus f 0x00 := by
  simp only [loadDone, hl, contextLoadDone, hi, Bool.false_and, if_neg Bool.false_ne_true]
  rfl

theorem loadDone_fails (st : Nat) (hi : imageStatus img = some st) :
    loadDone f s = (s.setFac f { s.fac f with load := none }).ctxStatus f st := by
  simp only [loadDone, hl, contextLoadDone, hi, Bool.false_and, if_neg Bool.false_ne_true]

end Slots

theorem Facet.isValid_set_same (x : Facet) (n : Nat) (b : Bool) (hn : n < x.valid.length) :
    nth (x.valid.set n b) n false = b := by
  simp [nth, hn]

theorem Facet.isValid_set_ne (x : Facet) (n k : Nat) (b : Bool) (hk : k ≠ n) :
    nth (x.valid.set n b) k false = x.isValid k := by
  simp [Facet.isValid, nth, Ne.symm hk]

theorem State.ctxStatus_status (s : State) (f st : Nat) (h : st < 256) :
    (s.ctxStatus f st).fld F.FCT_CTX_STATUS_status (fdi f) = st :=
  (s.fld_setFld_same F.FCT_CTX_STATUS_status st (fdi f) (by decide) (by decide)).trans (Nat.mod_eq_of_lt h)

/-! ### A switch takes effect (R106) -/

/-- The start of a tile in a facet changes its sequencer, descriptors and generators, and the epochs' readers, alone. -/
theorem tryStart_cases (f : Nat) (s : State) : tryStart f s = s ∨ ∃ sq desc ags kvm,
    tryStart f s = { s.setFac f { s.fac f with sq := sq, desc := desc, ags := ags } with kvm := kvm } := by
  unfold tryStart State.takeTicket
  dsimp only
  split
  · split
    · right
      split <;> split <;> exact ⟨_, _, _, _, rfl⟩
    · exact .inl rfl
  · exact .inl rfl

/-- The start of a tile leaves the registers and memory. -/
theorem tryStart_regs_mem (f : Nat) (s : State) : (tryStart f s).regs = s.regs ∧ (tryStart f s).mem = s.mem := by
  obtain e | ⟨_, _, _, _, e⟩ := tryStart_cases f s <;> rw [e] <;> exact ⟨rfl, rfl⟩

/-- The start of a tile leaves all of its facet but the sequencer, the descriptors and the generators. -/
theorem tryStart_keeps {α : Type} (g : Facet → α)
    (hg : ∀ x sq desc ags, g { x with sq := sq, desc := desc, ags := ags } = g x) (f : Nat) (s : State) :
    g ((tryStart f s).fac f) = g (s.fac f) := by
  obtain e | ⟨_, _, _, _, e⟩ := tryStart_cases f s
  · rw [e]
  · rw [e]
    exact s.setFac_keeps g f _ (hg _ _ _ _)

/-- The facet after slot `n` became the active one, all credits given back. -/
def Facet.switched (x : Facet) (n : Nat) : Facet :=
  { x with active := n, pend := none, cred := [], ags := [], recent := n :: (x.active :: x.recent).filter (· ≠ n) }

theorem switchEffect_takes (f n : Nat) (q : Bool) (s : State) (hp : (s.fac f).pend = some (n, q))
    (hq : (s.fac f).quiescent = true) (hz : s.frozen f = false) :
    switchEffect f s = ((s.setFac f ((s.fac f).switched n)).bump (C.FCT_CTX_SWITCHES + fdi f)).ctxStatus f 0x00 := by
  simp only [switchEffect, hp, hq, hz, Bool.not_false, Bool.and_self, if_true]
  rfl

/-! ### Windows (R122, R132) -/

section Windows
variable (org : Originator) (s : State) (f n off d : Nat) (hf : f < 72)

section Context
variable (hn : n < 4) (ho : off < 4096) (hg : s.grants org (windowOff f n + off / 4 * 4))
include hf hn ho hg

/-- A write of an idle slot's window replaces four bytes and makes the slot invalid; one of a slot in use is refused. -/
theorem contextWindowWrite_granted : contextWindowWrite org f n off d s =
    if (s.fac f).loadRefusal n = some 0x12 then s.accessEvent org (windowOff f n + off / 4 * 4) 6
    else s.setFac f { s.fac f with
      slots := cellsWrite 0 (s.fac f).slots (4096 * n + off / 4 * 4) (toBytes 4 d), valid := (s.fac f).valid.set n false } := by
  simp only [contextWindowWrite, State.gated_pass s org _ _ hg.1 hg.2, St.state]
  exact if_neg (by omega)

end Context

/-- Splicing a word into bytes leaves bytes. -/
theorem spliceBytes_ne_nil (l : List Byte) (i n v : Nat) : spliceBytes l i (toBytes (n + 1) v) ≠ [] := by
  simp [spliceBytes, toBytes]

section Descriptor
variable (hm : n < 8) (ho : off < 2048) (hg : s.grants org (fctOff f (0x20000 + 0x800 * n + off / 4 * 4)))
  (hx : s.expertOk org = true) (hr : (s.fac f).sq.running = false)

/-- The bytes staged for a descriptor, or the descriptor in effect where none are. -/
def Facet.stagedOr (x : Facet) (mu e : Nat) : List Byte :=
  if klist x.dstage (mu * 32 + e) = [] then x.descAt mu e else klist x.dstage (mu * 32 + e)

include hf hm ho hg hx hr

/-- A word before the last of a descriptor is staged. -/
theorem descriptorWindowWrite_stages (hw : off % 64 < 60) : descriptorWindowWrite org f n off d s =
    s.setFac f { s.fac f with
      dstage := kset (s.fac f).dstage (n * 32 + off / 64)
        (spliceBytes ((s.fac f).stagedOr n (off / 64)) (off % 64 / 4 * 4) (toBytes 4 d)) } := by
  simp only [descriptorWindowWrite, State.gated_pass s org _ _ hg.1 hg.2, hx, hr,
    if_neg (show ¬(72 ≤ f ∨ 8 ≤ n ∨ 2048 ≤ off) by omega), if_neg (show off % 64 / 4 ≠ 15 by omega)]
  rfl

/-- The last word commits a descriptor that passes its checks. -/
theorem descriptorWindowWrite_commits (hw : 60 ≤ off % 64)
    (hok : descOk (spliceBytes ((s.fac f).stagedOr n (off / 64)) 60 (toBytes 4 d)) = true) :
    descriptorWindowWrite org f n off d s = s.setFac f { s.fac f with
      dstage := kdel (s.fac f).dstage (n * 32 + off / 64),
      desc := kset (s.fac f).desc (n * 32 + off / 64) (spliceBytes ((s.fac f).stagedOr n (off / 64)) 60 (toBytes 4 d)) } := by
  have h15 : off % 64 / 4 = 15 := by omega
  unfold Facet.stagedOr at hok
  simp only [descriptorWindowWrite, State.gated_pass s org _ _ hg.1 hg.2, hx, hr,
    if_neg (show ¬(72 ≤ f ∨ 8 ≤ n ∨ 2048 ≤ off) by omega), h15, hok]
  rfl

end Descriptor
end Windows

/-! ### The spill area (R113, R118) -/

section SpillArea
variable (org : Originator) (s : State) (f v : Nat) (hf : f < 72) (hg : s.grants org (fctOff f 0x1C))
include hf hg

theorem fctSpillWrite_fits (hs : bits v 21 16 ≤ 32) (hb : bits v 10 0 + bits v 21 16 ≤ 2048)
    (hc : s.spillClash f (bits v 10 0) (bits v 21 16) = false) :
    fctSpillWrite org f v s = (s.wr (fctOff f 0x1C) (bits v 10 0 + bits v 21 16 * 2 ^ 16)).settleArea f := by
  simp only [fctSpillWrite, State.gated_pass s org _ _ hg.1 hg.2, hc, if_neg (Nat.not_le.2 hf),
    if_neg (show ¬(32 < bits v 21 16 ∨ 2048 < bits v 10 0 + bits v 21 16) by omega), if_neg Bool.false_ne_true]

theorem fctSpillWrite_large (hs : 32 < bits v 21 16) :
    fctSpillWrite org f v s = s.accessEvent org (fctOff f 0x1C) 2 := by
  simp only [fctSpillWrite, State.gated_pass s org _ _ hg.1 hg.2, if_neg (Nat.not_le.2 hf), if_pos (Or.inl hs)]

end SpillArea

/-- The area in effect follows the register once no queue is extended. -/
theorem State.settleArea_area (s : State) (f : Nat) (hl : f < s.facets.length) :
    ((s.settleArea f).fac f).area = if (s.fac f).ext = [] then s.rd (fctOff f 0x1C) else (s.fac f).area := by
  unfold State.settleArea
  dsimp only
  split
  · rw [State.fac_setFac_same _ _ _ hl]
  · rfl

theorem State.settleArea_frame (s : State) (f : Nat) : ∃ facets, s.settleArea f = { s with facets := facets } := by
  unfold State.settleArea
  dsimp only
  split
  · exact ⟨_, rfl⟩
  · exact ⟨_, rfl⟩

/-! ### The statement -/

/-- Settles O33: each context command by what it stages, commits or refuses, and each window by what a write of it leaves. -/
theorem contextsAndWindowsOfFacets : Obligations.ContextsAndWindowsOfFacets := by
  unfold Obligations.ContextsAndWindowsOfFacets
  constructor
  · intro org s f n hp hl hf hn hg hx x
    have hlen : f < s.facets.length := hl ▸ hf
    have hload := exec_contextLoad_reg org s f n hp hf hn hg hx
    have hswitch := exec_contextSwitch_reg org s f n hp hf hn hg hx
    have hinval := exec_contextInvalidate_reg org s f n hp hf hn hg hx
    refine ⟨fun hr => ?_, fun hr hno hgood hbad hw => ?_, fun hr ha => ?_, fun hr hv ha hpd => ?_, fun hr hv => ?_,
      fun hr ha hld hpd => ?_, fun a i hs hld hi hil hvl hsl => ?_, fun a i st hs hr hld hi => ?_, fun q hs hr hpd hq hz => ?_⟩
    · rw [hload, hswitch, hinval, if_pos hr, if_pos hr, if_pos hr]
      exact ⟨rfl, rfl, rfl⟩
    · rw [hload, if_neg (ne_true_of_eq_false hr), loadCmd_begins s f n _ hno hgood hbad hw]
      have hfac : ∀ h, (s.vcount (s.ctxAddrReg f) 4096 f).fac h = s.fac h := State.fac_congr _ _ (State.vcount_facets _ _ _ _)
      exact ⟨_, rfl, State.fac_setFac_same _ _ _ (by rwa [State.vcount_facets]),
        (State.setFac_mem _ _ _).trans (State.vcount_mem _ _ _ _),
        fun h hh => (State.fac_setFac_ne _ _ _ _ hh).trans (hfac h)⟩
    · rw [hload, hinval, if_neg (ne_true_of_eq_false hr), if_neg (ne_true_of_eq_false hr),
        loadCmd_refused s f n _ _ (loadRefusal_active s f n ha), invalidateCmd_active s f n ha]
      exact ⟨rfl, rfl⟩
    · rw [hswitch, if_neg (ne_true_of_eq_false hr), switchCmd_pends s f n hv ha hpd]
    · rw [hswitch, if_neg (ne_true_of_eq_false hr), switchCmd_invalid s f n hv]
    · rw [hinval, if_neg (ne_true_of_eq_false hr), invalidateCmd_idle s f n ha hld hpd]
    · refine ⟨_, (exec_contextLoadDone f s hs).trans (congrArg _ (loadDone_commits s f n a i hld hi)), ?_⟩
      rw [State.ctxStatus_fac, State.fac_setFac_same _ _ _ hlen]
      exact ⟨x.isValid_set_same n true (hvl ▸ hn), rfl, State.ctxStatus_status _ _ _ (by decide), rfl, rfl⟩
    · rw [exec_contextLoadDone f s hs, loadDone_fails s f n a i hld st hi]
    · refine ⟨_, exec_contextSwitchEffect f s hs, ?_⟩
      have he := switchEffect_takes f n q s hpd hq hz
      have hy : (switchEffect f s).fac f = x.switched n := by
        rw [he, State.ctxStatus_fac, State.bump_fac, State.fac_setFac_same _ _ _ hlen]
      obtain ⟨hregs, hmem⟩ := tryStart_regs_mem f (switchEffect f s)
      refine ⟨?_, ?_, fun k => ?_, ?_, ?_, ?_⟩
      · rw [tryStart_keeps Facet.active (fun _ _ _ _ => rfl), hy]
        rfl
      · rw [tryStart_keeps Facet.pend (fun _ _ _ _ => rfl), hy]
        rfl
      · rw [tryStart_keeps (fun x => x.credits k) (fun _ _ _ _ => rfl), hy]
        rfl
      · rw [tryStart_keeps Facet.slots (fun _ _ _ _ => rfl), hy]
        rfl
      · rw [State.fld_congr _ _ hregs, he, State.ctxStatus_status _ _ _ (by decide)]
      · rw [hmem, he]
        exact State.bump_mem _ _ _
  · intro org s f n m off d hp hl hf hn hm hd x
    have hlen : f < s.facets.length := hl ▸ hf
    refine ⟨fun ho hg hno hvl => ?_, fun ho hg hr => ?_, fun ho hg hx hr hw => ?_, fun b ho hg hx hr hw hb hb0 hok => ?_,
      fun v hg hs hb hc => ?_, fun v hg hs => ?_⟩
    · rw [exec_contextWindowWrite org f n off d s hp, contextWindowWrite_granted org s f n off d hf hn ho hg, if_neg hno]
      refine ⟨_, rfl, ?_⟩
      rw [State.fac_setFac_same _ _ _ hlen]
      exact ⟨x.isValid_set_same n false (hvl ▸ hn), rfl, rfl, fun k hk => x.isValid_set_ne n k false hk,
        fun h hh => State.fac_setFac_ne _ _ _ _ hh⟩
    · rw [exec_contextWindowWrite org f n off d s hp, contextWindowWrite_granted org s f n off d hf hn ho hg, if_pos hr]
    · rw [exec_descriptorWindowWrite org f m off d s hp, descriptorWindowWrite_stages org s f m off d hf hm ho hg hx hr hw]
      refine ⟨_, rfl, ?_⟩
      rw [State.fac_setFac_same _ _ _ hlen]
      exact ⟨rfl, by rw [klist_kset_same]; exact spliceBytes_ne_nil _ _ _ _, rfl⟩
    · have he : x.stagedOr m (off / 64) = b := by rw [Facet.stagedOr, hb, if_neg hb0]
      rw [exec_descriptorWindowWrite org f m off d s hp,
        descriptorWindowWrite_commits org s f m off d hf hm ho hg hx hr hw (he ▸ hok)]
      refine ⟨_, rfl, ?_⟩
      rw [State.fac_setFac_same _ _ _ hlen, ← he]
      exact ⟨kget_kset_same _ _ _, klist_kdel_same _ _, rfl⟩
    · refine ⟨_, exec_fctSpillWrite org f v s hp, ?_⟩
      have hval : (bits v 10 0 + bits v 21 16 * 2 ^ 16) % 2 ^ 32 = bits v 10 0 + bits v 21 16 * 2 ^ 16 := by
        have := bits_lt v 10 0
        omega
      have harea := State.settleArea_area (s.wr (fctOff f 0x1C) (bits v 10 0 + bits v 21 16 * 2 ^ 16)) f hlen
      obtain ⟨_, e⟩ := State.settleArea_frame (s.wr (fctOff f 0x1C) (bits v 10 0 + bits v 21 16 * 2 ^ 16)) f
      rw [State.rd_wr_same, hval] at harea
      rw [fctSpillWrite_fits org s f v hf hg hs hb hc]
      refine ⟨?_, fun hx => harea.trans (if_pos hx), fun hx => harea.trans (if_neg hx), ?_⟩
      · rw [State.rd_congr _ (s.wr (fctOff f 0x1C) (bits v 10 0 + bits v 21 16 * 2 ^ 16)) (by rw [e]), State.rd_wr_same, hval]
      · rw [e]
        rfl
    · rw [exec_fctSpillWrite org f v s hp, fctSpillWrite_large org s f v hf hg hs]

end Sys2Proof.Machine
end

section
/-!
SUPPORT. The proof of the generators' trips (O35).
-/
namespace Sys2Proof.Machine

theorem exec_agFire (f mu ag : Nat) (s : State) (hs : s.live) : exec (.agFire f mu ag) s = .next (agFire f mu ag s) :=
  congrArg _ (s.alive_runs _ hs.1 hs.2)

/-! ### Outputs of a generator -/

theorem klist_emitOut_same (x : Facet) (u o : Nat) (e : QEnt) :
    klist (x.emitOut u o e).outq (oKey u o) = klist x.outq (oKey u o) ++ [e] := klist_kput_same _ _ _

theorem klist_emitOut_ne (x : Facet) (u o o' : Nat) (e : QEnt) (h : o' ≠ o) :
    klist (x.emitOut u o e).outq (oKey u o') = klist x.outq (oKey u o') :=
  klist_kput_ne _ _ _ _ (by simpa [oKey] using h)

/-- The control token of a trip, if it emits one, enters the control output (R129). -/
def Facet.emitTok (x : Facet) (u : Nat) (tok : Option Nat) : Facet :=
  match tok with
  | some c => x.emitOut u 3 (mkEnt 2 [c] 1 false)
  | none => x

theorem klist_emitTok_control (x : Facet) (u : Nat) (tok : Option Nat) :
    klist (x.emitTok u tok).outq (oKey u 3) = klist x.outq (oKey u 3) ++ tok.toList.map fun c => mkEnt 2 [c] 1 false := by
  cases tok with
  | none => simp [Facet.emitTok]
  | some c => exact klist_emitOut_same x u 3 _

theorem klist_emitTok_ne (x : Facet) (u o : Nat) (tok : Option Nat) (h : o ≠ 3) :
    klist (x.emitTok u tok).outq (oKey u o) = klist x.outq (oKey u o) := by
  cases tok with
  | none => rfl
  | some c => exact klist_emitOut_ne x u 3 o _ h

/-- A token changes the output buffers alone. -/
theorem Facet.emitTok_keeps {α : Type} (g : Facet → α) (hg : ∀ x outq, g { x with outq := outq } = g x) (x : Facet) (u : Nat)
    (tok : Option Nat) : g (x.emitTok u tok) = g x := by
  cases tok with
  | none => rfl
  | some c => exact hg x _

@[simp] theorem Facet.agRun_setAg (x : Facet) (mu ag : Nat) (a : Ag) : (x.setAg mu ag a).agRun mu ag = a :=
  kgetD_kset_same _ _ _ _

theorem Facet.agRun_congr (x y : Facet) (h : x.ags = y.ags) (mu ag : Nat) : x.agRun mu ag = y.agRun mu ag := by
  simp [Facet.agRun, h]

/-- A bound read changes the landing ring alone (R283). -/
theorem Facet.agFreed_eq (x : Facet) (mu ag a : Nat) : ∃ ring, x.agFreed mu ag a = { x with ring := ring } := by
  unfold Facet.agFreed
  (repeat' split) <;> exact ⟨_, rfl⟩

@[simp] theorem Facet.agFreed_outq (x : Facet) (mu ag a : Nat) : (x.agFreed mu ag a).outq = x.outq := by
  obtain ⟨_, e⟩ := x.agFreed_eq mu ag a
  rw [e]

@[simp] theorem Facet.agFreed_inq (x : Facet) (mu ag a : Nat) : (x.agFreed mu ag a).inq = x.inq := by
  obtain ⟨_, e⟩ := x.agFreed_eq mu ag a
  rw [e]

/-- A facet after a trip put a read entry, then its token, into the outputs, its run being `a`. -/
def Facet.readPut (x : Facet) (mu ag o : Nat) (a : Ag) (tok : Option Nat) (e : QEnt) : Facet :=
  ((x.emitOut (16 + mu) o e).setAg mu ag a).emitTok (16 + mu) tok

section ReadPut
variable (x : Facet) (mu ag o : Nat) (a : Ag) (tok : Option Nat) (e : QEnt)

theorem klist_readPut_output (ho : o ≠ 3) : klist (x.readPut mu ag o a tok e).outq (oKey (16 + mu) o)
    = klist x.outq (oKey (16 + mu) o) ++ [e] :=
  (klist_emitTok_ne _ _ _ _ ho).trans (klist_emitOut_same _ _ _ _)

theorem klist_readPut_control (ho : o ≠ 3) : klist (x.readPut mu ag o a tok e).outq (oKey (16 + mu) 3)
    = klist x.outq (oKey (16 + mu) 3) ++ tok.toList.map fun c => mkEnt 2 [c] 1 false :=
  (klist_emitTok_control _ _ _).trans (congrArg (· ++ _) (klist_emitOut_ne _ _ _ _ _ ho.symm))

theorem agRun_readPut : (x.readPut mu ag o a tok e).agRun mu ag = a :=
  (Facet.agRun_congr _ _ (Facet.emitTok_keeps Facet.ags (fun _ _ => rfl) _ _ _) mu ag).trans (Facet.agRun_setAg _ _ _ _)

theorem readPut_inq : (x.readPut mu ag o a tok e).inq = x.inq :=
  Facet.emitTok_keeps Facet.inq (fun _ _ => rfl) _ _ _

end ReadPut

/-- The queue a generator takes from, and the output it puts into (R104). -/
def Facet.agQueue (x : Facet) (mu ag : Nat) : Nat := qKey (16 + mu) (bits (x.agCtl mu ag) 5 3)
def Facet.agOutput (x : Facet) (mu ag : Nat) : Nat := bits (x.agCtl mu ag) 7 6

section Trips
variable (s : State) (f mu ag : Nat) (t : Trip) (e : QEnt) (y : Facet)

/-! ### One trip of a stream (R128, R129) -/

/-- A reading trip with room for its entry and its token puts them out, counted. -/
theorem agReadTrip_byte (scalar : Bool) (b : Nat) (ho : (s.fac f).outRoom (16 + mu) ((s.fac f).agOutput mu ag) = true)
    (h3 : t.tok.isSome = true → (s.fac f).outRoom (16 + mu) 3 = true) (hp : t.padded = false)
    (hb : (s.fac f).agPlace mu ag t.addr = .byte b) :
    agReadTrip f mu ag t scalar s = (s.setFac f (((s.fac f).agFreed mu ag t.addr).readPut mu ag ((s.fac f).agOutput mu ag)
      ⟨((s.fac f).agRun mu ag).trip + 1, t.last⟩ t.tok (s.agRead (muOff f mu b) scalar))).bump (C.FCT_FIRES + fdi f) := by
  have h3' : (t.tok.isSome && !(s.fac f).outRoom (16 + mu) 3) = false := by simpa using h3
  unfold Facet.agOutput at ho
  simp only [agReadTrip, ho, h3', hp, hb]
  rfl

theorem agReadTrip_full (scalar : Bool) (ho : (s.fac f).outRoom (16 + mu) ((s.fac f).agOutput mu ag) = false) :
    agReadTrip f mu ag t scalar s = s.bump (C.FCT_STALL_OUT + fdi f) := by
  unfold Facet.agOutput at ho
  simp [agReadTrip, ho]

/-- The state after a writing trip took an entry, counted, and put out its token. -/
def State.tripTaken (s : State) (f mu ag : Nat) (t : Trip) (y : Facet) : State :=
  (s.setFac f ((y.setAg mu ag ⟨((s.fac f).agRun mu ag).trip + 1, t.last⟩).emitTok (16 + mu) t.tok)).bump (C.FCT_FIRES + fdi f)

/-- A writing trip takes an entry and stores it unless the trip is padded; the returned credit is checked. -/
theorem agWriteTrip_takes (h3 : t.tok.isSome = true → (s.fac f).outRoom (16 + mu) 3 = true)
    (hy : (s.fac f).pop ((s.fac f).agQueue mu ag) = (some e, y)) :
    agWriteTrip f mu ag t s = creditCheck f ((s.fac f).agQueue mu ag) (if t.padded then s.tripTaken f mu ag t y
      else (s.tripTaken f mu ag t y).twrite 0 (muOff f mu t.addr) e.memBytes e.poison) := by
  have h3' : (t.tok.isSome && !(s.fac f).outRoom (16 + mu) 3) = false := by simpa using h3
  unfold Facet.agQueue at hy
  simp only [agWriteTrip, h3', hy, if_neg Bool.false_ne_true]
  rfl

theorem agWriteTrip_empty (h3 : t.tok.isSome = true → (s.fac f).outRoom (16 + mu) 3 = true)
    (hy : (s.fac f).pop ((s.fac f).agQueue mu ag) = (none, y)) :
    agWriteTrip f mu ag t s = s.bump (C.FCT_STALL_IN + fdi f) := by
  have h3' : (t.tok.isSome && !(s.fac f).outRoom (16 + mu) 3) = false := by simpa using h3
  unfold Facet.agQueue at hy
  simp only [agWriteTrip, h3', hy, if_neg Bool.false_ne_true]

/-- The facets after a writing trip, but for the queue's credits. -/
theorem agWriteTrip_fac (h : Nat) : (if t.padded then s.tripTaken f mu ag t y
      else (s.tripTaken f mu ag t y).twrite 0 (muOff f mu t.addr) e.memBytes e.poison).fac h =
    (s.setFac f ((y.setAg mu ag ⟨((s.fac f).agRun mu ag).trip + 1, t.last⟩).emitTok (16 + mu) t.tok)).fac h := by
  have hb : (s.tripTaken f mu ag t y).fac h = _ := State.bump_fac _ _ _ _
  split
  · exact hb
  · exact (State.twrite_fac _ _ _ _ _ _).trans hb

/-! ### FIFO pairs (R88) -/

/-- A FIFO-pair write takes an entry into the region behind those held, counted; the returned credit is checked. -/
theorem agFifoWrite_takes (hd : (klist (s.fac f).fifo (mu * 2 + ag / 2)).length < (s.fac f).agDepth mu ag)
    (hy : (s.fac f).pop ((s.fac f).agQueue mu ag) = (some e, y)) :
    agFifoWrite f mu ag s = creditCheck f ((s.fac f).agQueue mu ag) (((s.setFac f
      { y.setAg mu ag ⟨(((s.fac f).agRun mu ag).trip + 1) % max 1 ((s.fac f).agDepth mu ag), false⟩ with
        fifo := kput y.fifo (mu * 2 + ag / 2) (klist y.fifo (mu * 2 + ag / 2) ++ [e]) }).bump (C.FCT_FIRES + fdi f)).twrite 0
        (muOff f mu ((s.fac f).agFifo mu ag + 128 * ((s.fac f).agRun mu ag).trip)) e.memBytes e.poison) := by
  unfold Facet.agQueue at hy
  simp only [agFifoWrite, if_neg (Nat.not_le.2 hd), hy]
  rfl

theorem agFifoWrite_full (hd : (s.fac f).agDepth mu ag ≤ (klist (s.fac f).fifo (mu * 2 + ag / 2)).length) :
    agFifoWrite f mu ag s = s.bump (C.FCT_STALL_OUT + fdi f) := if_pos hd

/-- A FIFO-pair read moves the oldest held entry out, counted. -/
theorem agFifoRead_moves (l : List QEnt) (he : klist (s.fac f).fifo (mu * 2 + ag / 2) = e :: l)
    (ho : (s.fac f).outRoom (16 + mu) ((s.fac f).agOutput mu ag) = true) :
    agFifoRead f mu ag s = (s.setFac f ({ s.fac f with fifo := kput (s.fac f).fifo (mu * 2 + ag / 2) l }.emitOut (16 + mu)
      ((s.fac f).agOutput mu ag) e)).bump (C.FCT_FIRES + fdi f) := by
  unfold Facet.agOutput at ho ⊢
  simp only [agFifoRead, he, ho, if_true]

theorem agFifoRead_empty (he : klist (s.fac f).fifo (mu * 2 + ag / 2) = []) :
    agFifoRead f mu ag s = s.bump (C.FCT_STALL_IN + fdi f) := by
  simp only [agFifoRead, he]

/-! ### What a generator that runs does (R128) -/

/-- The descriptor a generator runs, the sizes of its dimensions now, and its present trip. -/
def State.agDescr (s : State) (f mu ag : Nat) : List Byte := (s.fac f).descAt mu ((s.fac f).agDesc mu ag)
def State.agSizes (s : State) (f mu ag : Nat) : List (Nat × Nat) :=
  (descDims (s.agDescr f mu ag)).map (s.dimSize f (s.agDescr f mu ag))
def State.agTrip (s : State) (f mu ag : Nat) : Trip :=
  tripOf (s.agDescr f mu ag) (s.fac f).sq.xs (s.fac f).sq.ordinal (s.agSizes f mu ag) ((s.fac f).agRun mu ag).trip

/-- An enabled generator of a facet that moves has not completed its descriptor. -/
structure State.AgRuns (s : State) (f mu ag : Nat) : Prop where
  facet : f < 72
  unit : mu < 8
  gen : ag < 4
  moves : s.frozen f = false
  on : (s.fac f).agOn mu ag = true
  going : ((s.fac f).agRun mu ag).done = false

section Fires
variable (h : s.AgRuns f mu ag)
include h

theorem State.AgRuns.passes : ¬(72 ≤ f ∨ 8 ≤ mu ∨ 4 ≤ ag ∨ s.frozen f = true ∨ ((s.fac f).agRun mu ag).done = true) := by
  obtain ⟨hf, hm, ha, hz, -, hd⟩ := h
  simp only [hz, hd, Bool.false_eq_true, or_false]
  omega

theorem agFire_fifoWrite (hm : bits ((s.fac f).agCtl mu ag) 2 1 = 2) : agFire f mu ag s = agFifoWrite f mu ag s := by
  simp [agFire, if_neg h.passes, h.on, hm]

theorem agFire_fifoRead (hm : bits ((s.fac f).agCtl mu ag) 2 1 = 3) : agFire f mu ag s = agFifoRead f mu ag s := by
  simp [agFire, if_neg h.passes, h.on, hm]

theorem agFire_reads (hm : bits ((s.fac f).agCtl mu ag) 2 1 = 0) (hz : ((s.agSizes f mu ag).any fun p => p.1 = 0) = false) :
    agFire f mu ag s = agReadTrip f mu ag (s.agTrip f mu ag) (tbit (leAt (s.agDescr f mu ag) 7 1) 0) s := by
  unfold State.agSizes State.agDescr at hz
  simp only [agFire, if_neg h.passes, h.on, hm, hz]
  rfl

theorem agFire_writes (hm : bits ((s.fac f).agCtl mu ag) 2 1 = 1) (hz : ((s.agSizes f mu ag).any fun p => p.1 = 0) = false) :
    agFire f mu ag s = agWriteTrip f mu ag (s.agTrip f mu ag) s := by
  unfold State.agSizes State.agDescr at hz
  simp only [agFire, if_neg h.passes, h.on, hm, hz]
  rfl

end Fires
end Trips

/-! ### The statement -/

/-- Settles O35, mode by mode: reading and writing streams, and the two sides of a FIFO pair. -/
theorem generatorsMakeTrips : Obligations.GeneratorsMakeTrips := by
  unfold Obligations.GeneratorsMakeTrips
  intro s f mu ag hs hl hf hmu hag hz hon hgo x d z t o k fk
  have hlen : f < s.facets.length := hl ▸ hf
  have hr : s.AgRuns f mu ag := ⟨hf, hmu, hag, hz, hon, hgo⟩
  have hrun := exec_agFire f mu ag s hs
  refine ⟨fun hm hn => ?_, fun hm hn h3 => ?_, fun hm => ?_, fun hm => ?_⟩
  · rw [hrun, agFire_reads s f mu ag hr hm hn]
    refine ⟨fun b ho h3 hp hb ho3 => ⟨_, rfl, ?_⟩, fun ho => congrArg _ (agReadTrip_full s f mu ag t _ ho)⟩
    rw [agReadTrip_byte s f mu ag (s.agTrip f mu ag) _ b ho h3 hp hb, State.bump_fac, State.fac_setFac_same _ _ _ hlen]
    refine ⟨?_, ?_, agRun_readPut _ _ _ _ _ _ _, ?_, State.bump_mem _ _ _, State.bump_fires _ f,
      fun h hh => by rw [State.bump_fac, State.fac_setFac_ne _ _ _ _ hh]⟩
    · exact (klist_readPut_output _ _ _ _ _ _ _ ho3).trans (by rw [Facet.agFreed_outq]; rfl)
    · exact (klist_readPut_control _ _ _ _ _ _ _ ho3).trans (by rw [Facet.agFreed_outq]; rfl)
    · rw [readPut_inq, Facet.agFreed_inq]
  · rw [hrun, agFire_writes s f mu ag hr hm hn]
    refine ⟨fun e y hy => ⟨_, rfl, ?_⟩, fun y hy => congrArg _ (agWriteTrip_empty s f mu ag t y h3 hy)⟩
    rw [agWriteTrip_takes s f mu ag (s.agTrip f mu ag) e y h3 hy, creditCheck_mem]
    refine ⟨?_, fun hp => ?_, fun hp => ?_, fun h hh => ?_⟩
    · refine (Facet.agRun_congr _ _ (creditCheck_keeps Facet.ags (fun _ _ _ _ => rfl) _ _ _) mu ag).trans ?_
      rw [agWriteTrip_fac, State.fac_setFac_same _ _ _ hlen]
      exact (Facet.agRun_congr _ _ (Facet.emitTok_keeps Facet.ags (fun _ _ => rfl) _ _ _) mu ag).trans (Facet.agRun_setAg _ _ _ _)
    · exact (congrArg State.mem (if_pos hp)).trans (State.bump_mem _ _ _)
    · rw [show (s.agTrip f mu ag).padded = false from hp, if_neg Bool.false_ne_true, State.twrite_mem, State.tripTaken,
        State.bump_mem, State.setFac_mem]
      rfl
    · rw [creditCheck_fac_ne _ _ _ _ hh, agWriteTrip_fac, State.fac_setFac_ne _ _ _ _ hh]
  · rw [hrun, agFire_fifoWrite s f mu ag hr hm]
    refine ⟨fun e y hd hy => ⟨_, rfl, ?_⟩, fun hd => congrArg _ (agFifoWrite_full s f mu ag hd)⟩
    have hyf : y.fifo = x.fifo := by
      have h := x.pop_keeps Facet.fifo (fun _ _ _ _ => rfl) k
      rwa [hy] at h
    rw [agFifoWrite_takes s f mu ag e y hd hy, creditCheck_keeps Facet.fifo (fun _ _ _ _ => rfl), State.twrite_fac,
      State.bump_fac, State.fac_setFac_same _ _ _ hlen, hyf]
    exact ⟨klist_kput_same _ _ _, fun j hj => klist_kput_ne _ _ _ _ hj, fun h hh => by
      rw [creditCheck_fac_ne _ _ _ _ hh, State.twrite_fac, State.bump_fac, State.fac_setFac_ne _ _ _ _ hh]⟩
  · rw [hrun, agFire_fifoRead s f mu ag hr hm]
    refine ⟨fun e l he ho => ⟨_, rfl, ?_⟩, fun he => congrArg _ (agFifoRead_empty s f mu ag he)⟩
    rw [agFifoRead_moves s f mu ag e l he ho, State.bump_fac, State.fac_setFac_same _ _ _ hlen]
    exact ⟨klist_kput_same _ _ _, klist_emitOut_same _ _ _ _, State.bump_mem _ _ _,
      fun h hh => by rw [State.bump_fac, State.fac_setFac_ne _ _ _ _ hh]⟩

end Sys2Proof.Machine
end

section
/-!
SUPPORT. Rules of the facet sequencers: a sequencer, a tile counter and a launch put in place, and a program left.
-/
namespace Sys2Proof.Machine

/-! ### A sequencer put in place -/

section Sequencer
variable (s : State) (f h : Nat) (g : Sqr → Sqr) (k : Facet → Facet)

theorem State.fac_modFac_same (hf : f < s.facets.length) : (s.modFac f k).fac f = k (s.fac f) := s.fac_setFac_same f _ hf

theorem State.fac_modFac_ne (hh : h ≠ f) : (s.modFac f k).fac h = s.fac h := s.fac_setFac_ne f h _ hh

theorem State.sqr_modSq_same (hf : f < s.facets.length) : (s.modSq f g).sqr f = g (s.sqr f) :=
  congrArg Facet.sq (s.fac_modFac_same f _ hf)

theorem State.fac_modSq_ne (hh : h ≠ f) : (s.modSq f g).fac h = s.fac h := s.fac_modFac_ne f h _ hh

/-- The facets decide each sequencer. -/
theorem State.sqr_congr (s t : State) (he : s.facets = t.facets) (f : Nat) : s.sqr f = t.sqr f :=
  congrArg Facet.sq (State.fac_congr s t he f)

/-- A change of a facet that leaves its sequencer alone. -/
theorem State.sqr_modFac (hk : ∀ x, (k x).sq = x.sq) : (s.modFac f k).sqr h = s.sqr h := by
  by_cases hh : h = f
  · subst hh
    exact s.setFac_keeps Facet.sq h _ (hk _)
  · exact congrArg Facet.sq (s.fac_modFac_ne f h k hh)

/-- A change of a sequencer leaves the rest of its facet. -/
theorem State.modSq_keeps {α : Type} (r : Facet → α) (hr : ∀ x sq, r { x with sq := sq } = r x) :
    r ((s.modSq f g).fac f) = r (s.fac f) := s.setFac_keeps r f _ (hr _ _)

@[simp] theorem State.modSq_facets_length : (s.modSq f g).facets.length = s.facets.length := List.length_set

@[simp] theorem State.modFac_facets_length : (s.modFac f k).facets.length = s.facets.length := List.length_set

end Sequencer

/-! ### A tile counter put in place -/

theorem State.tc_setTc_same (s : State) (c : Nat) (t : Tctr) (hc : c < s.tctrs.length) : (s.setTc c t).tc c = t := by
  simp [State.tc, State.setTc, nth, hc]

/-- Replacing one counter leaves every other. -/
theorem State.tc_setTc_ne (s : State) (c d : Nat) (t : Tctr) (hd : d ≠ c) : (s.setTc c t).tc d = s.tc d := by
  simp [State.tc, State.setTc, nth, Ne.symm hd]

/-! ### A program left (R143, R149) -/

theorem dropStaged_facets (p : Staged → Bool) (s : State) : (dropStaged p s).facets = s.facets := by
  unfold dropStaged
  dsimp only
  split
  · rfl
  · exact State.bump_facets _ _ _

theorem chargeRun_facets (p : Pool) (s : State) : (chargeRun p s).facets = s.facets := by
  unfold chargeRun
  split
  · rfl
  · refine foldl_keeps State.facets _ (fun _ _ => ?_) _ _
    rfl

theorem endRun_facets (pool : Nat) (s : State) : (endRun pool s).facets = s.facets := by
  unfold endRun
  dsimp only
  split
  · rfl
  · rw [dropStaged_facets, chargeRun_facets]
    rfl

theorem launchOver_facets (pool : Nat) (s : State) : (launchOver pool s).facets = s.facets := by
  unfold launchOver
  split
  · dsimp only
    split
    · exact endRun_facets pool s
    · rfl
  · rfl

/-- A sequencer that left its launch with a status. -/
def Sqr.left (q : Sqr) (st : Nat) : Sqr :=
  { q with running := false, waiting := false, cur := none, claiming := false, status := st, named := [], exhausted := false }

section Leaving
variable (s : State) (f st : Nat) (stop : Option (Nat × Nat × Nat))

theorem leaveLaunch_facets : (leaveLaunch f st stop s).facets =
    ((s.modFac f fun x => { x with ring := none }).modSq f (Sqr.left · st)).facets := rfl

theorem leaveLaunch_sqr (hf : f < s.facets.length) : (leaveLaunch f st stop s).sqr f = (s.sqr f).left st := by
  rw [State.sqr_congr _ _ (leaveLaunch_facets s f st stop), State.sqr_modSq_same _ f _ (by rwa [State.modFac_facets_length]),
    State.sqr_modFac s f f (fun x => { x with ring := none }) fun _ => rfl]

theorem leaveLaunch_fac_ne (h : Nat) (hh : h ≠ f) : (leaveLaunch f st stop s).fac h = s.fac h := by
  rw [State.fac_congr _ _ (leaveLaunch_facets s f st stop), State.fac_modSq_ne _ _ _ _ hh, State.fac_modFac_ne _ _ _ _ hh]

/-- A stopped program has left its launch, its claim ahead among the tiles to return. -/
theorem stopProgram_sqr (hf : f < s.facets.length) : (stopProgram f st s).sqr f =
    { s.sqr f with ret := (s.sqr f).ret ++ (s.sqr f).ahead.toList, ahead := none }.left st := by
  unfold stopProgram
  dsimp only
  rw [State.sqr_congr _ _ (launchOver_facets _ _), leaveLaunch_sqr _ _ _ _ (by rwa [State.modSq_facets_length]),
    State.sqr_modSq_same _ _ _ hf]

theorem stopProgram_fac_ne (h : Nat) (hh : h ≠ f) : (stopProgram f st s).fac h = s.fac h := by
  unfold stopProgram
  dsimp only
  rw [State.fac_congr _ _ (launchOver_facets _ _), leaveLaunch_fac_ne _ _ _ _ _ hh, State.fac_modSq_ne _ _ _ _ hh]

end Leaving

end Sys2Proof.Machine
end

section
/-!
SUPPORT. The proof of the context commands refused under a program (O59).
-/
namespace Sys2Proof.Machine

/-- The expert field of a command register raises at most the register-access event (R445). -/
theorem State.expertArg_frame (s : State) (org : Originator) (off v : Nat) : ∃ x0 x1 x2 x3 x4,
    (s.expertArg org off v).2 = { s with pins := x0, regs := x1, cnts := x2, evt := x3, tap := x4 } := by
  unfold State.expertArg
  split
  · exact ⟨_, _, _, _, _, rfl⟩
  · exact s.accessEvent_frame org off 3

/-- A context command of software's that is granted answers REJ_STATE while a program runs, whatever slot it names. -/
theorem byCtxSource_reg_running (org : Originator) (f n : Nat) (k : Bool → Nat → State → State) (s : State) (hf : f < 72)
    (hg : s.grants org (fctOff f 8)) (hr : (s.sqr f).running = true) :
    byCtxSource (.reg org) f n k s = (s.expertArg org (fctOff f 8) (n % 4)).2.ctxStatus f 0x12 := by
  have he : (s.expertArg org (fctOff f 8) (n % 4)).2.facets = s.facets := by
    obtain ⟨_, _, _, _, _, e⟩ := s.expertArg_frame org (fctOff f 8) (n % 4)
    rw [e]
  have hrun : ((s.expertArg org (fctOff f 8) (n % 4)).2.fac f).sq.running = true := by rwa [State.fac_congr _ _ he]
  simp only [byCtxSource, if_neg (Nat.not_le.2 hf), State.gated_pass s org _ _ hg.1 hg.2, if_pos hrun]
  rfl

/-- LOAD, SWITCH and INVALIDATE by register are one context command that differs in what it does unrefused. -/
theorem exec_contextCommand (org : Originator) (f n : Nat) (c : Instr) (s : State) (h : s.power = .running)
    (hc : c = .contextLoad (.reg org) f n ∨ c = .contextSwitch (.reg org) f n ∨ c = .contextInvalidate (.reg org) f n) :
    ∃ k, exec c s = .next (byCtxSource (.reg org) f n k s) := by
  obtain rfl | rfl | rfl := hc <;> exact ⟨_, congrArg _ (s.on_running _ h)⟩

/-- Settles O59: the refusal sets the status alone, beside the event of an expert field that does not count. -/
theorem contextCommandsRefusedWhileRunning : Obligations.ContextCommandsRefusedWhileRunning := by
  unfold Obligations.ContextCommandsRefusedWhileRunning
  intro s org f n c hp hf hg hr hc
  obtain ⟨k, hk⟩ := exec_contextCommand org f n c s hp hc
  refine ⟨_, hk, ?_⟩
  rw [byCtxSource_reg_running org f n k s hf hg hr]
  obtain ⟨_, _, _, _, _, e⟩ := s.expertArg_frame org (fctOff f 8) (n % 4)
  rw [e]
  exact ⟨State.ctxStatus_status _ _ _ (by decide), rfl, rfl, rfl⟩

end Sys2Proof.Machine
end

section
/-!
SUPPORT. The proof of the issue of instructions (O36).
-/
namespace Sys2Proof.Machine

/-! ### What a running package does with each row of R135 -/

/-- The opcodes of R135, each with the command of its row. -/
def issueRows (f : Nat) : List (Nat × Instr) :=
  [(1, .matmul f), (2, .gatedFfn f), (3, .attention f), (4, .gateCand f), (5, .copyTile f),
    (0x10, .setx f), (0x11, .loadx f), (0x20, .barrier f), (0x3F, .endInstr f)]

/-- The command of a row issues its opcode. -/
theorem exec_issueRow (f op : Nat) (c : Instr) (s : State) (h : s.power = .running) (hc : (op, c) ∈ issueRows f) :
    exec c s = .next (issue op f s) := by
  simp only [issueRows, List.mem_cons, List.not_mem_nil, Prod.mk.injEq, or_false] at hc
  obtain ⟨rfl, rfl⟩ | ⟨rfl, rfl⟩ | ⟨rfl, rfl⟩ | ⟨rfl, rfl⟩ | ⟨rfl, rfl⟩ | ⟨rfl, rfl⟩ | ⟨rfl, rfl⟩ | ⟨rfl, rfl⟩ | ⟨rfl, rfl⟩ :=
    hc <;> exact congrArg _ (s.on_running _ h)

/-! ### Failed walks at issue (R214) -/

theorem State.mmuFault_facets (s : State) (va level reason facet ctx : Nat) :
    (s.mmuFault va level reason facet ctx).facets = s.facets := by
  obtain ⟨_, _, _, _, _, e⟩ := s.mmuFault_frame va level reason facet ctx
  rw [e]

/-! ### The judgement of an instruction (R142) -/

/-- Where no row of a list refuses, no condition of it holds. -/
theorem firstOf_eq_none {l : List (Bool × Nat)} (h : firstOf l = none) : ∀ x ∈ l, x.1 = false := by
  induction l with
  | nil => simp
  | cons x l ih =>
    obtain ⟨c, st⟩ := x
    rw [firstOf_cons] at h
    cases c with
    | true => simp at h
    | false => simpa using ih (by simpa using h)

section Judgement
variable (s : State) (l : Launch) (i : Macro) (xs : List Nat) (ix : Nat)

/-- An instruction judged is the one in hand. -/
@[simp] theorem State.judge_issued_i : (s.judge l i xs ix).issued.i = i := rfl

/-- An instruction that no check refuses met no failed walk. -/
theorem State.judge_fault (h : (s.judge l i xs ix).refusal = none) : (s.judge l i xs ix).fault = none := by
  have hrange := firstOf_eq_none h (_, St.range) (.tail _ (.head _))
  simp only [Bool.or_eq_false_iff, Bool.not_eq_false', Option.isNone_iff_eq_none, Option.isSome_eq_false_iff] at hrange
  obtain ⟨⟨⟨⟨⟨-, hread⟩, hwrite⟩, -⟩, -⟩, -⟩ := hrange
  simp only [State.judge, hread, hwrite]
  exact ite_self none

end Judgement

/-! ### Issue (R140, R143) -/

/-- The state after a walk of an issue failed, if one did. -/
def State.walkFailed (s : State) (f : Nat) (l : Launch) (fault : Option (Nat × Nat × Nat)) : State :=
  match fault with
  | some x => s.mmuFault x.1 x.2.1 x.2.2 f l.ctx
  | none => s

/-- What an issue does with its judgement: a refusal stops the program, else the instruction goes on. -/
def State.actOn (s : State) (f : Nat) (l : Launch) (j : Judged) : State :=
  match j.refusal with
  | some st => stopProgram f st (s.walkFailed f l j.fault)
  | none => goOn f l j.issued s

theorem State.walkFailed_facets (s : State) (f : Nat) (l : Launch) (fault : Option (Nat × Nat × Nat)) :
    (s.walkFailed f l fault).facets = s.facets := by
  cases fault with
  | none => rfl
  | some x => exact s.mmuFault_facets _ _ _ _ _

/-- A facet that may issue runs a program. -/
theorem State.mayIssue_running (s : State) (f : Nat) (h : s.mayIssue f = true) : f < 72 ∧ (s.sqr f).running = true := by
  simp only [State.mayIssue, Bool.and_eq_true, decide_eq_true_eq] at h
  obtain ⟨⟨⟨⟨⟨⟨⟨hf, hr⟩, -⟩, -⟩, -⟩, -⟩, -⟩, -⟩ := h
  exact ⟨hf, hr⟩

section Issue
variable (s : State) (f : Nat) (l : Launch) (i : Macro) (hi : s.atIssue f l i)
include hi

/-- The bytes at the instruction's address are those of the instruction. -/
theorem State.atIssue.fetched : ∃ b, s.vread ((s.sqr f).prog + 64 * (s.sqr f).index) 64 = .ok b false ∧ macroOf b = i := by
  obtain ⟨-, -, -, hgood, hbad, hcode, -⟩ := hi
  cases hv : s.vread ((s.sqr f).prog + 64 * (s.sqr f).index) 64 with
  | ok b bad =>
    rw [hv] at hbad hcode
    exact ⟨b, congrArg _ hbad, hcode⟩
  | fail a lv r =>
    rw [hv] at hgood
    exact absurd hgood Bool.false_ne_true

/-- The instruction at issue acts as it is judged. -/
theorem issue_atIssue : issue i.op f s = s.actOn f l (s.judge l i (s.sqr f).xs (s.sqr f).index) := by
  obtain ⟨b, hb, hcode⟩ := State.atIssue.fetched s f l i hi
  obtain ⟨hmay, hlaunch, hindex, -, -, -, hheld, hreads⟩ := hi
  simp only [issue, hmay, hlaunch, if_neg (Nat.not_le.2 hindex), hb, hcode, hheld, hreads, ne_eq, not_true, decide_false,
    Bool.and_false, Bool.not_true, Bool.false_eq_true, if_false]
  cases hr : (s.judge l i (s.sqr f).xs (s.sqr f).index).refusal with
  | some st =>
    simp only [State.actOn, hr]
    rfl
  | none => simp only [State.actOn, hr, s.judge_fault l i _ _ hr]

/-- An instruction that no check refuses goes on. -/
theorem issue_goesOn (h : (s.judge l i (s.sqr f).xs (s.sqr f).index).refusal = none) :
    issue i.op f s = goOn f l (s.judge l i (s.sqr f).xs (s.sqr f).index).issued s := by
  simp only [issue_atIssue s f l i hi, State.actOn, h]

/-- A refused instruction stops the program. -/
theorem issue_stops (st : Nat) (h : (s.judge l i (s.sqr f).xs (s.sqr f).index).refusal = some st) :
    issue i.op f s = stopProgram f st (s.walkFailed f l (s.judge l i (s.sqr f).xs (s.sqr f).index).fault) := by
  simp only [issue_atIssue s f l i hi, State.actOn, h]

end Issue

/-! ### Registers, waits and ends (R135, R149) -/

section GoingOn
variable (s : State) (f : Nat) (l : Launch) (is : Issued)

theorem goOn_setx (h : is.i.op = 0x10) :
    goOn f l is s = s.modSq f fun q => { q with xs := q.xs.set is.i.x is.i.a, index := q.index + 1 } := by
  simp only [goOn, h]

theorem goOn_loadx (h : is.i.op = 0x11) :
    goOn f l is s = s.modSq f fun q => { q with xs := q.xs.set is.i.x (s.vle is.i.a 8), index := q.index + 1 } := by
  simp only [goOn, h]

/-- A BARRIER or END passes where its counters are drained, and waits where they are not. -/
theorem goOn_wait (h : is.i.op = 0x20 ∨ is.i.op = 0x3F) :
    goOn f l is s = if s.mayPass f is.i then passWait f is.i s else beginWait f is s := by
  obtain h | h := h <;> simp only [goOn, h]

theorem passWait_barrier (i : Macro) (h : i.op = 0x20) :
    passWait f i s = s.modSq f fun q => { q with waiting := false, cur := none, index := q.index + 1 } := by
  simp [passWait, h]

theorem passWait_end (i : Macro) (h : i.op = 0x3F) :
    passWait f i s = launchOver (s.sqr f).pool (leaveLaunch f (s.endStatus f) none s) := by
  simp [passWait, h]

/-- The start of a wait changes the facet's sequencer and tells the counters, alone. -/
theorem beginWait_keeps {α : Type} (g : State → α) (hg : ∀ (s : State) tctrs, g { s with tctrs := tctrs } = g s) :
    g (beginWait f is s) = g (s.modSq f fun q => { q with waiting := true, cur := some is }) :=
  foldl_keeps g _ (fun t _ => hg t _) _ _

end GoingOn

/-! ### Instructions that run tiles (R68, R140, R283, R285) -/

/-- Noting a layer's reserve changes the Reticle's record of it and, where the layer degrades, what an event leaves. -/
theorem noteReserve_frame (c l k : Nat) (all : Bool) (s : State) : ∃ x0 x1 x2 x3,
    noteReserve c l k all s = { s with rtc := x0, cnts := x1, evt := x2, tap := x3 } := by
  unfold noteReserve degrade
  dsimp only
  split
  · split <;> exact ⟨_, _, _, _, rfl⟩
  · split
    · obtain ⟨_, _, _, e⟩ := State.raise_mild_frame _ E.precisionDegraded 0xFFFF c l 0 0 (by decide)
      exact ⟨_, _, _, _, e⟩
    · exact ⟨_, _, _, _, rfl⟩

/-- Noting reserves keeps every part of the state but the Reticle's, the counters, the events and the taps. -/
theorem State.noteReserves_keeps {α : Type} (g : State → α)
    (hg : ∀ (s : State) rtc cnts evt tap, g { s with rtc := rtc, cnts := cnts, evt := evt, tap := tap } = g s)
    (s : State) (l : Launch) (is : Issued) : g (s.noteReserves l is) = g s := by
  refine foldl_keeps g _ (fun t y => ?_) _ s
  obtain ⟨_, _, _, _, e⟩ := noteReserve_frame l.ctx y (layerKey l.ctx l.gslot y) _ t
  exact (congrArg g e).trans (hg _ _ _ _ _)

section Staging
variable {α : Type} (g : State → α) (hg : ∀ (s : State) pins regs cnts evt tap mem srv res,
  g { s with pins := pins, regs := regs, cnts := cnts, evt := evt, tap := tap, mem := mem, srv := srv, res := res } = g s)
include hg

theorem vcount_keeps (va n f : Nat) (s : State) : g (s.vcount va n f) = g s := by
  obtain ⟨_, _, _, _, _, e⟩ := s.vcount_frame va n f
  rw [e]
  exact hg s _ _ _ _ _ s.mem s.srv s.res

theorem twrite_keeps (sp off : Nat) (bs : List Byte) (p : Bool) (s : State) : g (s.twrite sp off bs p) = g s := by
  obtain ⟨_, _, _, _, e⟩ := s.twrite_frame sp off bs p
  rw [e]
  exact hg s s.pins s.regs _ _ _ _ s.srv s.res

theorem copyUnit_keeps (va n dst : Nat) (s : State) : g (copyUnit va n dst s) = g s := by
  unfold copyUnit
  dsimp only
  split
  · exact (foldl_keeps g _ (fun t k => twrite_keeps g hg _ _ _ _ t) _ _).trans (vcount_keeps g hg va n 127 s)
  · exact (twrite_keeps g hg _ _ _ _ _).trans (vcount_keeps g hg va n 127 s)

theorem stageTile_keeps (l : Launch) (e : StreamEnt) (us : List (Nat × Nat)) (ffn die : Nat) (s : State) :
    g (stageTile l e us ffn die s).2 = g s := by
  unfold stageTile
  dsimp only
  split
  · rfl
  · refine foldl_keeps g _ (fun t x => ?_) _ s
    exact (hg (copyUnit _ _ _ t) _ _ _ _ _ _ _ _).trans (copyUnit_keeps g hg _ _ _ t)

theorem stageTiles_keeps (l : Launch) (e : StreamEnt) (units : Nat → State → List (Nat × Nat)) (ts : List (Nat × Nat))
    (s : State) : g (stageTiles l e units ts s) = g s := by
  induction ts generalizing s with
  | nil => rfl
  | cons t ts ih =>
    unfold stageTiles
    dsimp only
    split
    · exact (ih _).trans (stageTile_keeps g hg l e _ _ _ s)
    · rfl

/-- Staging changes the launch, the memories, the Condenser and what accesses count and raise, alone. -/
theorem stageFor_keeps (l : Launch) (pool ix : Nat) (s : State) : g (stageFor l pool ix s) = g s := by
  unfold stageFor
  dsimp only
  split
  · rfl
  · split
    · rfl
    · exact (stageTiles_keeps g hg l _ _ _ _).trans (hg s s.pins s.regs s.cnts s.evt s.tap s.mem _ s.res)

end Staging

/-- With staging disabled nothing is staged. -/
theorem stageFor_disabled (l : Launch) (pool ix : Nat) (s : State) (h : s.flag F.TIER_COND_stage_en = false) :
    stageFor l pool ix s = s := by
  simp only [stageFor, h]
  split <;> rfl

/-- The state in which a facet takes an instruction in hand: its tensors' reserves noted, its ring bound, tiles staged. -/
def State.prepared (s : State) (f : Nat) (l : Launch) (is : Issued) : State :=
  stageFor l ((s.noteReserves l is).sqr f).pool ((s.noteReserves l is).sqr f).index
    (bindRing f l ((s.noteReserves l is).sqr f).index (s.noteReserves l is))

section Tiles
variable (s : State) (f : Nat) (l : Launch) (is : Issued)

/-- An instruction that runs tiles is taken in hand with its counter named and its first claim out. -/
theorem goOn_tiles (h : hasTiles is.i.op = true) : ∃ wide, goOn f l is s = (s.prepared f l is).modSq f fun q =>
    { q with cur := some { is with wide := wide }, claiming := true, ordinal := 0, exhausted := false,
             named := kset q.named is.i.counter q.index } := by
  have hop : is.i.op = 1 ∨ is.i.op = 2 ∨ is.i.op = 3 ∨ is.i.op = 4 ∨ is.i.op = 5 := by
    simp only [hasTiles, Bool.and_eq_true, decide_eq_true_eq] at h
    omega
  obtain h | h | h | h | h := hop <;>
  · simp only [goOn, h]
    exact ⟨_, rfl⟩

/-- Binding a ring leaves every sequencer. -/
theorem bindRing_sqr (ix h : Nat) : (bindRing f l ix s).sqr h = s.sqr h := by
  refine s.sqr_modFac f h _ ?_
  exact fun _ => rfl

theorem bindRing_fac_ne (ix h : Nat) (hh : h ≠ f) : (bindRing f l ix s).fac h = s.fac h := s.fac_modFac_ne f h _ hh

/-- Preparing an issue changes of the facets the landing ring of its own. -/
theorem State.prepared_facets : (s.prepared f l is).facets =
    (bindRing f l ((s.noteReserves l is).sqr f).index (s.noteReserves l is)).facets :=
  stageFor_keeps State.facets (fun _ _ _ _ _ _ _ _ _ => rfl) _ _ _ _

theorem State.noteReserves_facets : (s.noteReserves l is).facets = s.facets :=
  State.noteReserves_keeps State.facets (fun _ _ _ _ _ => rfl) s l is

theorem State.prepared_facets_length : (s.prepared f l is).facets.length = s.facets.length := by
  rw [State.prepared_facets, bindRing, State.modFac_facets_length, State.noteReserves_facets]

theorem State.prepared_sqr (h : Nat) : (s.prepared f l is).sqr h = s.sqr h := by
  rw [State.sqr_congr _ _ (State.prepared_facets s f l is), bindRing_sqr, State.sqr_congr _ _ (State.noteReserves_facets s l is)]

theorem State.prepared_fac_ne (h : Nat) (hh : h ≠ f) : (s.prepared f l is).fac h = s.fac h := by
  rw [State.fac_congr _ _ (State.prepared_facets s f l is), bindRing_fac_ne _ _ _ _ _ hh,
    State.fac_congr _ _ (State.noteReserves_facets s l is)]

theorem State.prepared_tctrs : (s.prepared f l is).tctrs = s.tctrs :=
  (stageFor_keeps State.tctrs (fun _ _ _ _ _ _ _ _ _ => rfl) _ _ _ _).trans
    (State.noteReserves_keeps State.tctrs (fun _ _ _ _ _ => rfl) s l is)

theorem State.prepared_mem (h : s.flag F.TIER_COND_stage_en = false) : (s.prepared f l is).mem = s.mem := by
  have hregs : (bindRing f l ((s.noteReserves l is).sqr f).index (s.noteReserves l is)).regs = s.regs :=
    State.noteReserves_keeps State.regs (fun _ _ _ _ _ => rfl) s l is
  rw [State.prepared, stageFor_disabled _ _ _ _ ((State.flag_congr _ _ hregs _ _).trans h)]
  exact State.noteReserves_keeps State.mem (fun _ _ _ _ _ => rfl) s l is

end Tiles

/-! ### The statement -/

/-- Settles O36: the instruction acts as it is judged, and what it then does is read off the lemma of its kind. -/
theorem instructionsIssueOrStop : Obligations.InstructionsIssueOrStop := by
  unfold Obligations.InstructionsIssueOrStop
  intro s f l i hs hl hi q j row
  obtain ⟨hf72, hrun⟩ := State.mayIssue_running s f hi.1
  have hf : f < s.facets.length := hl ▸ hf72
  have hrow : ∀ c, (i.op, c) ∈ row → exec c s = .next (issue i.op f s) := fun c hc => exec_issueRow f i.op c s hs.1 hc
  refine ⟨fun c hc ht hr => ?_, fun ho hr => ?_, fun ho hr => ?_, fun ho hr hp => ?_, fun ho hr hp => ?_,
    fun c hc ho hr hp => ?_, fun c st hc hr => ?_⟩
  · obtain ⟨wide, e⟩ := goOn_tiles s f l j.issued ht
    refine ⟨_, (hrow c hc).trans (congrArg _ ((issue_goesOn s f l i hi hr).trans e)), ?_⟩
    rw [State.sqr_modSq_same _ _ _ (by rwa [State.prepared_facets_length]), State.prepared_sqr]
    exact ⟨rfl, rfl, rfl, kget_kset_same _ _ _, hrun, rfl, State.prepared_tctrs s f l _,
      fun h hh => (State.fac_modSq_ne _ _ _ _ hh).trans (State.prepared_fac_ne s f l _ h hh), State.prepared_mem s f l _⟩
  · rw [exec_issueRow f i.op (.setx f) s hs.1 (by simp [ho, issueRows]), issue_goesOn s f l i hi hr, goOn_setx s f l _ ho]
    rfl
  · rw [exec_issueRow f i.op (.loadx f) s hs.1 (by simp [ho, issueRows]), issue_goesOn s f l i hi hr, goOn_loadx s f l _ ho]
    rfl
  · rw [exec_issueRow f i.op (.barrier f) s hs.1 (by simp [ho, issueRows]), issue_goesOn s f l i hi hr,
      goOn_wait s f l _ (.inl ho), State.judge_issued_i, if_pos hp, passWait_barrier s f i ho]
  · refine ⟨_, exec_issueRow f i.op (.endInstr f) s hs.1 (by simp [ho, issueRows]), ?_⟩
    rw [issue_goesOn s f l i hi hr, goOn_wait s f l _ (.inr ho), State.judge_issued_i, if_pos hp, passWait_end s f i ho,
      State.sqr_congr _ _ (launchOver_facets _ _), leaveLaunch_sqr _ _ _ _ hf]
    exact ⟨rfl, rfl, rfl, fun h hh => by
      rw [State.fac_congr _ _ (launchOver_facets _ _), leaveLaunch_fac_ne _ _ _ _ _ hh]⟩
  · refine ⟨_, hrow c hc, ?_⟩
    rw [issue_goesOn s f l i hi hr, goOn_wait s f l _ ho, State.judge_issued_i, if_neg (ne_true_of_eq_false hp),
      beginWait_keeps s f _ (State.sqr · f) (fun _ _ => rfl), State.sqr_modSq_same _ _ _ hf]
    exact ⟨rfl, rfl, beginWait_keeps s f _ State.mem fun _ _ => rfl, fun h hh =>
      (beginWait_keeps s f _ (State.fac · h) fun _ _ => rfl).trans (State.fac_modSq_ne _ _ _ _ hh)⟩
  · refine ⟨_, (hrow c hc).trans (congrArg _ (issue_stops s f l i hi st hr)), ?_⟩
    have hu := State.walkFailed_facets s f l j.fault
    rw [stopProgram_sqr _ _ _ (by rwa [hu]), State.sqr_congr _ _ hu]
    exact ⟨rfl, rfl, rfl, rfl, fun h hh => (stopProgram_fac_ne _ _ _ _ hh).trans (State.fac_congr _ _ hu h)⟩

end Sys2Proof.Machine
end

section
/-!
SUPPORT. The proof of launches, stand-downs, joins and counter resets (O38).
-/
namespace Sys2Proof.Machine

/-! ### What a live package does with each command -/

section Commands
variable (s : State) (f : Nat) (hs : s.live) (hf : f < 72)
include hs

theorem exec_launchStart (p : Nat) (hp : p < 2) : exec (.launchStart p) s = .next (launchStart p s) :=
  congrArg _ ((s.alive_runs _ hs.1 hs.2).trans (if_pos hp))

include hf

theorem exec_barrierRelease : exec (.barrierRelease f) s = .next (barrierRelease f s) :=
  congrArg _ ((s.alive_runs _ hs.1 hs.2).trans (if_pos hf))

theorem exec_standDownRequest (who : StandDownBy) : exec (.standDownRequest f who) s = .next (standDown f who s) :=
  congrArg _ ((s.alive_runs _ hs.1 hs.2).trans (if_pos hf))

theorem exec_facetJoinPool : exec (.facetJoinPool f) s = .next (facetJoin f s) :=
  congrArg _ ((s.alive_runs _ hs.1 hs.2).trans (if_pos hf))

end Commands

theorem exec_tileCounterReset (org : Originator) (c : Nat) (s : State) (h : s.power = .running) :
    exec (.tileCounterReset org c) s = .next (tileCounterReset org c s) := congrArg _ (s.on_running _ h)

/-! ### Entering a launch (R133, R251) -/

/-- A sequencer at the start of a launch's program. -/
def Sqr.entered (q : Sqr) (l : Launch) (pool : Nat) : Sqr :=
  { q with running := true, waiting := false, standing := false, launch := l.id, ctx := l.ctx, pool := pool, prog := l.prog,
           index := 0, xs := l.xs, own := 0, cur := none, claiming := false, named := [], exhausted := false, ordinal := 0 }

theorem enter_eq (l : Launch) (pool f : Nat) (s : State) : enter l pool f s = s.modSq f (Sqr.entered · l pool) := rfl

/-! ### Folds of operations that each change one place -/

section Pointwise
variable {β : Type} (read : State → Nat → β) (op : State → Nat → State)
  (hne : ∀ t a b, b ≠ a → read (op t a) b = read t b)
include hne

/-- A place that no operation of a fold names keeps what it holds. -/
theorem foldl_read_notin (l : List Nat) (t : State) (b : Nat) (hb : b ∉ l) : read (l.foldl op t) b = read t b := by
  induction l generalizing t with
  | nil => rfl
  | cons a l ih =>
    obtain ⟨ha, hl⟩ := not_or.1 (mt List.mem_cons.2 hb)
    exact (ih _ hl).trans (hne _ _ _ ha)

/-- A place that a fold's operations name once holds what that operation makes of it. -/
theorem foldl_read_mem (upd : β → β) (ok : State → Nat → Prop) (hok : ∀ t a b, ok t b → ok (op t a) b)
    (hsame : ∀ t a, ok t a → read (op t a) a = upd (read t a)) (l : List Nat) (hn : l.Nodup) (t : State) (b : Nat)
    (hb : b ∈ l) (ht : ok t b) : read (l.foldl op t) b = upd (read t b) := by
  induction l generalizing t with
  | nil => simp at hb
  | cons a l ih =>
    obtain ⟨ha, hn⟩ := List.nodup_cons.1 hn
    obtain rfl | hb := List.mem_cons.1 hb
    · exact (foldl_read_notin read op hne l _ _ ha).trans (hsame _ _ ht)
    · exact (ih hn _ hb (hok _ _ _ ht)).trans (congrArg upd (hne _ _ _ fun e => ha (e ▸ hb)))

end Pointwise

section Entering
variable (l : Launch) (pool : Nat) (fs : List Nat) (s : State)

/-- Facets that enter a launch in order. -/
def enterAll : State := fs.foldl (fun t f => enter l pool f t) s

/-- Facets that enter a launch leave all but the facets. -/
theorem enterAll_keeps {α : Type} (g : State → α) (hg : ∀ (s : State) facets, g { s with facets := facets } = g s) :
    g (enterAll l pool fs s) = g s :=
  foldl_keeps g _ (fun t _ => hg t _) _ _

theorem fac_enterAll_notin (h : Nat) (hh : h ∉ fs) : (enterAll l pool fs s).fac h = s.fac h :=
  foldl_read_notin State.fac _ (fun t a b => t.fac_modSq_ne a b _) fs s h hh

/-- Each facet of a list stands at the start of the launch's program. -/
theorem sqr_enterAll_mem (hn : fs.Nodup) (h : Nat) (hh : h ∈ fs) (hl : h < s.facets.length) :
    (enterAll l pool fs s).sqr h = (s.sqr h).entered l pool :=
  foldl_read_mem State.sqr _ (fun t a b hb => congrArg Facet.sq (t.fac_modSq_ne a b _ hb)) (Sqr.entered · l pool)
    (fun t a => a < t.facets.length) (fun t a _ hb => (t.modSq_facets_length a _).symm ▸ hb)
    (fun t a ha => t.sqr_modSq_same a _ ha) fs hn s h hh hl

end Entering

/-! ### The counters of a pool set to FREE (R151, R251) -/

/-- A counter as the start of a launch leaves it. -/
def Tctr.cleared (t : Tctr) : Tctr := { t.freed with waiters := [] }

section Clearing
variable (cs : List Nat) (s : State)

/-- Counters of a list cleared in order. -/
def clearTctrs : State := cs.foldl (fun t c => t.setTc c (t.tc c).cleared) s

/-- Clearing counters leaves all but the counters. -/
theorem clearTctrs_keeps {α : Type} (g : State → α) (hg : ∀ (s : State) tctrs, g { s with tctrs := tctrs } = g s) :
    g (clearTctrs cs s) = g s :=
  foldl_keeps g _ (fun t _ => hg t _) _ _

theorem tc_clearTctrs_notin (d : Nat) (hd : d ∉ cs) : (clearTctrs cs s).tc d = s.tc d :=
  foldl_read_notin State.tc _ (fun t a b => t.tc_setTc_ne a b _) cs s d hd

theorem tc_clearTctrs_mem (hn : cs.Nodup) (d : Nat) (hd : d ∈ cs) (hl : d < s.tctrs.length) :
    (clearTctrs cs s).tc d = (s.tc d).cleared :=
  foldl_read_mem State.tc _ (fun t a b => t.tc_setTc_ne a b _) Tctr.cleared (fun t a => a < t.tctrs.length)
    (fun _ _ _ hb => List.length_set.symm ▸ hb) (fun t a ha => t.tc_setTc_same a _ ha) cs hn s d hd hl

end Clearing

/-- The counters of a pool (R251). -/
def poolCounters (p : Nat) : List Nat := (List.range 32).map (ctrOf p)

theorem mem_poolCounters (p d : Nat) : d ∈ poolCounters p ↔ d / 32 = p := by
  simp only [poolCounters, ctrOf, List.mem_map, List.mem_range]
  constructor
  · rintro ⟨c, hc, rfl⟩
    omega
  · exact fun h => ⟨d % 32, Nat.mod_lt _ (by decide), by omega⟩

theorem poolCounters_nodup (p : Nat) : (poolCounters p).Nodup :=
  List.pairwise_map.2 (List.nodup_range.imp fun hne h => hne (Nat.add_left_cancel h))

/-! ### Pools -/

/-- Pool `p`. -/
def State.pool (s : State) (p : Nat) : Pool := nth s.srv.pools p ⟨[], none⟩

/-- Replaces pool `p`. -/
def State.setPool (s : State) (p : Nat) (x : Pool) : State := { s with srv := { s.srv with pools := s.srv.pools.set p x } }

theorem State.pool_setPool_same (s : State) (p : Nat) (x : Pool) (hp : p < s.srv.pools.length) : (s.setPool p x).pool p = x := by
  simp [State.pool, State.setPool, nth, hp]

@[simp] theorem State.setPool_facets (s : State) (p : Nat) (x : Pool) : (s.setPool p x).facets = s.facets := rfl

theorem State.modLaunch_eq (s : State) (p : Nat) (g : Launch → Launch) :
    s.modLaunch p g = s.setPool p { s.pool p with run := (s.pool p).run.map g } := rfl

/-! ### A launch starts (R251) -/

/-- The facets a pool's next launch starts on. -/
def State.starters (s : State) (p : Nat) : List Nat := (s.members p).filter s.idleFacet

/-- A launch as it starts on them. -/
def State.startedOn (s : State) (p : Nat) (l : Launch) : Launch := { l with facets := s.starters p, began := s.us }

/-- The first queued launch of a free pool starts on the idle members, the pool's counters cleared. -/
theorem launchStart_starts (p : Nat) (s : State) (l : Launch) (rest : List Launch) (hq : s.pool p = ⟨l :: rest, none⟩)
    (hne : s.starters p ≠ []) :
    launchStart p s = enterAll (s.startedOn p l) p (s.starters p)
      (clearTctrs (poolCounters p) (s.setPool p ⟨rest, some (s.startedOn p l)⟩)) := by
  unfold State.pool at hq
  unfold State.starters at hne
  simp only [launchStart, hq, if_neg hne, enterAll, clearTctrs, poolCounters, List.foldl_map]
  rfl

theorem State.starters_nodup (s : State) (p : Nat) : (s.starters p).Nodup := (List.nodup_range.filter _).filter _

theorem State.lt_of_mem_starters (s : State) (p f : Nat) (h : f ∈ s.starters p) : f < 72 :=
  List.mem_range.1 (List.mem_filter.1 (List.mem_filter.1 h).1).1

/-! ### Waits end (R149, R150) -/

@[simp] theorem State.unwait_facets (s : State) (f : Nat) : (s.unwait f).facets = s.facets := rfl

theorem State.tc_unwait (s : State) (f c : Nat) (hc : c < s.tctrs.length) :
    (s.unwait f).tc c = { s.tc c with waiters := (s.tc c).waiters.erase f } := by
  simp [State.unwait, State.tc, nth, hc]

section Release
variable (s : State) (f : Nat) (is : Issued) (hc : (s.sqr f).cur = some is)
include hc

/-- A facet that waits at a BARRIER whose counter is drained passes it, its waits ended. -/
theorem barrierRelease_passes (ho : is.i.op = 0x20) (hw : (s.sqr f).waiting = true) (hr : (s.sqr f).running = true)
    (hp : s.mayPass f is.i = true) :
    barrierRelease f s = (s.unwait f).modSq f fun q => { q with waiting := false, cur := none, index := q.index + 1 } := by
  simp only [barrierRelease, hc, hw, hr, hp, Bool.and_self, if_true, passWait_barrier _ _ _ ho]

theorem barrierRelease_waits (hp : s.mayPass f is.i = false) : barrierRelease f s = s := by
  simp only [barrierRelease, hc, hp, Bool.and_false, Bool.false_eq_true, if_false]

end Release

/-! ### Standing down (R150, R413) -/

/-- A sequencer asked to stand down, and one that stood down. -/
def Sqr.standingDown (q : Sqr) : Sqr := { q with standing := true, claiming := false, waiting := false }
def Sqr.stoodDown (q : Sqr) : Sqr :=
  { q with running := false, waiting := false, cur := none, claiming := false, named := [], exhausted := false, ordinal := 0 }

section StandDown
variable (s : State) (f : Nat)

/-- A facet that stands down and holds nothing leaves its launch: no other facet changes, and no memory. -/
theorem settleDown_cases : settleDown f s = s ∨ ∃ srv,
    settleDown f s = { (s.modFac f fun x => { x with ring := none }).modSq f Sqr.stoodDown with srv := srv } := by
  unfold settleDown
  dsimp only
  split
  · exact .inr ⟨_, rfl⟩
  · exact .inl rfl

theorem settleDown_mem : (settleDown f s).mem = s.mem := by
  obtain e | ⟨_, e⟩ := settleDown_cases s f
  · rw [e]
  · rw [e]
    rfl

theorem settleDown_fac_ne (h : Nat) (hh : h ≠ f) : (settleDown f s).fac h = s.fac h := by
  obtain e | ⟨_, e⟩ := settleDown_cases s f
  · rw [e]
  · rw [e]
    exact (State.fac_modSq_ne _ f h _ hh).trans (s.fac_modFac_ne f h _ hh)

/-- Settling down leaves all of the facet but its landing ring and its sequencer. -/
theorem settleDown_keeps {α : Type} (g : Facet → α) (hg : ∀ x sq ring, g { x with sq := sq, ring := ring } = g x) :
    g ((settleDown f s).fac f) = g (s.fac f) := by
  obtain e | ⟨_, e⟩ := settleDown_cases s f
  · rw [e]
  · rw [e]
    refine (State.modSq_keeps (s.modFac f fun x => { x with ring := none }) f _ g fun x sq => hg x sq x.ring).trans ?_
    exact s.setFac_keeps g f _ (hg (s.fac f) (s.fac f).sq none)

/-- The sequencer stood down or is as it was. -/
theorem settleDown_sqr (hf : f < s.facets.length) :
    (settleDown f s).sqr f = s.sqr f ∨ (settleDown f s).sqr f = (s.sqr f).stoodDown := by
  obtain e | ⟨_, e⟩ := settleDown_cases s f
  · exact .inl (congrArg (State.sqr · f) e)
  · right
    rw [e]
    refine (State.sqr_modSq_same (s.modFac f fun x => { x with ring := none }) f _ ?_).trans (congrArg Sqr.stoodDown ?_)
    · rwa [State.modFac_facets_length]
    · exact s.sqr_modFac f f (fun x => { x with ring := none }) fun _ => rfl

/-- A facet asked to stand down claims no more and waits no more, whether it settles down at once or not. -/
theorem settleDown_standingDown (hf : f < s.facets.length) (q : Sqr) (hq : s.sqr f = q.standingDown) :
    ((settleDown f s).sqr f).standing = true ∧ ((settleDown f s).sqr f).claiming = false ∧
      ((settleDown f s).sqr f).waiting = false := by
  obtain e | e := settleDown_sqr s f hf
  · rw [e, hq]
    exact ⟨rfl, rfl, rfl⟩
  · rw [e, hq]
    exact ⟨rfl, rfl, rfl⟩

/-- A gate request that does not meet the last active facet makes the sequencer stand down. -/
theorem standDown_gated (hg : (s.fac f).gated = 1) (ha : s.lastActive f = false) :
    standDown f .shutter s = settleDown f ((s.modSq f Sqr.standingDown).unwait f) := by
  simp only [standDown, hg, ha]
  rfl

theorem standDown_withdrawn (hg : (s.fac f).gated = 1) (ha : s.lastActive f = true) :
    standDown f .shutter s = s.setFac f { s.fac f with gated := 0 } := by
  simp [standDown, State.modFac, hg, ha]

theorem standDown_unasked (hp : (s.fac f).pool < 3) : standDown f .focus s = s := by
  have h3 : (s.fac f).pool ≠ 3 := by omega
  have h4 : (s.fac f).pool ≠ 4 := by omega
  simp [standDown, h3, h4]

end StandDown

/-! ### Joining (R151, R263) -/

/-- A facet that is a member of a pool, no longer asked to stand down. -/
def Facet.joined (x : Facet) (p : Nat) : Facet := { x with pool := p, sq := { x.sq with standing := false } }

/-- A launch that a facet takes up besides those that run it. -/
def Launch.joinedBy (l : Launch) (f : Nat) : Launch := { l with facets := l.facets ++ [f], bare := false }

/-- A facet that joined a pool takes up its launch, unless it is among the launch's facets or none of them is left. -/
def takeUpLaunch (p f : Nat) (s : State) : State :=
  match s.pool p with
  | ⟨_, some l⟩ =>
    if l.facets.contains f || (decide (l.facets = []) && !l.bare) then s
    else enter l p f (s.modLaunch p (Launch.joinedBy · f))
  | _ => s

/-- A facet that moved into a pool; the last facet on the move ends the move of the Focus controller (R263). -/
def State.movedTo (s : State) (f p : Nat) : State :=
  let t := s.modFac f (Facet.joined · p)
  if (List.range 72).all fun g => (t.fac g).pool ≠ 3 && (t.fac g).pool ≠ 4 then t.bump C.SEQ_FOCUS_MOVES else t

section Joining
variable (s : State) (f p : Nat)

theorem takeUpLaunch_takes (q : List Launch) (l : Launch) (hq : s.pool p = ⟨q, some l⟩) (hc : l.facets.contains f = false)
    (hl : l.facets ≠ []) :
    takeUpLaunch p f s = enter l p f (s.setPool p ⟨q, some (l.joinedBy f)⟩) := by
  simp only [takeUpLaunch, hq, hc, hl, State.modLaunch_eq]
  rfl

theorem takeUpLaunch_cases : takeUpLaunch p f s = s ∨ ∃ l x, takeUpLaunch p f s = enter l p f (s.setPool p x) := by
  unfold takeUpLaunch
  split
  · split
    · exact .inl rfl
    · exact .inr ⟨_, _, rfl⟩
  · exact .inl rfl

theorem State.movedTo_facets : (s.movedTo f p).facets = (s.modFac f (Facet.joined · p)).facets := by
  unfold State.movedTo
  dsimp only
  split
  · exact State.bump_facets _ _ _
  · rfl

theorem State.movedTo_mem : (s.movedTo f p).mem = s.mem := by
  unfold State.movedTo
  dsimp only
  split
  · exact State.bump_mem _ _ _
  · rfl

theorem facetJoin_busy (hi : s.idleFacet f = false) : facetJoin f s = s := by
  simp [facetJoin, hi]

variable (hi : s.idleFacet f = true)
include hi

/-- An idle member of a pool stays one, and takes up its launch. -/
theorem facetJoin_member (hp : (s.fac f).pool < 2) :
    facetJoin f s = takeUpLaunch (s.fac f).pool f (s.modFac f (Facet.joined · (s.fac f).pool)) := by
  have h3 : (s.fac f).pool ≠ 3 := by omega
  have h4 : (s.fac f).pool ≠ 4 := by omega
  simp only [facetJoin, hi, h3, h4, if_false, decide_false, Bool.or_self, Bool.false_and, Bool.not_true, Bool.or_false,
    decide_eq_true_eq, Bool.false_eq_true, if_neg (Nat.not_le.2 hp)]
  rfl

theorem facetJoin_takes (hp : (s.fac f).pool < 2) (q : List Launch) (l : Launch) (hq : s.pool (s.fac f).pool = ⟨q, some l⟩)
    (hc : l.facets.contains f = false) (hl : l.facets ≠ []) :
    facetJoin f s = enter l (s.fac f).pool f
      ((s.modFac f (Facet.joined · (s.fac f).pool)).setPool (s.fac f).pool ⟨q, some (l.joinedBy f)⟩) :=
  (facetJoin_member s f hi hp).trans (takeUpLaunch_takes (s.modFac f _) f _ q l hq hc hl)

/-- An idle facet that moves to the decode pool becomes its member once it is quiescent, and takes up its launch. -/
theorem facetJoin_moves (hp : (s.fac f).pool = 3) (hq : (s.fac f).quiescent = true) :
    facetJoin f s = takeUpLaunch 0 f (s.movedTo f 0) := by
  simp only [facetJoin, hi, hp, hq, if_true, decide_true, Bool.true_or, Bool.true_and, Bool.not_true, Bool.or_false,
    Bool.false_eq_true, if_false, decide_eq_true_eq, if_neg (show ¬ 2 ≤ 0 by decide)]
  rfl

end Joining

/-! ### Counters reset (R156) -/

theorem tileCounterReset_granted (org : Originator) (c : Nat) (s : State) (hc : c < 64) (hg : s.grants org (0x3300014 + 0x40 * c))
    (hx : s.expertOk org = true) : tileCounterReset org c s =
      if (s.tc c).state = 1 then s.accessEvent org (0x3300014 + 0x40 * c) 6 else s.setTc c (s.tc c).freed := by
  simp only [tileCounterReset, if_neg (Nat.not_le.2 hc), State.gated_pass s org _ _ hg.1 hg.2, hx, Bool.not_true,
    Bool.false_eq_true, if_false]

/-! ### The statement -/

/-- Settles O38: each command by the state it answers. -/
theorem launchesStartAndFacetsMove : Obligations.LaunchesStartAndFacetsMove := by
  unfold Obligations.LaunchesStartAndFacetsMove
  intro s hs hfl htl hpl
  have hlen : ∀ f, f < 72 → f < s.facets.length := fun f hf => hfl ▸ hf
  refine ⟨fun p l rest hp hq hne => ?_, fun f is hf hc ho hw hr hm => ?_, fun f is hf hc hm => ?_, fun f hf hg ha => ?_,
    fun f hf hg ha => ?_, fun f hf hp => ?_, fun f q l hf hi hp hq hc hl => ?_, fun f hf hi hp hq => ?_, fun f hf hi => ?_,
    fun org c hc hg hx => ?_⟩
  · refine ⟨_, (exec_launchStart s hs p hp).trans (congrArg _ (launchStart_starts p s l rest hq hne)), ?_⟩
    have htc := enterAll_keeps (s.startedOn p l) p (s.starters p)
      (clearTctrs (poolCounters p) (s.setPool p ⟨rest, some (s.startedOn p l)⟩)) State.tc (fun _ _ => rfl)
    refine ⟨?_, ?_, fun f hf => ?_, fun f hf => ?_, fun c hc => ?_, fun c hc => ?_⟩
    · refine (enterAll_keeps _ _ _ _ (State.pool · p) fun _ _ => rfl).trans ?_
      exact (clearTctrs_keeps _ _ (State.pool · p) fun _ _ => rfl).trans (s.pool_setPool_same p _ (hpl ▸ hp))
    · exact (enterAll_keeps _ _ _ _ State.mem fun _ _ => rfl).trans (clearTctrs_keeps _ _ State.mem fun _ _ => rfl)
    · rw [sqr_enterAll_mem _ _ _ _ (s.starters_nodup p) f hf]
      · exact ⟨rfl, rfl, rfl, rfl, rfl⟩
      · rw [clearTctrs_keeps _ _ State.facets fun _ _ => rfl]
        exact hlen f (s.lt_of_mem_starters p f hf)
    · exact (fac_enterAll_notin _ _ _ _ f hf).trans (clearTctrs_keeps _ _ (State.fac · f) fun _ _ => rfl)
    · rw [htc, tc_clearTctrs_mem _ _ (poolCounters_nodup p)]
      · exact ⟨rfl, rfl⟩
      · exact (mem_poolCounters p _).2 (by simp only [ctrOf]; omega)
      · exact htl ▸ (by simp only [ctrOf]; omega)
    · rw [htc, tc_clearTctrs_notin _ _ _ fun h => hc ((mem_poolCounters p c).1 h)]
      rfl
  · refine ⟨_, (exec_barrierRelease s f hs hf).trans (congrArg _ (barrierRelease_passes s f is hc ho hw hr hm)), ?_⟩
    rw [State.sqr_modSq_same (s.unwait f) f _ (hlen f hf)]
    exact ⟨rfl, rfl, rfl, fun c hc => congrArg Tctr.waiters (s.tc_unwait f c (htl ▸ hc)), rfl,
      fun h hh => State.fac_modSq_ne (s.unwait f) f h _ hh⟩
  · rw [exec_barrierRelease s f hs hf, barrierRelease_waits s f is hc hm]
  · refine ⟨_, (exec_standDownRequest s f hs hf .shutter).trans (congrArg _ (standDown_gated s f hg ha)), ?_⟩
    have hlu : f < ((s.modSq f Sqr.standingDown).unwait f).facets.length := by
      rw [State.unwait_facets, State.modSq_facets_length]
      exact hlen f hf
    obtain ⟨hst, hcl, hwt⟩ := settleDown_standingDown _ f hlu (s.sqr f) (s.sqr_modSq_same f _ (hlen f hf))
    refine ⟨hst, hcl, hwt, ?_, settleDown_mem _ f, fun h hh => (settleDown_fac_ne _ f h hh).trans (s.fac_modSq_ne f h _ hh)⟩
    exact (settleDown_keeps _ f Facet.gated fun _ _ _ => rfl).trans ((s.modSq_keeps f _ Facet.gated fun _ _ => rfl).trans hg)
  · rw [exec_standDownRequest s f hs hf, standDown_withdrawn s f hg ha]
  · rw [exec_standDownRequest s f hs hf, standDown_unasked s f hp]
  · refine ⟨_, (exec_facetJoinPool s f hs hf).trans (congrArg _ (facetJoin_takes s f hi hp q l hq hc hl)), ?_⟩
    rw [enter_eq, State.sqr_modSq_same _ _ _ (by rw [State.setPool_facets, State.modFac_facets_length]; exact hlen f hf)]
    exact ⟨rfl, rfl, rfl, rfl, State.pool_setPool_same (s.modFac f _) _ _ (hpl ▸ hp), rfl, fun h hh =>
      (State.fac_modSq_ne _ _ _ _ hh).trans (s.fac_modFac_ne f h (Facet.joined · _) hh)⟩
  · refine ⟨_, exec_facetJoinPool s f hs hf, ?_⟩
    have hsame : ((s.movedTo f 0).fac f).pool = 0 := by
      rw [State.fac_congr _ _ (s.movedTo_facets f 0), s.fac_modFac_same f _ (hlen f hf)]
      rfl
    have hother : ∀ h, h ≠ f → (s.movedTo f 0).fac h = s.fac h := fun h hh =>
      (State.fac_congr _ _ (s.movedTo_facets f 0) h).trans (s.fac_modFac_ne f h _ hh)
    rw [facetJoin_moves s f hi hp hq]
    obtain e | ⟨l, x, e⟩ := takeUpLaunch_cases (s.movedTo f 0) f 0
    · rw [e]
      exact ⟨hsame, s.movedTo_mem f 0, hother⟩
    · rw [e, enter_eq]
      refine ⟨?_, s.movedTo_mem f 0, fun h hh =>
        (State.fac_modSq_ne _ _ _ _ hh).trans (hother h hh)⟩
      exact (State.modSq_keeps _ f _ Facet.pool fun _ _ => rfl).trans hsame
  · rw [exec_facetJoinPool s f hs hf, facetJoin_busy s f hi]
  · rw [exec_tileCounterReset org c s hs.1, tileCounterReset_granted org c s hc hg hx]
    exact ⟨fun h => congrArg _ (if_neg h), fun h => congrArg _ (if_pos h)⟩

end Sys2Proof.Machine
end

section
/-!
SUPPORT. What the work of the key-value memory keeps: fields of the tables in tier 1, accesses to pages, frames and tables,
answers to commands, groups sent to mirror peers, and slots that are freed.
-/
namespace Sys2Proof.Machine

/-! ### Fields of a table in tier 1 -/

/-- A field reads what was written to it. -/
theorem Mem.le_write_same (m : Mem) (sp off n v : Nat) (h : m.wf = true) :
    (m.write sp off (toBytes n v)).le sp off n = v % 256 ^ n := by
  have e := Mem.read_write m sp off (toBytes n v) false h
  rw [toBytes_length] at e
  rw [Mem.le, e, ofBytes_toBytes]

/-- A write leaves the fields beside it. -/
theorem Mem.le_write_ne (m : Mem) (sp off a n : Nat) (bs : List Byte) (p : Bool) (h : m.wf = true)
    (hd : a + n ≤ off ∨ off + bs.length ≤ a) : (m.write sp off bs p).le sp a n = m.le sp a n := by
  have hw := Mem.wf_cells m sp h
  refine congrArg ofBytes ?_
  rw [Mem.read, Mem.cells_write]
  exact cellsRead_congr 0 _ _ a n fun i hi => cellGet_cellsWrite_out 0 _ _ _ bs hw (by omega)

theorem ofBytes_cellsRead_zero (m : List Host.Cell) (a n : Nat) (h : ∀ i, i < n → cellGet 0 m (a + i) = 0) :
    ofBytes (cellsRead 0 m a n) = 0 := by
  induction n generalizing a with
  | zero => rfl
  | succ n ih =>
    have h0 : cellGet 0 m a = 0 := h 0 (by omega)
    simp only [cellsRead, ofBytes, h0]
    rw [ih (a + 1) fun i hi => by rw [show a + 1 + i = a + (i + 1) by omega]; exact h (i + 1) (by omega)]
    rfl

/-- Every field of a cleared range is zero. -/
theorem Mem.le_write_zeros (m : Mem) (sp off k i n : Nat) (h : m.wf = true) (hi : i + n ≤ k) :
    (m.write sp off (List.replicate k 0)).le sp (off + i) n = 0 := by
  rw [Mem.le, Mem.read, Mem.cells_write]
  refine ofBytes_cellsRead_zero _ _ _ fun j hj => ?_
  rw [Nat.add_assoc, cellGet_cellsWrite_in 0 _ off (i + j) _ (Mem.wf_cells m sp h) (by simp; omega)]
  simp [List.getD_eq_getElem?_getD, show i + j < k by omega]

/-- A write of tier 1 leaves the other tiers. -/
theorem Mem.write_one_others (m : Mem) (off : Nat) (bs : List Byte) :
    (m.write 1 off bs).t0 = m.t0 ∧ (m.write 1 off bs).t2 = m.t2 := by
  unfold Mem.write
  split
  · exact ⟨rfl, rfl⟩
  · exact ⟨rfl, rfl⟩

/-- The register file decides where the tables stand. -/
theorem State.seqOff_congr (s t : State) (h : t.regs = s.regs) (n : Nat) : t.seqOff n = s.seqOff n := by
  simp only [State.seqOff, State.fld64, State.fld_congr _ _ h]

theorem State.dirOff_congr (s t : State) (h : t.regs = s.regs) (i : Nat) : t.dirOff i = s.dirOff i := by
  simp only [State.dirOff, State.fld64, State.fld_congr _ _ h]

/-- A descriptor's field reads what was written to it. -/
theorem State.sget_sput_same (s : State) (n : Nat) (d : DField) (v : Nat) (h : s.memoryCanonical) :
    (s.sput n d v).sget n d = v % 256 ^ d.2 := by
  rw [State.sget, State.seqOff_congr s (s.sput n d v) rfl]
  exact Mem.le_write_same s.mem 1 _ d.2 v h

theorem State.sclear_regs (s : State) (n : Nat) : (s.sclear n).regs = s.regs := by
  dsimp only [State.sclear]

/-- A cleared descriptor is zero. -/
theorem State.sget_sclear (s : State) (n : Nat) (d : DField) (h : s.memoryCanonical) (hd : d.1 + d.2 ≤ 128) :
    (s.sclear n).sget n d = 0 := by
  rw [State.sget, State.seqOff_congr s (s.sclear n) (s.sclear_regs n)]
  exact Mem.le_write_zeros s.mem 1 (s.seqOff n) 128 d.1 d.2 h hd

/-! ### What the work of the KVM keeps -/

/-- The counters that a command or a check of the KVM alone adds to. -/
def kvmCounters : List Nat := [C.KVM_TAKE_UPS, C.KVM_EXPIRIES]

theorem kvmCounters_quiet : ∀ c ∈ kvmCounters, c ∉ evtCounters := by decide

/-- What work on pages and slots keeps: memories canonical, the time, the waiting commands, the times-to-live, the expiry
FIFO, every register but those of queue status (0x10 in 32 bytes), and the counters of commands. -/
structure State.KvmKept (s t : State) : Prop where
  wf : s.memoryCanonical → t.memoryCanonical
  us : t.us = s.us
  waiting : t.kvm.waiting = s.kvm.waiting
  ttl : t.kvm.ttl = s.kvm.ttl
  fifo : t.kvm.fifo = s.kvm.fifo
  rd : ∀ x, x % 32 ≠ 16 → t.rd x = s.rd x
  counters : ∀ c ∈ kvmCounters, t.counter c = s.counter c

namespace State.KvmKept

theorem refl (s : State) : s.KvmKept s := ⟨id, rfl, rfl, rfl, rfl, fun _ _ => rfl, fun _ _ => rfl⟩

theorem trans {s t u : State} (a : s.KvmKept t) (b : t.KvmKept u) : s.KvmKept u :=
  ⟨b.wf ∘ a.wf, b.us.trans a.us, b.waiting.trans a.waiting, b.ttl.trans a.ttl, b.fifo.trans a.fifo,
    fun x hx => (b.rd x hx).trans (a.rd x hx), fun c hc => (b.counters c hc).trans (a.counters c hc)⟩

theorem ite {s t u : State} {p : Prop} [Decidable p] (a : s.KvmKept t) (b : s.KvmKept u) :
    s.KvmKept (if p then t else u) := by
  split
  · exact a
  · exact b

theorem foldl {α : Type} (f : State → α → State) (hf : ∀ (s : State) (a : α), s.KvmKept (f s a)) (l : List α) (s : State) :
    s.KvmKept (l.foldl f s) := by
  induction l generalizing s with
  | nil => exact refl s
  | cons a l ih => exact (hf s a).trans (ih (f s a))

theorem seqOff {s t : State} (h : s.KvmKept t) (n : Nat) : t.seqOff n = s.seqOff n := by
  simp only [State.seqOff, State.fld64, State.fld, h.rd (F.SEQ_TABLE_LO_base.off + 0) (by decide),
    h.rd (F.SEQ_TABLE_HI_base.off + 0) (by decide)]

theorem dirOff {s t : State} (h : s.KvmKept t) (i : Nat) : t.dirOff i = s.dirOff i := by
  simp only [State.dirOff, State.fld64, State.fld, h.rd (F.KVM_DIR_BASE_LO_base.off + 0) (by decide),
    h.rd (F.KVM_DIR_BASE_HI_base.off + 0) (by decide)]

/-- A descriptor reads alike where tier 1 is the same. -/
theorem sget {s t : State} (h : s.KvmKept t) (h1 : t.mem.t1 = s.mem.t1) (n : Nat) (d : DField) : t.sget n d = s.sget n d := by
  simp only [State.sget, Mem.le, Mem.read, Mem.cells, h.seqOff, h1]

/-- A directory entry reads alike where tier 1 is the same. -/
theorem dget {s t : State} (h : s.KvmKept t) (h1 : t.mem.t1 = s.mem.t1) (i : Nat) (d : DField) : t.dget i d = s.dget i d := by
  simp only [State.dget, Mem.le, Mem.read, Mem.cells, h.dirOff, h1]

/-! One part changed -/

theorem setMem (s : State) (m : Mem) (h : s.mem.wf = true → m.wf = true) : s.KvmKept { s with mem := m } :=
  ⟨h, rfl, rfl, rfl, rfl, fun _ _ => rfl, fun _ _ => rfl⟩

theorem setKvm (s : State) (k : Kvm) (hw : k.waiting = s.kvm.waiting) (ht : k.ttl = s.kvm.ttl) (hf : k.fifo = s.kvm.fifo) :
    s.KvmKept { s with kvm := k } := ⟨id, rfl, hw, ht, hf, fun _ _ => rfl, fun _ _ => rfl⟩

theorem setSrv (s : State) (x : Srv) : s.KvmKept { s with srv := x } := ⟨id, rfl, rfl, rfl, rfl, fun _ _ => rfl, fun _ _ => rfl⟩

theorem setHq (s : State) (x : Hq) : s.KvmKept { s with hq := x } := ⟨id, rfl, rfl, rfl, rfl, fun _ _ => rfl, fun _ _ => rfl⟩

/-- Counting keeps where the counter is none of the commands' own. -/
theorem bump (s : State) (c n : Nat) (h : c ∉ kvmCounters) : s.KvmKept (s.bump c n) := by
  refine ⟨fun hw => ?_, by simp, by simp, by simp, by simp, fun x _ => by simp, fun k hk => ?_⟩
  · rwa [State.memoryCanonical, State.bump_mem]
  · exact State.bump_counter_ne s k (kvmCounters_quiet k hk) c n fun e => h (e ▸ hk)

theorem raise_mild (s : State) (code u x d0 d1 st : Nat) (h : eventClass code < 3) :
    s.KvmKept (s.raise code u x d0 d1 st) := by
  have hr := State.raise_regs_mild s code u x d0 d1 st (by omega)
  refine ⟨fun hw => ?_, by simp, by simp, by simp, by simp, fun x _ => State.rd_congr _ _ hr x, fun k hk => ?_⟩
  · rwa [State.memoryCanonical, State.raise_mem]
  · exact State.raise_counter s k (kvmCounters_quiet k hk) code u x d0 d1 st (by omega)

/-- The status of a completion queue may change. -/
theorem setCqStatus (s : State) (r : FieldRef) (hr : r.off = 0x830010) (v n : Nat) : s.KvmKept (s.setFld r v (qdi n)) := by
  refine ⟨id, rfl, rfl, rfl, rfl, fun x hx => State.rd_wr_ne _ _ _ _ ?_, fun _ _ => rfl⟩
  rw [hr, qdi]
  omega

/-! Accesses to tables -/

theorem write (s : State) (sp off : Nat) (bs : List Byte) (p : Bool) : s.KvmKept { s with mem := s.mem.write sp off bs p } :=
  setMem s _ (Mem.wf_write s.mem sp off bs p)

theorem sput (s : State) (n : Nat) (d : DField) (v : Nat) : s.KvmKept (s.sput n d v) := write s _ _ _ _

theorem pput (s : State) (f : Nat) (d : DField) (v : Nat) : s.KvmKept (s.pput f d v) := write s _ _ _ _

theorem put8 (s : State) (p : Nat × Nat) (v : Nat) : s.KvmKept (s.put8 p v) := write s _ _ _ _

theorem sclear (s : State) (n : Nat) : s.KvmKept (s.sclear n) := write s _ _ _ _

theorem sputs (s : State) (n : Nat) (l : List (DField × Nat)) : s.KvmKept (s.sputs n l) := by
  induction l generalizing s with
  | nil => exact refl s
  | cons e l ih => exact (sput s n e.1 e.2).trans (ih _)

theorem dputs (s : State) (i : Nat) (l : List (DField × Nat)) : s.KvmKept (s.dputs i l) := by
  induction l generalizing s with
  | nil => exact refl s
  | cons e l ih => exact (write s 1 _ (toBytes e.1.2 e.2) false).trans (ih _)

theorem tread (s : State) (sp off n : Nat) : s.KvmKept (s.tread sp off n) := by
  have noted : s.KvmKept { s with tap := { s.tap with t1 := lastReads s.tap.t1 off n } } :=
    ⟨id, rfl, rfl, rfl, rfl, fun _ _ => rfl, fun _ _ => rfl⟩
  exact ite (noted.trans (bump _ _ _ (by decide))) (ite (bump s _ _ (by decide)) (refl s))

theorem twrite (s : State) (sp off : Nat) (bs : List Byte) (p : Bool) : s.KvmKept (s.twrite sp off bs p) :=
  (write s sp off bs p).trans (ite (bump _ _ _ (by decide)) (ite (bump _ _ _ (by decide)) (refl _)))

theorem dropCached (s : State) : s.KvmKept s.dropCached := by
  have drawn : s.KvmKept s.fresh.2 := ⟨id, rfl, rfl, rfl, rfl, fun _ _ => rfl, fun _ _ => rfl⟩
  exact drawn.trans (bump _ _ _ (by decide))

/-! Frames (R216 to R219) -/

theorem setPlist (s : State) (p : PList) (l : FrameList) : s.KvmKept (s.setPlist p l) := by
  cases p <;> exact setKvm s _ rfl rfl rfl

theorem pappend (s : State) (p : PList) (f : Nat) : s.KvmKept (s.pappend p f) :=
  (pput s f _ _).trans (ite (setPlist _ _ _) ((pput _ _ _ _).trans (setPlist _ _ _)))

theorem ptake (s : State) (p : PList) : s.KvmKept (s.ptake p).2 := (setPlist s p _).trans (pput _ _ _ _)

theorem alloc (s : State) (p : PList) (st ctx : Nat) : s.KvmKept (s.alloc p st ctx).2 := by
  unfold State.alloc
  split
  · exact bump s _ _ (by decide)
  · have taken := (((ptake s p).trans (pput _ (s.ptake p).1 P.state st)).trans (pput _ (s.ptake p).1 P.ctx ctx)).trans
      (bump _ C.KVM_ALLOC 1 (by decide))
    refine taken.trans ?_
    dsimp only
    generalize (((s.ptake p).2.pput (s.ptake p).1 P.state st).pput (s.ptake p).1 P.ctx ctx).bump C.KVM_ALLOC = t
    have low : t.KvmKept { t with kvm := { t.kvm with low := true } } := setKvm t _ rfl rfl rfl
    split
    · exact low.trans (raise_mild _ E.poolLow _ _ _ _ _ (by decide))
    · exact refl t

theorem quarantine (s : State) (f : Nat) : s.KvmKept (s.quarantine f) :=
  (((pput s f _ _).trans (pput _ f _ _)).trans (pappend _ _ f)).trans (setKvm _ _ rfl rfl rfl)

theorem mapFrame (s : State) (f : Nat) : s.KvmKept (s.mapFrame f) :=
  ite (refl s) ((pput s f _ _).trans (ite ((pput _ f _ _).trans (bump _ _ _ (by decide))) (refl _)))

theorem unmapFrame (s : State) (f : Nat) : s.KvmKept (s.unmapFrame f) :=
  ite (refl s) ((pput s f _ _).trans (ite (quarantine _ f) (refl _)))

theorem copyFrame (s : State) (a b : Nat) : s.KvmKept (s.copyFrame a b) :=
  (tread s _ _ _).trans (foldl _ (fun _ _ => twrite _ _ _ _ _) _ _)

/-! Page tables (R212, R225) -/

theorem ensure (s : State) (p : Nat × Nat) (ctx : Nat) : s.KvmKept (s.ensure p ctx).2 := by
  have ha := alloc s .free1 3 ctx
  unfold State.ensure
  dsimp only
  split
  · exact refl s
  · split <;> rename_i h <;> rw [h] at ha
    · exact ha
    · exact ha.trans ((setMem _ _ (Mem.wf_zero _ _ _ _)).trans (put8 _ _ _))

theorem ensurePage (s : State) (n w ctx : Nat) : s.KvmKept (s.ensurePage n w ctx).2 := by
  have h1 := ensure s (s.l1Place (pageVa n w)) ctx
  unfold State.ensurePage
  dsimp only
  split <;> rename_i e1 <;> rw [e1] at h1
  · exact h1
  · rename_i f t
    have h2 := h1.trans (ensure t (under f (bits (pageVa n w) 41 29)) ctx)
    split <;> rename_i e2 <;> rw [e2] at h2 <;> exact h2

theorem mapPage (s : State) (n w f : Nat) (wr : Bool) : s.KvmKept (s.mapPage n w f wr).2 := by
  have h := ensurePage s n w (s.sctx n)
  unfold State.mapPage
  split <;> rename_i e <;> rw [e] at h
  · exact h
  · exact h.trans ((put8 _ _ _).trans (mapFrame _ _))

theorem protectPage (s : State) (n w : Nat) : s.KvmKept (s.protectPage n w) := by
  unfold State.protectPage
  split
  · exact (put8 s _ _).trans (dropCached _)
  · exact refl s

theorem unmapPage (s : State) (n w : Nat) : s.KvmKept (s.unmapPage n w) := by
  unfold State.unmapPage
  split
  · exact refl s
  · dsimp only
    split
    · exact ((put8 s _ _).trans (dropCached _)).trans (unmapFrame _ _)
    · exact (put8 s _ _).trans (dropCached _)

theorem dropTable (s : State) (p : Nat × Nat) (e : Nat) : s.KvmKept (s.dropTable p e) := by
  unfold State.dropTable
  dsimp only
  split
  · exact ((put8 s _ _).trans (dropCached _)).trans (quarantine _ _)
  · exact (put8 s _ _).trans (dropCached _)

theorem unmapSlot (s : State) (n : Nat) : s.KvmKept (s.unmapSlot n) := by
  have pages := foldl (fun t w => t.unmapPage n w) (fun t w => unmapPage t n w) (s.slotPages n) s
  unfold State.unmapSlot
  dsimp only
  generalize (s.slotPages n).foldl (fun t w => t.unmapPage n w) s = t at pages ⊢
  have tables := foldl (fun (u : State) (x : Nat × (Nat × Nat) × Nat) => u.dropTable x.2.1 x.2.2)
    (fun u x => dropTable u x.2.1 x.2.2) (t.slotTables n) t
  generalize (t.slotTables n).foldl (fun u x => u.dropTable x.2.1 x.2.2) t = u at tables ⊢
  refine pages.trans (tables.trans ?_)
  split
  · exact dropTable _ _ _
  · exact refl _

/-! Pages shared and moved (R223, R227) -/

theorem copyDesc (s : State) (src dst st ctx tenant : Nat) : s.KvmKept (s.copyDesc src dst st ctx tenant) :=
  (sclear s dst).trans (sputs _ dst _)

theorem sharePages (s : State) (src dst : Nat) (ws : List Nat) : s.KvmKept (s.sharePages src dst ws) := by
  refine foldl _ (fun t w => ?_) ws s
  split
  · exact refl t
  · exact (protectPage t src w).trans (mapPage _ dst w _ false)

theorem movePage (s : State) (n w : Nat) (p : PList) : s.KvmKept (s.movePage n w p) := by
  have ha := alloc s p 1 (s.sctx n)
  unfold State.movePage
  split
  · exact refl s
  · split
    · exact refl s
    · split <;> rename_i h <;> rw [h] at ha
      · exact ha
      · exact (ha.trans ((copyFrame _ _ _).trans ((put8 _ _ _).trans ((dropCached _).trans ((mapFrame _ _).trans
          (unmapFrame _ _)))))).trans (bump _ _ _ (by decide))

end State.KvmKept

/-! ### Answers to commands (R486) -/

/-- Host memory is beside tier 1. -/
@[simp] theorem State.hwrite_t1 (s : State) (a : Nat) (bs : List Byte) : (s.hwrite a bs).mem.t1 = s.mem.t1 := by
  unfold State.hwrite
  split
  · rfl
  · rw [State.bump_mem]

@[simp] theorem State.writeCq_t1 (s : State) (n sq tag op : Nat) (pr : Bool) (l : List Byte) :
    (s.writeCq n sq tag op pr l).mem.t1 = s.mem.t1 := by
  unfold State.writeCq
  dsimp only
  (repeat' split) <;> simp [State.signalCq, State.setCq]

@[simp] theorem State.completeWith_t1 (s : State) (o : CmdOrigin) (op st : Nat) (l : List Byte) :
    (s.completeWith o op st l).mem.t1 = s.mem.t1 := by
  unfold State.completeWith
  dsimp only
  (repeat' split) <;> simp

/-- An answer leaves tier 1. -/
@[simp] theorem State.complete_t1 (s : State) (o : CmdOrigin) (op st hint res : Nat) :
    (s.complete o op st hint res).mem.t1 = s.mem.t1 := s.completeWith_t1 _ _ _ _

namespace State.KvmKept

theorem hwrite (s : State) (a : Nat) (bs : List Byte) : s.KvmKept (s.hwrite a bs) := by
  refine ite (setMem s _ fun h => ?_) (bump s _ _ (by decide))
  obtain ⟨h0, h1, h2, hh, hf⟩ := (Mem.wf_iff _).1 h
  exact (Mem.wf_iff _).2 ⟨h0, h1, h2, cellsWrite_wf 0 _ a bs hh, hf⟩

theorem sendMsix (s : State) (v : Nat) : s.KvmKept (s.sendMsix v) :=
  ite ⟨id, rfl, rfl, rfl, rfl, fun _ _ => rfl, fun _ _ => rfl⟩ ⟨id, rfl, rfl, rfl, rfl, fun _ _ => rfl, fun _ _ => rfl⟩

theorem signalCq (s : State) (n : Nat) : s.KvmKept (s.signalCq n) := (sendMsix s _).trans (setHq _ _)

theorem writeCq (s : State) (n sq tag op : Nat) (pr : Bool) (l : List Byte) : s.KvmKept (s.writeCq n sq tag op pr l) :=
  ((hwrite s _ _).trans ((bump _ C.HQ_COMPLETIONS 1 (by decide)).trans ((setCqStatus _ F.HQ_CQ_STATUS_tail rfl _ n).trans
    ((ite (setCqStatus _ F.HQ_CQ_STATUS_phase rfl _ n) (refl _)).trans (setHq _ _))))).trans (ite (signalCq _ n) (refl _))

theorem completeWith (s : State) (o : CmdOrigin) (op st : Nat) (l : List Byte) : s.KvmKept (s.completeWith o op st l) := by
  cases o with
  | boot => exact ⟨id, rfl, rfl, rfl, rfl, fun _ _ => rfl, fun _ _ => rfl⟩
  | queue sq tag =>
    exact ite ((setHq s _).trans (ite (writeCq _ _ _ _ _ _ _) (bump _ _ _ (by decide)))) (bump s _ _ (by decide))

theorem complete (s : State) (o : CmdOrigin) (op st hint res : Nat) : s.KvmKept (s.complete o op st hint res) :=
  completeWith s o op st _

/-! Slots that are freed (R223, R236) -/

theorem afterReq (s : State) (n : Nat) (r : Req) : s.KvmKept (s.afterReq n r) :=
  ite (sput s n _ _) (ite (sclear s n) (sput s n _ _))

theorem finishReq (n st reason : Nat) (s : State) : s.KvmKept (Machine.finishReq n st reason s) := by
  unfold Machine.finishReq
  split
  · exact refl s
  · rename_i r _
    dsimp only
    have ended : s.KvmKept ((s.refund n r.started).endEntries n) := (setSrv s _).trans (setSrv _ _)
    generalize (s.refund n r.started).endEntries n = t at ended ⊢
    exact ended.trans ((setSrv t _).trans ((completeWith _ _ _ _ _).trans ((bump _ _ _ (by decide)).trans (afterReq _ n r))))

theorem freePartner (n : Nat) (s : State) : s.KvmKept (Machine.freePartner n s) :=
  ite (ite ((finishReq _ _ _ s).trans (sput _ _ _ _)) (refl s)) (ite (sput s _ _ _) (refl s))

theorem stopMove (s : State) (n : Nat) : s.KvmKept (s.stopMove n) := by
  unfold State.stopMove
  split
  · exact refl s
  · exact (setKvm s { s.kvm with moves := kdel s.kvm.moves n } rfl rfl rfl).trans (complete _ _ _ _ _ _)

theorem leaveSteps (s : State) (n : Nat) : s.KvmKept (s.leaveSteps n) := setSrv s _

end State.KvmKept

/-- A freed slot: everything before its descriptor is cleared keeps what the work of the KVM keeps. -/
theorem freeSlot_eq (n : Nat) (s : State) : ∃ u, s.KvmKept u ∧
    freeSlot n s = { u.sclear n with kvm := { (u.sclear n).kvm with ttl := kdel (u.sclear n).kvm.ttl n } } := by
  have partner := (State.KvmKept.finishReq n St.done 4 s).trans (State.KvmKept.freePartner n _)
  have stopped := partner.trans (State.KvmKept.stopMove _ n)
  have left := stopped.trans (State.KvmKept.leaveSteps _ n)
  exact ⟨_, left.trans (State.KvmKept.unmapSlot _ n), rfl⟩

/-- What is so once slot `n` of `s` is freed: its descriptor is clear, its time-to-live is gone, and the rest is kept. -/
structure State.Freed (s : State) (n : Nat) (t : State) : Prop where
  clear : ∀ d : DField, d.1 + d.2 ≤ 128 → t.sget n d = 0
  ttl : kget t.kvm.ttl n = none
  waiting : t.kvm.waiting = s.kvm.waiting
  fifo : t.kvm.fifo = s.kvm.fifo
  counters : ∀ c ∈ kvmCounters, t.counter c = s.counter c

theorem freeSlot_freed (n : Nat) (s : State) (hw : s.memoryCanonical) : s.Freed n (freeSlot n s) := by
  obtain ⟨u, hu, e⟩ := freeSlot_eq n s
  have cleared := u.sget_sclear n
  have hc := hu.trans (.sclear u n)
  generalize u.sclear n = v at e cleared hc
  rw [e]
  exact ⟨fun d hd => cleared d (hu.wf hw) hd, kget_kdel_same _ n, hc.waiting, hc.fifo, hc.counters⟩

/-- A freed slot stays so under what leaves tier 1. -/
theorem State.Freed.keep {s t u : State} {n : Nat} (h : s.Freed n t) (k : t.KvmKept u) (h1 : u.mem.t1 = t.mem.t1) :
    s.Freed n u :=
  ⟨fun d hd => (k.sget h1 n d).trans (h.clear d hd), by rw [k.ttl, h.ttl], k.waiting.trans h.waiting, k.fifo.trans h.fifo,
    fun c hc => (k.counters c hc).trans (h.counters c hc)⟩

/-! ### Groups sent to mirror peers (R383 to R386) -/

theorem State.failPkt_counter (s : State) (c : Nat) (h : PktHdr) (st : Nat) : (s.failPkt h st).counter c = s.counter c := by
  obtain ⟨_, _, e, -⟩ := s.failPkt_eq h st
  rw [e]
  rfl

theorem State.depart_counter (s : State) (c p via : Nat) (h : PktHdr) (b : PktBody) :
    (s.depart p via h b).counter c = s.counter c := by
  obtain ⟨_, _, _, _, e, -⟩ := s.depart_eq p via h b
  rw [e]
  rfl

section SentCounters
variable (s : State) (c : Nat) (hc : c ∉ evtCounters) (hb : c ≠ C.FAB_GW_BATCHES)
include hc

theorem State.noRoute_counter (h : PktHdr) : (s.noRoute h).counter c = s.counter c := by
  rw [State.noRoute, State.raise_counter _ c hc _ _ _ _ _ _ (by decide), State.failPkt_counter s c]

theorem State.launchDirect_counter (h : PktHdr) (b : PktBody) : (s.launchDirect h b).counter c = s.counter c := by
  unfold State.launchDirect
  split
  · exact State.failPkt_counter s c h _
  · split
    · exact State.depart_counter s c _ _ h b
    · exact State.noRoute_counter s c hc h

include hb

theorem State.closeBatch_counter (y dir : Nat) : (s.closeBatch y dir).counter c = s.counter c := by
  unfold State.closeBatch
  split
  · rfl
  · rw [State.bump_counter_ne _ c hc _ _ hb, State.post_counter _ _ _ c hc]
    rfl

theorem State.addEntry_counter (y dir : Nat) (e : GwEntry) : (s.addEntry y dir e).counter c = s.counter c := by
  have joined : ∀ t : State, (if 3840 - 32 < batchBytes (kgetD t.fab.batches (2 * y + dir) []) then t.closeBatch y dir else t).counter c =
      t.counter c := fun t => by
    split
    · exact State.closeBatch_counter t c hc hb y dir
    · rfl
  refine (joined _).trans ?_
  show (if 3840 < batchBytes (kgetD s.fab.batches (2 * y + dir) []) + entryBytes e then s.closeBatch y dir else s).counter c = _
  split
  · exact State.closeBatch_counter s c hc hb y dir
  · rfl

theorem State.launchMem_counter (h : PktHdr) (r : MemReq) : (s.launchMem h r).counter c = s.counter c := by
  obtain ⟨_, _, _, e, -⟩ := s.number_eq h
  unfold State.launchMem
  (repeat' split)
  · exact State.failPkt_counter s c h _
  · exact State.launchDirect_counter s c hc h _
  · exact State.failPkt_counter s c h _
  · exact State.noRoute_counter s c hc h
  · rw [State.addEntry_counter _ c hc hb, e]
    rfl
  · exact State.depart_counter s c _ _ h _
  · exact State.noRoute_counter s c hc h

theorem State.postMem_counter (h : PktHdr) (r : MemReq) : (s.postMem h r).counter c = s.counter c := by
  unfold State.postMem
  split
  · rfl
  · exact State.launchMem_counter s c hc hb h r

end SentCounters

/-- What sending to mirror peers keeps: the memories, the registers, the KVM, the time and the counters of commands. -/
structure State.Mirrored (s t : State) : Prop where
  mem : t.mem = s.mem
  regs : t.regs = s.regs
  kvm : t.kvm = s.kvm
  us : t.us = s.us
  counters : ∀ c ∈ kvmCounters, t.counter c = s.counter c

namespace State.Mirrored

theorem refl (s : State) : s.Mirrored s := ⟨rfl, rfl, rfl, rfl, fun _ _ => rfl⟩

theorem trans {s t u : State} (a : s.Mirrored t) (b : t.Mirrored u) : s.Mirrored u :=
  ⟨b.mem.trans a.mem, b.regs.trans a.regs, b.kvm.trans a.kvm, b.us.trans a.us,
    fun c hc => (b.counters c hc).trans (a.counters c hc)⟩

theorem ite {s t u : State} {p : Prop} [Decidable p] (a : s.Mirrored t) (b : s.Mirrored u) :
    s.Mirrored (if p then t else u) := by
  split
  · exact a
  · exact b

theorem foldl {α : Type} (f : State → α → State) (hf : ∀ (s : State) (a : α), s.Mirrored (f s a)) (l : List α) (s : State) :
    s.Mirrored (l.foldl f s) := by
  induction l generalizing s with
  | nil => exact refl s
  | cons a l ih => exact (hf s a).trans (ih (f s a))

theorem kept {s t : State} (h : s.Mirrored t) : s.KvmKept t :=
  ⟨fun hw => by rwa [State.memoryCanonical, h.mem], h.us, by rw [h.kvm], by rw [h.kvm], by rw [h.kvm],
    fun x _ => State.rd_congr _ _ h.regs x, h.counters⟩

theorem setMir (s : State) (x : Mir) : s.Mirrored { s with mir := x } := ⟨rfl, rfl, rfl, rfl, fun _ _ => rfl⟩

theorem bump (s : State) (c n : Nat) (h : c ∉ kvmCounters) : s.Mirrored (s.bump c n) :=
  ⟨by simp, by simp, by simp, by simp, (State.KvmKept.bump s c n h).counters⟩

/-- What changes the parts of a send alone. -/
theorem of_send {s t : State}
    (hf : ∃ x0 x1 x2 x3 x4 x5, t = { s with facets := x0, fab := x1, out := x2, cnts := x3, evt := x4, tap := x5 })
    (hc : ∀ c ∈ kvmCounters, t.counter c = s.counter c) : s.Mirrored t := by
  obtain ⟨_, _, _, _, _, _, rfl⟩ := hf
  exact ⟨rfl, rfl, rfl, rfl, hc⟩

theorem sendBulk (s : State) (dst addr : Nat) (bs : List Byte) : s.Mirrored (s.sendBulk dst addr bs) :=
  foldl _ (fun _ _ => of_send (State.post_frame _ _ _) fun c hc => State.post_counter _ _ _ c (kvmCounters_quiet c hc)) _ s

theorem sendStore (s : State) (dst addr : Nat) (bs : List Byte) (rtag job : Nat) (p : Bool) :
    s.Mirrored (s.sendStore dst addr bs rtag job p) := by
  have hb : ∀ c ∈ kvmCounters, c ≠ C.FAB_GW_BATCHES := by decide
  exact foldl _ (fun _ _ => of_send (State.postMem_frame _ _ _) fun c hc =>
    State.postMem_counter _ c (kvmCounters_quiet c hc) (hb c hc) _ _) _ s

theorem mirPump (i n : Nat) (s : State) : s.Mirrored (mirPump i n s) := by
  induction n generalizing s with
  | zero => exact refl s
  | succ n ih =>
    unfold Machine.mirPump
    dsimp only
    split
    · exact refl s
    · split
      · exact refl s
      · exact (((setMir s _).trans (sendBulk _ _ _ _)).trans (bump _ _ _ (by decide))).trans (ih _)
    · split
      · exact ((setMir s _).trans (sendStore _ _ _ _ _ _ _)).trans (ih _)
      · exact setMir s _

theorem mirSlot (i g : Nat) (x : MirChange) (s : State) : s.Mirrored (mirSlot i g x s) := by
  refine ite (ite ((setMir s _).trans (setMir _ _)) (refl s)) ?_
  exact (foldl _ (fun _ _ => setMir _ _) _ s).trans ((ite (setMir _ _) (refl _)).trans ((setMir _ _).trans (setMir _ _)))

theorem mirGroup (i : Nat) (xs : List MirChange) (s : State) : s.Mirrored (mirGroup i xs s) :=
  ((foldl _ (fun _ _ => mirSlot _ _ _ _) xs s).trans ((setMir _ _).trans (setMir _ _))).trans (mirPump i _ _)

theorem mirrorChanges (xs : List MirChange) (s : State) : s.Mirrored (mirrorChanges xs s).2 := by
  refine List.foldlRecOn (motive := fun a : List (Nat × Nat) × State => s.Mirrored a.2) _ _ (refl s) fun a ha i _ => ?_
  dsimp only
  split
  · exact ha
  · exact ha.trans (mirGroup i _ _)

/-- The mirror of a KVM command sends alone. -/
theorem mirrorSlots (c : Nat) (ns : List Nat) (s : State) : s.Mirrored (mirrorSlots c ns s) :=
  ite (mirrorChanges _ s) (refl s)

end State.Mirrored

end Sys2Proof.Machine
end

section
/-!
SUPPORT. The proof of the KVM commands (O42): commands that wait and commands that run, and what each leaves.
-/
namespace Sys2Proof.Machine

/-! ### Commands that wait and commands that run (R225) -/

/-- A command whose meaning needs a running package runs there. -/
theorem exec_running {i : Instr} {s : State} (k : State → State) (hi : exec i s = .next (s.on k)) (h : s.power = .running) :
    exec i s = .next (k s) := by rw [hi, s.on_running k h]

theorem drainKvm_nil (s : State) (h : s.kvm.waiting = []) : drainKvm s = s := by
  simp only [drainKvm, h, List.length_nil, drainKvmN]

/-- A command is completed with its refusal, or carried out. -/
theorem orElse_next {x : Out} {o : CmdOrigin} {op : Nat} {refusal : Option Nat} {k : State → State} {s : State}
    (h : x = .next (orElse o op refusal k s)) :
    (∀ st, refusal = some st → x = .next (s.complete o op st)) ∧ (refusal = none → x = .next (k s)) :=
  ⟨fun st hs => by rw [h, hs, orElse], fun hs => by rw [h, hs, orElse]⟩

section Commands
variable {s : State} {o : CmdOrigin} (ht : s.takes o) (op : Nat) (r : KvmRec)
include ht

/-- A command that must wait takes its turn behind those that wait. -/
theorem kvmCmd_waits (h5 : op ≠ 5) (hr : s.kvmReady = true) (hw : s.kvm.waiting ≠ [] ∨ s.kvmHeld op r = true) :
    kvmCmd o op r s = { s with kvm := { s.kvm with waiting := s.kvm.waiting ++ [(o, op, r)] } } := by
  have hh : (s.kvmReady && (decide (s.kvm.waiting ≠ []) || s.kvmHeld op r)) = true := by simpa [hr] using hw
  rw [kvmCmd, State.engine_runs s o op _ ht.2.1 ht.2.2, if_neg h5, if_pos hh]

/-- A command that need not wait is carried out. -/
theorem kvmCmd_runs (h5 : op ≠ 5) (hw : s.kvm.waiting = []) (hh : s.kvmHeld op r = false) :
    kvmCmd o op r s = kvmRun o op r s := by
  rw [kvmCmd, State.engine_runs s o op _ ht.2.1 ht.2.2, if_neg h5, if_neg (by simp [hw, hh])]

/-- FREE_SEQ is carried out at once, and then what waited for it. -/
theorem kvmCmd_frees : kvmCmd o 5 r s = drainKvm (kvmRun o 5 r s) := by
  rw [kvmCmd, State.engine_runs s o 5 _ ht.2.1 ht.2.2, if_pos rfl]

/-- A package completes a KVM command that need not wait with its refusal, or carries it out. -/
theorem exec_kvmRuns {i : Instr} {refusal : Option Nat} (k : State → State) (hi : exec i s = .next (s.on (kvmCmd o op r)))
    (hk : kvmRun o op r s = orElse o op refusal k s) (h5 : op ≠ 5) (hw : s.kvm.waiting = []) (hh : s.kvmHeld op r = false) :
    (∀ st, refusal = some st → exec i s = .next (s.complete o op st)) ∧ (refusal = none → exec i s = .next (k s)) :=
  orElse_next ((exec_running _ hi ht.1).trans (congrArg _ ((kvmCmd_runs ht op r h5 hw hh).trans hk)))

end Commands

/-! ### Directory entries (R226) -/

/-- Two fields of one entry with no byte in common. -/
abbrev DField.apart (d e : DField) : Prop := d.1 + d.2 ≤ e.1 ∨ e.1 + e.2 ≤ d.1

theorem State.dget_dputs_apart (s : State) (i : Nat) (d : DField) (l : List (DField × Nat)) (hw : s.memoryCanonical)
    (hl : ∀ e ∈ l, DField.apart e.1 d) : (s.dputs i l).dget i d = s.dget i d := by
  induction l generalizing s with
  | nil => rfl
  | cons e l ih =>
    rw [State.dputs, ih _ (Mem.wf_write s.mem 1 _ _ false hw) fun x hx => hl x (.tail _ hx)]
    have ha : DField.apart e.1 d := hl e (.head _)
    rw [State.dget, State.dirOff_congr s { s with mem := s.mem.write 1 (s.dirOff i + e.1.1) (toBytes e.1.2 e.2) } rfl]
    exact Mem.le_write_ne s.mem 1 _ _ _ _ false hw (by rw [toBytes_length]; omega)

/-- Fields put beside one another read as they were put. -/
theorem State.dget_dputs (s : State) (i : Nat) (d : DField) (v : Nat) (l : List (DField × Nat)) (hw : s.memoryCanonical)
    (hl : (l.map Prod.fst).Pairwise DField.apart) (hm : (d, v) ∈ l) : (s.dputs i l).dget i d = v % 256 ^ d.2 := by
  induction l generalizing s with
  | nil => exact absurd hm List.not_mem_nil
  | cons e l ih =>
    have hw' := Mem.wf_write s.mem 1 (s.dirOff i + e.1.1) (toBytes e.1.2 e.2) false hw
    obtain ⟨ha, hl⟩ := List.pairwise_cons.1 hl
    rcases List.mem_cons.1 hm with rfl | hm
    · have hb : ∀ x ∈ l, DField.apart x.1 d := fun x hx => (ha x.1 (List.mem_map_of_mem hx)).symm
      rw [State.dputs, State.dget_dputs_apart _ i d l hw' hb, State.dget, State.dirOff_congr s _ rfl]
      exact Mem.le_write_same s.mem 1 _ d.2 v hw
    · exact ih _ hw' hl hm

/-- The fields of an entry lie side by side. -/
theorem entryFields_apart :
    [X.handle, X.holder, X.length, X.generation, X.tenant, X.ctx, X.uses].Pairwise DField.apart := by decide

/-- PUBLISH leaves a live entry with its handle, its holder and no uses. -/
theorem publishEffect_entry (r : KvmRec) (s : State) (hw : s.memoryCanonical) (hh : r.handle < 2 ^ 64) (h2 : r.slot2 < nSlots) :
    ∃ i, (publishEffect r s).dget i X.handle = r.handle ∧ (publishEffect r s).dget i X.holder = r.slot2 ∧
      bits ((publishEffect r s).dget i X.ctx) 5 4 = 1 ∧ (publishEffect r s).dget i X.uses = 0 := by
  have hk := (State.KvmKept.copyDesc s r.slot r.slot2 Sl.holder (s.sctx r.slot) (s.sget r.slot D.tenant)).trans
    (.sharePages _ r.slot r.slot2 (s.latentPages r.slot))
  have hc : s.sctx r.slot < 16 := Nat.mod_lt _ (by decide)
  unfold nSlots at h2
  unfold publishEffect
  dsimp only
  generalize (s.copyDesc r.slot r.slot2 Sl.holder (s.sctx r.slot) (s.sget r.slot D.tenant)).sharePages r.slot r.slot2
    (s.latentPages r.slot) = u at hk ⊢
  generalize s.sctx r.slot = c at hc ⊢
  have put := fun d v => u.dget_dputs u.dirFree d v
    [(X.handle, r.handle), (X.holder, r.slot2), (X.length, u.sget r.slot D.length),
      (X.generation, u.sget r.slot D.generation), (X.tenant, r.tenant % 4096 + 4096 * bit r.sharedAll), (X.ctx, c + 16), (X.uses, 0)]
    (hk.wf hw) entryFields_apart
  refine ⟨u.dirFree, ?_, ?_, ?_, ?_⟩
  · rw [put X.handle r.handle (by simp)]
    exact Nat.mod_eq_of_lt hh
  · rw [put X.holder r.slot2 (by simp)]
    exact Nat.mod_eq_of_lt (by simp only [X.holder]; omega)
  · rw [put X.ctx (c + 16) (by simp)]
    simp only [X.ctx, bits]
    omega
  · rw [put X.uses 0 (by simp)]
    rfl

/-- TAKE_UP of a live handle counts. -/
theorem takeUpEffect_counter (r : KvmRec) (s : State) (i : Nat) (hi : s.dirFind r.handle = some i) :
    (takeUpEffect r s).counter C.KVM_TAKE_UPS = min (2 ^ 48 - 1) (s.counter C.KVM_TAKE_UPS + 1) := by
  have hk := (State.KvmKept.copyDesc s (s.dget i X.holder) r.slot Sl.idle r.ctx r.tenant)
  unfold takeUpEffect
  rw [hi]
  dsimp only
  generalize s.copyDesc (s.dget i X.holder) r.slot Sl.idle r.ctx r.tenant = t at hk ⊢
  have hs := hk.trans (.sharePages t (s.dget i X.holder) r.slot (t.slotPages (s.dget i X.holder)))
  generalize t.sharePages (s.dget i X.holder) r.slot (t.slotPages (s.dget i X.holder)) = u at hs ⊢
  have hd := hs.trans (.dputs u i [(X.uses, satBits 64 (u.dget i X.uses + 1))])
  rw [← hd.counters C.KVM_TAKE_UPS (by decide)]
  exact State.bump_counter _ _ _ (by decide) (by decide)

/-- A handle that TAKE_UP does not refuse is live. -/
theorem dirFind_of_takeUp (r : KvmRec) (s : State) (h : takeUpRefusal r s = none) : ∃ i, s.dirFind r.handle = some i := by
  cases hd : s.dirFind r.handle with
  | some i => exact ⟨i, rfl⟩
  | none =>
    rw [takeUpRefusal, hd] at h
    exact absurd (firstOf_eq_none h (true, St.state) (by simp)) (by decide)

/-- A slot that PUBLISH does not refuse as holder is one. -/
theorem slot2_of_publish (r : KvmRec) (s : State) (h : publishRefusal r s = none) : r.slot2 < nSlots := by
  have hb := firstOf_eq_none h (badSlot r.slot || badSlot r.slot2, St.range) (by simp)
  simp only [badSlot, Bool.or_eq_false_iff, decide_eq_false_iff_not] at hb
  omega

/-! ### The statement -/

/-- Settles O42, command by command: those that wait, and for each one that runs its refusal and its effect. -/
theorem kvmCommandsRunInTurn : Obligations.KvmCommandsRunInTurn := by
  unfold Obligations.KvmCommandsRunInTurn
  intro s o r ht hw hh
  refine ⟨fun c op hc hr hq => ?_, fun hq hn => ?_, fun hq hn => ?_, fun hq hn => ?_, fun hq hn => ?_, fun hq => ?_,
    fun hq hn => ?_, fun hq hn => ?_, fun hq hn => ?_⟩
  · have hrun : exec c s = .next (s.on (kvmCmd o op r)) ∧ op ≠ 5 := by
      simp only [List.mem_cons, Prod.mk.injEq, List.not_mem_nil, or_false] at hc
      obtain ⟨rfl, rfl⟩ | ⟨rfl, rfl⟩ | ⟨rfl, rfl⟩ | ⟨rfl, rfl⟩ | ⟨rfl, rfl⟩ | ⟨rfl, rfl⟩ | ⟨rfl, rfl⟩ := hc <;>
        exact ⟨rfl, by decide⟩
    obtain ⟨he, h5⟩ := hrun
    rw [exec_running _ he ht.1, kvmCmd_waits ht op r h5 hr hq]
  · obtain ⟨no, yes⟩ := exec_kvmRuns ht 1 r (i := .publish o r) (fun s => (publishEffect r s).complete o 1 St.done) rfl rfl
      (by decide) hq hn
    refine ⟨no, fun hs => ?_⟩
    obtain ⟨i, h1, h2, h3, h4⟩ := publishEffect_entry r s hw hh (slot2_of_publish r s hs)
    have hk : ∀ d, ((publishEffect r s).complete o 1 St.done).dget i d = (publishEffect r s).dget i d :=
      (State.KvmKept.complete _ o 1 St.done 0 0).dget (State.complete_t1 _ _ _ _ _ _) i
    exact ⟨_, i, yes hs, (hk _).trans h1, (hk _).trans h2, by rw [hk, h3], (hk _).trans h4⟩
  · obtain ⟨no, yes⟩ := exec_kvmRuns ht 2 r (i := .takeUp o r)
      (fun s => (mirrorSlots r.ctx [r.slot] (takeUpEffect r s)).complete o 2 St.done) rfl rfl (by decide) hq hn
    refine ⟨no, fun hs => ⟨_, yes hs, ?_⟩⟩
    obtain ⟨i, hi⟩ := dirFind_of_takeUp r s hs
    have hk := (State.Mirrored.mirrorSlots r.ctx [r.slot] (takeUpEffect r s)).kept.trans (.complete _ o 2 St.done 0 0)
    rw [hk.counters C.KVM_TAKE_UPS (by decide), takeUpEffect_counter r s i hi]
  · obtain ⟨no, yes⟩ := exec_kvmRuns ht 3 r (i := .retire o r) (fun s => (retireEffect r s).complete o 3 St.done) rfl rfl
      (by decide) hq hn
    refine ⟨no, fun i hs hi => (yes hs).trans ?_⟩
    have he : retireEffect r s = freeSlot (s.dget i X.holder) (s.dirRetire i) := by rw [retireEffect, hi]
    rw [he]
    rfl
  · exact exec_kvmRuns ht 4 r (i := .fork o r) (fun s => (mirrorSlots (s.sctx r.slot) [r.slot2] (forkEffect r s)).complete o 4
      (if s.anyPoison r.slot (s.forkCopies r.slot) then St.uncorrected else St.done)) rfl rfl (by decide) hq hn
  · have hrun : exec (.freeSeq o r) s = .next (drainKvm (kvmRun o 5 r s)) :=
      (exec_running (kvmCmd o 5 r) rfl ht.1).trans (congrArg _ (kvmCmd_frees ht r))
    obtain ⟨no, yes⟩ := orElse_next (x := .next (kvmRun o 5 r s)) (refusal := freeSeqRefusal r s)
      (k := fun s => (mirrorSlots (s.sctx r.slot) [r.slot] (freeSlot r.slot s)).complete o 5 St.done) rfl
    refine ⟨fun st hs => ?_, fun hs => ?_⟩
    · rw [hrun, Host.Outcome.next.inj (no st hs), drainKvm_nil _ (by rwa [State.complete_kvm])]
    · have hm := State.Mirrored.mirrorSlots (s.sctx r.slot) [r.slot] (freeSlot r.slot s)
      have hf := ((freeSlot_freed r.slot s hw).keep hm.kept (congrArg _ hm.mem)).keep (.complete _ o 5 St.done 0 0)
        (State.complete_t1 _ _ _ _ _ _)
      rw [hrun, Host.Outcome.next.inj (yes hs), drainKvm_nil _ (hf.waiting.trans hq)]
      exact ⟨_, rfl, hf.clear, hf.ttl⟩
  · exact exec_kvmRuns ht 6 r (i := .pause o r) (startMove o 6 r) rfl rfl (by decide) hq hn
  · obtain ⟨no, yes⟩ := exec_kvmRuns ht 7 r (i := .resume o r) (fun s =>
      { startMove o 7 r s with kvm := { (startMove o 7 r s).kvm with ttl := kdel (startMove o 7 r s).kvm.ttl r.slot } })
      rfl rfl (by decide) hq hn
    exact ⟨no, fun hs => ⟨_, yes hs, kget_kset_same _ _ _, kget_kdel_same _ _, rfl⟩⟩
  · obtain ⟨no, yes⟩ := exec_kvmRuns ht 8 r (i := .touch o r) (fun s => (s.setTtl r.slot r.ttl).complete o 8 St.done) rfl rfl
      (by decide) hq hn
    refine ⟨no, fun hs => ⟨_, yes hs, ?_, State.complete_t1 _ _ _ _ _ _⟩⟩
    rw [State.complete_kvm]
    exact kget_kset_same _ _ _

end Sys2Proof.Machine
end

section
/-!
SUPPORT. The proof of moves, expiry, frames and invalidation (O43).
-/
namespace Sys2Proof.Machine

/-! ### Moves (R227) -/

/-- A MOVE_DONE of the other kind does nothing. -/
theorem moveDone_other {s : State} {n op : Nat} {m : Move} (ws : State → List Nat) (p : PList) (k : Move → State → State)
    (hm : kget s.kvm.moves n = some m) (ho : m.op ≠ op) : moveDone n op ws p k s = s := by
  rw [moveDone, hm]
  exact if_neg ho

/-- The end of a move: its pages moved, what the command asks for done, the mirror told and the command answered. -/
theorem moveDone_eq {s : State} {n : Nat} {m : Move} (ws : State → List Nat) (p : PList) (k : Move → State → State)
    (hm : kget s.kvm.moves n = some m) : ∃ u c st, s.KvmKept u ∧ moveDone n m.op ws p k s =
      drainKvm ((mirrorSlots c [n] (k m { u with kvm := { u.kvm with moves := kdel u.kvm.moves n } })).complete m.org m.op st) := by
  rw [moveDone, hm]
  exact ⟨_, _, _, .foldl (fun t w => t.movePage n w p) (fun t w => .movePage t n w p) (ws s) s, if_pos rfl⟩

/-- What is so once a move that leaves slot `n` in state `x` ends. -/
theorem moveDone_ends {s : State} {n : Nat} {m : Move} (ws : State → List Nat) (p : PList) (k : Move → State → State)
    (hm : kget s.kvm.moves n = some m) (hs : s.memoryCanonical) (hq : s.kvm.waiting = []) (x : Nat)
    (hk : ∀ u : State, u.memoryCanonical → (k m u).sget n D.state = x % 256 ∧ (k m u).kvm.waiting = u.kvm.waiting ∧
      (k m u).kvm.moves = u.kvm.moves) :
    (moveDone n m.op ws p k s).sget n D.state = x % 256 ∧ kget (moveDone n m.op ws p k s).kvm.moves n = none ∧
      ∃ u, s.KvmKept u ∧
        (moveDone n m.op ws p k s).kvm = (k m { u with kvm := { u.kvm with moves := kdel u.kvm.moves n } }).kvm := by
  obtain ⟨u, c, st, hu, e⟩ := moveDone_eq ws p k hm
  obtain ⟨hst, hwt, hmv⟩ := hk { u with kvm := { u.kvm with moves := kdel u.kvm.moves n } } (hu.wf hs)
  generalize hv : k m { u with kvm := { u.kvm with moves := kdel u.kvm.moves n } } = v at e hst hwt hmv
  have hmir := State.Mirrored.mirrorSlots c [n] v
  have hkvm : ((mirrorSlots c [n] v).complete m.org m.op st).kvm = v.kvm := (State.complete_kvm _ _ _ _ _ _).trans hmir.kvm
  have hget := (hmir.kept.trans (.complete _ m.org m.op st 0 0)).sget
    ((State.complete_t1 _ _ _ _ _ _).trans (congrArg Mem.t1 hmir.mem)) n D.state
  have hnil : ((mirrorSlots c [n] v).complete m.org m.op st).kvm.waiting = [] := by rw [hkvm, hwt, hu.waiting, hq]
  rw [e, drainKvm_nil _ hnil, hkvm, hmv]
  exact ⟨hget.trans hst, kget_kdel_same _ n, u, hu, by rw [hv]⟩

/-! ### Expiry (R228) -/

/-- An expired slot is free, and its number stands at the FIFO's end while it has room. -/
theorem expireSlot_spec (s : State) (n : Nat) (hs : s.memoryCanonical) (hf : s.kvm.fifo.length < 64) :
    (expireSlot s n).sget n D.state = 0 ∧ kget (expireSlot s n).kvm.ttl n = none ∧
      (expireSlot s n).kvm.fifo = s.kvm.fifo ++ [n] ∧
      (expireSlot s n).counter C.KVM_EXPIRIES = min (2 ^ 48 - 1) (s.counter C.KVM_EXPIRIES + 1) := by
  have hm := State.Mirrored.mirrorSlots (s.sctx n) [n] (freeSlot n s)
  have freed := (freeSlot_freed n s hs).keep hm.kept (congrArg Mem.t1 hm.mem)
  generalize ht : mirrorSlots (s.sctx n) [n] (freeSlot n s) = t at freed
  have he : expireSlot s n = { t.bump C.KVM_EXPIRIES with
      kvm := { (t.bump C.KVM_EXPIRIES).kvm with fifo := (t.bump C.KVM_EXPIRIES).kvm.fifo ++ [n] } } := by
    unfold expireSlot
    rw [ht]
    exact if_pos (by rwa [State.bump_kvm, freed.fifo])
  have hc : (t.bump C.KVM_EXPIRIES).counter C.KVM_EXPIRIES = min (2 ^ 48 - 1) (t.counter C.KVM_EXPIRIES + 1) :=
    State.bump_counter _ _ _ (by decide) (by decide)
  have hg : (t.bump C.KVM_EXPIRIES).sget n D.state = t.sget n D.state := by
    rw [State.sget, State.sget, State.seqOff_congr t (t.bump C.KVM_EXPIRIES) (State.bump_regs _ _ _), State.bump_mem]
  have hk : (t.bump C.KVM_EXPIRIES).kvm = t.kvm := State.bump_kvm _ _ _
  generalize t.bump C.KVM_EXPIRIES = u at he hc hg hk
  rw [he, ← freed.counters C.KVM_EXPIRIES (by decide), ← freed.fifo, ← hk]
  exact ⟨hg.trans (freed.clear D.state (by decide)), by rw [hk, freed.ttl], rfl, hc⟩

/-! ### The page-frame table (R216) -/

/-- Linking a pool's frames writes tier 1 alone. -/
theorem linkPool_eq (a n : Nat) (s : State) :
    ∃ m : Mem, State.linkPool a n s = { s with mem := m } ∧ m.t0 = s.mem.t0 ∧ m.t2 = s.mem.t2 := by
  induction n generalizing a s with
  | zero => exact ⟨s.mem, rfl, rfl, rfl⟩
  | succ n ih =>
    have step : ∃ bs, State.linkPool a (n + 1) s = State.linkPool (a + 1) n { s with mem := s.mem.write 1 (s.pfOff a) bs } := ⟨_, rfl⟩
    obtain ⟨bs, hs⟩ := step
    obtain ⟨h0, h2⟩ := s.mem.write_one_others (s.pfOff a) bs
    obtain ⟨m, e, g0, g2⟩ := ih (a + 1) { s with mem := s.mem.write 1 (s.pfOff a) bs }
    exact ⟨m, hs.trans e, g0.trans h0, g2.trans h2⟩

/-- PFT_INIT makes both pools' frames free. -/
theorem pftInit_eq (s : State) (h : s.kvm.init = true) : ∃ m : Mem, m.t0 = s.mem.t0 ∧ m.t2 = s.mem.t2 ∧
    pftInit s = { s with mem := m, kvm := { s.kvm with f1 := poolList 0 s.pool1N, f2 := poolList s.pool1N s.pool2N, q := ⟨0, 0, 0⟩,
                                                       low := false, init := false, ready := true } } := by
  obtain ⟨m, e, h0, h2⟩ := linkPool_eq 0 s.pool1N s
  obtain ⟨m', e', h0', h2'⟩ := linkPool_eq s.pool1N s.pool2N { s with mem := m }
  refine ⟨m', h0'.trans h0, h2'.trans h2, ?_⟩
  rw [pftInit, if_pos h, e, e']
  rfl

/-! ### Epochs and the reclaimer (R218, R219) -/

/-- A frame put at a list's tail makes the list one longer and ends it. -/
theorem State.pappend_plist (s : State) (p : PList) (f : Nat) :
    ((s.pappend p f).plist p).n = (s.plist p).n + 1 ∧ ((s.pappend p f).plist p).tail = f := by
  have set : ∀ (t : State) (l : FrameList), (t.setPlist p l).plist p = l := fun t l => by cases p <;> rfl
  unfold State.pappend
  dsimp only
  split
  · rename_i h0
    rw [set, h0]
    exact ⟨rfl, rfl⟩
  · rw [set]
    exact ⟨rfl, rfl⟩

/-- A frame put at the tail of a free list leaves the quarantine. -/
theorem State.pappend_quarantine (s : State) (p : PList) (f : Nat) (hp : p ≠ .quar) : (s.pappend p f).kvm.q = s.kvm.q := by
  have set : ∀ (t : State) (l : FrameList), (t.setPlist p l).kvm.q = t.kvm.q := fun t l => by
    cases p
    · rfl
    · rfl
    · exact absurd rfl hp
  unfold State.pappend
  dsimp only
  split
  · exact set _ _
  · exact set _ _

theorem State.poolOf_ne_quar (s : State) (f : Nat) : s.poolOf f ≠ .quar := by
  unfold State.poolOf
  split <;> decide

theorem State.poolOf_congr (s t : State) (h : t.regs = s.regs) (f : Nat) : t.poolOf f = s.poolOf f := by
  have hn : t.pool1N = s.pool1N := State.fld_congr t s h F.KVM_POOL1_COUNT_count 0
  rw [State.poolOf, State.poolOf, hn]

@[simp] theorem State.pput_regs (s : State) (f : Nat) (d : DField) (v : Nat) : (s.pput f d v).regs = s.regs := by
  dsimp only [State.pput]

@[simp] theorem State.pput_cnts (s : State) (f : Nat) (d : DField) (v : Nat) : (s.pput f d v).cnts = s.cnts := by
  dsimp only [State.pput]

@[simp] theorem State.pput_kvm (s : State) (f : Nat) (d : DField) (v : Nat) : (s.pput f d v).kvm = s.kvm := by
  dsimp only [State.pput]

@[simp] theorem State.pappend_cnts (s : State) (p : PList) (f : Nat) : (s.pappend p f).cnts = s.cnts := by
  unfold State.pappend
  dsimp only
  split <;> rfl

/-- The quarantine's one frame taken off, its entry cleared. -/
def State.unquarantined (s : State) : State :=
  ((((s.ptake .quar).2.pput s.kvm.q.head P.ref 0).pput s.kvm.q.head P.state 0).pput s.kvm.q.head P.flags 0).pput s.kvm.q.head P.stamp 0

section Unquarantined
variable (s : State) (h1 : s.kvm.q.n = 1)

theorem State.unquarantined_cnts : s.unquarantined.cnts = s.cnts := by
  simp only [State.unquarantined, State.ptake, State.pput_cnts, State.setPlist]

include h1

theorem State.unquarantined_kvm : s.unquarantined.kvm = { s.kvm with q := ⟨0, 0, 0⟩ } := by
  simp only [State.unquarantined, State.ptake, State.pput_kvm, State.setPlist, Kvm.setList, State.plist, Kvm.list, h1, ↓reduceIte]

/-- A frame whose readers are gone goes from the quarantine, where it is alone, to its pool's free list. -/
theorem reclaimN_one (hp : precedes 32 (s.pget s.kvm.q.head P.stamp) s.kvm.oldest = true) : ∃ low,
    State.reclaimN 1 s =
      { (s.unquarantined.pappend (s.poolOf s.kvm.q.head) s.kvm.q.head).bump C.KVM_FREED with
        kvm := { ((s.unquarantined.pappend (s.poolOf s.kvm.q.head) s.kvm.q.head).bump C.KVM_FREED).kvm with low := low } } := by
  have hc : (decide (s.kvm.q.n ≠ 0) && precedes 32 (s.pget s.kvm.q.head P.stamp) s.kvm.oldest) = true := by simp [h1, hp]
  have ho : (s.ptake .quar).2.poolOf s.kvm.q.head = s.poolOf s.kvm.q.head := State.poolOf_congr _ _ (State.pput_regs _ _ _ _) _
  rw [← ho]
  exact ⟨_, if_pos hc⟩

end Unquarantined

/-- Nothing is reclaimed while the frame at the head may still be read. -/
theorem reclaimN_held (n : Nat) (s : State) (hp : precedes 32 (s.pget s.kvm.q.head P.stamp) s.kvm.oldest = false) :
    State.reclaimN n s = s := by
  cases n with
  | zero => rfl
  | succ n => exact if_neg (by simp [hp])

/-- What is so once the quarantine's one frame is reclaimed. -/
theorem reclaimN_one_spec (s : State) (h1 : s.kvm.q.n = 1)
    (hp : precedes 32 (s.pget s.kvm.q.head P.stamp) s.kvm.oldest = true) :
    (State.reclaimN 1 s).kvm.q.n = 0 ∧
      ((State.reclaimN 1 s).plist (s.poolOf s.kvm.q.head)).n = (s.plist (s.poolOf s.kvm.q.head)).n + 1 ∧
      ((State.reclaimN 1 s).plist (s.poolOf s.kvm.q.head)).tail = s.kvm.q.head ∧
      (State.reclaimN 1 s).counter C.KVM_FREED = min (2 ^ 48 - 1) (s.counter C.KVM_FREED + 1) := by
  obtain ⟨low, e⟩ := reclaimN_one s h1 hp
  have hpool := s.poolOf_ne_quar s.kvm.q.head
  generalize s.poolOf s.kvm.q.head = p at e hpool ⊢
  have hq := State.pappend_quarantine s.unquarantined p s.kvm.q.head hpool
  obtain ⟨hn, htl⟩ := State.pappend_plist s.unquarantined p s.kvm.q.head
  have hcnt : (s.unquarantined.pappend p s.kvm.q.head).cnts = s.cnts := (State.pappend_cnts _ _ _).trans s.unquarantined_cnts
  have hfree : s.unquarantined.plist p = s.plist p := by
    rw [State.plist, s.unquarantined_kvm h1]
    cases p
    · rfl
    · rfl
    · exact absurd rfl hpool
  rw [s.unquarantined_kvm h1] at hq
  rw [hfree] at hn
  generalize s.unquarantined.pappend p s.kvm.q.head = u at e hq hn htl hcnt
  have hlist : (State.reclaimN 1 s).plist p = u.plist p := by
    rw [e]
    show ({ (u.bump C.KVM_FREED).kvm with low := low } : Kvm).list p = u.kvm.list p
    rw [State.bump_kvm]
    cases p <;> rfl
  refine ⟨?_, hlist ▸ hn, hlist ▸ htl, ?_⟩
  · rw [e]
    show (u.bump C.KVM_FREED).kvm.q.n = 0
    rw [State.bump_kvm, hq]
  · rw [e, State.counter, State.counter, ← hcnt]
    exact State.bump_counter u _ _ (by decide) (by decide)

/-! ### Invalidation (R215, R232) -/

section Invalidation
variable (org : Originator) (s : State) (hg : s.grants org 0x3600008)
include hg

/-- An invalidation begins. -/
theorem mmuInv_begins (h : s.kvm.inv = false) :
    mmuInv org false s = ({ s with kvm := { s.kvm with inv := true } } : State).setFld F.MMU_INV_STATUS_busy 1 := by
  rw [mmuInv, State.gated_pass s org _ _ hg.1 hg.2, h]
  rfl

/-- A second invalidation is refused. -/
theorem mmuInv_busy (empty : Bool) (h : s.kvm.inv = true) : mmuInv org empty s = s.setFld F.MMU_INV_STATUS_status St.busy := by
  rw [mmuInv, State.gated_pass s org _ _ hg.1 hg.2, if_pos h]

/-- A range of no pages is done at once. -/
theorem mmuInv_empty (h : s.kvm.inv = false) : mmuInv org true s = s.setFld F.MMU_INV_STATUS_status St.done := by
  rw [mmuInv, State.gated_pass s org _ _ hg.1 hg.2, h]
  rfl

end Invalidation

/-- A field of a register keeps its value when a field below it is set. -/
theorem State.fld_setFld_above (s : State) (r q : FieldRef) (v di : Nat) (ho : q.off = r.off) (hl : r.lo ≤ r.hi) (h : r.hi < q.lo)
    (hq : q.lo ≤ q.hi) (hh : q.hi < 32) : (s.setFld r v di).fld q di = s.fld q di := by
  have cut : ∀ w : Nat, bits (w % 2 ^ 32) q.hi q.lo = bits w q.hi q.lo := by
    intro w
    unfold bits
    rw [show (32 : Nat) = q.lo + (32 - q.lo) by omega, Nat.pow_add, Nat.mod_mul_right_div_self,
      Nat.mod_mod_of_dvd _ (Nat.pow_dvd_pow 2 (by omega))]
  simp only [State.fld, State.setFld, ho, State.rd_wr_same, cut, bits_setBits_above _ _ _ _ _ _ hl h]

theorem State.dropCached_regs (s : State) : s.dropCached.regs = s.regs := State.bump_regs _ _ _

/-- The end of an invalidation clears busy with the status DONE. -/
theorem mmuInvDone_spec (s : State) (h : s.kvm.inv = true) : (mmuInvDone s).kvm.inv = false ∧
    (mmuInvDone s).flag F.MMU_INV_STATUS_busy = false ∧ (mmuInvDone s).fld F.MMU_INV_STATUS_status = 0x00 ∧
    (mmuInvDone s).mem = s.mem := by
  have e : mmuInvDone s = ((({ s with kvm := { s.kvm with inv := false } } : State).setFld F.MMU_INV_STATUS_busy 0).setFld
      F.MMU_INV_STATUS_status St.done).dropCached := if_pos h
  rw [e, State.flag, State.fld_congr _ _ (State.dropCached_regs _), State.fld_congr _ _ (State.dropCached_regs _),
    State.fld_setFld_above _ F.MMU_INV_STATUS_status F.MMU_INV_STATUS_busy _ _ rfl (by decide) (by decide) (by decide) (by decide),
    State.fld_setFld_same _ F.MMU_INV_STATUS_busy _ _ (by decide) (by decide),
    State.fld_setFld_same _ F.MMU_INV_STATUS_status _ _ (by decide) (by decide)]
  exact ⟨congrArg Kvm.inv (State.bump_kvm _ _ _), rfl, rfl, State.bump_mem _ _ _⟩

/-! ### The statement -/

/-- Settles O43, process by process: the ends of moves, the expiry check and its FIFO, the page-frame table, epochs, the
reclaimer, and the MMU's invalidations. -/
theorem movesExpiryFramesAndInvalidation : Obligations.MovesExpiryFramesAndInvalidation := by
  unfold Obligations.MovesExpiryFramesAndInvalidation
  intro s hp hs
  refine ⟨fun n m hm hq => ⟨fun ho => ?_, fun ho => ?_, fun ho => ?_, fun ho => ?_⟩, fun n x he hf => ?_, fun he => ?_,
    fun org n l hr hv hf => ?_, fun hi => ?_, fun hi => ?_, fun hw hr => ?_, fun hw => ?_, fun h1 hr => ?_, fun hr => ?_,
    fun org n hg hi hn c hc => ?_, fun org n hg hi c hc => ?_, fun org n hg hi hn => ?_, fun hi => ?_, fun hi => ?_⟩
  · obtain ⟨hst, hmv, u, hu, hk⟩ := moveDone_ends (·.pausePages n) .free2
      (fun m t => (t.sput n D.state Sl.paused).setTtl n m.ttl) hm hs hq Sl.paused
      fun u hw => ⟨u.sget_sput_same n D.state Sl.paused hw, rfl, rfl⟩
    rw [ho] at hst hmv hk
    refine ⟨_, exec_running _ rfl hp, hst, ?_, hmv⟩
    rw [hk, ← hu.us]
    exact kget_kset_same _ _ _
  · obtain ⟨hst, hmv, -⟩ := moveDone_ends (·.resumePages n) .free1 (fun _ t => t.sput n D.state Sl.idle) hm hs hq Sl.idle
      fun u hw => ⟨u.sget_sput_same n D.state Sl.idle hw, rfl, rfl⟩
    rw [ho] at hst hmv
    exact ⟨_, exec_running _ rfl hp, hst, hmv⟩
  · exact (exec_running _ rfl hp).trans (congrArg _ (moveDone_other (·.pausePages n) .free2 _ hm ho))
  · exact (exec_running _ rfl hp).trans (congrArg _ (moveDone_other (·.resumePages n) .free1 _ hm ho))
  · refine ⟨expireSlot s n, ?_, expireSlot_spec s n hs hf⟩
    refine (exec_running (fun s => ((s.kvm.ttl.filter fun e => e.2 ≤ s.us).map (·.1)).foldl expireSlot s) rfl hp).trans ?_
    rw [he]
    rfl
  · refine (exec_running (fun s => ((s.kvm.ttl.filter fun e => e.2 ≤ s.us).map (·.1)).foldl expireSlot s) rfl hp).trans ?_
    rw [he]
    rfl
  · have hx : kvmExpiredRead org s = ({ s with kvm := { s.kvm with fifo := s.kvm.fifo.drop 1 } }.setLatch org 0x130004C 0).emit
        (.readData org 0x130004C s.expiredWord) := by rw [kvmExpiredRead, if_pos hr, if_pos hv]
    have hword : s.expiredWord = n + 2 ^ 31 := by rw [State.expiredWord, hf]
    refine ⟨_, (exec_running _ rfl hp).trans (congrArg _ hx), ?_, ?_, rfl⟩
    · exact (congrArg (List.drop 1) hf).trans rfl
    · rw [hword]
      rfl
  · obtain ⟨m, h0, h2, e⟩ := pftInit_eq s hi
    exact ⟨_, (exec_running pftInit rfl hp).trans (congrArg _ e), rfl, rfl, rfl, rfl, rfl, h0, h2⟩
  · exact (exec_running pftInit rfl hp).trans (congrArg _ (if_neg (by simp [hi])))
  · exact (exec_running (fun s => if 0 < s.kvm.wanted then s.advance else s) rfl hp).trans
      (congrArg _ ((if_pos hw).trans (if_pos hr)))
  · refine (exec_running (fun s => if 0 < s.kvm.wanted then s.advance else s) rfl hp).trans (congrArg _ ?_)
    rcases hw with hw | hr
    · exact if_neg (by omega)
    · exact (congrArg (ite _ · s) (if_neg hr)).trans (ite_self s)
  · refine ⟨State.reclaimN 1 s, ?_, reclaimN_one_spec s h1 hr⟩
    exact (exec_running (fun s => State.reclaimN s.kvm.q.n s) rfl hp).trans (by rw [h1])
  · exact (exec_running (fun s => State.reclaimN s.kvm.q.n s) rfl hp).trans (congrArg _ (reclaimN_held _ s hr))
  · have hrun : exec c s = .next (mmuInv org false s) := by
      have hpages : decide (n % 65536 = 0) = false := decide_eq_false hn
      simp only [List.mem_cons, List.not_mem_nil, or_false] at hc
      obtain rfl | rfl | rfl := hc
      · exact exec_running _ rfl hp
      · exact exec_running _ rfl hp
      · exact (exec_running (mmuInv org (decide (n % 65536 = 0))) rfl hp).trans (by rw [hpages])
    rw [hrun, mmuInv_begins org s hg hi]
  · have hrun : ∃ empty, exec c s = .next (mmuInv org empty s) := by
      simp only [List.mem_cons, List.not_mem_nil, or_false] at hc
      obtain rfl | rfl | rfl := hc <;> exact ⟨_, exec_running (mmuInv org _) rfl hp⟩
    obtain ⟨empty, hrun⟩ := hrun
    rw [hrun, mmuInv_busy org s hg empty hi]
    rfl
  · have hpages : decide (n % 65536 = 0) = true := decide_eq_true hn
    rw [exec_running (mmuInv org (decide (n % 65536 = 0))) rfl hp, hpages, mmuInv_empty org s hg hi]
    rfl
  · exact ⟨_, exec_running mmuInvDone rfl hp, mmuInvDone_spec s hi⟩
  · exact (exec_running mmuInvDone rfl hp).trans (congrArg _ (if_neg (by simp [hi])))

end Sys2Proof.Machine
end

section
/-!
SUPPORT. What the work of the key-value memory and of its mirrors leaves of the serving pipeline: all of it, but for the
requests that a freed slot ends and the slot's places in steps and launches.
-/
namespace Sys2Proof.Machine

/-! ### Pages, frames and tables leave the serving pipeline (R212 to R227) -/

section Pages
variable (s : State)

@[simp] theorem State.sput_srv (n : Nat) (d : DField) (v : Nat) : (s.sput n d v).srv = s.srv := rfl

@[simp] theorem State.setSflag_srv (n b : Nat) (v : Bool) : (s.setSflag n b v).srv = s.srv := rfl

@[simp] theorem State.sclear_srv (n : Nat) : (s.sclear n).srv = s.srv := by dsimp only [State.sclear]

@[simp] theorem State.dirRetire_srv (i : Nat) : (s.dirRetire i).srv = s.srv := by dsimp only [State.dirRetire]

@[simp] theorem State.pput_srv (f : Nat) (d : DField) (v : Nat) : (s.pput f d v).srv = s.srv := rfl

@[simp] theorem State.put8_srv (p : Nat × Nat) (v : Nat) : (s.put8 p v).srv = s.srv := rfl

@[simp] theorem State.setPlist_srv (p : PList) (l : FrameList) : (s.setPlist p l).srv = s.srv := rfl

@[simp] theorem State.ptake_srv (p : PList) : (s.ptake p).2.srv = s.srv := rfl

@[simp] theorem State.dropCached_srv : s.dropCached.srv = s.srv := State.bump_srv _ _ _

@[simp] theorem State.sputs_srv (n : Nat) (l : List (DField × Nat)) : (s.sputs n l).srv = s.srv := by
  induction l generalizing s with
  | nil => rfl
  | cons e l ih => exact ih _

@[simp] theorem State.dputs_srv (i : Nat) (l : List (DField × Nat)) : (s.dputs i l).srv = s.srv := by
  induction l generalizing s with
  | nil => rfl
  | cons e l ih => exact ih _

@[simp] theorem State.pappend_srv (p : PList) (f : Nat) : (s.pappend p f).srv = s.srv := by
  unfold State.pappend
  dsimp only
  split <;> rfl

@[simp] theorem State.alloc_srv (p : PList) (st ctx : Nat) : (s.alloc p st ctx).2.srv = s.srv := by
  unfold State.alloc
  split
  · simp
  · dsimp only
    split <;> simp

@[simp] theorem State.quarantine_srv (f : Nat) : (s.quarantine f).srv = s.srv := State.pappend_srv _ .quar f

@[simp] theorem State.mapFrame_srv (f : Nat) : (s.mapFrame f).srv = s.srv := by
  unfold State.mapFrame
  dsimp only
  (repeat' split) <;> simp

@[simp] theorem State.unmapFrame_srv (f : Nat) : (s.unmapFrame f).srv = s.srv := by
  unfold State.unmapFrame
  dsimp only
  (repeat' split) <;> simp

@[simp] theorem State.copyFrame_srv (a b : Nat) : (s.copyFrame a b).srv = s.srv :=
  (foldl_keeps State.srv _ (fun _ _ => State.twrite_srv _ _ _ _ _) _ _).trans (State.tread_srv _ _ _ _)

@[simp] theorem State.ensure_srv (p : Nat × Nat) (ctx : Nat) : (s.ensure p ctx).2.srv = s.srv := by
  have ha := s.alloc_srv .free1 3 ctx
  unfold State.ensure
  dsimp only
  split
  · rfl
  · split <;> rename_i h <;> rw [h] at ha <;> exact ha

@[simp] theorem State.ensurePage_srv (n w ctx : Nat) : (s.ensurePage n w ctx).2.srv = s.srv := by
  have h1 := s.ensure_srv (s.l1Place (pageVa n w)) ctx
  unfold State.ensurePage
  dsimp only
  split <;> rename_i e1 <;> rw [e1] at h1
  · exact h1
  · rename_i f t
    have h2 := (t.ensure_srv (under f (bits (pageVa n w) 41 29)) ctx).trans h1
    split <;> rename_i e2 <;> rw [e2] at h2 <;> exact h2

@[simp] theorem State.mapPage_srv (n w f : Nat) (wr : Bool) : (s.mapPage n w f wr).2.srv = s.srv := by
  have h := s.ensurePage_srv n w (s.sctx n)
  unfold State.mapPage
  split <;> rename_i e <;> rw [e] at h
  · exact h
  · exact (State.mapFrame_srv _ _).trans h

@[simp] theorem State.protectPage_srv (n w : Nat) : (s.protectPage n w).srv = s.srv := by
  unfold State.protectPage
  split
  · simp
  · rfl

@[simp] theorem State.unmapPage_srv (n w : Nat) : (s.unmapPage n w).srv = s.srv := by
  unfold State.unmapPage
  split
  · rfl
  · dsimp only
    split <;> simp

@[simp] theorem State.dropTable_srv (p : Nat × Nat) (e : Nat) : (s.dropTable p e).srv = s.srv := by
  unfold State.dropTable
  dsimp only
  split <;> simp

@[simp] theorem State.unmapSlot_srv (n : Nat) : (s.unmapSlot n).srv = s.srv := by
  have pages := foldl_keeps State.srv _ (fun t w => t.unmapPage_srv n w) (s.slotPages n) s
  unfold State.unmapSlot
  dsimp only
  generalize (s.slotPages n).foldl (fun t w => t.unmapPage n w) s = t at pages ⊢
  have tables := foldl_keeps State.srv (fun (u : State) (x : Nat × (Nat × Nat) × Nat) => u.dropTable x.2.1 x.2.2)
    (fun u x => u.dropTable_srv x.2.1 x.2.2) (t.slotTables n) t
  generalize (t.slotTables n).foldl (fun u x => u.dropTable x.2.1 x.2.2) t = u at tables ⊢
  split
  · rw [State.dropTable_srv, tables, pages]
  · rw [tables, pages]

@[simp] theorem State.copyDesc_srv (src dst st ctx tenant : Nat) : (s.copyDesc src dst st ctx tenant).srv = s.srv := by
  simp [State.copyDesc]

@[simp] theorem State.sharePages_srv (src dst : Nat) (ws : List Nat) : (s.sharePages src dst ws).srv = s.srv := by
  refine foldl_keeps State.srv _ (fun t w => ?_) ws s
  split <;> simp

@[simp] theorem State.copyPage_srv (src dst w : Nat) : (s.copyPage src dst w).srv = s.srv := by
  unfold State.copyPage
  split
  · rfl
  · rename_i f _
    have ha := s.alloc_srv (s.poolOf f) 1 (s.sctx dst)
    split <;> rename_i h <;> rw [h] at ha
    · exact ha
    · rw [State.mapPage_srv, State.copyFrame_srv, ha]

end Pages

/-! ### Groups sent to mirror peers leave it (R383 to R386) -/

section Mirrors
variable (s : State)

@[simp] theorem State.setMirPeer_srv (i : Nat) (p : MirPeer) : (s.setMirPeer i p).srv = s.srv := rfl

@[simp] theorem State.mirSend_srv (i : Nat) (e : List Byte) : (s.mirSend i e).srv = s.srv := rfl

@[simp] theorem State.sendBulk_srv (dst addr : Nat) (bs : List Byte) : (s.sendBulk dst addr bs).srv = s.srv := by
  obtain ⟨_, _, _, _, _, _, e⟩ := s.sendBulk_frame dst addr bs
  rw [e]

@[simp] theorem State.sendStore_srv (dst addr : Nat) (bs : List Byte) (rtag job : Nat) (p : Bool) :
    (s.sendStore dst addr bs rtag job p).srv = s.srv := by
  obtain ⟨_, _, _, _, _, _, e⟩ := s.sendStore_frame dst addr bs rtag job p
  rw [e]

@[simp] theorem mirPump_srv (i n : Nat) : (mirPump i n s).srv = s.srv := by
  induction n generalizing s with
  | zero => rfl
  | succ n ih =>
    unfold mirPump
    dsimp only
    (repeat' split) <;> simp [ih]

@[simp] theorem mirSlot_srv (i g : Nat) (x : MirChange) : (mirSlot i g x s).srv = s.srv := by
  unfold mirSlot
  dsimp only
  split
  · split <;> rfl
  · simp only [State.setMirPeer_srv, State.mirSend_srv, apply_ite State.srv, ite_self]
    exact foldl_keeps State.srv _ (fun _ _ => State.mirSend_srv _ _ _) _ s

@[simp] theorem mirGroup_srv (i : Nat) (xs : List MirChange) : (mirGroup i xs s).srv = s.srv :=
  (mirPump_srv _ i _).trans (foldl_keeps State.srv _ (fun _ _ => mirSlot_srv _ _ _ _) xs s)

@[simp] theorem mirrorChanges_srv (xs : List MirChange) : (mirrorChanges xs s).2.srv = s.srv := by
  refine List.foldlRecOn (motive := fun a : List (Nat × Nat) × State => a.2.srv = s.srv) _ _ rfl fun a ha i _ => ?_
  dsimp only
  split
  · exact ha
  · exact (mirGroup_srv _ i _).trans ha

@[simp] theorem mirrorSlots_srv (c : Nat) (ns : List Nat) : (mirrorSlots c ns s).srv = s.srv := by
  unfold mirrorSlots
  split
  · exact mirrorChanges_srv s _
  · rfl

end Mirrors

/-! ### Pools stay idle -/

/-- Every pool without a running launch stays without one. -/
def State.IdleKept (s t : State) : Prop := ∀ p, (s.pool p).run = none → (t.pool p).run = none

namespace State.IdleKept

theorem refl (s : State) : s.IdleKept s := fun _ h => h

theorem trans {s t u : State} (a : s.IdleKept t) (b : t.IdleKept u) : s.IdleKept u := fun p h => b p (a p h)

theorem of_pools {s t : State} (h : t.srv.pools = s.srv.pools) : s.IdleKept t := fun p hp => by
  rwa [State.pool, h]

theorem of_srv {s t : State} (h : t.srv = s.srv) : s.IdleKept t := of_pools (congrArg Srv.pools h)

theorem ite {s t u : State} {p : Prop} [Decidable p] (a : s.IdleKept t) (b : s.IdleKept u) : s.IdleKept (if p then t else u) := by
  split
  · exact a
  · exact b

/-- A command that is refused is answered alone. -/
theorem orElse (o : CmdOrigin) (op : Nat) (refusal : Option Nat) (k : State → State) (s : State) (h : s.IdleKept (k s)) :
    s.IdleKept (orElse o op refusal k s) := by
  cases refusal with
  | some st => exact of_srv (State.complete_srv _ _ _ _ _ _)
  | none => exact h

theorem complete (s : State) (o : CmdOrigin) (op st hint res : Nat) : s.IdleKept (s.complete o op st hint res) :=
  of_srv (State.complete_srv _ _ _ _ _ _)

/-! Slots that are freed (R223, R236) -/

theorem afterReq (s : State) (n : Nat) (r : Req) : s.IdleKept (s.afterReq n r) := by
  unfold State.afterReq
  (repeat' split) <;> exact of_srv (by simp)

theorem finishReq (n st reason : Nat) (s : State) : s.IdleKept (Machine.finishReq n st reason s) := by
  unfold Machine.finishReq
  split
  · exact refl s
  · rename_i r _
    refine trans (of_pools ?_) (afterReq _ n r)
    rw [State.bump_srv, State.completeWith_srv]
    rfl

theorem freePartner (n : Nat) (s : State) : s.IdleKept (Machine.freePartner n s) := by
  unfold Machine.freePartner
  have idled : ∀ t : State, ∀ p : Nat, t.IdleKept (t.sput p D.state Sl.idle) := fun t p => of_srv (t.sput_srv p _ _)
  exact ite (ite ((finishReq _ _ _ s).trans (idled _ _)) (refl s)) (ite (idled s _) (refl s))

theorem stopMove (s : State) (n : Nat) : s.IdleKept (s.stopMove n) := by
  unfold State.stopMove
  split
  · exact refl s
  · exact of_srv (State.complete_srv _ _ _ _ _ _)

/-- A slot leaves the launches of a pool; it brings none. -/
theorem leaveSteps (s : State) (n : Nat) : s.IdleKept (s.leaveSteps n) := fun p hp => by
  have hpool : (s.leaveSteps n).pool p = (s.pool p).without n := by
    simp only [State.pool, State.leaveSteps, nth, List.getElem?_map]
    cases s.srv.pools[p]? <;> rfl
  rw [hpool, Pool.without, hp, Option.map_none]

theorem freeSlot (n : Nat) (s : State) : s.IdleKept (Machine.freeSlot n s) := by
  have left := (((finishReq n St.done 4 s).trans (freePartner n _)).trans (stopMove _ n)).trans (leaveSteps _ n)
  unfold Machine.freeSlot
  dsimp only
  refine left.trans (of_srv ?_)
  dsimp only
  rw [State.sclear_srv, State.unmapSlot_srv]

/-! KVM commands that waited (R223, R225) -/

theorem retireEffect (r : KvmRec) (s : State) : s.IdleKept (Machine.retireEffect r s) := by
  unfold Machine.retireEffect
  split
  · exact refl s
  · exact (of_srv (s.dirRetire_srv _)).trans (freeSlot _ _)

theorem kvmRun (o : CmdOrigin) (op : Nat) (r : KvmRec) (s : State) : s.IdleKept (Machine.kvmRun o op r s) := by
  unfold Machine.kvmRun
  split <;> refine orElse _ _ _ _ s ?_
  case h_1 => exact of_srv (by simp [publishEffect])
  case h_2 =>
    refine of_srv ?_
    rw [State.complete_srv, mirrorSlots_srv, takeUpEffect]
    split <;> simp
  case h_3 => exact (retireEffect r s).trans (complete _ _ _ _ _ _)
  case h_4 =>
    refine of_srv ?_
    rw [State.complete_srv, mirrorSlots_srv, forkEffect, foldl_keeps State.srv _ fun t w => t.copyPage_srv _ _ w]
    simp
  case h_5 => exact (freeSlot r.slot s).trans (of_srv (by simp))
  case h_6 => exact refl s
  case h_7 => exact refl s
  case h_8 => exact of_srv (State.complete_srv _ _ _ _ _ _)

theorem drainKvmN (n : Nat) (s : State) : s.IdleKept (Machine.drainKvmN n s) := by
  induction n generalizing s with
  | zero => exact refl s
  | succ n ih =>
    unfold Machine.drainKvmN
    split
    · exact refl s
    · split
      · exact refl s
      · rename_i rest _ _
        have taken : s.IdleKept { s with kvm := { s.kvm with waiting := rest } } := of_srv rfl
        exact (taken.trans (kvmRun _ _ _ _)).trans (ih _)

theorem drainKvm (s : State) : s.IdleKept (Machine.drainKvm s) := drainKvmN _ s

end State.IdleKept

end Sys2Proof.Machine
end

section
/-!
SUPPORT. The proof of generations and training launches (O45).
-/
namespace Sys2Proof.Machine

/-! ### Fields of registers -/

theorem bits_mod_word (w hi lo : Nat) (hl : lo ≤ hi) (hh : hi < 32) : bits (w % 2 ^ 32) hi lo = bits w hi lo := by
  unfold bits
  rw [show (32 : Nat) = lo + (32 - lo) by omega, Nat.pow_add, Nat.mod_mul_right_div_self,
    Nat.mod_mod_of_dvd _ (Nat.pow_dvd_pow 2 (by omega))]

/-- A field of a register keeps its value when a field above it is set. -/
theorem State.fld_setFld_below (s : State) (r q : FieldRef) (v di : Nat) (ho : q.off = r.off) (hl : r.lo ≤ r.hi)
    (hh : r.hi < 32) (h : q.hi < r.lo) (hq : q.lo ≤ q.hi) : (s.setFld r v di).fld q di = s.fld q di := by
  have hw : q.hi < 32 := by omega
  simp only [State.fld, State.setFld, ho, State.rd_wr_same, bits_mod_word _ _ _ hq hw, bits_setBits_below _ _ _ _ _ _ hl h hq]

/-- A field of another register of the same context keeps its value. -/
theorem State.fld_setFld_apart (s : State) (r q : FieldRef) (v di : Nat) (h : q.off ≠ r.off) :
    (s.setFld r v di).fld q di = s.fld q di :=
  s.fld_setFld_ne r q v di di fun e => h (Nat.add_right_cancel e)

/-- A field holds no more than its width. -/
theorem State.fld_mod (s : State) (r : FieldRef) (di : Nat) : s.fld r di % 2 ^ (r.hi - r.lo + 1) = s.fld r di :=
  Nat.mod_eq_of_lt (bits_lt _ _ _)

/-- An answer leaves every register but those of queue status. -/
theorem State.complete_fld (s : State) (o : CmdOrigin) (op st hint res : Nat) (r : FieldRef) (di : Nat)
    (h : (r.off + di) % 32 ≠ 16) : (s.complete o op st hint res).fld r di = s.fld r di :=
  congrArg (bits · r.hi r.lo) ((State.KvmKept.complete s o op st hint res).rd _ h)

/-! ### A command that its queue lets through -/

/-- A command that its engine takes is completed with its refusal, or carried out. -/
theorem exec_engine {i : Instr} {s : State} {o : CmdOrigin} {op : Nat} (ht : s.takes o) (refusal : State → Option Nat)
    (k : State → State → State) (m : State → State) (hi : exec i s = .next (s.on m))
    (hm : m s = s.engine o op fun t => orElse o op (refusal t) (k t) t) :
    (∀ st, refusal s = some st → exec i s = .next (s.complete o op st)) ∧
      (refusal s = none → exec i s = .next (k s s)) := by
  obtain ⟨hp, hw, hq⟩ := ht
  exact orElse_next (by rw [exec_running m hi hp, hm, s.engine_runs o op _ hw hq])

/-! ### Generations (R264) -/

section Generations
variable (s : State)

section Answers
variable (o : CmdOrigin) (op st c : Nat)

/-- The registers of generations as an answer leaves them. -/
theorem State.complete_genFld (r : FieldRef) (hr : r.off = 0x1000128 ∨ r.off = 0x100012C) :
    (s.complete o op st).fld r (0x40 * c) = s.fld r (0x40 * c) := s.complete_fld o op st 0 0 r _ (by omega)

theorem State.complete_otherRole : (s.complete o op st).otherRole c = s.otherRole c :=
  s.complete_genFld o op st c F.SEQ_CTX_GEN_STATUS_other (.inr rfl)

theorem State.complete_curGen : (s.complete o op st).curGen c = s.curGen c := by
  rw [State.curGen, State.curGen, State.flag, State.flag,
    s.complete_genFld o op st c F.SEQ_CTX_GEN_STATUS_current_valid (.inr rfl),
    s.complete_genFld o op st c F.SEQ_CTX_GEN_current (.inl rfl)]

theorem State.complete_gen (g : Nat) : (s.complete o op st).gen c g = s.gen c g := by simp only [State.gen, State.complete_srv]

end Answers

variable (r : GenRec)

/-- STAGE_GEN leaves the generation in the free slot, shown as staged. -/
theorem stageEffect_spec : (stageEffect r s).gen r.ctx (if (s.gen r.ctx 0).isNone then 0 else 1) = some (s.genOf r) ∧
    (stageEffect r s).fld F.SEQ_CTX_GEN_other (0x40 * r.ctx) = r.generation % 2 ^ 16 ∧
    (stageEffect r s).otherRole r.ctx = 1 ∧ (stageEffect r s).mem = s.mem := by
  refine ⟨kget_kset_same _ _ _, ?_, ?_, rfl⟩
  · exact (State.fld_setFld_apart _ _ _ _ _ (by decide)).trans
      (State.fld_setFld_same _ F.SEQ_CTX_GEN_other _ _ (by decide) (by decide))
  · exact State.fld_setFld_same _ F.SEQ_CTX_GEN_STATUS_other _ _ (by decide) (by decide)

/-- ACTIVATE_GEN makes its generation the current one. -/
theorem activateEffect_curGen : (activateEffect r s).curGen r.ctx = some (r.generation % 2 ^ 16) := by
  have valid : (activateEffect r s).fld F.SEQ_CTX_GEN_STATUS_current_valid (0x40 * r.ctx) = 1 := by
    refine (State.fld_setFld_below _ F.SEQ_CTX_GEN_STATUS_other F.SEQ_CTX_GEN_STATUS_current_valid _ _ rfl
      (by decide) (by decide) (by decide) (by decide)).trans ?_
    refine (State.fld_setFld_apart _ _ _ _ _ (by decide)).trans ?_
    exact State.fld_setFld_same _ F.SEQ_CTX_GEN_STATUS_current_valid _ _ (by decide) (by decide)
  have number : (activateEffect r s).fld F.SEQ_CTX_GEN_current (0x40 * r.ctx) = r.generation % 2 ^ 16 := by
    refine (State.fld_setFld_apart _ _ _ _ _ (by decide)).trans ?_
    refine (State.fld_setFld_below _ F.SEQ_CTX_GEN_other F.SEQ_CTX_GEN_current _ _ rfl
      (by decide) (by decide) (by decide) (by decide)).trans ?_
    refine (State.fld_setFld_apart _ _ _ _ _ (by decide)).trans ?_
    exact State.fld_setFld_same _ F.SEQ_CTX_GEN_current _ _ (by decide) (by decide)
  rw [State.curGen, State.flag, valid, number]
  rfl

/-- The generation that was current is shown as old. -/
theorem activateEffect_old (h : s.flag F.SEQ_CTX_GEN_STATUS_current_valid (0x40 * r.ctx) = true) :
    (activateEffect r s).otherRole r.ctx = 2 ∧
      (activateEffect r s).fld F.SEQ_CTX_GEN_other (0x40 * r.ctx) = s.fld F.SEQ_CTX_GEN_current (0x40 * r.ctx) := by
  constructor
  · refine (State.fld_setFld_same _ F.SEQ_CTX_GEN_STATUS_other _ _ (by decide) (by decide)).trans ?_
    rw [h]
    rfl
  · refine ((State.fld_setFld_apart _ _ _ _ _ (by decide)).trans
      (State.fld_setFld_same _ F.SEQ_CTX_GEN_other _ _ (by decide) (by decide))).trans ?_
    rw [h]
    exact s.fld_mod F.SEQ_CTX_GEN_current _

/-- RETIRE_GEN frees the slot and shows no other generation. -/
theorem retireGenEffect_spec (c g : Nat) : (retireGenEffect c g s).gen c g = none ∧ (retireGenEffect c g s).otherRole c = 0 ∧
    (retireGenEffect c g s).mem = s.mem :=
  ⟨kget_kdel_same _ _, State.fld_setFld_same _ F.SEQ_CTX_GEN_STATUS_other _ _ (by decide) (by decide), rfl⟩

/-- ACTIVATE_GEN refused. -/
def State.activateRefusal : Option Nat :=
  firstOf [(r.rsv, St.format), (decide (16 ≤ r.ctx), St.range), (!s.resident r.ctx ||
    !(decide (s.otherRole r.ctx = 1) && decide (s.fld F.SEQ_CTX_GEN_other (0x40 * r.ctx) = r.generation)), St.state)]

/-- RETIRE_GEN refused. -/
def State.retireGenRefusal : Option Nat :=
  firstOf [(r.rsv, St.format), (decide (16 ≤ r.ctx), St.range),
    (!s.resident r.ctx || (s.genSlot r.ctx r.generation).isNone || decide (s.curGen r.ctx = some r.generation) ||
      decide (s.pinnedTo r.ctx r.generation ≠ 0) || s.latchedBy r.ctx r.generation, St.state)]

section Refusals
variable {s r} (hr : r.rsv = false) (hc : r.ctx < 16)
include hr hc

/-- A well-formed command of an existing context is refused for its state alone. -/
theorem firstOf_stateAlone (c : Bool) :
    firstOf [(r.rsv, St.format), (decide (16 ≤ r.ctx), St.range), (c, St.state)] = if c then some St.state else none := by
  rw [hr, decide_eq_false (Nat.not_le.2 hc)]
  rfl

theorem activateRefusal_none (hs : s.resident r.ctx = true) (h1 : s.otherRole r.ctx = 1)
    (hg : s.fld F.SEQ_CTX_GEN_other (0x40 * r.ctx) = r.generation) : s.activateRefusal r = none := by
  rw [State.activateRefusal, firstOf_stateAlone hr hc, hs, decide_eq_true h1, decide_eq_true hg]
  rfl

theorem activateRefusal_unstaged (h1 : s.otherRole r.ctx ≠ 1) : s.activateRefusal r = some St.state := by
  rw [State.activateRefusal, firstOf_stateAlone hr hc, decide_eq_false h1, Bool.false_and, Bool.not_false, Bool.or_true]
  rfl

theorem retireGenRefusal_none {g : Nat} (hs : s.resident r.ctx = true) (hg : s.genSlot r.ctx r.generation = some g)
    (hn : s.curGen r.ctx ≠ some r.generation) (hp : s.pinnedTo r.ctx r.generation = 0)
    (hl : s.latchedBy r.ctx r.generation = false) : s.retireGenRefusal r = none := by
  rw [State.retireGenRefusal, firstOf_stateAlone hr hc, hs, hg, decide_eq_false hn, decide_eq_false (fun h => h hp), hl]
  rfl

theorem retireGenRefusal_current (hn : s.curGen r.ctx = some r.generation) : s.retireGenRefusal r = some St.state := by
  rw [State.retireGenRefusal, firstOf_stateAlone hr hc, decide_eq_true hn, Bool.or_true, Bool.true_or, Bool.true_or]
  rfl

end Refusals

section Commands
variable {o : CmdOrigin} (ht : s.takes o)
include ht

theorem exec_stageGen :
    (∀ st, s.stageRefusal r = some st → exec (.stageGen o r) s = .next (s.complete o 0x28 st)) ∧
    (s.stageRefusal r = none → exec (.stageGen o r) s = .next ((stageEffect r s).complete o 0x28 St.done)) :=
  exec_engine ht (·.stageRefusal r) (fun _ t => (stageEffect r t).complete o 0x28 St.done) (stageGen o r) rfl rfl

theorem exec_activateGen :
    (∀ st, s.activateRefusal r = some st → exec (.activateGen o r) s = .next (s.complete o 0x29 st)) ∧
    (s.activateRefusal r = none → exec (.activateGen o r) s = .next ((activateEffect r s).complete o 0x29 St.done)) :=
  exec_engine ht (·.activateRefusal r) (fun _ t => (activateEffect r t).complete o 0x29 St.done) (activateGen o r) rfl rfl

theorem exec_retireGen :
    (∀ st, s.retireGenRefusal r = some st → exec (.retireGen o r) s = .next (s.complete o 0x2A st)) ∧
    (s.retireGenRefusal r = none → exec (.retireGen o r) s =
      .next ((retireGenEffect r.ctx ((s.genSlot r.ctx r.generation).getD 0) s).complete o 0x2A St.done)) :=
  exec_engine ht (·.retireGenRefusal r)
    (fun t u => (retireGenEffect r.ctx ((t.genSlot r.ctx r.generation).getD 0) u).complete o 0x2A St.done) (retireGen o r) rfl rfl

end Commands

end Generations

/-! ### A training launch is enqueued (R253) -/

section Training
variable (s : State)

/-- A launch that is enqueued stands last in its pool, with the next number. -/
theorem State.enqueue_queue (p : Nat) (l : Launch) (hp : p < s.srv.pools.length) :
    ((s.enqueue p l).pool p).queue = (s.pool p).queue ++ [{ l with id := s.srv.nextLaunch, at_ := s.us }] := by
  simp [State.pool, State.enqueue, nth, hp]

/-- TRAIN_LAUNCH enqueues its program with its slots. -/
theorem trainEffect_queue (o : CmdOrigin) (r : TrainRec) (hp : r.pool < s.srv.pools.length) :
    ∃ l : Launch, ((trainEffect o r s).pool r.pool).queue = (s.pool r.pool).queue ++ [l] ∧ l.id = s.srv.nextLaunch ∧
      l.ctx = r.ctx ∧ l.prog = r.prog ∧ l.train = some ⟨o, s.trainSlots r⟩ := by
  have marked : ((s.trainSlots r).foldl (fun t n => t.setSflag n Fl.inStep true) s).srv = s.srv :=
    foldl_keeps State.srv _ (fun t n => t.setSflag_srv n _ _) _ s
  unfold trainEffect
  dsimp only
  generalize (s.trainSlots r).foldl (fun t n => t.setSflag n Fl.inStep true) s = u at marked ⊢
  rw [State.pool, State.settle_srv, ← State.pool, State.enqueue_queue _ _ _ (by rwa [marked]), State.pool, marked]
  exact ⟨_, rfl, rfl, rfl, rfl, rfl⟩

/-- A TRAIN_LAUNCH that is not refused names one of the two pools. -/
theorem pool_of_trainRefusal (r : TrainRec) (h : s.trainRefusal r = none) : r.pool < 2 := by
  have hf := firstOf_eq_none h (r.rsv || decide (1 < r.pool), St.format) (by simp)
  simp only [Bool.or_eq_false_iff, decide_eq_false_iff_not] at hf
  omega

theorem exec_trainLaunch {o : CmdOrigin} (ht : s.takes o) (r : TrainRec) :
    (∀ st, s.trainRefusal r = some st → exec (.trainLaunch o r) s = .next (s.complete o 0x2C st)) ∧
    (s.trainRefusal r = none → exec (.trainLaunch o r) s = .next (trainEffect o r s)) :=
  exec_engine ht (·.trainRefusal r) (fun _ => trainEffect o r)
    (fun t => t.engine o 0x2C fun u => orElse o 0x2C (u.trainRefusal r) (trainEffect o r) u) rfl rfl

end Training

/-! ### A training launch ends (R253, R255) -/

section Ending
variable (s : State)

@[simp] theorem commitPage_srv (c n l l2 w : Nat) : (commitPage c n l l2 s w).srv = s.srv := by
  unfold commitPage
  dsimp only
  split
  · rfl
  · split
    · exact State.unmapPage_srv _ _ _
    · rw [State.twrite_srv, State.twrite_srv]

/-- The commit of a slot that no decode step holds leaves the serving pipeline. -/
theorem commitSlot_srv (c n l l2 : Nat) : (commitSlot c n l l2 false s).srv = s.srv :=
  (State.sput_srv _ _ _ _).trans (foldl_keeps State.srv _ (fun t w => commitPage_srv t c n l l2 w) _ s)

theorem trainSlot_srv (l : Launch) (good : Bool) (n : Nat) : (trainSlot l good s n).srv = s.srv := by
  unfold trainSlot
  dsimp only
  rw [State.setSflag_srv, State.bump_srv, apply_ite State.srv, State.sput_srv, ite_self, commitSlot_srv]

/-- The commit of a training launch brings no launch to a pool. -/
theorem trainDone_idle (l : Launch) (st : Nat) : s.IdleKept (trainDone l st s) := by
  unfold trainDone
  split
  · exact .refl s
  · rename_i t _
    have slots : s.IdleKept (t.slots.foldl (trainSlot l (decide (st < 0x10))) s) :=
      .of_srv (foldl_keeps State.srv _ (fun u n => trainSlot_srv u l _ n) _ s)
    have answered := fun idx => (slots.trans (.complete _ t.org 0x2C st 0 idx)).trans (.drainKvm _)
    exact (answered _).trans (.ite (.of_srv (mirrorChanges_srv _ _)) (.refl _))

theorem State.addInterf_srv (c n : Nat) : (s.addInterf c n).srv = s.srv := rfl

theorem chargeRun_srv (q : Pool) : (chargeRun q s).srv = s.srv := by
  unfold chargeRun
  split
  · rfl
  · exact foldl_keeps State.srv _ (fun t _ => t.addInterf_srv _ _) _ s

theorem dropStaged_srv (f : Staged → Bool) : (dropStaged f s).srv = s.srv := by
  unfold dropStaged
  dsimp only
  split
  · rfl
  · exact State.bump_srv _ _ _

/-- The end of a run is charged to contexts alone. -/
theorem endRun_srv (p : Nat) : (endRun p s).srv = s.srv := by
  unfold endRun
  dsimp only
  split
  · rfl
  · exact (dropStaged_srv _ _).trans (chargeRun_srv _ _)

/-- The running launch of a pool leaves it. -/
theorem clearPool_run (p : Nat) : ((clearPool p s).pool p).run = none := by
  simp only [clearPool, State.pool, nth, endRun_srv, List.getElem?_set_self']
  cases s.srv.pools[p]? <;> rfl

/-- No other pool changes. -/
theorem clearPool_pool_ne (p q : Nat) (h : q ≠ p) : (clearPool p s).pool q = s.pool q := by
  simp only [clearPool, State.pool, nth, List.getElem?_set_ne h.symm, endRun_srv]

theorem clearPool_idle (p : Nat) : s.IdleKept (clearPool p s) := fun q hq => by
  by_cases h : q = p
  · rw [h, clearPool_run]
  · rwa [clearPool_pool_ne s p q h]

/-- What TRAIN_LAUNCH_END does with one pool. -/
def endTraining (c : Nat) (s : State) (p : Nat) : State :=
  match (s.pool p).run with
  | some l =>
    if l.ctx = c ∧ l.facets = [] ∧ !l.bare ∧ l.train.isSome ∧ !s.flag F.GLB_STATUS_fatal ∧ !s.mirrorHeld c then
      trainOver p l l.status s
    else s
  | none => s

theorem trainLaunchEnd_eq (c : Nat) : trainLaunchEnd c s = endTraining c (endTraining c s 0) 1 := rfl

theorem endTraining_idle (c p : Nat) (h : (s.pool p).run = none) : endTraining c s p = s := by rw [endTraining, h]

/-- A training launch that no facet runs leaves its pool, and no pool gets one. -/
theorem endTraining_ends (p : Nat) (l : Launch) (hl : (s.pool p).run = some l) (hf : l.facets = []) (hb : l.bare = false)
    (ht : l.train.isSome = true) (hs : s.flag F.GLB_STATUS_fatal = false) (hm : s.mirrorHeld l.ctx = false) :
    ((endTraining l.ctx s p).pool p).run = none ∧ s.IdleKept (endTraining l.ctx s p) := by
  have ended : endTraining l.ctx s p = trainDone l l.status (clearPool p s) := by
    simp [endTraining, hl, hf, hb, ht, hs, hm, trainOver]
  rw [ended]
  exact ⟨trainDone_idle _ l _ p (clearPool_run s p), (clearPool_idle s p).trans (trainDone_idle _ l _)⟩

end Ending

/-! ### The statement -/

/-- Settles O45: the three generation commands, each with its refusals and its effect, and a training launch from its
command to its end in either pool. -/
theorem generationsAndTrainingLaunches : Obligations.GenerationsAndTrainingLaunches := by
  unfold Obligations.GenerationsAndTrainingLaunches
  intro s hp hpools
  refine ⟨fun o r ht => ?_, fun o r ht => ?_, fun c p l hlt hf hl hc hfs hb htr hm hoth => ?_, fun c h0 h1 => ?_⟩
  · obtain ⟨stageRefused, stageRuns⟩ := exec_stageGen s r ht
    obtain ⟨activateRefused, activateRuns⟩ := exec_activateGen s r ht
    obtain ⟨retireRefused, retireRuns⟩ := exec_retireGen s r ht
    refine ⟨stageRefused, fun hs => ⟨_, stageRuns hs, ?_⟩,
      fun hr hc hs h1 hg => ⟨_, activateRuns (activateRefusal_none hr hc hs h1 hg), ?_⟩,
      fun hr hc h1 => activateRefused _ (activateRefusal_unstaged hr hc h1),
      fun g hr hc hs hg hn hpin hl => ⟨_, retireRuns (retireGenRefusal_none hr hc hs hg hn hpin hl), ?_⟩,
      fun hr hc hn => retireRefused _ (retireGenRefusal_current hr hc hn)⟩
    · obtain ⟨hgen, hother, hrole, hmem⟩ := stageEffect_spec s r
      rw [State.complete_gen, State.complete_otherRole, State.complete_t1, hmem,
        State.complete_genFld _ _ _ _ _ F.SEQ_CTX_GEN_other (.inl rfl)]
      exact ⟨hgen, hother, hrole, rfl⟩
    · have hsmall : r.generation % 2 ^ 16 = r.generation := hg ▸ s.fld_mod F.SEQ_CTX_GEN_other (0x40 * r.ctx)
      rw [State.complete_curGen, State.complete_srv, State.complete_t1, State.complete_otherRole,
        State.complete_genFld _ _ _ _ _ F.SEQ_CTX_GEN_other (.inl rfl), activateEffect_curGen, hsmall]
      exact ⟨rfl, rfl, rfl, activateEffect_old s r⟩
    · obtain ⟨hgen, hrole, hmem⟩ := retireGenEffect_spec s r.ctx g
      rw [hg, Option.getD_some, State.complete_gen, State.complete_otherRole, State.complete_t1, hmem]
      exact ⟨hgen, hrole, rfl⟩
  · obtain ⟨refused, runs⟩ := exec_trainLaunch s ht r
    refine ⟨refused, fun hs => ?_⟩
    obtain ⟨l, hl⟩ := trainEffect_queue s o r (hpools ▸ pool_of_trainRefusal s r hs)
    exact ⟨_, l, runs hs, hl⟩
  · refine ⟨_, (exec_running (trainLaunchEnd c) rfl hp).trans (congrArg _ (trainLaunchEnd_eq s c)), ?_⟩
    subst hc
    obtain ⟨hrun, hidle⟩ := endTraining_ends s p l hl hfs hb htr hf hm
    obtain rfl | rfl : p = 0 ∨ p = 1 := by omega
    · rw [endTraining_idle _ _ 1 (hidle 1 hoth)]
      exact hrun
    · rw [endTraining_idle s _ 0 hoth]
      exact hrun
  · rw [exec_running (trainLaunchEnd c) rfl hp, trainLaunchEnd_eq, endTraining_idle s c 0 h0, endTraining_idle s c 1 h1]

end Sys2Proof.Machine
end

section
/-!
SUPPORT. The commands of block RES (R287): answered at once or in their turn; counters that an answer leaves; semaphores.
-/
namespace Sys2Proof.Machine

/-! ### Counters that an answer leaves (R486) -/

/-- The counters that the completion of a command may change beside those of events. -/
def answerCounters : List Nat := [C.HQ_COMPLETIONS, C.HQ_LOST_CPL, C.HST_DROPPED_WR]

section Answers
variable (s : State) (c : Nat) (hc : c ∉ evtCounters ++ answerCounters)
include hc

theorem State.bump_counter_answer (x n : Nat) (hx : x ∈ answerCounters) : (s.bump x n).counter c = s.counter c :=
  s.bump_counter_ne c (fun h => hc (List.mem_append_left _ h)) x n fun h => hc (List.mem_append_right _ (h ▸ hx))

theorem State.hwrite_counter (a : Nat) (bs : List Byte) : (s.hwrite a bs).counter c = s.counter c := by
  unfold State.hwrite
  split
  · rfl
  · exact s.bump_counter_answer c hc _ _ (by decide)

theorem State.writeCq_counter (n sq tag op : Nat) (pr : Bool) (l : List Byte) :
    (s.writeCq n sq tag op pr l).counter c = s.counter c := by
  have counted : ∃ a bs, (s.writeCq n sq tag op pr l).cnts = ((s.hwrite a bs).bump C.HQ_COMPLETIONS).cnts := by
    unfold State.writeCq
    simp only [apply_ite State.cnts, State.signalCq_cnts, State.setCq_cnts, State.setFld_cnts, ite_self]
    exact ⟨_, _, rfl⟩
  obtain ⟨a, bs, e⟩ := counted
  rw [State.counter, e, ← State.counter, State.bump_counter_answer _ c hc _ _ (by decide), s.hwrite_counter c hc]

/-- An answer to a command leaves every counter but its own and those of events. -/
theorem State.complete_counter (o : CmdOrigin) (op st hint res : Nat) :
    (s.complete o op st hint res).counter c = s.counter c := by
  unfold State.complete State.completeWith
  cases o with
  | boot => rfl
  | queue sq tag =>
    dsimp only
    split
    · split
      · exact State.writeCq_counter _ c hc _ _ _ _ _ _
      · exact State.bump_counter_answer _ c hc _ _ (by decide)
    · exact s.bump_counter_answer c hc _ _ (by decide)

end Answers

/-! ### A command of block RES reaches the MC (R287) -/

section Commands
variable {s : State} {o : CmdOrigin} (ht : s.takes o)
include ht

/-- The MC that nothing occupies handles a command as it arrives. -/
theorem resCmd_handled (x : ResCmd) (hb : s.resBusy = false) (hq : s.res.queue = []) : resCmd o x s = resHandle o x s := by
  rw [resCmd, s.engine_runs o _ _ ht.2.1 ht.2.2, hb, hq]
  rfl

/-- A command waits behind a DEMOTE or PREEMPT and behind those that wait. -/
theorem resCmd_waits (x : ResCmd) (hx : ∀ c v, x ≠ .preempt c v) (hb : s.resBusy = true ∨ s.res.queue ≠ []) :
    resCmd o x s = { s with res := { s.res with queue := s.res.queue ++ [(o, x)] } } := by
  have hbusy : (s.resBusy || decide (s.res.queue ≠ [])) = true := by simpa using hb
  rw [resCmd, s.engine_runs o _ _ ht.2.1 ht.2.2, if_pos hbusy]
  cases x with
  | preempt c v => exact absurd rfl (hx c v)
  | _ => rfl

theorem exec_resHandled {i : Instr} {x : ResCmd} (hi : exec i s = .next (s.on (resCmd o x))) (hb : s.resBusy = false)
    (hq : s.res.queue = []) : exec i s = .next (resHandle o x s) := by
  rw [exec_running _ hi ht.1, resCmd_handled ht x hb hq]

end Commands

/-! ### Semaphores in their table -/

section Table
variable (s : State) (n m : Nat) (x : Sem)

@[simp] theorem State.sem_setSem_same : (s.setSem n x).sem n = x := by
  simp only [State.sem, State.setSem]
  split
  · rename_i h
    simp [kgetD, h]
  · exact kgetD_kset_same _ _ _ _

theorem State.sem_setSem_ne (h : m ≠ n) : (s.setSem n x).sem m = s.sem m := by
  simp only [State.sem, State.setSem]
  split
  · simp only [kgetD, kget_kdel_ne _ _ _ h]
  · exact kgetD_kset_ne _ _ _ _ _ h

theorem State.sem_congr {s t : State} (h : t.res = s.res) : t.sem n = s.sem n := by rw [State.sem, State.sem, h]

@[simp] theorem State.complete_sem (o : CmdOrigin) (op st hint res : Nat) : (s.complete o op st hint res).sem n = s.sem n :=
  State.sem_congr n (State.complete_res _ _ _ _ _ _)

@[simp] theorem State.settle_sem (o : CmdOrigin) (op : Nat) : (s.settle o op).sem n = s.sem n :=
  State.sem_congr n (State.settle_res _ _ _)

@[simp] theorem State.bump_sem (c k : Nat) : (s.bump c k).sem n = s.sem n := State.sem_congr n (State.bump_res _ _ _)

end Table

end Sys2Proof.Machine
end

section
/-!
SUPPORT. The proof of semaphores, interference windows, scrubs and fills (O48).
-/
namespace Sys2Proof.Machine

/-! ### ACQUIRE and RELEASE (R296) -/

/-- A well-formed command for a semaphore is not refused to a resident context. -/
theorem State.semRefusal_none {s : State} {c n : Nat} (hc : c < 16) (hn : n < 4096) (hr : s.resident c = true) :
    s.semRefusal c n false = none := by
  simp [State.semRefusal, firstOf, hr, hc, hn]

section Semaphores
variable {s : State} {c n : Nat} (o : CmdOrigin) (hr : s.semRefusal c n false = none) (hb : (s.sem n).broken ≠ some c)
include hr hb

theorem acquire_free (hh : (s.sem n).holder = none) (w : Bool) :
    acquire o c n w false s = (s.setSem n { s.sem n with holder := some c }).complete o 0x38 St.done := by
  simp only [acquire, orElse, hr, hb, hh, if_false]

theorem acquire_own (hh : (s.sem n).holder = some c) (w : Bool) : acquire o c n w false s = s.complete o 0x38 St.state := by
  simp only [acquire, orElse, hr, hb, hh, if_false, true_or, if_true]

section Held
variable {h : Nat} (hh : (s.sem n).holder = some h) (hne : h ≠ c) (hw : (s.sem n).wait.any (fun w => w.1 = c) = false)
include hh hne hw

/-- A held semaphore: its FIFO takes the context where it may wait and there is a place, else the command is refused. -/
theorem acquire_held (w : Bool) : acquire o c n w false s =
    if !w || decide (16 ≤ (s.sem n).wait.length) then s.complete o 0x38 St.busy
    else (s.setSem n { s.sem n with wait := (s.sem n).wait ++ [(c, o, s.us)] }).settle o 0x38 := by
  simp only [acquire, orElse, hr, hb, hh, hne, hw, if_false, Bool.false_eq_true, or_self]

end Held

theorem release_held (hh : (s.sem n).holder = some c) :
    release o c n false s = (grantSem n s).complete o 0x39 St.done := by
  simp only [release, orElse, hr, hb, hh, if_false, if_true]

theorem release_unheld (hh : (s.sem n).holder ≠ some c) : release o c n false s = s.complete o 0x39 St.state := by
  simp only [release, orElse, hr, hb, hh, if_false]

end Semaphores

/-! ### A semaphore goes to its oldest waiter (R296, R297) -/

section Grants
variable {s : State} {n : Nat}

theorem grantSem_idle (hw : (s.sem n).wait = []) : grantSem n s = s.setSem n { s.sem n with holder := none } := by
  simp only [grantSem, hw]

theorem grantSem_next {w : Nat × CmdOrigin × Nat} {rest : List (Nat × CmdOrigin × Nat)} (hw : (s.sem n).wait = w :: rest) :
    grantSem n s = (s.setSem n { s.sem n with holder := some w.1, wait := rest }).complete w.2.1 0x38 St.done := by
  simp only [grantSem, hw]

theorem grantSem_sem_ne (m : Nat) (h : m ≠ n) : (grantSem n s).sem m = s.sem m := by
  unfold grantSem
  dsimp only
  split
  · exact s.sem_setSem_ne n m _ h
  · exact (State.complete_sem _ m _ _ _ _ _).trans (s.sem_setSem_ne n m _ h)

theorem grantSem_counter (c : Nat) (hc : c ∉ evtCounters ++ answerCounters) : (grantSem n s).counter c = s.counter c := by
  unfold grantSem
  dsimp only
  split
  · rfl
  · exact State.complete_counter _ c hc _ _ _ _ _

/-- The horizon of a pre-empted holder takes the semaphore from it where another context waits. -/
theorem semHorizon_revokes {h : Nat} (hh : (s.sem n).holder = some h) (hw : (s.sem n).wait ≠ [])
    (hp : (s.resCtx h).preemptAt.isSome = true) :
    semHorizon n s = (grantSem n (s.setSem n { s.sem n with broken := some h })).bump C.RES_REVOKED := by
  obtain ⟨w, rest, hw⟩ := List.exists_cons_of_ne_nil hw
  simp only [semHorizon, hh, hw, hp, if_true]

theorem semHorizon_unwaited (hw : (s.sem n).wait = []) : semHorizon n s = s := by
  cases hh : (s.sem n).holder <;> simp only [semHorizon, hh, hw]

end Grants

/-! ### The interference window (R298) -/

/-- Time in a window changes the sums of the window alone. -/
theorem chargeRun_eq (p : Pool) (s : State) : ∃ interf, chargeRun p s = { s with res := { s.res with interf := interf } } := by
  unfold chargeRun
  split
  · exact ⟨_, rfl⟩
  · refine List.foldlRecOn (motive := fun t : State => ∃ interf, t = { s with res := { s.res with interf := interf } }) _ _
      ⟨_, rfl⟩ fun t ht q _ => ?_
    obtain ⟨_, rfl⟩ := ht
    exact ⟨_, rfl⟩

section Window
variable {α : Type} (g : State → α)

section Sums
variable (hw : ∀ (s : State) wall interf, g { s with res := { s.res with wall := wall, interf := interf } } = g s)
include hw

theorem chargeRun_keeps (p : Pool) (s : State) : g (chargeRun p s) = g s := by
  obtain ⟨_, e⟩ := chargeRun_eq p s
  rw [e]
  exact hw s s.res.wall _

theorem addWalls_keep (l : List Launch) (s : State) :
    g (l.foldl (fun s l => s.addWall l.ctx (s.sinceIn l.at_)) s) = g s :=
  foldl_keeps g _ (fun t _ => hw t _ t.res.interf) l s

end Sums

variable (hr : ∀ (s : State) (r : FieldRef) v di, g (s.setFld r v di) = g s) (hf : ∀ s : State, g s.fresh.2 = g s)
  (hb : ∀ (s : State) c n, g (s.bump c n) = g s) (he : ∀ (s : State) code u x d0 d1 st, g (s.raise code u x d0 d1 st) = g s)
include hr hf hb he

theorem windowCtx_keeps (s : State) (c : Nat) : g (windowCtx s c) = g s := by
  simp only [windowCtx, apply_ite g, he, hb, hr, hf, ite_self]

/-- The end of a window keeps what neither its sums nor its registers, counters and events show. -/
theorem windowEnd_keeps (hw : ∀ (s : State) wall interf, g { s with res := { s.res with wall := wall, interf := interf } } = g s)
    (s : State) : g ((List.range 16).foldl windowCtx (s.srv.pools.foldl (fun s p =>
      chargeRun p ((p.queue ++ p.run.toList).foldl (fun s l => s.addWall l.ctx (s.sinceIn l.at_)) s)) s)) = g s :=
  (foldl_keeps g _ (fun t c => windowCtx_keeps g hr hf hb he t c) _ _).trans
    (foldl_keeps g _ (fun t p => (chargeRun_keeps g hw p _).trans (addWalls_keep g hw _ t)) _ s)

end Window

/-- The end of a window clears its sums and starts the next; the memories and the semaphores stay. -/
theorem interferenceWindow_spec (s : State) : (interferenceWindow s).res.wall = [] ∧ (interferenceWindow s).res.interf = [] ∧
    (interferenceWindow s).res.since = s.us ∧ (interferenceWindow s).mem = s.mem ∧
    (interferenceWindow s).res.sems = s.res.sems :=
  ⟨rfl, rfl,
    windowEnd_keeps State.us (fun _ _ _ _ => rfl) (fun _ => rfl) State.bump_us State.raise_us (fun _ _ _ => rfl) s,
    windowEnd_keeps State.mem (fun _ _ _ _ => rfl) (fun _ => rfl) State.bump_mem State.raise_mem (fun _ _ _ => rfl) s,
    windowEnd_keeps (·.res.sems) (fun _ _ _ _ => rfl) (fun _ => rfl) (fun s c n => congrArg Res.sems (s.bump_res c n))
      (fun s c u x d0 d1 st => congrArg Res.sems (s.raise_res c u x d0 d1 st)) (fun _ _ _ => rfl) s⟩

/-! ### Tier 2 is trained (R275) -/

/-- The modules that a population code names fit their field. -/
theorem modulesOf_lt (code : Nat) : modulesOf code % 2 ^ 16 = modulesOf code := by
  unfold modulesOf
  (repeat' split) <;> rfl

/-- The modules found are those of the code: tier 2 is enabled where its channels trained. -/
theorem tier2TrainingDone_spec (s : State) (ok : Bool) (hd : s.boot.t2Done = false) (hi : s.boot.image.isSome = true)
    (hc : s.boot.t2Code ≠ 0) :
    (tier2TrainingDone (modulesOf s.boot.t2Code) ok s).flag F.TIER_T2_STATUS_enabled = ok ∧
      (tier2TrainingDone (modulesOf s.boot.t2Code) ok s).boot.t2Done = true ∧
      (tier2TrainingDone (modulesOf s.boot.t2Code) ok s).fld F.TIER_T2_STATUS_modules = modulesOf s.boot.t2Code := by
  have hn : s.boot.image.isNone = false := by rw [← Option.not_isSome, hi]; rfl
  generalize hm : modulesOf s.boot.t2Code = m
  have hm16 : m % 65536 = m := hm ▸ modulesOf_lt s.boot.t2Code
  obtain ⟨u, hu⟩ : ∃ u, u = ({ s with boot := { s.boot with t2Done := true } } : State).setFld F.TIER_T2_STATUS_modules m := ⟨_, rfl⟩
  have modules : ∀ v, (u.setFld F.TIER_T2_STATUS_enabled v).fld F.TIER_T2_STATUS_modules = m := fun v => by
    rw [u.fld_setFld_below F.TIER_T2_STATUS_enabled F.TIER_T2_STATUS_modules v 0 rfl (by decide) (by decide) (by decide) (by decide),
      hu, State.fld_setFld_same _ F.TIER_T2_STATUS_modules m 0 (by decide) (by decide)]
    exact hm16
  have enabled : ∀ v, (u.setFld F.TIER_T2_STATUS_enabled v).fld F.TIER_T2_STATUS_enabled = v % 2 := fun v =>
    u.fld_setFld_same F.TIER_T2_STATUS_enabled v 0 (by decide) (by decide)
  have done : u.boot.t2Done = true := by rw [hu]; rfl
  have trained : tier2TrainingDone m ok s = if ok then u.setFld F.TIER_T2_STATUS_enabled 1
      else (u.setFld F.TIER_T2_STATUS_enabled 0).raise E.tier2Disabled (d0 := m) := by
    simp only [tier2TrainingDone, hd, hn, hm, hm16, hc, hu, State.setFld_boot, Bool.or_self, Bool.false_eq_true, if_false,
      decide_true, Bool.true_and, Nat.reducePow]
  rw [trained]
  cases ok with
  | true => exact ⟨by simp [State.flag, enabled], done, modules 1⟩
  | false =>
    have hregs := State.raise_regs_mild (u.setFld F.TIER_T2_STATUS_enabled 0) E.tier2Disabled 0xFFFF 0xFF m 0 0 (by decide)
    refine ⟨(State.flag_congr _ _ hregs _ _).trans ?_, ?_, (State.fld_congr _ _ hregs _ _).trans (modules 0)⟩
    · exact by simp [State.flag, enabled]
    · simpa using done

theorem tier2TrainingDone_again (s : State) (m : Nat) (ok : Bool) (hd : s.boot.t2Done = true) : tier2TrainingDone m ok s = s := by
  simp [tier2TrainingDone, hd]

/-! ### Scrub reads (R278, R279) -/

/-- A counter that is added to and counts no events. -/
theorem State.bump_counter_same (s : State) (c n : Nat) (hc : c ∉ evtCounters) :
    (s.bump c n).counter c = min (2 ^ 48 - 1) (s.counter c + n) :=
  s.bump_counter c n (fun h => hc (by rw [h]; decide)) fun h => hc (by rw [h]; decide)

/-- A line is one access. -/
theorem lineCount_line (line : Nat) : lineCount (64 * line) 64 = 1 := by
  unfold lineCount
  rw [if_neg (by decide)]
  omega

section Scrubs
variable (s : State) (line : Nat)

theorem tread_line_counter : (s.tread 1 (64 * line) 64).counter C.TIER_T1_READ = min (2 ^ 48 - 1) (s.counter C.TIER_T1_READ + 1) := by
  rw [State.tread, if_pos rfl, lineCount_line, State.bump_counter_same _ _ _ (by decide)]
  rfl

theorem tread_line_counter_ne (c : Nat) (hc : c ∉ evtCounters) (h : c ≠ C.TIER_T1_READ) :
    (s.tread 1 (64 * line) 64).counter c = s.counter c := by
  rw [State.tread, if_pos rfl, State.bump_counter_ne _ c hc _ _ h]
  rfl

theorem tierScrubRead_reads (k : Nat) (hp : s.scrubPaused = false) (he : s.flag F.TIER_SCRUB_enable = true)
    (hs : s.inSpace 1 (64 * line) 64 = true) (hh : s.readHeld 1 (64 * line) 64 = false) :
    tierScrubRead 1 line k s = symbolError 1 (64 * line) k (s.tread 1 (64 * line) 64) := by
  simp [tierScrubRead, hp, he, hs, hh]

theorem tierScrubRead_paused (tier k : Nat) (hp : s.scrubPaused = true) : tierScrubRead tier line k s = s := by
  simp [tierScrubRead, hp]

/-- One symbol in error is corrected and counted. -/
theorem symbolError_one (off : Nat) : (symbolError 1 off 1 s).mem = s.mem ∧
    (symbolError 1 off 1 s).counter C.TIER_T1_CE = min (2 ^ 48 - 1) (s.counter C.TIER_T1_CE + 1) := by
  simp only [symbolError, if_neg (show ¬(1 : Nat) = 0 by decide), if_true]
  exact ⟨by simp, by rw [State.raise_counter _ _ (by decide) _ _ _ _ _ _ (by decide), State.bump_counter_same _ _ _ (by decide)]⟩

/-- More symbols in error poison the line, counted. -/
theorem symbolError_more (off k : Nat) (hk : 2 ≤ k) : (symbolError 1 off k s).mem = s.mem.markPoison 1 off 64 ∧
    (symbolError 1 off k s).counter C.TIER_T1_UE = min (2 ^ 48 - 1) (s.counter C.TIER_T1_UE + 1) := by
  simp only [symbolError, if_neg (show ¬k = 0 by omega), if_neg (show ¬k = 1 by omega), if_true]
  refine ⟨by simp, ?_⟩
  rw [State.raise_counter _ _ (by decide) _ _ _ _ _ _ (by decide), State.bump_counter_same _ _ _ (by decide)]
  rfl

end Scrubs

/-! ### Fills (R284) -/

/-- The counters of a read through translation. -/
def readCounters : List Nat := [C.MMU_WALKS, C.MMU_FAULTS, C.TIER_T1_READ, C.TIER_T2_READ]

section Reads
variable (s : State) (c : Nat) (hc : c ∉ evtCounters) (hr : c ∉ readCounters)
include hc hr

theorem State.bump_counter_read (x n : Nat) (hx : x ∈ readCounters) : (s.bump x n).counter c = s.counter c :=
  s.bump_counter_ne c hc x n fun h => hr (h ▸ hx)

theorem State.tread_counter (sp off n : Nat) : (s.tread sp off n).counter c = s.counter c := by
  unfold State.tread
  (repeat' split)
  · exact State.bump_counter_read _ c hc hr _ _ (by decide)
  · exact s.bump_counter_read c hc hr _ _ (by decide)
  · rfl

theorem State.mmuFault_counter (va level reason facet ctx : Nat) :
    (s.mmuFault va level reason facet ctx).counter c = s.counter c := by
  unfold State.mmuFault
  dsimp only
  rw [State.raise_counter _ c hc _ _ _ _ _ _ (by decide)]
  split <;> exact s.bump_counter_read c hc hr _ _ (by decide)

/-- A read through translation leaves the counters of other units. -/
theorem State.vcount_counter (va n facet : Nat) : (s.vcount va n facet).counter c = s.counter c := by
  unfold State.vcount
  refine (foldl_keeps (·.counter c) _ (fun t p => ?_) _ _).trans ?_
  · have walked : (t.bump C.MMU_WALKS).counter c = t.counter c := t.bump_counter_read c hc hr _ _ (by decide)
    dsimp only
    split
    · exact walked
    · split
      · exact (State.tread_counter _ c hc hr _ _ _).trans walked
      · exact walked
  · split
    · rfl
    · exact s.mmuFault_counter c hc hr _ _ _ _ _

end Reads

section Fills
variable {s : State} {f : Nat} {r : Ring} {i : Issued} (hring : (s.fac f).ring = some r) (hcur : (s.sqr f).cur = some i)

/-- Without a ring nothing is filled. -/
theorem fill_idle (h : (s.fac f).ring = none) : fillStart f s = s ∧ fillDone f s = s :=
  ⟨by simp only [fillStart, h], by simp only [fillDone, h]⟩

include hring hcur

/-- The fill of the next unit begins in the next slot of the ring. -/
theorem fillStart_begins {t u : Nat}
    (hn : (s.ringNow f r i).nextUnit (((s.sqr f).run.map fun y => y.1.tile).toList ++ ((s.sqr f).ahead.map (·.tile)).toList) = some (t, u))
    (hfree : (s.ringNow f r i).slotFree = true) :
    fillStart f s = (s.modFac f fun x => { x with ring := some (s.ringNow f r i) }).modFac f fun x =>
      { x with ring := some { s.ringNow f r i with
        units := (s.ringNow f r i).units ++ [(t, u, r.first + r.next, 0)], next := (r.next + 1) % r.slots } } := by
  simp only [State.sqr] at hcur hn
  simp only [fillStart, hring, hcur, hn, hfree, if_true]
  rfl

/-- A unit lands in its slot from where its bytes are read. -/
theorem fillDone_lands {t u slot k : Nat} (hop : i.i.op ≠ 2) (hu : (r.units.find? fun u => u.2.2.2 = 0) = some (t, u, slot, k))
    {p : Nat × Nat} (hp : nth (s.tileUnits i t) u (0, 0) = p) (hh : s.vheld p = false) (hg : (s.vread p.1 p.2).good = true) :
    fillDone f s = ((copyUnit p.1 p.2 (muOff f r.mu (slot * 65536)) s).modFac f fun x =>
      { x with ring := some (r.filled t u) }).bump C.TIER_UNITS := by
  simp only [State.sqr] at hcur
  simp [fillDone, hring, hcur, hu, hop, hp, hh, hg]

end Fills

/-- A unit that no poison meets lands as it was read, counted by its walk alone. -/
theorem copyUnit_good (s : State) (va n dst : Nat) (hb : (s.vread va n).bad = false) :
    (copyUnit va n dst s).mem = s.mem.write 0 dst (s.vread va n).bytes ∧
      (copyUnit va n dst s).counter C.TIER_UNITS = s.counter C.TIER_UNITS := by
  simp only [copyUnit, hb, Bool.false_eq_true, if_false]
  exact ⟨by simp, s.vcount_counter C.TIER_UNITS (by decide) (by decide) va n 127⟩

/-! ### The statement -/

/-- Settles O48: semaphores by the state they are found in, the end of a window, tier 2's training, scrub reads by the
symbols they find, and fills of a ring by its next unit. -/
theorem semaphoresScrubsAndFills : Obligations.SemaphoresScrubsAndFills := by
  unfold Obligations.SemaphoresScrubsAndFills
  intro s hp
  refine ⟨fun o c n ht hbusy hqueue hc hn hres hbr => ?_, fun n h w rest hh hw hpre => ?_, fun n hw => ?_, ?_,
    fun ok hd hi hcode => ?_, fun m ok hd => ?_, fun line hpause hen hsp hheld => ?_, fun tier line k hpause => ?_,
    fun f r i t u hlive hf hlen hring hcur hnext hfree => ?_, fun f hlive hf hring => ?_,
    fun f r i t u slot k hlive hf hlen hring hcur hop hunit => ?_⟩
  · have hr := State.semRefusal_none hc hn hres
    have runs := fun w => exec_resHandled ht (i := .acquire o c n w false) (x := .acquire c n w false) rfl hbusy hqueue
    have frees := exec_resHandled ht (i := .release o c n false) (x := .release c n false) rfl hbusy hqueue
    refine ⟨fun hh w => (runs w).trans (congrArg _ (acquire_free o hr hbr hh w)),
      fun h hh hne hwait => ⟨fun hl => ⟨_, (runs true).trans (congrArg _ (acquire_held o hr hbr hh hne hwait true)), ?_⟩,
        fun hl => (runs true).trans (congrArg _ ((acquire_held o hr hbr hh hne hwait true).trans (by simp [hl, St.busy]))),
        (runs false).trans (congrArg _ (acquire_held o hr hbr hh hne hwait false))⟩,
      fun hh => ⟨(runs true).trans (congrArg _ (acquire_own o hr hbr hh true)), fun hw => ?_, fun w rest hw => ?_⟩,
      fun hh => frees.trans (congrArg _ (release_unheld o hr hbr hh))⟩
    · simp [Nat.not_le.2 hl, hh]
    · refine ⟨_, frees.trans (congrArg _ (release_held o hr hbr hh)), ?_, fun m hm => ?_⟩
      · simp [grantSem_idle hw]
      · rw [State.complete_sem, grantSem_sem_ne m hm]
    · refine ⟨_, frees.trans (congrArg _ (release_held o hr hbr hh)), ?_, ?_, fun m hm => ?_⟩
      · simp [grantSem_next hw]
      · simp [grantSem_next hw]
      · rw [State.complete_sem, grantSem_sem_ne m hm]
  · refine ⟨_, (exec_running (semHorizon n) rfl hp).trans (congrArg _ (semHorizon_revokes hh (by simp [hw]) hpre)), ?_⟩
    have hw' : ((s.setSem n { s.sem n with broken := some h }).sem n).wait = w :: rest := by simp [hw]
    have hcount : (grantSem n (s.setSem n { s.sem n with broken := some h })).counter C.RES_REVOKED = s.counter C.RES_REVOKED :=
      grantSem_counter _ (by decide)
    rw [State.bump_counter_same _ _ _ (by decide), hcount, State.bump_sem, grantSem_next hw']
    simp
  · exact (exec_running (semHorizon n) rfl hp).trans (congrArg _ (semHorizon_unwaited hw))
  · exact ⟨_, exec_running interferenceWindow rfl hp, interferenceWindow_spec s⟩
  · exact ⟨_, exec_running (tier2TrainingDone _ ok) rfl hp, tier2TrainingDone_spec s ok hd hi hcode⟩
  · exact (exec_running (tier2TrainingDone m ok) rfl hp).trans (congrArg _ (tier2TrainingDone_again s m ok hd))
  · have scrub := fun k => (exec_running (i := .tierScrubRead 1 line k) (tierScrubRead 1 line k) rfl hp).trans
      (congrArg _ (tierScrubRead_reads s line k hpause hen hsp hheld))
    have read := tread_line_counter_ne s line
    refine ⟨⟨_, scrub 0, by simp [symbolError], tread_line_counter s line⟩, ⟨_, scrub 1, ?_⟩, fun k hk => ⟨_, scrub k, ?_⟩⟩
    · obtain ⟨hmem, hcount⟩ := symbolError_one (s.tread 1 (64 * line) 64) (64 * line)
      exact ⟨by rw [hmem, State.tread_mem], by rw [hcount, read _ (by decide) (by decide)]⟩
    · obtain ⟨hmem, hcount⟩ := symbolError_more (s.tread 1 (64 * line) 64) (64 * line) k hk
      exact ⟨by rw [hmem, State.tread_mem], by rw [hcount, read _ (by decide) (by decide)]⟩
  · exact (exec_running (tierScrubRead tier line k) rfl hp).trans (congrArg _ (tierScrubRead_paused s line tier k hpause))
  · have hl : f < (s.modFac f fun x => { x with ring := some (s.ringNow f r i) }).facets.length := by
      rw [State.modFac_facets_length]
      omega
    have fills : exec (.condenserFillStart f) s = .next (fillStart f s) :=
      (congrArg Host.Outcome.next (s.alive_runs _ hlive.1 hlive.2)).trans (by rw [if_pos hf])
    refine ⟨_, fills.trans (congrArg _ (fillStart_begins hring hcur hnext hfree)), rfl, ?_, ?_, fun h hh => ?_⟩
    · rw [State.fac_modFac_same _ _ _ hl]
      rfl
    · rw [State.fac_modFac_same _ _ _ hl]
      rfl
    · rw [State.fac_modFac_ne _ _ _ _ hh, State.fac_modFac_ne _ _ _ _ hh]
  · obtain ⟨hstart, hdone⟩ := fill_idle hring
    refine ⟨(congrArg Host.Outcome.next (s.alive_runs _ hlive.1 hlive.2)).trans ?_,
      (congrArg Host.Outcome.next (s.alive_runs _ hlive.1 hlive.2)).trans ?_⟩
    · rw [if_pos hf, hstart]
    · rw [if_pos hf, hdone]
  · intro p hheld hgood hbad
    have lands : exec (.unitFillDone f) s = .next (fillDone f s) :=
      (congrArg Host.Outcome.next (s.alive_runs _ hlive.1 hlive.2)).trans (by rw [if_pos hf])
    rw [fillDone_lands hring hcur hop hunit (p := p) rfl hheld hgood] at lands
    clear_value p
    obtain ⟨hmem, hcount⟩ := copyUnit_good s p.1 p.2 (muOff f r.mu (slot * 65536)) hbad
    have hfac := copyUnit_keeps State.facets (fun _ _ _ _ _ _ _ _ _ => rfl) p.1 p.2 (muOff f r.mu (slot * 65536)) s
    have hl : f < (copyUnit p.1 p.2 (muOff f r.mu (slot * 65536)) s).facets.length := by rw [hfac]; omega
    refine ⟨_, lands, ?_, ?_, ?_, fun h hh => ?_⟩
    · rw [State.bump_mem]
      exact hmem
    · rw [State.bump_fac, State.fac_modFac_same _ _ _ hl]
    · rw [State.bump_counter_same _ _ _ (by decide)]
      exact congrArg (fun x => min (2 ^ 48 - 1) (x + 1)) hcount
    · rw [State.bump_fac, State.fac_modFac_ne _ _ _ _ hh]
      exact State.fac_congr _ _ hfac h

end Sys2Proof.Machine
end

section
/-!
SUPPORT. The ports of the fabric: one port changed and everything else left, credits and tags of its frames (R331 to R333),
and what a change of its state leaves.
-/
namespace Sys2Proof.Machine

/-! ### One port changed -/

section Ports
variable (s : State) (p q : Nat) (g : FabPort → FabPort)

theorem State.fport_congr {s t : State} (h : t.fab.ports = s.fab.ports) : t.fport q = s.fport q := by
  rw [State.fport, h, State.fport]

@[simp] theorem State.bump_fport (c n : Nat) : (s.bump c n).fport q = s.fport q :=
  State.fport_congr q (congrArg Fab.ports (s.bump_fab c n))

@[simp] theorem State.raise_fport (code u x d0 d1 st : Nat) : (s.raise code u x d0 d1 st).fport q = s.fport q :=
  State.fport_congr q (congrArg Fab.ports (s.raise_fab code u x d0 d1 st))

theorem State.setFld_fport (r : FieldRef) (v di : Nat) : (s.setFld r v di).fport q = s.fport q := rfl

@[simp] theorem State.modPort_ports_length : (s.modPort p g).fab.ports.length = s.fab.ports.length := List.length_set

theorem State.modPort_counter (c : Nat) : (s.modPort p g).counter c = s.counter c := rfl

theorem State.fport_modPort_same (hp : p < s.fab.ports.length) : (s.modPort p g).fport p = g (s.fport p) := by
  simp [State.fport, State.modPort, nth, hp]

theorem State.fport_modPort_ne (hq : q ≠ p) : (s.modPort p g).fport q = s.fport q := by
  simp [State.fport, State.modPort, nth, List.getElem?_set_ne hq.symm]

/-- What a change of a port keeps, every port keeps. -/
theorem State.modPort_keeps {α : Type} (r : FabPort → α) (h : r (g (s.fport p)) = r (s.fport p)) :
    r ((s.modPort p g).fport q) = r (s.fport q) := by
  by_cases hq : q = p
  · subst hq
    by_cases hp : q < s.fab.ports.length
    · rw [s.fport_modPort_same q g hp, h]
    · rw [State.fport, State.modPort, List.set_eq_of_length_le (Nat.le_of_not_lt hp), State.fport]
  · rw [s.fport_modPort_ne p q g hq]

end Ports

/-- `t` is `s` with port `p` changed to `f`: the other ports, the memories and the registers are those of `s`. -/
structure State.AtPort (s : State) (p : Nat) (t : State) (f : FabPort) : Prop where
  room : p < t.fab.ports.length
  port : t.fport p = f
  others : ∀ q, q ≠ p → t.fport q = s.fport q
  mem : t.mem = s.mem
  regs : t.regs = s.regs

namespace State.AtPort
variable {s t : State} {p : Nat} {f : FabPort}

theorem refl (hp : p < s.fab.ports.length) : s.AtPort p s (s.fport p) := ⟨hp, rfl, fun _ _ => rfl, rfl, rfl⟩

theorem modPort (h : s.AtPort p t f) (g : FabPort → FabPort) : s.AtPort p (t.modPort p g) (g f) :=
  ⟨by rw [State.modPort_ports_length]; exact h.room, by rw [t.fport_modPort_same p g h.room, h.port],
    fun q hq => (t.fport_modPort_ne p q g hq).trans (h.others q hq), h.mem, h.regs⟩

theorem bump (h : s.AtPort p t f) (c n : Nat) : s.AtPort p (t.bump c n) f :=
  ⟨by rw [State.bump_fab]; exact h.room, (t.bump_fport p c n).trans h.port,
    fun q hq => (t.bump_fport q c n).trans (h.others q hq), (t.bump_mem c n).trans h.mem, (t.bump_regs c n).trans h.regs⟩

theorem emit (h : s.AtPort p t f) (x : Output) : s.AtPort p (t.emit x) f := ⟨h.room, h.port, h.others, h.mem, h.regs⟩

/-- The rest of the package is as it was. -/
theorem frame (h : s.AtPort p t f) : (∀ q, q < 12 → q ≠ p → t.fport q = s.fport q) ∧ t.mem = s.mem ∧ t.regs = s.regs :=
  ⟨fun q _ hq => h.others q hq, h.mem, h.regs⟩

theorem portState (h : s.AtPort p t f) (q : Nat) : t.portState q = s.portState q := State.fld_congr _ _ h.regs _ _

theorem creditsOf (h : s.AtPort p t f) (vc : Nat) : t.creditsOf vc = s.creditsOf vc := by
  simp only [State.creditsOf, State.fld_congr t s h.regs]

end State.AtPort

/-- A port's counters count no events. -/
theorem portCounter_notin (c p : Nat) (hc : 0x1810000 ≤ c) : c + pdi p ∉ evtCounters := by
  have low : ∀ e ∈ evtCounters, e < 0x1810000 := by decide
  exact fun h => absurd (low _ h) (by omega)

/-! ### Credits spent and returned (R333, R368) -/

section Credits
variable {s t : State} {p : Nat} {f : FabPort}

/-- A spent credit: a reserved one, or a shared one, which a packet of no job always spends. -/
theorem spendCredit_eq (p : Nat) (h : PktHdr) (s : State) : ∃ rsv cred,
    spendCredit p h s = s.modPort p (fun f => { f with rsv := rsv, cred := cred }) ∧
      (h.job = 0 → kgetD cred (8 * h.vc + h.hops) 0 = kgetD (s.fport p).cred (8 * h.vc + h.hops) 0 - 1) := by
  unfold spendCredit
  dsimp only
  split
  · rename_i c hc
    refine ⟨kmod (s.fport p).rsv (rsvKey c h.vc h.hops) 0 (· - 1), (s.fport p).cred, rfl, fun h0 => ?_⟩
    simp [State.rsvCtx, h0] at hc
  · exact ⟨(s.fport p).rsv, kmod (s.fport p).cred (vpKey h.vc h.hops) 0 (· - 1), rfl, fun _ => kgetD_kset_same _ _ _ _⟩

theorem takeCredits_keeps {α : Type} (g : State → α) (hg : ∀ (s : State) p k, g (s.modPort p k) = g s) (p vc ph n : Nat) (s : State) :
    g (takeCredits p vc ph n s) = g s := by
  refine foldl_keeps g _ (fun t _ => ?_) _ s
  unfold takeCredit
  dsimp only
  split
  · exact hg t _ _
  · exact hg t _ _

/-- Credits that come back change the port's credits alone. -/
theorem takeCredits_at (h : s.AtPort p t f) (vc ph n : Nat) :
    ∃ rsv cred, s.AtPort p (takeCredits p vc ph n t) { f with rsv := rsv, cred := cred } := by
  refine List.foldlRecOn (motive := fun u => ∃ rsv cred, s.AtPort p u { f with rsv := rsv, cred := cred }) _ _
    ⟨f.rsv, f.cred, h⟩ fun u hu _ _ => ?_
  obtain ⟨rsv, cred, hu⟩ := hu
  unfold takeCredit
  dsimp only
  split
  · exact ⟨_, _, hu.modPort _⟩
  · exact ⟨_, _, hu.modPort _⟩

end Credits

/-! ### Reserved credits go back (R295, R368) -/

/-- The reserved credits of a context in one channel and phase join the shared ones. -/
def FabPort.giveBack (c : Nat) (f : FabPort) (e : Nat × Nat) : FabPort :=
  { f with rsv := kdel f.rsv (rsvKey c e.1 e.2), cred := kmod f.cred (vpKey e.1 e.2) 0 (· + kgetD f.rsv (rsvKey c e.1 e.2) 0) }

/-- The channels and phases that have reservations. -/
def reservable : List (Nat × Nat) := vpAll.filter fun e => e.1 = 2 ∨ e.1 = 3

theorem mem_reservable {vc ph : Nat} (hv : vc = 2 ∨ vc = 3) (hp : ph < 5) : (vc, ph) ∈ reservable := by
  have all : ∀ v ∈ [2, 3], ∀ h ∈ List.range 5, (v, h) ∈ reservable := by decide
  exact all vc (by simpa using hv) ph (List.mem_range.2 hp)

/-- Two channels and phases with reservations have keys of their own. -/
theorem reservable_keys {c : Nat} {a b : Nat × Nat} (ha : a ∈ reservable) (hb : b ∈ reservable) (h : b ≠ a) :
    rsvKey c b.1 b.2 ≠ rsvKey c a.1 a.2 ∧ vpKey b.1 b.2 ≠ vpKey a.1 a.2 := by
  have bounds : ∀ e ∈ reservable, 2 ≤ e.1 ∧ e.2 < 8 := by decide
  obtain ⟨ha1, ha2⟩ := bounds a ha
  obtain ⟨hb1, hb2⟩ := bounds b hb
  simp only [rsvKey, vpKey]
  exact ⟨fun e => h (Prod.ext (by omega) (by omega)), fun e => h (Prod.ext (by omega) (by omega))⟩

/-- What a port holds of a channel and phase, shared and reserved by a context. -/
def FabPort.credits (c : Nat) (f : FabPort) (e : Nat × Nat) : Nat × Nat :=
  (kgetD f.cred (vpKey e.1 e.2) 0, kgetD f.rsv (rsvKey c e.1 e.2) 0)

section Return
variable (c : Nat) (f : FabPort) {a b : Nat × Nat}

theorem FabPort.credits_giveBack_same : (f.giveBack c a).credits c a = ((f.credits c a).1 + (f.credits c a).2, 0) :=
  Prod.ext (kgetD_kset_same _ _ _ _) (by simp [FabPort.credits, FabPort.giveBack, kgetD])

theorem FabPort.credits_giveBack_ne (ha : a ∈ reservable) (hb : b ∈ reservable) (h : b ≠ a) :
    (f.giveBack c a).credits c b = f.credits c b := by
  obtain ⟨hr, hv⟩ := reservable_keys (c := c) ha hb h
  exact Prod.ext (kgetD_kset_ne _ _ _ _ _ hv) (by simp [FabPort.credits, FabPort.giveBack, kgetD, kget_kdel_ne _ _ _ hr])

/-- Each channel and phase given back once has its reserved credits shared. -/
theorem FabPort.credits_giveBacks (l : List (Nat × Nat)) (hl : ∀ e ∈ l, e ∈ reservable) (hn : l.Nodup) (hb : b ∈ reservable) :
    (l.foldl (FabPort.giveBack c) f).credits c b =
      if b ∈ l then ((f.credits c b).1 + (f.credits c b).2, 0) else f.credits c b := by
  induction l generalizing f with
  | nil => rfl
  | cons a l ih =>
    obtain ⟨ha, hn⟩ := List.nodup_cons.1 hn
    have har : a ∈ reservable := hl a (by simp)
    rw [List.foldl_cons, ih _ (fun e he => hl e (by simp [he])) hn]
    by_cases h : b = a
    · subst h
      simp [ha, FabPort.credits_giveBack_same]
    · simp [h, FabPort.credits_giveBack_ne c f har hb h]

end Return

/-- A context's reserved credits of one port go back. -/
def returnPort (c : Nat) (s : State) (p : Nat) : State := reservable.foldl (fun t e => t.modPort p (FabPort.giveBack c · e)) s

theorem freeReserve_eq (c : Nat) (s : State) :
    freeReserve c s = ((List.range 12).foldl (returnPort c) s).setFld F.FAB_CTX_RSV_held 0 (8 * c) := rfl

theorem returnPort_at (c p : Nat) (s : State) (hp : p < s.fab.ports.length) :
    s.AtPort p (returnPort c s p) (reservable.foldl (FabPort.giveBack c) (s.fport p)) := by
  have all : ∀ (l : List (Nat × Nat)) (t : State) (f : FabPort), s.AtPort p t f →
      s.AtPort p (l.foldl (fun t e => t.modPort p (FabPort.giveBack c · e)) t) (l.foldl (FabPort.giveBack c) f) := by
    intro l
    induction l with
    | nil => exact fun t f h => h
    | cons e l ih => exact fun t f h => ih _ _ (h.modPort _)
  exact all reservable s _ (.refl hp)

theorem returnPort_keeps {α : Type} (g : State → α) (hg : ∀ (s : State) p k, g (s.modPort p k) = g s) (c p : Nat) (s : State) :
    g (returnPort c s p) = g s := foldl_keeps g _ (fun t _ => hg t _ _) _ s

theorem returnPort_fport_ne (c : Nat) (s : State) (p q : Nat) (hq : q ≠ p) : (returnPort c s p).fport q = s.fport q :=
  foldl_keeps (·.fport q) _ (fun t _ => t.fport_modPort_ne p q _ hq) _ s

/-- Every port shares what a context had reserved. -/
theorem returnPorts_credits (c : Nat) (s : State) (hl : s.fab.ports.length = 12) {q : Nat} {e : Nat × Nat} (hq : q < 12)
    (he : e ∈ reservable) : (((List.range 12).foldl (returnPort c) s).fport q).credits c e =
      (((s.fport q).credits c e).1 + ((s.fport q).credits c e).2, 0) := by
  have length : ∀ (t : State) (p : Nat), (returnPort c t p).fab.ports.length = t.fab.ports.length := fun t p =>
    returnPort_keeps (·.fab.ports.length) (fun t p k => t.modPort_ports_length p k) c p t
  have port : ((List.range 12).foldl (returnPort c) s).fport q = reservable.foldl (FabPort.giveBack c) (s.fport q) :=
    foldl_read_mem State.fport (returnPort c) (fun t p q hq => returnPort_fport_ne c t p q hq)
      (fun f => reservable.foldl (FabPort.giveBack c) f)
      (fun t q => q < t.fab.ports.length) (fun t p q h => by rw [length]; exact h) (fun t p h => (returnPort_at c p t h).port)
      (List.range 12) List.nodup_range s q (List.mem_range.2 hq) (hl ▸ hq)
  have nodup : reservable.Nodup := by decide
  rw [port, FabPort.credits_giveBacks c _ reservable (fun _ h => h) nodup he, if_pos he]

theorem freeReserve_credits (c : Nat) (s : State) (hl : s.fab.ports.length = 12) {q vc ph : Nat} (hq : q < 12) (hv : vc = 2 ∨ vc = 3)
    (hp : ph < 5) : kgetD ((freeReserve c s).fport q).cred (8 * vc + ph) 0 =
        kgetD (s.fport q).cred (8 * vc + ph) 0 + kgetD (s.fport q).rsv (rsvKey c vc ph) 0 ∧
      kgetD ((freeReserve c s).fport q).rsv (rsvKey c vc ph) 0 = 0 := by
  have shared : ((freeReserve c s).fport q).credits c (vc, ph) =
      (((s.fport q).credits c (vc, ph)).1 + ((s.fport q).credits c (vc, ph)).2, 0) := by
    rw [freeReserve_eq, State.setFld_fport, returnPorts_credits c s hl hq (mem_reservable hv hp)]
  simpa only [FabPort.credits, vpKey, Prod.mk.injEq] using shared

theorem freeReserve_held (c : Nat) (s : State) : (freeReserve c s).flag F.FAB_CTX_RSV_held (8 * c) = false := by
  rw [freeReserve_eq, State.flag, State.fld_setFld_same _ F.FAB_CTX_RSV_held 0 _ (by decide) (by decide)]
  rfl

theorem freeReserve_mem (c : Nat) (s : State) : (freeReserve c s).mem = s.mem := by
  rw [freeReserve_eq, State.setFld_mem]
  exact foldl_keeps State.mem _ (fun t p => returnPort_keeps State.mem (fun _ _ _ => rfl) c p t) _ s

/-! ### A port changes its state (R328, R341) -/

/-- A send changes the output queues of ports alone. -/
theorem State.post_fport {α : Type} (r : FabPort → α) (hr : ∀ f outq, r { f with outq := outq } = r f) (s : State) (h : PktHdr)
    (b : PktBody) (q : Nat) : r ((s.post h b).fport q) = r (s.fport q) := by
  have failed : ∀ st, (s.failPkt h st).fport q = s.fport q := fun st => by
    obtain ⟨_, _, e, -⟩ := s.failPkt_eq h st
    rw [e]
    rfl
  refine s.post_cases (motive := fun t => r (t.fport q) = r (s.fport q)) h b rfl (fun st => congrArg r (failed st)) ?_ fun p via => ?_
  · exact congrArg r ((State.raise_fport _ q _ _ _ _ _ _).trans (failed _))
  · obtain ⟨_, _, _, e, -⟩ := s.number_eq { h with via := via }
    unfold State.depart State.putOut
    rw [e]
    exact State.modPort_keeps _ p q _ r (hr _ _)

section Change
variable (p st : Nat) (s : State)

theorem sendLinkState_keeps {α : Type} (g : State → α) (hg : ∀ (s : State) h b, g (s.post h b) = g s) :
    g (sendLinkState s) = g s := foldl_keeps g _ (fun _ _ => hg _ _ _) _ s

/-- What neither a register nor a send changes stays when a port changes its state. -/
theorem setPort_keeps {α : Type} (g : State → α) (hr : ∀ (s : State) (r : FieldRef) v di, g (s.setFld r v di) = g s)
    (hg : ∀ (s : State) h b, g (s.post h b) = g s) : g (setPort p st s) = g s := by
  simp only [setPort, apply_ite g, sendLinkState_keeps _ g hg, hr, ite_self]

theorem setPort_portState (hst : st < 16) : (setPort p st s).portState p = st := by
  have hme : ∀ t : State, t.me < 9 := fun t => Nat.mod_lt _ (by decide)
  have set : (s.setFld F.FAB_P_STATUS_state st (pdi p)).portState p = st :=
    (State.fld_setFld_same s F.FAB_P_STATUS_state st _ (by decide) (by decide)).trans (Nat.mod_eq_of_lt hst)
  have sent : ∀ t : State, (sendLinkState t).portState p = t.portState p := fun t =>
    sendLinkState_keeps t (·.portState p) fun u h b => by
      obtain ⟨_, _, _, _, _, _, e⟩ := u.post_frame h b
      rw [e]
      rfl
  have mapped : ∀ (t : State) (r : FieldRef) (v m : Nat), r.off = 0x1800200 → m < 9 →
      (t.setFld r v (4 * m)).portState p = t.portState p := fun t r v m hr hm =>
    t.fld_setFld_ne r F.FAB_P_STATUS_state v _ _ (by rw [hr]; simp only [F.FAB_P_STATUS_state]; omega)
  unfold setPort
  dsimp only
  split
  · exact set
  · rw [sent, mapped _ F.FAB_GMAP_m_global _ _ rfl (hme _), mapped _ F.FAB_GMAP_m_group _ _ rfl (hme _), set]

end Change

end Sys2Proof.Machine
end

section
/-!
O50: the frames of a port, sent and received (R331 to R335), and the reserved credits that go back (R295, R368).
-/
namespace Sys2Proof.Machine

/-! ### Frames sent (R331, R333, R335) -/

/-- A port after its tag went out: no nak is owed any more, and the credits sent are not owed. -/
def FabPort.tagged (f : FabPort) : FabPort :=
  { f with naking := false, owed := match f.toReturn with
    | some (k, n) => kmod f.owed k 0 (· - n)
    | none => f.owed }

/-- The tag a data flit goes out with. -/
def FabPort.flitTag (f : FabPort) (k : KeptFlit) : FrameTag :=
  { f.tag false with fpos := k.fpos, vc := k.hdr.vc, phase := k.hdr.hops, first := k.first, last := k.last, trunc := k.hdr.trunc && k.last }

section Send
variable {s t : State} {p : Nat} {f : FabPort}

theorem tagSent_eq (p : Nat) (t : State) : tagSent p t =
    (if (t.fport p).naking then t.bump (C.FAB_P_REPLAYS + pdi p) else t).modPort p FabPort.tagged := rfl

theorem State.AtPort.tagSent (h : s.AtPort p t f) : s.AtPort p (tagSent p t) f.tagged := by
  rw [tagSent_eq]
  split
  · exact (h.bump _ _).modPort _
  · exact h.modPort _

@[simp] theorem tagSent_out (p : Nat) (t : State) : (tagSent p t).out = t.out := by
  rw [tagSent_eq]
  split
  · exact t.bump_out _ _
  · rfl

theorem tagSent_counter (p : Nat) (t : State) (c : Nat) (hc : c ∉ evtCounters) (hne : c ≠ C.FAB_P_REPLAYS + pdi p) :
    (tagSent p t).counter c = t.counter c := by
  rw [tagSent_eq]
  split
  · exact t.bump_counter_ne c hc _ _ hne
  · rfl

theorem emitFlit_eq (p : Nat) (k : KeptFlit) (t : State) : emitFlit p k t =
    (Machine.tagSent p (t.emit (.flit p ((t.fport p).flitTag k) k.hdr))).bump (C.FAB_P_TX_FLITS + pdi p) := rfl

theorem State.AtPort.emitFlit (h : s.AtPort p t f) (k : KeptFlit) : s.AtPort p (emitFlit p k t) f.tagged :=
  (h.emit _).tagSent.bump _ _

theorem emitFlit_out (p : Nat) (k : KeptFlit) (t : State) :
    (Machine.emitFlit p k t).out = t.out ++ [.flit p ((t.fport p).flitTag k) k.hdr] := by
  rw [emitFlit_eq, State.bump_out, tagSent_out]
  rfl

/-- A flit sent counts one. -/
theorem emitFlit_counter (p : Nat) (k : KeptFlit) (t : State) : (Machine.emitFlit p k t).counter (C.FAB_P_TX_FLITS + pdi p) =
    min (2 ^ 48 - 1) (t.counter (C.FAB_P_TX_FLITS + pdi p) + 1) := by
  have quiet := portCounter_notin C.FAB_P_TX_FLITS p (by decide)
  rw [emitFlit_eq, State.bump_counter_same _ _ _ quiet,
    tagSent_counter p _ _ quiet (by simp only [C.FAB_P_TX_FLITS, C.FAB_P_REPLAYS]; omega)]
  rfl

theorem frameSend_again (h5 : s.portState p = 5) {k : KeptFlit} {l : List KeptFlit} (h : (s.fport p).again = k :: l) :
    frameSend p s = Machine.emitFlit p k (s.modPort p fun f => { f with again := l }) := by
  simp only [frameSend, h5, if_true, h]

theorem frameSend_grant (h5 : s.portState p = 5) (ha : (s.fport p).again = []) (hl : (s.fport p).kept.length < 512)
    {vc i : Nat} {x : OutPkt} (hg : s.grantFlit p = some (vc, i, x)) : frameSend p s = grantOne p vc i x s := by
  simp only [frameSend, h5, if_true, ha, hl, hg]

theorem frameSend_control (h5 : s.portState p = 5) (ha : (s.fport p).again = [])
    (h : 512 ≤ (s.fport p).kept.length ∨ s.grantFlit p = none) : frameSend p s = sendControl p 0 [] s := by
  have nothing : (if (s.fport p).kept.length < 512 then s.grantFlit p else none) = none := by
    rcases h with h | h
    · exact if_neg (Nat.not_lt.2 h)
    · rw [h, ite_self]
  simp only [frameSend, h5, if_true, ha, nothing]

/-- Outside HOLD, ACTIVE and RETRAIN nothing is sent. -/
theorem frameSend_idle (h : ¬(s.portState p = 4 ∨ s.portState p = 5 ∨ s.portState p = 6)) : frameSend p s = s := by
  obtain ⟨h4, h5, h6⟩ : s.portState p ≠ 4 ∧ s.portState p ≠ 5 ∧ s.portState p ≠ 6 := by simpa only [not_or] using h
  simp [frameSend, h4, h5, h6]

/-- A granted flit: numbered, kept for its acknowledgement, and its credit spent. -/
theorem grantOne_spec (hp : p < s.fab.ports.length) (vc i : Nat) (x : OutPkt) {k : KeptFlit}
    (hk : k = ⟨(s.fport p).next, x.hdr, decide (x.sent = 0), decide (x.hdr.flits ≤ x.sent + 1)⟩) :
    ∃ f, s.AtPort p (grantOne p vc i x s) f ∧ f.next = ((s.fport p).next + 1) % 4096 ∧ f.kept = (s.fport p).kept ++ [k] ∧
      (x.hdr.job = 0 → kgetD f.cred (8 * x.hdr.vc + x.hdr.hops) 0 = kgetD (s.fport p).cred (8 * x.hdr.vc + x.hdr.hops) 0 - 1) ∧
      (grantOne p vc i x s).out = s.out ++ [.flit p ((s.fport p).flitTag k) x.hdr] ∧
      (grantOne p vc i x s).counter (C.FAB_P_TX_FLITS + pdi p) = min (2 ^ 48 - 1) (s.counter (C.FAB_P_TX_FLITS + pdi p) + 1) := by
  subst hk
  obtain ⟨rsv, cred, spent, hcred⟩ := spendCredit_eq p x.hdr s
  unfold grantOne
  dsimp only
  rw [spent]
  refine ⟨_, (((State.AtPort.refl hp).modPort _).emitFlit _).modPort _, rfl, rfl, hcred, ?_, ?_⟩
  · refine (emitFlit_out p _ _).trans ?_
    rw [s.fport_modPort_same p _ hp]
    rfl
  · exact emitFlit_counter p _ _

end Send

/-! ### Frames received (R331 to R334) -/

section Receive
variable {s t : State} {p : Nat} {f : FabPort} {g : FrameTag} {h : PktHdr}

/-- Outside HOLD, ACTIVE and RETRAIN nothing is taken. -/
theorem frameReceive_idle (h : ¬(s.portState p = 4 ∨ s.portState p = 5 ∨ s.portState p = 6)) (g : FrameTag) (k : PktHdr) :
    frameReceive p g k s = s := by
  obtain ⟨h4, h5, h6⟩ : s.portState p ≠ 4 ∧ s.portState p ≠ 5 ∧ s.portState p ≠ 6 := by simpa only [not_or] using h
  simp [frameReceive, h4, h5, h6]

/-- A frame that cannot be read is asked for again. -/
theorem frameReceive_unread (h5 : s.portState p = 5) (hb : g.fec = false ∨ g.good = false) :
    frameReceive p g h s = (s.bump ((if g.fec then C.FAB_P_CRC else C.FAB_P_FEC_UNCORR) + pdi p)).modPort p
      fun f => { f with naking := true } := by
  have state : ∀ c, (s.bump c).portState p = 5 := fun c => (State.fld_congr _ _ (s.bump_regs c 1) _ _).trans h5
  rcases Bool.eq_false_or_eq_true g.fec with hf | hf
  · have hg : g.good = false := by simpa [hf] using hb
    simp [frameReceive, h5, hf, hg, state]
  · simp [frameReceive, h5, hf, state]

/-- A frame that cannot be read is counted and asked for again, and nothing of it is taken. -/
theorem frameReceive_unread_spec (hp : p < s.fab.ports.length) (h5 : s.portState p = 5) (hb : g.fec = false ∨ g.good = false) {c : Nat}
    (hc : c = if g.fec then C.FAB_P_CRC else C.FAB_P_FEC_UNCORR) :
    s.AtPort p (frameReceive p g h s) { s.fport p with naking := true } ∧
      (frameReceive p g h s).counter (c + pdi p) = min (2 ^ 48 - 1) (s.counter (c + pdi p) + 1) := by
  have low : 0x1810000 ≤ c := by
    rw [hc]
    split
    · decide
    · decide
  rw [frameReceive_unread h5 hb, ← hc, State.modPort_counter]
  exact ⟨((State.AtPort.refl hp).bump _ 1).modPort fun f => { f with naking := true },
    State.bump_counter_same s _ 1 (portCounter_notin c p low)⟩

theorem frameReceive_error (h5 : s.portState p = 5) (hf : g.fec = true) (hg : g.good = true) (hb : s.tagBad p g = true) :
    frameReceive p g h s = linkError p s := by
  simp [frameReceive, h5, hf, hg, hb]

/-- The tag of a frame without a nak changes the port alone, and of it no position and nothing held. -/
theorem takeAck_eq (p : Nat) (s : State) (hn : g.nak = false) :
    ∃ kept again naks, takeAck p g s = s.modPort p fun f => { f with kept := kept, again := again, naks := naks } := by
  simp only [takeAck, hn, Bool.false_eq_true, false_and, if_false]
  exact ⟨_, _, _, rfl⟩

/-- A data flit in ACTIVE comes after what its tag acknowledges and returns. -/
theorem frameReceive_data (hp : p < s.fab.ports.length) (h5 : s.portState p = 5) (hf : g.fec = true) (hg : g.good = true)
    (hb : s.tagBad p g = false) (hn : g.nak = false) (hc : g.ctl = false) :
    ∃ t f, frameReceive p g h s = dataFlit p g h t ∧ s.AtPort p t f ∧ f.expect = (s.fport p).expect ∧ f.inb = (s.fport p).inb ∧
      ∀ c, t.counter c = s.counter c := by
  obtain ⟨kept, again, naks, acked⟩ := takeAck_eq p s hn
  have at1 := (State.AtPort.refl hp).modPort fun f => { f with kept := kept, again := again, naks := naks }
  obtain ⟨rsv, cred, at2⟩ := takeCredits_at at1 g.crVc g.crPhase g.crCount
  refine ⟨_, _, ?_, at2, rfl, rfl, fun c => ?_⟩
  · have h5' := (at1.portState p).trans h5
    simp [frameReceive, h5, hf, hg, hb, acked, h5', hc]
  · exact takeCredits_keeps (·.counter c) (fun _ _ _ => rfl) p _ _ _ _

/-- The next flit joins its packet. -/
theorem dataFlit_next (ht : s.AtPort p t f) (hx : g.fpos = f.expect) (hroom : f.holds g.vc g.phase < s.creditsOf g.vc)
    (hpart : (g.last || g.trunc) = false) (hfirst : g.first = true) : dataFlit p g h t =
      ((t.modPort p fun f => { f with expect := (f.expect + 1) % 4096, naking := false }).bump (C.FAB_P_RX_FLITS + pdi p)).modPort p
        fun f => { f with inb := f.inb ++ [⟨{ h with trunc := h.trunc || g.trunc }, g.vc, g.phase, 1, false, g.trunc⟩] } := by
  have room : ¬t.creditsOf g.vc ≤ (t.fport p).holds g.vc g.phase := by
    rw [ht.creditsOf, ht.port]
    exact Nat.not_le.2 hroom
  rw [← ht.port] at hx
  simp [dataFlit, hx, room, storeFlit, hpart, hfirst]

/-- A later flit is asked for again. -/
theorem dataFlit_later (ht : s.AtPort p t f) (hx : g.fpos ≠ f.expect) (hlate : precedes 12 f.expect g.fpos = true) :
    dataFlit p g h t = t.modPort p fun f => { f with naking := true } := by
  rw [← ht.port] at hx hlate
  simp [dataFlit, hx, hlate]

/-- A port that retrains keeps what it received. -/
theorem toRetrain_spec (w : Nat) (h5 : t.portState p = 5) : (toRetrain p w t).portState p = 6 ∧
    ((toRetrain p w t).fport p).inb = (t.fport p).inb ∧ ((toRetrain p w t).fport p).expect = (t.fport p).expect ∧
    (toRetrain p w t).mem = t.mem ∧ ∀ c, c ∉ evtCounters → c ≠ C.FAB_P_RETRAINS + pdi p → (toRetrain p w t).counter c = t.counter c := by
  have post_mem : ∀ (t : State) k b, (t.post k b).mem = t.mem := fun t k b => by
    obtain ⟨_, _, _, _, _, _, e⟩ := t.post_frame k b
    rw [e]
  have kept : ∀ {α : Type} (r : FabPort → α), (∀ f outq, r { f with outq := outq } = r f) →
      (∀ f cred rsv width, r { f with cred := cred, rsv := rsv, width := width } = r f) → r ((toRetrain p w t).fport p) = r (t.fport p) := by
    intro α r hr hw
    rw [toRetrain, if_pos h5, State.bump_fport, setPort_keeps p 6 _ (fun t => r (t.fport p)) (fun _ _ _ _ => rfl)
      fun t k b => t.post_fport r hr k b p, State.modPort_keeps t p p _ r (hw _ _ _ _)]
  refine ⟨?_, kept _ (fun _ _ => rfl) fun _ _ _ _ => rfl, kept _ (fun _ _ => rfl) fun _ _ _ _ => rfl, ?_, fun c quiet hc => ?_⟩
  · rw [toRetrain, if_pos h5, State.portState, State.bump_fld]
    exact setPort_portState p 6 _ (by decide)
  · rw [toRetrain, if_pos h5, State.bump_mem, setPort_keeps p 6 _ State.mem (fun _ _ _ _ => rfl) fun t k b => post_mem t k b]
    rfl
  · rw [toRetrain, if_pos h5, State.bump_counter_ne _ _ quiet _ _ hc,
      setPort_keeps p 6 _ (·.counter c) (fun _ _ _ _ => rfl) fun t k b => t.post_counter k b _ quiet]
    exact State.modPort_counter t p _ c

/-- A link protocol error is counted, and the port retrains. -/
theorem linkError_spec (h5 : s.portState p = 5) : (linkError p s).portState p = 6 ∧ ((linkError p s).fport p).inb = (s.fport p).inb ∧
    ((linkError p s).fport p).expect = (s.fport p).expect ∧ (linkError p s).mem = s.mem ∧
    (linkError p s).counter (C.FAB_P_PROTOCOL + pdi p) = min (2 ^ 48 - 1) (s.counter (C.FAB_P_PROTOCOL + pdi p) + 1) := by
  have quiet := portCounter_notin C.FAB_P_PROTOCOL p (by decide)
  have regs := (State.raise_regs_mild (s.bump (C.FAB_P_PROTOCOL + pdi p)) E.linkProtocol p 0xFF 0 0 0 (by decide)).trans (s.bump_regs _ _)
  obtain ⟨state, inb, expect, mem, counters⟩ := toRetrain_spec (s.fport p).width ((State.fld_congr _ _ regs _ _).trans h5)
  refine ⟨state, ?_, ?_, ?_, ?_⟩
  · rw [linkError, inb, State.raise_fport, State.bump_fport]
  · rw [linkError, expect, State.raise_fport, State.bump_fport]
  · rw [linkError, mem, State.raise_mem, State.bump_mem]
  · rw [linkError, counters _ quiet (by simp only [C.FAB_P_PROTOCOL, C.FAB_P_RETRAINS]; omega),
      State.raise_counter _ _ quiet _ _ _ _ _ _ (by decide), State.bump_counter_same s _ _ quiet]

end Receive

/-- Settles O50: the frames a port sends and takes, and the reserved credits that go back. -/
theorem framesCarryFlitsAndCredits : Obligations.FramesCarryFlitsAndCredits := by
  unfold Obligations.FramesCarryFlitsAndCredits
  intro s p hrun hp hlen frame
  have hport : p < s.fab.ports.length := hlen ▸ hp
  have sends : exec (.frameSend p) s = .next (frameSend p s) := (exec_running _ rfl hrun).trans (by rw [if_pos hp])
  have takes : ∀ g h, exec (.dataFlitReceive p g h) s = .next (frameReceive p g h s) := fun g h =>
    (exec_running _ rfl hrun).trans (by rw [if_pos hp])
  refine ⟨fun h5 => ⟨fun k l hagain => ?_, fun vc i x hagain hkept hgrant => ?_, fun hagain hnone => ?_⟩, fun h46 => ?_, fun hidle => ?_,
    fun g h h5 => ⟨fun hf => ?_, fun hf hg => ?_, fun hf hg hb => ?_, fun hf hg hb hn hc => ⟨fun hx hroom hpart hfirst => ?_, fun hlate hx => ?_⟩⟩,
    fun c hc hheld hquiet => ?_, fun c hc => ?_⟩
  · have port := ((State.AtPort.refl hport).modPort fun f => { f with again := l }).emitFlit k
    refine ⟨_, _, sends.trans (congrArg _ (frameSend_again h5 hagain)), ?_, (emitFlit_out p k _), rfl, rfl, ?_, ?_, port.frame⟩
    · rw [port.port]
      rfl
    · rw [s.fport_modPort_same p _ hport]
      rfl
    · rw [port.port]
      rfl
  · intro k
    obtain ⟨f, port, hnext, hkeep, hcred, hout, hcount⟩ := grantOne_spec hport vc i x (k := k) rfl
    refine ⟨_, _, sends.trans (congrArg _ (frameSend_grant h5 hagain hkept hgrant)), ?_, ?_, hout, rfl, rfl, rfl, rfl, rfl, ?_, hcount,
      port.frame⟩
    · rw [port.port, hnext]
    · rw [port.port, hkeep]
    · rw [port.port]
      exact hcred
  · have port := ((State.AtPort.refl hport).emit (.ctl p 0 ((s.fport p).tag true) [])).tagSent
    refine ⟨_, (s.fport p).tag true, sends.trans (congrArg _ (frameSend_control h5 hagain hnone)), tagSent_out p _, rfl, rfl, ?_, ?_, port.frame⟩
    · rw [sendControl, port.port]
      rfl
    · rw [sendControl, port.port]
      rfl
  · have h5 : s.portState p ≠ 5 := by omega
    exact ⟨_, sends.trans (by rw [frameSend, if_neg h5, if_pos h46]), rfl, rfl⟩
  · exact ⟨sends.trans (congrArg _ (frameSend_idle hidle)), fun g h => (takes g h).trans (congrArg _ (frameReceive_idle hidle g h))⟩
  · obtain ⟨port, hcount⟩ := frameReceive_unread_spec (h := h) hport h5 (.inl hf) (c := C.FAB_P_FEC_UNCORR) (by rw [hf]; rfl)
    exact ⟨_, takes g h, by rw [port.port], by rw [port.port], by rw [port.port], hcount, port.frame⟩
  · obtain ⟨port, hcount⟩ := frameReceive_unread_spec (h := h) hport h5 (.inr hg) (c := C.FAB_P_CRC) (by rw [hf]; rfl)
    exact ⟨_, takes g h, by rw [port.port], by rw [port.port], by rw [port.port], hcount, port.frame⟩
  · obtain ⟨hstate, hinb, hexp, hmem, hcount⟩ := linkError_spec h5
    exact ⟨_, (takes g h).trans (congrArg _ (frameReceive_error h5 hf hg hb)), hstate, hinb, hexp, hcount, hmem⟩
  · obtain ⟨t, f, eq, port, hexp, hinb, hcount⟩ := frameReceive_data (h := h) hport h5 hf hg hb hn hc
    have holds : f.holds g.vc g.phase < s.creditsOf g.vc := by simpa only [FabPort.holds, hinb] using hroom
    have done := dataFlit_next (h := h) port (hx.trans hexp.symm) holds hpart hfirst
    have port' := ((port.modPort fun f => { f with expect := (f.expect + 1) % 4096, naking := false }).bump (C.FAB_P_RX_FLITS + pdi p) 1).modPort
      fun f => { f with inb := f.inb ++ [⟨{ h with trunc := h.trunc || g.trunc }, g.vc, g.phase, 1, false, g.trunc⟩] }
    refine ⟨_, (takes g h).trans (congrArg _ (eq.trans done)), ?_, ?_, ?_, ?_, port'.frame⟩
    · rw [port'.port, ← hexp]
    · rw [port'.port]
    · rw [port'.port, ← hinb]
    · exact (State.bump_counter_same _ _ 1 (portCounter_notin _ p (by decide))).trans (congrArg (fun n => min (2 ^ 48 - 1) (n + 1)) (hcount _))
  · obtain ⟨t, f, eq, port, hexp, hinb, hcount⟩ := frameReceive_data (h := h) hport h5 hf hg hb hn hc
    have port' := port.modPort fun f => { f with naking := true }
    refine ⟨_, (takes g h).trans (congrArg _ (eq.trans (dataFlit_later port (hexp ▸ hx) (hexp ▸ hlate)))), ?_, ?_, ?_, port'.frame⟩
    · rw [port'.port]
    · rw [port'.port, ← hexp]
    · rw [port'.port, ← hinb]
  · have returns : exec (.creditReservationReturn c) s = .next (freeReserve c s) :=
      (exec_running _ rfl hrun).trans (by rw [if_pos (by simp [hc, hheld, hquiet])])
    refine ⟨_, returns, freeReserve_held c s, freeReserve_mem c s, fun q vc ph hq hvc hph => ?_⟩
    exact freeReserve_credits c s hlen hq hvc hph
  · refine (exec_running _ rfl hrun).trans (congrArg _ (if_neg ?_))
    rcases hc with hc | hc <;> simp [hc]

end Sys2Proof.Machine
end

section
/-!
SUPPORT. Readings that stand beside the work of slots, pages, answers and mirrors: what that work leaves of them.
-/
namespace Sys2Proof.Machine

/-- A reading `g` that stands beside a context's work: memories, the KVM, the serving pipeline, queues, packets, facets, mirrors,
Prism and the accounts of residency do not change it, nor do counting (but of RES_PREEMPTS), mild events and queue status. -/
structure Bystander {α : Type} (g : State → α) : Prop where
  mem : ∀ (s : State) x, g { s with mem := x } = g s
  kvm : ∀ (s : State) x, g { s with kvm := x } = g s
  srv : ∀ (s : State) x, g { s with srv := x } = g s
  hq : ∀ (s : State) x, g { s with hq := x } = g s
  hst : ∀ (s : State) x, g { s with hst := x } = g s
  out : ∀ (s : State) x, g { s with out := x } = g s
  reply : ∀ (s : State) x, g { s with bootReply := x } = g s
  fab : ∀ (s : State) x, g { s with fab := x } = g s
  facets : ∀ (s : State) x, g { s with facets := x } = g s
  mir : ∀ (s : State) x, g { s with mir := x } = g s
  prs : ∀ (s : State) x, g { s with prs := x } = g s
  tctrs : ∀ (s : State) x, g { s with tctrs := x } = g s
  rtc : ∀ (s : State) x, g { s with rtc := x } = g s
  free : ∀ (s : State) x, g { s with free := x } = g s
  tap : ∀ (s : State) x, g { s with tap := x } = g s
  wall : ∀ (s : State) x, g { s with res := { s.res with wall := x } } = g s
  interf : ∀ (s : State) x, g { s with res := { s.res with interf := x } } = g s
  staged : ∀ (s : State) x, g { s with res := { s.res with staged := x } } = g s
  sems : ∀ (s : State) x, g { s with res := { s.res with sems := x } } = g s
  bump : ∀ (s : State) c n, c ≠ C.RES_PREEMPTS → g (s.bump c n) = g s
  raise : ∀ (s : State) code u x d0 d1 st, eventClass code < 3 → g (s.raise code u x d0 d1 st) = g s
  status : ∀ (s : State) (r : FieldRef) v n, r.off = 0x830010 → g (s.setFld r v (qdi n)) = g s

/-- A register that is no queue's status stands beside. -/
theorem bystander_rd {x : Nat} (hx : x % 32 ≠ 16) : Bystander (·.rd x) where
  mem _ _ := rfl
  kvm _ _ := rfl
  srv _ _ := rfl
  hq _ _ := rfl
  hst _ _ := rfl
  out _ _ := rfl
  reply _ _ := rfl
  fab _ _ := rfl
  facets _ _ := rfl
  mir _ _ := rfl
  prs _ _ := rfl
  tctrs _ _ := rfl
  rtc _ _ := rfl
  free _ _ := rfl
  tap _ _ := rfl
  wall _ _ := rfl
  interf _ _ := rfl
  staged _ _ := rfl
  sems _ _ := rfl
  bump s c n _ := State.rd_congr _ _ (s.bump_regs c n) x
  raise s code u y d0 d1 st h := State.rd_congr _ _ (State.raise_regs_mild s code u y d0 d1 st (by omega)) x
  status s r v n hr := s.rd_wr_ne _ _ _ (by rw [hr, qdi]; omega)

/-- What the MC knows of contexts and commands, and how many PREEMPTs completed. -/
def State.mc (s : State) : KMap ResCtx × List (CmdOrigin × ResCmd) × Nat := (s.res.ctxs, s.res.queue, s.counter C.RES_PREEMPTS)

theorem State.mc_eq {s t : State} (hr : t.res = s.res) (hc : t.counter C.RES_PREEMPTS = s.counter C.RES_PREEMPTS) : t.mc = s.mc := by
  rw [State.mc, hr, hc, State.mc]

theorem bystander_mc : Bystander State.mc where
  mem _ _ := rfl
  kvm _ _ := rfl
  srv _ _ := rfl
  hq _ _ := rfl
  hst _ _ := rfl
  out _ _ := rfl
  reply _ _ := rfl
  fab _ _ := rfl
  facets _ _ := rfl
  mir _ _ := rfl
  prs _ _ := rfl
  tctrs _ _ := rfl
  rtc _ _ := rfl
  free _ _ := rfl
  tap _ _ := rfl
  wall _ _ := rfl
  interf _ _ := rfl
  staged _ _ := rfl
  sems _ _ := rfl
  bump s c n h := State.mc_eq (s.bump_res c n) (s.bump_counter_ne _ (by decide) c n h.symm)
  raise s code u y d0 d1 st h := State.mc_eq (s.raise_res _ _ _ _ _ _) (s.raise_counter _ (by decide) _ _ _ _ _ _ (by omega))
  status _ _ _ _ _ := rfl

namespace Bystander
variable {α : Type} {g : State → α} (hg : Bystander g)
include hg

/-! ### Tables and pages (R212 to R225) -/

section Pages
variable (s : State)

theorem tread (sp off n : Nat) : g (s.tread sp off n) = g s := by
  unfold State.tread
  split
  · exact (hg.bump _ _ _ (by decide)).trans (hg.tap s _)
  · split
    · exact hg.bump s _ _ (by decide)
    · rfl

theorem twrite (sp off : Nat) (bs : List Byte) (p : Bool) : g (s.twrite sp off bs p) = g s := by
  unfold State.twrite
  dsimp only
  split
  · exact (hg.bump _ _ _ (by decide)).trans (hg.mem s _)
  · split
    · exact (hg.bump _ _ _ (by decide)).trans (hg.mem s _)
    · exact hg.mem s _

theorem dropCached : g s.dropCached = g s := (hg.bump _ _ _ (by decide)).trans (hg.free s _)

theorem sput (n : Nat) (d : DField) (v : Nat) : g (s.sput n d v) = g s := hg.mem s _

theorem setSflag (n b : Nat) (v : Bool) : g (s.setSflag n b v) = g s := hg.mem s _

theorem sclear (n : Nat) : g (s.sclear n) = g s := hg.mem s _

theorem pput (f : Nat) (d : DField) (v : Nat) : g (s.pput f d v) = g s := hg.mem s _

theorem put8 (p : Nat × Nat) (v : Nat) : g (s.put8 p v) = g s := hg.mem s _

theorem sputs (n : Nat) (l : List (DField × Nat)) : g (s.sputs n l) = g s := by
  induction l generalizing s with
  | nil => rfl
  | cons e l ih => exact (ih _).trans (hg.mem s _)

theorem dputs (i : Nat) (l : List (DField × Nat)) : g (s.dputs i l) = g s := by
  induction l generalizing s with
  | nil => rfl
  | cons e l ih => exact (ih _).trans (hg.mem s _)

theorem pappend (p : PList) (f : Nat) : g (s.pappend p f) = g s := by
  unfold State.pappend
  dsimp only
  split
  · exact (hg.kvm _ _).trans (hg.pput s f _ _)
  · exact ((hg.kvm _ _).trans (hg.pput _ _ _ _)).trans (hg.pput s f _ _)

theorem ptake (p : PList) : g (s.ptake p).2 = g s := (hg.pput _ _ _ _).trans (hg.kvm s _)

theorem alloc (p : PList) (st ctx : Nat) : g (s.alloc p st ctx).2 = g s := by
  unfold State.alloc
  split
  · exact hg.bump s _ _ (by decide)
  · have taken := (hg.bump (((s.ptake p).2.pput (s.ptake p).1 P.state st).pput (s.ptake p).1 P.ctx ctx) C.KVM_ALLOC 1 (by decide)).trans
      (((hg.pput _ _ _ _).trans (hg.pput _ _ _ _)).trans (hg.ptake s p))
    refine Eq.trans ?_ taken
    dsimp only
    split
    · exact (hg.raise _ E.poolLow _ _ _ _ _ (by decide)).trans (hg.kvm _ _)
    · rfl

theorem quarantine (f : Nat) : g (s.quarantine f) = g s :=
  (hg.kvm _ _).trans ((hg.pappend _ _ f).trans ((hg.pput _ _ _ _).trans (hg.pput s _ _ _)))

theorem mapFrame (f : Nat) : g (s.mapFrame f) = g s := by
  unfold State.mapFrame
  dsimp only
  split
  · rfl
  · split
    · exact (hg.bump _ _ _ (by decide)).trans ((hg.pput _ _ _ _).trans (hg.pput s _ _ _))
    · exact hg.pput s _ _ _

theorem unmapFrame (f : Nat) : g (s.unmapFrame f) = g s := by
  unfold State.unmapFrame
  dsimp only
  split
  · rfl
  · split
    · exact (hg.quarantine _ f).trans (hg.pput s _ _ _)
    · exact hg.pput s _ _ _

theorem copyFrame (a b : Nat) : g (s.copyFrame a b) = g s :=
  (foldl_keeps g _ (fun _ _ => hg.twrite _ _ _ _ _) _ _).trans (hg.tread s _ _ _)

theorem ensure (p : Nat × Nat) (ctx : Nat) : g (s.ensure p ctx).2 = g s := by
  have ha := hg.alloc s .free1 3 ctx
  unfold State.ensure
  dsimp only
  split
  · rfl
  · split <;> rename_i h <;> rw [h] at ha
    · exact ha
    · exact ((hg.put8 _ _ _).trans (hg.mem _ _)).trans ha

theorem ensurePage (n w ctx : Nat) : g (s.ensurePage n w ctx).2 = g s := by
  have h1 := hg.ensure s (s.l1Place (pageVa n w)) ctx
  unfold State.ensurePage
  dsimp only
  split <;> rename_i e1 <;> rw [e1] at h1
  · exact h1
  · rename_i f t
    have h2 := (hg.ensure t (under f (bits (pageVa n w) 41 29)) ctx).trans h1
    split <;> rename_i e2 <;> rw [e2] at h2 <;> exact h2

theorem mapPage (n w f : Nat) (wr : Bool) : g (s.mapPage n w f wr).2 = g s := by
  have h := hg.ensurePage s n w (s.sctx n)
  unfold State.mapPage
  split <;> rename_i e <;> rw [e] at h
  · exact h
  · exact ((hg.mapFrame _ _).trans (hg.put8 _ _ _)).trans h

theorem protectPage (n w : Nat) : g (s.protectPage n w) = g s := by
  unfold State.protectPage
  split
  · exact (hg.dropCached _).trans (hg.put8 s _ _)
  · rfl

theorem unmapPage (n w : Nat) : g (s.unmapPage n w) = g s := by
  unfold State.unmapPage
  split
  · rfl
  · rename_i p e _
    have cleared := (hg.dropCached _).trans (hg.put8 s p 0)
    dsimp only
    split
    · exact (hg.unmapFrame _ _).trans cleared
    · exact cleared

theorem dropTable (p : Nat × Nat) (e : Nat) : g (s.dropTable p e) = g s := by
  have cleared := (hg.dropCached _).trans (hg.put8 s p 0)
  unfold State.dropTable
  dsimp only
  split
  · exact (hg.quarantine _ _).trans cleared
  · exact cleared

theorem unmapSlot (n : Nat) : g (s.unmapSlot n) = g s := by
  have pages := foldl_keeps g _ (fun t w => hg.unmapPage t n w) (s.slotPages n) s
  have tables : ∀ t : State, g ((t.slotTables n).foldl (fun u x => u.dropTable x.2.1 x.2.2) t) = g t := fun t =>
    foldl_keeps g (fun (u : State) (x : Nat × (Nat × Nat) × Nat) => u.dropTable x.2.1 x.2.2) (fun u x => hg.dropTable u _ _) (t.slotTables n) t
  unfold State.unmapSlot
  dsimp only
  split
  · exact (hg.dropTable _ _ _).trans ((tables _).trans pages)
  · exact (tables _).trans pages

theorem copyDesc (src dst st ctx tenant : Nat) : g (s.copyDesc src dst st ctx tenant) = g s :=
  (hg.sputs _ _ _).trans (hg.sclear s _)

theorem sharePages (src dst : Nat) (ws : List Nat) : g (s.sharePages src dst ws) = g s := by
  refine foldl_keeps g _ (fun t w => ?_) ws s
  split
  · rfl
  · exact (hg.mapPage _ _ _ _ _).trans (hg.protectPage t _ _)

theorem copyPage (src dst w : Nat) : g (s.copyPage src dst w) = g s := by
  unfold State.copyPage
  split
  · rfl
  · rename_i f _
    have ha := hg.alloc s (s.poolOf f) 1 (s.sctx dst)
    split <;> rename_i h <;> rw [h] at ha
    · exact ha
    · exact ((hg.mapPage _ _ _ _ _).trans (hg.copyFrame _ _ _)).trans ha

theorem ensureWin (slot w : Nat) : g (s.ensureWin slot w) = g s := by
  have ha := hg.alloc s .free1 1 (s.sctx slot)
  unfold State.ensureWin
  split
  · rfl
  · split <;> rename_i h <;> rw [h] at ha
    · exact ha
    · exact ((hg.mapPage _ _ _ _ _).trans (hg.mem _ _)).trans ha

theorem writable (n w : Nat) : g (s.writable n w).2 = g s := by
  unfold State.writable
  split
  · rfl
  · split
    · rfl
    · split
      · rfl
      · rename_i f _
        have ha := hg.alloc s (s.poolOf f) 1 (s.sctx n)
        split
        · exact (hg.dropCached _).trans (hg.put8 s _ _)
        · split <;> rename_i h <;> rw [h] at ha
          · exact ha
          · dsimp only
            rw [hg.bump _ _ _ (by decide), hg.unmapFrame, hg.mapFrame, hg.dropCached, hg.put8, hg.copyFrame, ha]

theorem winWrite (slot o : Nat) (bs : List Byte) : g (s.winWrite slot o bs) = g s := by
  refine foldl_keeps g _ (fun t p => ?_) _ s
  have opened := (hg.writable _ slot (p.1 / 65536)).trans (hg.ensureWin t slot (p.1 / 65536))
  dsimp only
  split
  · exact (hg.twrite _ _ _ _ _).trans opened
  · exact opened

end Pages

/-! ### Answers and slots that are freed (R486, R223, R236) -/

section Slots
variable (s : State)

theorem hwrite (a : Nat) (bs : List Byte) : g (s.hwrite a bs) = g s := by
  unfold State.hwrite
  split
  · exact hg.mem s _
  · exact hg.bump s _ _ (by decide)

theorem qwrite (a : Nat) (bs : List Byte) : g (s.qwrite a bs) = g s := by
  unfold State.qwrite
  split
  · exact hg.hwrite s a bs
  · exact hg.twrite s _ _ _ _

theorem setCq (n : Nat) (q : CqState) : g (s.setCq n q) = g s := hg.hq s _

theorem signalCq (n : Nat) : g (s.signalCq n) = g s := by
  refine (hg.hq _ _).trans ?_
  unfold State.sendMsix
  split
  · exact hg.out s _
  · exact hg.hst s _

theorem writeCq (n sq tag op : Nat) (pr : Bool) (l : List Byte) : g (s.writeCq n sq tag op pr l) = g s := by
  have tail : ∀ (a : Nat) (bs : List Byte) v, g (((s.hwrite a bs).bump C.HQ_COMPLETIONS).setFld F.HQ_CQ_STATUS_tail v (qdi n)) = g s :=
    fun a bs v => (hg.status _ _ _ _ rfl).trans ((hg.bump _ _ _ (by decide)).trans (hg.hwrite s a bs))
  simp only [State.writeCq, apply_ite g, hg.signalCq, hg.setCq, hg.status _ F.HQ_CQ_STATUS_phase _ _ rfl, tail, ite_self]

theorem completeWith (o : CmdOrigin) (op st : Nat) (l : List Byte) : g (s.completeWith o op st l) = g s := by
  cases o with
  | boot => exact hg.reply s _
  | queue sq tag =>
    have lost := hg.bump s C.HQ_LOST_CPL 1 (by decide)
    unfold State.completeWith
    dsimp only
    split
    · split
      · exact (hg.writeCq _ _ _ _ _ _ _).trans (hg.hq s _)
      · exact (hg.bump _ _ _ (by decide)).trans (hg.hq s _)
    · exact lost

theorem complete (o : CmdOrigin) (op st hint res : Nat) : g (s.complete o op st hint res) = g s := hg.completeWith s _ _ _ _

theorem settle (o : CmdOrigin) (op : Nat) : g (s.settle o op) = g s := by
  cases o with
  | boot => rfl
  | queue sq tag => exact hg.hq s _

theorem finishReq (n st reason : Nat) : g (finishReq n st reason s) = g s := by
  unfold Machine.finishReq
  split
  · rfl
  · rename_i r _
    have after : ∀ t : State, g (t.afterReq n r) = g t := fun t => by
      simp only [State.afterReq, apply_ite g, hg.sput, hg.sclear, ite_self]
    exact (after _).trans ((hg.bump _ _ _ (by decide)).trans ((hg.completeWith _ _ _ _ _).trans ((hg.srv _ _).trans
      ((hg.srv _ _).trans (hg.srv s _)))))

theorem freePartner (n : Nat) : g (freePartner n s) = g s := by
  simp only [Machine.freePartner, apply_ite g, hg.sput, hg.finishReq, ite_self]

theorem stopMove (n : Nat) : g (s.stopMove n) = g s := by
  unfold State.stopMove
  split
  · rfl
  · exact (hg.complete _ _ _ _ _ _).trans (hg.kvm s _)

theorem freeSlot (n : Nat) : g (freeSlot n s) = g s := by
  have freed := (hg.freePartner _ n).trans (hg.finishReq s n St.done 4)
  have left : g ((Machine.freePartner n (Machine.finishReq n St.done 4 s)).stopMove n |>.leaveSteps n) = g s :=
    (hg.srv _ _).trans ((hg.stopMove _ n).trans freed)
  exact (hg.kvm _ _).trans ((hg.sclear _ n).trans ((hg.unmapSlot _ n).trans left))

theorem progressReq (n : Nat) : g (progressReq n s) = g s := by
  have told : ∀ (o : CmdOrigin) (op : Nat) (l : List Byte), g (s.progress o op l).1 = g s := fun o op l => by
    cases o with
    | boot => rfl
    | queue sq tag =>
      simp only [State.progress, apply_ite Prod.fst, apply_ite g, hg.writeCq, hg.bump _ C.HQ_SKIPPED_PROGRESS _ (by decide),
        hg.bump _ C.HQ_LOST_CPL _ (by decide), ite_self]
  unfold Machine.progressReq
  split
  · rfl
  · simp only [apply_ite g, hg.sput, told, ite_self]

end Slots

/-! ### Packets sent to other packages (R346 to R350) -/

section Packets
variable (s : State)

theorem failPkt (h : PktHdr) (st : Nat) : g (s.failPkt h st) = g s := by
  obtain ⟨facets, reqs, e, -⟩ := s.failPkt_eq h st
  rw [e]
  exact (hg.facets { s with fab := { s.fab with reqs := reqs } } facets).trans (hg.fab s _)

theorem noRoute (h : PktHdr) : g (s.noRoute h) = g s := (hg.raise _ _ _ _ _ _ _ (by decide)).trans (hg.failPkt s h _)

theorem depart (p via : Nat) (h : PktHdr) (b : PktBody) : g (s.depart p via h b) = g s := by
  obtain ⟨_, sends, routes, ports, e, -⟩ := s.depart_eq p via h b
  rw [e]
  exact (hg.out { s with fab := { s.fab with sends := sends, routes := routes, ports := ports } } _).trans (hg.fab s _)

theorem post (h : PktHdr) (b : PktBody) : g (s.post h b) = g s :=
  s.post_cases (motive := fun t => g t = g s) h b (hg.fab s _) (hg.failPkt s h) (hg.noRoute s h) fun p via => hg.depart s p via h b

theorem launchDirect (h : PktHdr) (b : PktBody) : g (s.launchDirect h b) = g s := by
  unfold State.launchDirect
  split
  · exact hg.failPkt s h _
  · split
    · exact hg.depart s _ _ h b
    · exact hg.noRoute s h

theorem closeBatch (y dir : Nat) : g (s.closeBatch y dir) = g s := by
  unfold State.closeBatch
  split
  · rfl
  · exact (hg.bump _ _ _ (by decide)).trans ((hg.post _ _ _).trans (hg.fab s _))

theorem addEntry (y dir : Nat) (e : GwEntry) : g (s.addEntry y dir e) = g s := by
  unfold State.addEntry
  dsimp only
  split
  · split
    · exact (hg.closeBatch _ _ _).trans ((hg.fab _ _).trans (hg.closeBatch s _ _))
    · exact (hg.fab _ _).trans (hg.closeBatch s _ _)
  · split
    · exact (hg.closeBatch _ _ _).trans (hg.fab s _)
    · exact hg.fab s _

theorem postMem (h : PktHdr) (r : MemReq) : g (s.postMem h r) = g s := by
  have launched : g (s.launchMem h r) = g s := by
    obtain ⟨_, _, _, e, -⟩ := s.number_eq h
    unfold State.launchMem
    (repeat' split)
    · exact hg.failPkt s h _
    · exact hg.launchDirect s h _
    · exact hg.failPkt s h _
    · exact hg.noRoute s h
    · rw [e]
      exact (hg.addEntry _ _ _ _).trans (hg.fab s _)
    · exact hg.depart s _ _ h _
    · exact hg.noRoute s h
  unfold State.postMem
  split
  · exact hg.fab s _
  · exact launched

theorem sendBulk (dst addr : Nat) (bs : List Byte) : g (s.sendBulk dst addr bs) = g s :=
  foldl_keeps g _ (fun _ _ => hg.post _ _ _) _ s

theorem sendStore (dst addr : Nat) (bs : List Byte) (rtag job : Nat) (p : Bool) : g (s.sendStore dst addr bs rtag job p) = g s :=
  foldl_keeps g _ (fun _ _ => hg.postMem _ _ _) _ s

/-! ### Groups sent to mirror peers (R383 to R386) -/

theorem mirPump (i n : Nat) : g (mirPump i n s) = g s := by
  induction n generalizing s with
  | zero => rfl
  | succ n ih =>
    unfold Machine.mirPump
    dsimp only
    split
    · rfl
    · split
      · rfl
      · exact (ih _).trans ((hg.bump _ _ _ (by decide)).trans ((hg.sendBulk _ _ _ _).trans (hg.mir s _)))
    · split
      · exact (ih _).trans ((hg.sendStore _ _ _ _ _ _ _).trans (hg.mir s _))
      · exact hg.mir s _

theorem setMirPeer (i : Nat) (p : MirPeer) : g (s.setMirPeer i p) = g s := hg.mir s _

theorem mirSend (i : Nat) (e : List Byte) : g (s.mirSend i e) = g s := hg.mir s _

theorem mirSlot (i m : Nat) (x : MirChange) : g (mirSlot i m x s) = g s := by
  unfold Machine.mirSlot
  dsimp only
  split
  · simp only [apply_ite g, hg.setMirPeer, hg.mirSend, ite_self]
  · simp only [apply_ite g, hg.setMirPeer, hg.mirSend, ite_self]
    exact foldl_keeps g _ (fun _ _ => hg.mirSend _ _ _) _ s

theorem mirrorChanges (xs : List MirChange) : g (mirrorChanges xs s).2 = g s := by
  have group : ∀ (i : Nat) (ys : List MirChange) (t : State), g (mirGroup i ys t) = g t := fun i ys t =>
    (hg.mirPump _ i _).trans ((hg.mir _ _).trans ((hg.mir _ _).trans (foldl_keeps g _ (fun _ _ => hg.mirSlot _ _ _ _) ys t)))
  refine List.foldlRecOn (motive := fun a : List (Nat × Nat) × State => g a.2 = g s) _ _ rfl fun a ha i _ => ?_
  dsimp only
  split
  · exact ha
  · exact (group i _ _).trans ha

theorem mirrorSlots (c : Nat) (ns : List Nat) : g (mirrorSlots c ns s) = g s := by
  unfold Machine.mirrorSlots
  split
  · exact hg.mirrorChanges s _
  · rfl

end Packets

/-! ### KVM commands that waited (R223 to R225) -/

section Commands
variable (s : State)

theorem orElse (o : CmdOrigin) (op : Nat) (refusal : Option Nat) (k : State → State) (h : g (k s) = g s) :
    g (orElse o op refusal k s) = g s := by
  cases refusal with
  | some st => exact hg.complete s _ _ _ _ _
  | none => exact h

theorem publishEffect (r : KvmRec) : g (publishEffect r s) = g s :=
  (hg.dputs _ _ _).trans ((hg.sharePages _ _ _ _).trans (hg.copyDesc s _ _ _ _ _))

theorem takeUpEffect (r : KvmRec) : g (takeUpEffect r s) = g s := by
  unfold Machine.takeUpEffect
  split
  · rfl
  · exact (hg.bump _ _ _ (by decide)).trans ((hg.dputs _ _ _).trans ((hg.sharePages _ _ _ _).trans (hg.copyDesc s _ _ _ _ _)))

theorem retireEffect (r : KvmRec) : g (retireEffect r s) = g s := by
  unfold Machine.retireEffect
  split
  · rfl
  · exact (hg.freeSlot _ _).trans (hg.mem s _)

theorem forkEffect (r : KvmRec) : g (forkEffect r s) = g s :=
  (foldl_keeps g _ (fun _ _ => hg.copyPage _ _ _ _) _ _).trans ((hg.sharePages _ _ _ _).trans (hg.copyDesc s _ _ _ _ _))

theorem kvmRun (o : CmdOrigin) (op : Nat) (r : KvmRec) : g (kvmRun o op r s) = g s := by
  have answered : ∀ (t : State) (st : Nat), g t = g s → g (t.complete o op st) = g s := fun t st h => (hg.complete t _ _ _ _ _).trans h
  unfold Machine.kvmRun
  split <;> refine hg.orElse s _ _ _ _ ?_
  case h_1 => exact answered _ _ (hg.publishEffect s r)
  case h_2 => exact answered _ _ ((hg.mirrorSlots _ _ _).trans (hg.takeUpEffect s r))
  case h_3 => exact answered _ _ (hg.retireEffect s r)
  case h_4 => exact answered _ _ ((hg.mirrorSlots _ _ _).trans (hg.forkEffect s r))
  case h_5 => exact answered _ _ ((hg.mirrorSlots _ _ _).trans (hg.freeSlot s _))
  case h_6 => exact hg.kvm s _
  case h_7 => exact (hg.kvm _ _).trans (hg.kvm s _)
  case h_8 => exact answered _ _ (hg.kvm s _)

theorem drainKvm : g (drainKvm s) = g s := by
  suffices drained : ∀ n (t : State), g (drainKvmN n t) = g t from drained _ s
  intro n
  induction n with
  | zero => exact fun t => rfl
  | succ n ih =>
    intro t
    unfold drainKvmN
    split
    · rfl
    · split
      · rfl
      · exact (ih _).trans ((hg.kvmRun _ _ _ _).trans (hg.kvm t _))

end Commands

end Bystander

end Sys2Proof.Machine
end

section
/-!
SUPPORT. Launches and steps of a context that stop and end (R255 to R260, R294), beside what a reading takes of the state.
-/
namespace Sys2Proof.Machine

/-- What both branches of a choice keep, the choice keeps. -/
theorem ite_keeps {α β : Type} (g : α → β) {p : Prop} [Decidable p] {t u : α} {v : β} (ht : g t = v) (hu : g u = v) :
    g (if p then t else u) = v := by
  split
  · exact ht
  · exact hu

/-- What is left of an entry's commit when its kept count is known: its pages, its draft, its slot and its request. -/
def commitRest (c k l : Nat) (x : Step) (e : StepEnt) (rs : List SampleRec) (r : Kept × State) : State :=
  let n := e.slot
  let h := r.1.h
  let s := r.2
  let s := if h = 0 then s.bump C.SEQ_NOT_STEPPED else s.bump C.SEQ_POSITIONS h
  let s := commitSlot c n l (l + h) (decide (k = 0)) s
  let s := commitDraft x.pair e (l + h) s
  let s := if 0 < h then s.sput n D.prevToken ((rs[h - 1]?.map fun x => x.input).getD noToken) else s
  let s := if s.sflag n Fl.pinned then s else s.sput n D.generation x.gen
  let s := s.setSflag n Fl.inStep false
  match r.1.ended with
  | some (st, why) => finishReq n st why s
  | none => if e.dead then s else if s.sflag n Fl.cancel then finishReq n St.done 3 s else progressReq n s

/-- An entry of a slot commits with a kept count, found without change or with its tokens emitted. -/
theorem commitEntry_eq (c k : Nat) (x : Step) (mode : CommitMode) (e : StepEnt) (rs : List SampleRec) (s : State) (hn : ¬nSlots ≤ e.slot) :
    ∃ r : Kept × State, ((r.2 = s) ∨ ∃ dg : Bool, r = keepEntry k e rs (if dg then s.setSflag e.slot Fl.degraded true else s)) ∧
      commitEntry c k x mode e rs s = commitRest c k (s.sget e.slot D.length) x e rs r := by
  unfold commitEntry
  dsimp only
  rw [if_neg hn]
  refine ⟨_, ?_, rfl⟩
  split
  · exact .inl rfl
  · exact .inl rfl
  · split
    · exact .inr ⟨_, rfl⟩
    · exact .inl rfl
    · exact .inl rfl

namespace Bystander
variable {α : Type} {g : State → α} (hg : Bystander g)
include hg

/-! ### Launches that stop or leave their pool (R253, R294) -/

section Launches
variable (s : State)

theorem commitSlot (c n l l2 : Nat) (decode : Bool) : g (commitSlot c n l l2 decode s) = g s := by
  have page : ∀ (t : State) w, g (commitPage c n l l2 t w) = g t := fun t w => by
    unfold commitPage
    dsimp only
    split
    · rfl
    · split
      · exact hg.unmapPage t n w
      · exact (hg.twrite _ _ _ _ _).trans (hg.twrite t _ _ _ _)
  have pages := foldl_keeps g _ page (s.commitPages n l l2) s
  exact (hg.sput _ _ _ _).trans (ite_keeps g ((hg.winWrite _ _ _ _).trans pages) pages)

theorem trainSlot (l : Launch) (good : Bool) (n : Nat) : g (trainSlot l good s n) = g s := by
  have committed := fun h => hg.commitSlot s l.ctx n (s.sget n D.length) (s.sget n D.length + h) false
  exact (hg.setSflag _ _ _ _).trans ((hg.bump _ _ _ (by decide)).trans
    (ite_keeps g ((hg.sput _ _ _ _).trans (committed _)) (committed _)))

theorem trainDone (l : Launch) (st : Nat) : g (trainDone l st s) = g s := by
  unfold Machine.trainDone
  split
  · rfl
  · rename_i t _
    have slots := foldl_keeps g _ (fun u => hg.trainSlot u l (decide (st < 0x10))) t.slots s
    have answered := fun res => ((hg.drainKvm _).trans (hg.complete _ t.org 0x2C st 0 res)).trans slots
    exact ite_keeps g ((hg.mirrorChanges _ _).trans (answered _)) (answered _)

theorem dropStaged (f : Staged → Bool) : g (dropStaged f s) = g s := by
  unfold Machine.dropStaged
  exact ite_keeps g rfl ((hg.bump _ _ _ (by decide)).trans (hg.staged s _))

theorem clearPool (p : Nat) : g (clearPool p s) = g s := by
  have charged : ∀ (q : Pool) (t : State), g (chargeRun q t) = g t := fun q t => by
    unfold chargeRun
    split
    · rfl
    · exact foldl_keeps g _ (fun u _ => hg.interf u _) _ t
  refine (hg.srv _ _).trans ?_
  unfold endRun
  dsimp only
  split
  · rfl
  · exact (hg.dropStaged _ _).trans ((charged _ _).trans (hg.wall s _))

theorem dropLaunches (c st p : Nat) : g (dropLaunches c st s p) = g s :=
  (foldl_keeps g _ (fun t l => (hg.trainDone _ l st).trans (hg.wall t _)) _ _).trans (hg.srv s _)

theorem modSq (f : Nat) (k : Sqr → Sqr) : g (s.modSq f k) = g s := hg.facets s _

theorem settleDown (f : Nat) : g (settleDown f s) = g s := by
  unfold Machine.settleDown
  dsimp only
  split
  · exact (hg.srv _ _).trans ((hg.facets _ _).trans (hg.facets s _))
  · rfl

theorem abandonFacet (now : Bool) (f : Nat) : g (abandonFacet now s f) = g s := by
  have counted : ∀ n, g (if n = 0 then s else s.bump (C.RES_CTX_ABANDONED + 0x80 * (s.sqr f).ctx) n) = g s := fun n =>
    ite_keeps g rfl (hg.bump s _ _ (by simp only [C.RES_CTX_ABANDONED, C.RES_PREEMPTS]; omega))
  refine (hg.settleDown _ f).trans ((hg.tctrs _ _).trans ((hg.modSq _ _ _).trans ?_))
  split
  · exact (hg.kvm _ _).trans (counted _)
  · exact counted _

theorem stopLaunch (c st : Nat) (now : Bool) (p : Nat) : g (stopLaunch c st now s p) = g s := by
  unfold Machine.stopLaunch
  split
  · rfl
  · split
    · exact (foldl_keeps g _ (fun t f => hg.abandonFacet t now f) _ _).trans (hg.srv s _)
    · rfl

theorem giveUpStep (c : Nat) (send : Bool) (k : Nat) : g (giveUpStep c send s k) = g s := by
  unfold Machine.giveUpStep
  split
  · rfl
  · rename_i x _
    refine (hg.prs _ _).trans ?_
    have gone : g (s.setSeries c k { s.series c k with gone := (s.series c k).gone ++ [x.num] }) = g s := hg.srv s _
    dsimp only
    split
    · exact (foldl_keeps g _ (fun t h => foldl_keeps g _ (fun u p => hg.post u _ _) _ t) _ _).trans gone
    · exact gone

/-- Of a context that stops, its run goes and what is beside stays. -/
theorem stopContext (c st : Nat) (now send : Bool) : g (stopContext c st now send s) = g (s.setFld F.SEQ_CTX_CTRL_run 0 (0x40 * c)) := by
  have stopped : ∀ t : State, g ([0, 1].foldl (Machine.giveUpStep c send) ([0, 1].foldl (Machine.stopLaunch c st now)
      ([0, 1].foldl (Machine.dropLaunches c st) t))) = g t := fun t =>
    (foldl_keeps g _ (fun u k => hg.giveUpStep u c send k) _ _).trans ((foldl_keeps g _ (fun u p => hg.stopLaunch u c st now p) _ _).trans
      (foldl_keeps g _ (fun u p => hg.dropLaunches u c st p) _ t))
  unfold Machine.stopContext
  dsimp only
  split
  · exact (hg.giveUpStep _ _ _ _).trans (stopped _)
  · exact stopped _

theorem dropWaiters (c : Nat) : g (dropWaiters c s) = g s :=
  (foldl_keeps g _ (fun t o => hg.complete t o _ _ _ _) _ _).trans (foldl_keeps g _ (fun t _ => hg.sems t _) _ s)

theorem clearStopped (c st p : Nat) : g (clearStopped c st s p) = g s := by
  unfold Machine.clearStopped
  split
  · split
    · exact (hg.trainDone _ _ _).trans (hg.clearPool s p)
    · rfl
  · rfl

end Launches

/-! ### Entries of a step that commit (R255 to R260) -/

section Entries
variable (s : State)

theorem commitDraft (pair : Option Nat) (e : StepEnt) (l2 : Nat) : g (commitDraft pair e l2 s) = g s := by
  unfold Machine.commitDraft
  split
  · exact (hg.setSflag _ _ _ _).trans (ite_keeps g rfl ((hg.bump _ _ _ (by decide)).trans (hg.commitSlot s _ _ _ _ _)))
  · rfl

theorem emitTokens (n : Nat) (ts : List Nat) : g (emitTokens n ts s).2.2 = g s := by
  induction ts generalizing s with
  | nil => rfl
  | cons t ts ih =>
    have written : ∀ v, g (((s.qwrite (s.sget n D.outAddr + 4 * s.sget n D.generated) (toBytes 4 t)).sput n D.generated v).sput n D.lastToken t) =
        g s := fun v => (hg.sput _ _ _ _).trans ((hg.sput _ _ _ _).trans (hg.qwrite s _ _))
    unfold Machine.emitTokens
    dsimp only
    split
    · exact written _
    · split
      · exact written _
      · exact (ih _).trans (written _)

theorem keepEntry (k : Nat) (e : StepEnt) (rs : List SampleRec) : g (keepEntry k e rs s).2 = g s := by
  unfold Machine.keepEntry
  dsimp only
  split
  · split
    · rfl
    · split
      · exact hg.sput s _ _ _
      · exact (hg.emitTokens _ _ _).trans (hg.sput s _ _ _)
  · exact (hg.emitTokens _ _ _).trans ((hg.bump _ _ _ (by decide)).trans (hg.bump s _ _ (by decide)))

/-- An entry whose kept count is known goes on to its outcome. -/
theorem commitRest (c k l : Nat) (x : Step) (e : StepEnt) (rs : List SampleRec) (r : Kept × State) :
    g (commitRest c k l x e rs r) = g r.2 := by
  have committed : ∀ t : State, g t = g r.2 → g (Machine.commitDraft x.pair e (l + r.1.h) (Machine.commitSlot c e.slot l (l + r.1.h) (decide (k = 0)) t)) =
      g r.2 := fun t ht => (hg.commitDraft _ _ _ _).trans ((hg.commitSlot _ _ _ _ _ _).trans ht)
  have counted := committed _ (ite_keeps g (p := r.1.h = 0) (hg.bump r.2 C.SEQ_NOT_STEPPED 1 (by decide)) (hg.bump r.2 C.SEQ_POSITIONS r.1.h (by decide)))
  have noted := ite_keeps g (p := 0 < r.1.h) ((hg.sput _ e.slot D.prevToken ((rs[r.1.h - 1]?.map fun x => x.input).getD noToken)).trans counted) counted
  have pinned : ∀ t : State, g t = g r.2 →
      g ((if t.sflag e.slot Fl.pinned then t else t.sput e.slot D.generation x.gen).setSflag e.slot Fl.inStep false) = g r.2 :=
    fun t ht => (hg.setSflag _ _ _ _).trans (ite_keeps g ht ((hg.sput t _ _ _).trans ht))
  have done := pinned _ noted
  unfold Machine.commitRest
  dsimp only
  split
  · exact (hg.finishReq _ _ _ _).trans done
  · exact ite_keeps g done (ite_keeps g ((hg.finishReq _ _ _ _).trans done) ((hg.progressReq _ _).trans done))

theorem commitEntry (c k : Nat) (x : Step) (mode : CommitMode) (e : StepEnt) (rs : List SampleRec) :
    g (commitEntry c k x mode e rs s) = g s := by
  by_cases hn : nSlots ≤ e.slot
  · refine (congrArg g (if_pos hn)).trans ?_
    exact (hg.bump _ _ _ (by decide)).trans (hg.commitDraft s _ _ _)
  · obtain ⟨r, hr, eq⟩ := commitEntry_eq c k x mode e rs s hn
    rw [eq, hg.commitRest]
    obtain rfl | ⟨dg, rfl⟩ := hr
    · rfl
    · exact (hg.keepEntry _ _ _ _).trans (ite_keeps g (hg.setSflag s _ _ _) rfl)

theorem commitEntries (c k a : Nat) (x : Step) (mode : CommitMode) (es : List StepEnt) (i : Nat) :
    g (commitEntries c k a x mode es i s) = g s := by
  induction es generalizing i s with
  | nil => rfl
  | cons e es ih => exact (ih _ _).trans (hg.commitEntry s _ _ _ _ _ _)

end Entries

/-! ### Steps that are over, and passes that begin (R258) -/

section Steps
variable (hr : ∀ (s : State) x, g { s with regs := x } = g s) (s : State)

theorem launchStep (c k : Nat) (ins : List (StepEnt × List Nat)) : g (launchStep c k ins s) = g s := by
  have written : ∀ (x : Step) (ws : List WorkTok) (t : State), g (writeArea c k x ws t) = g t := fun x ws t => by
    simp only [writeArea, hg.twrite]
  unfold Machine.launchStep
  split
  · rfl
  · split
    · rfl
    · exact (hg.srv _ _).trans ((written _ _ _).trans (hg.srv s _))

theorem verifyLaunch (c : Nat) : g (verifyLaunch c s) = g s := by
  have givenUp : ∀ (pair : Option Nat) (t : State) e, g (giveUpEntry pair t e) = g t := fun pair t e => by
    unfold giveUpEntry
    dsimp only
    split
    · exact (hg.setSflag _ _ _ _).trans (hg.commitDraft t _ _ _)
    · exact hg.commitDraft t _ _ _
  unfold Machine.verifyLaunch
  split
  · rfl
  · exact (hg.launchStep _ _ _ _).trans (foldl_keeps g _ (fun t e => givenUp _ t e) _ s)

theorem setRlayer (k : Nat) (r : RLayer) : g (s.setRlayer k r) = g s := hg.rtc s _

theorem stepLayers (c : Nat) : g (stepLayers c s) = g s := by
  refine foldl_keeps g _ (fun t k => ?_) _ s
  simp only [stepLayer, apply_ite g, hg.setRlayer, hg.raise _ E.fallBack _ _ _ _ _ (by decide), ite_self]

theorem beginCensus (c k : Nat) (x : Step) : g (beginCensus c k x s) = g s :=
  (foldl_keeps g _ (fun t _ => hg.post t _ _) _ _).trans (hg.srv s _)

include hr

theorem beginPass (c p : Nat) : g (beginPass c p s) = g s := by
  have built : ∀ d x, g (buildPass c d p x s) = g s := fun d x => by
    have advanced : ∀ t : State, g t.advance = g t := fun t => ite_keeps g (hg.kvm t _) rfl
    have layers := (hg.stepLayers _ d).trans ((advanced { s with kvm := { s.kvm with wanted := s.kvm.wanted + 1 } }).trans (hg.kvm s _))
    unfold buildPass
    dsimp only
    split
    · exact (hg.verifyLaunch _ c).trans layers
    · exact (hg.srv _ _).trans ((hg.beginCensus _ _ _ _).trans ((hg.srv _ _).trans ((hr _ _).trans layers)))
  unfold Machine.beginPass
  split
  · rfl
  · split
    · exact hg.verifyLaunch s c
    · exact ite_keeps g (built _ _) (hg.verifyLaunch s c)

theorem stepOver (c k : Nat) (x : Step) (idle : Bool) : g (stepOver c k x idle s) = g s := by
  have counted : ∀ e, g (((s.setSeries c k e).setFld (stepReg k) x.num (0x40 * c)).bump C.SEQ_STEPS) = g s := fun e =>
    (hg.bump _ _ _ (by decide)).trans ((hr _ _).trans (hg.srv s _))
  exact (hg.prs _ _).trans (ite_keeps g ((hg.srv _ _).trans (counted _)) (counted _))

/-- A step that commits with nothing kept. -/
theorem commitZero (c k : Nat) (idle : Bool) : g (commitStep c k .zero idle s) = g s := by
  have mirrored : ∀ (num : Nat) xs (t : State), g (mirrorCommit c k num xs t) = g t := fun num xs t =>
    ite_keeps g ((hg.mir _ _).trans ((foldl_keeps g _ (fun u e => hr u _) _ _).trans ((hg.mir _ _).trans (hg.mirrorChanges t xs)))) rfl
  unfold commitStep
  split
  · rfl
  · rw [ite_self]
    exact (mirrored _ _ _).trans ((hg.drainKvm _).trans ((hg.stepOver hr _ _ _ _ _).trans (hg.commitEntries s _ _ _ _ _ _ _)))

/-- The launches and steps of a context that end leave what is beside. -/
theorem endContext (c st : Nat) : g (endContext c st s) = g s := by
  have dropped : ∀ (d : Nat) (t : State), g (dropPass d t) = g t := fun d t => by
    unfold dropPass
    split
    · exact ite_keeps g rfl (hg.stepOver hr t _ _ _ _)
    · rfl
  have cleared := foldl_keeps g _ (fun t p => hg.clearStopped t c st p) [0, 1] s
  refine Eq.trans ?_ cleared
  unfold Machine.endContext zeroSteps
  generalize [0, 1].foldl (Machine.clearStopped c st) s = u
  refine (hg.commitZero hr _ _ _ _).trans ?_
  have passed : ∀ o : Option Nat, g (match o with
      | some d => dropPass d u
      | none => u) = g u := fun o => by
    cases o with
    | some d => exact dropped d u
    | none => rfl
  split
  · exact (hg.beginPass hr _ _ _).trans ((dropped _ _).trans (passed _))
  · exact (hg.commitZero hr _ _ _ _).trans (passed _)

end Steps

end Bystander

end Sys2Proof.Machine
end

section
/-!
SUPPORT. Contexts and their weights (R288 to R294): what each command of block RES leaves of a context.
-/
namespace Sys2Proof.Machine

/-! ### Registers and records of a context -/

section Contexts
variable {s t : State}

theorem State.fld_of_rd (r : FieldRef) (di : Nat) (h : t.rd (r.off + di) = s.rd (r.off + di)) : t.fld r di = s.fld r di :=
  congrArg (bits · r.hi r.lo) h

theorem State.resCtx_congr (c : Nat) (h : t.res.ctxs = s.res.ctxs) : t.resCtx c = s.resCtx c := by rw [State.resCtx, State.resCtx, h]

@[simp] theorem State.resCtx_modRes_same (s : State) (c : Nat) (k : ResCtx → ResCtx) : (s.modRes c k).resCtx c = k (s.resCtx c) :=
  kgetD_kset_same _ _ _ _

theorem State.resCtx_setRes (s : State) (c d st : Nat) : (s.setRes d st).resCtx c = s.resCtx c := rfl

theorem State.resCtx_complete (s : State) (c : Nat) (o : CmdOrigin) (op st hint res : Nat) :
    (s.complete o op st hint res).resCtx c = s.resCtx c := State.resCtx_congr c (congrArg Res.ctxs (s.complete_res o op st hint res))

theorem State.resState_complete (s : State) (c : Nat) (o : CmdOrigin) (op st hint res : Nat) :
    (s.complete o op st hint res).resState c = s.resState c :=
  s.complete_fld o op st hint res F.RES_CTX_STATE_state _ (by simp only [F.RES_CTX_STATE_state]; omega)

theorem State.resState_setRes (s : State) (c st : Nat) (h : st < 4) : (s.setRes c st).resState c = st :=
  (s.fld_setFld_same F.RES_CTX_STATE_state st _ (by decide) (by decide)).trans (Nat.mod_eq_of_lt h)

/-- The fields of another register of the context leave its state. -/
theorem State.resState_setFld (s : State) (c v : Nat) (r : FieldRef) (h : r.off ≠ 0x1601000) :
    (s.setFld r v (0x80 * c)).resState c = s.resState c := s.fld_setFld_apart r F.RES_CTX_STATE_state v _ h.symm

theorem State.resState_setHome (s : State) (c v : Nat) : (s.setFld F.RES_CTX_STATE_home v (0x80 * c)).resState c = s.resState c :=
  s.fld_setFld_below F.RES_CTX_STATE_home F.RES_CTX_STATE_state v _ rfl (by decide) (by decide) (by decide) (by decide)

end Contexts

/-! ### Weight ranges and copies beside a reading -/

namespace Bystander
variable {α : Type} {g : State → α} (hg : Bystander g) (s : State)
include hg

theorem mapWeights (c : Nat) (k : Nat → Nat → Nat) : g (mapWeights c k s) = g s := by
  refine (hg.dropCached _).trans (foldl_keeps g _ (fun t p => ?_) _ s)
  split
  · exact hg.put8 t _ _
  · rfl

theorem releaseAll (c : Nat) : g (releaseAll c s) = g s := by
  refine foldl_keeps g _ (fun t n => ?_) _ s
  unfold grantSem
  dsimp only
  split
  · exact hg.sems t _
  · exact (hg.complete _ _ _ _ _ _).trans (hg.sems t _)

end Bystander

theorem State.mapWeights_fld (s : State) (c : Nat) (k : Nat → Nat → Nat) (r : FieldRef) (di : Nat) (h : (r.off + di) % 32 ≠ 16) :
    (mapWeights c k s).fld r di = s.fld r di := State.fld_of_rd r di ((bystander_rd h).mapWeights s c k)

theorem State.mapWeights_resCtx (s : State) (c d : Nat) (k : Nat → Nat → Nat) : (mapWeights c k s).resCtx d = s.resCtx d :=
  State.resCtx_congr d (congrArg Prod.fst (bystander_mc.mapWeights s c k))

/-! ### LOAD_CTX and UNLOAD_CTX (R289, R292) -/

section Load
variable (s : State) (r : GenRec)

/-- A LOAD_CTX that is not refused names tier 1 or tier 2. -/
theorem home_of_loadCtxRefusal (h : s.loadCtxRefusal r = none) : r.home = 1 ∨ r.home = 2 := by
  have hf := firstOf_eq_none h (_, St.format) (List.mem_cons_of_mem _ (List.mem_cons_self ..))
  simp only [Bool.or_eq_false_iff, Bool.not_eq_false', Bool.or_eq_true, decide_eq_true_eq] at hf
  exact hf.1.2

theorem loadCtxEffect_gen : (loadCtxEffect r s).gen r.ctx 0 = some ((if r.home = 1 then mapToShare r.ctx s else mapToImage r.ctx s).genOf r) ∧
    (loadCtxEffect r s).gen r.ctx 1 = none :=
  ⟨kget_kset_same _ _ _, (kget_kset_ne _ _ _ _ (by omega)).trans (kget_kdel_same _ _)⟩

/-- The registers of its context that LOAD_CTX writes last. -/
theorem loadCtxEffect_state : (loadCtxEffect r s).resState r.ctx = (if r.home = 1 then 3 else 1) ∧
    (loadCtxEffect r s).fld F.RES_CTX_STATE_home (0x80 * r.ctx) = r.home % 4 :=
  ⟨(State.resState_setHome _ _ _).trans (State.resState_setRes _ _ _ (by split <;> decide)),
    State.fld_setFld_same _ F.RES_CTX_STATE_home _ _ (by decide) (by decide)⟩

/-- The registers of generations and runs that LOAD_CTX leaves to its end. -/
theorem loadCtxEffect_below (q : FieldRef) (h : q.off < 0x1600000) : ∃ u : State, (loadCtxEffect r s).fld q (0x40 * r.ctx) =
    ((((((u.setFld F.SEQ_CTX_GEN_current r.generation (0x40 * r.ctx)).setFld F.SEQ_CTX_GEN_other 0 (0x40 * r.ctx)).setFld
      F.SEQ_CTX_GEN_STATUS_current_valid 1 (0x40 * r.ctx)).setFld F.SEQ_CTX_GEN_STATUS_other 0 (0x40 * r.ctx)).setFld
      F.SEQ_CTX_CTRL_run 0 (0x40 * r.ctx))).fld q (0x40 * r.ctx) :=
  ⟨_, (State.fld_setFld_ne _ F.RES_CTX_STATE_home q _ _ _ (by simp only [F.RES_CTX_STATE_home]; omega)).trans
    (State.fld_setFld_ne _ F.RES_CTX_STATE_state q _ _ _ (by simp only [F.RES_CTX_STATE_state]; omega))⟩

theorem loadCtxEffect_runs : (loadCtxEffect r s).runs r.ctx = false := by
  obtain ⟨u, e⟩ := loadCtxEffect_below s r F.SEQ_CTX_CTRL_run (by decide)
  rw [State.runs, State.flag, e, State.fld_setFld_same _ F.SEQ_CTX_CTRL_run _ _ (by decide) (by decide)]
  rfl

/-- LOAD_CTX makes its generation the current one. -/
theorem loadCtxEffect_curGen (h : r.generation < 2 ^ 16) : (loadCtxEffect r s).curGen r.ctx = some r.generation := by
  have valid : (loadCtxEffect r s).fld F.SEQ_CTX_GEN_STATUS_current_valid (0x40 * r.ctx) = 1 := by
    obtain ⟨u, e⟩ := loadCtxEffect_below s r F.SEQ_CTX_GEN_STATUS_current_valid (by decide)
    rw [e, State.fld_setFld_apart _ _ _ _ _ (by decide), State.fld_setFld_below _ F.SEQ_CTX_GEN_STATUS_other
      F.SEQ_CTX_GEN_STATUS_current_valid _ _ rfl (by decide) (by decide) (by decide) (by decide)]
    exact State.fld_setFld_same _ F.SEQ_CTX_GEN_STATUS_current_valid _ _ (by decide) (by decide)
  have number : (loadCtxEffect r s).fld F.SEQ_CTX_GEN_current (0x40 * r.ctx) = r.generation := by
    obtain ⟨u, e⟩ := loadCtxEffect_below s r F.SEQ_CTX_GEN_current (by decide)
    rw [e, State.fld_setFld_apart _ _ _ _ _ (by decide), State.fld_setFld_apart _ _ _ _ _ (by decide),
      State.fld_setFld_apart _ _ _ _ _ (by decide), State.fld_setFld_below _ F.SEQ_CTX_GEN_other F.SEQ_CTX_GEN_current _ _ rfl
      (by decide) (by decide) (by decide) (by decide)]
    exact (State.fld_setFld_same _ F.SEQ_CTX_GEN_current _ _ (by decide) (by decide)).trans (Nat.mod_eq_of_lt h)
  rw [State.curGen, State.flag, valid, number]
  rfl

end Load

section Unload
variable (s : State) (c : Nat)

/-- Generations and their registers as UNLOAD_CTX clears them. -/
def clearGens (c : Nat) (s : State) : State :=
  let s := { s with srv := { s.srv with gens := kdel (kdel s.srv.gens (2 * c)) (2 * c + 1) } }
  let s := ((s.clearLayers c 0).clearLayers c 1).wr (F.SEQ_CTX_GEN_current.off + 0x40 * c) 0
  (s.setFld F.SEQ_CTX_GEN_STATUS_current_valid 0 (0x40 * c)).setFld F.SEQ_CTX_GEN_STATUS_other 0 (0x40 * c)

/-- What UNLOAD_CTX gives back when its generations are cleared: semaphores, shard entries, weight pages and staged data. -/
def unloadRest (c : Nat) (s : State) : State :=
  let s := releaseAll c (dropWaiters c s)
  let s := (s.shdUsed.filter fun i => s.shdGet i 113 1 % 16 = c).foldl (fun s i => s.shdPut i 112 [0]) s
  dropStaged (fun g => g.ctx = c) (mapWeights c (fun _ e => e / 2 * 2) s)

/-- The end of UNLOAD_CTX: no commands of the context, state ABSENT. -/
def unloadEnd (c : Nat) (s : State) : State :=
  (({ s with res := { s.res with ctxs := kdel s.res.ctxs c } } : State).setRes c 0).setFld F.RES_CTX_STATE_home 0 (0x80 * c)

theorem unloadEffect_eq : ∃ u, unloadEffect c s = unloadEnd c (unloadRest c (clearGens c u)) := ⟨_, rfl⟩

theorem unloadEnd_spec : (unloadEnd c s).resState c = 0 ∧ kget (unloadEnd c s).res.ctxs c = none ∧ (unloadEnd c s).srv = s.srv :=
  ⟨(State.resState_setHome _ _ _).trans (State.resState_setRes _ _ _ (by decide)), kget_kdel_same _ _, rfl⟩

theorem unloadEnd_valid : (unloadEnd c s).fld F.SEQ_CTX_GEN_STATUS_current_valid (0x40 * c) =
    s.fld F.SEQ_CTX_GEN_STATUS_current_valid (0x40 * c) :=
  (State.fld_setFld_ne _ F.RES_CTX_STATE_home _ _ _ _ (by simp only [F.RES_CTX_STATE_home, F.SEQ_CTX_GEN_STATUS_current_valid]; omega)).trans
    (State.fld_setFld_ne _ F.RES_CTX_STATE_state _ _ _ _ (by simp only [F.RES_CTX_STATE_state, F.SEQ_CTX_GEN_STATUS_current_valid]; omega))

theorem clearGens_gen : (clearGens c s).gen c 0 = none ∧ (clearGens c s).gen c 1 = none :=
  ⟨(kget_kdel_ne _ _ _ (by omega)).trans (kget_kdel_same _ _), kget_kdel_same _ _⟩

theorem clearGens_invalid : (clearGens c s).fld F.SEQ_CTX_GEN_STATUS_current_valid (0x40 * c) = 0 :=
  (State.fld_setFld_below _ F.SEQ_CTX_GEN_STATUS_other F.SEQ_CTX_GEN_STATUS_current_valid _ _ rfl (by decide) (by decide) (by decide)
    (by decide)).trans (State.fld_setFld_same _ F.SEQ_CTX_GEN_STATUS_current_valid _ _ (by decide) (by decide))

theorem shdPuts_keeps {α : Type} (g : State → α) (hg : ∀ (t : State) x, g { t with mem := x } = g t) (l : List Nat) (t : State) :
    g (l.foldl (fun u i => u.shdPut i 112 [0]) t) = g t := foldl_keeps g _ (fun u _ => hg u _) l t

theorem unloadRest_srv : (unloadRest c s).srv = s.srv := by
  have granted : ∀ (t : State) n, (grantSem n t).srv = t.srv := fun t n => by
    unfold grantSem
    dsimp only
    split
    · rfl
    · exact State.complete_srv _ _ _ _ _ _
  have waiters : (dropWaiters c s).srv = s.srv :=
    (foldl_keeps State.srv _ (fun t o => State.complete_srv t o _ _ _ _) _ _).trans
      (foldl_keeps State.srv (fun t n => t.setSem n { t.sem n with wait := (t.sem n).wait.filter fun w => w.1 ≠ c }) (fun _ _ => rfl) _ s)
  have weights : ∀ k (t : State), (mapWeights c k t).srv = t.srv := fun k t => by
    refine (State.dropCached_srv _).trans (foldl_keeps State.srv _ (fun u p => ?_) _ t)
    split
    · rfl
    · rfl
  exact (dropStaged_srv _ _).trans ((weights _ _).trans ((shdPuts_keeps State.srv (fun _ _ => rfl) _ _).trans
    ((foldl_keeps State.srv _ (fun t n => granted t n) _ _).trans waiters)))

theorem unloadRest_fld (r : FieldRef) (di : Nat) (h : (r.off + di) % 32 ≠ 16) : (unloadRest c s).fld r di = s.fld r di := by
  have hg := bystander_rd h
  exact State.fld_of_rd r di ((hg.dropStaged _ _).trans ((hg.mapWeights _ c _).trans ((shdPuts_keeps (·.rd (r.off + di)) hg.mem _ _).trans
    ((hg.releaseAll _ c).trans (hg.dropWaiters s c)))))

/-- UNLOAD_CTX leaves its context ABSENT, without generations and without commands. -/
theorem unloadEffect_spec : (unloadEffect c s).resState c = 0 ∧ (unloadEffect c s).curGen c = none ∧ (unloadEffect c s).gen c 0 = none ∧
    (unloadEffect c s).gen c 1 = none ∧ kget (unloadEffect c s).res.ctxs c = none := by
  obtain ⟨u, e⟩ := unloadEffect_eq s c
  obtain ⟨gen0, gen1⟩ := clearGens_gen u c
  have invalid := clearGens_invalid u c
  rw [e]
  generalize clearGens c u = v at gen0 gen1 invalid
  rw [← unloadRest_fld v c _ _ (by simp only [F.SEQ_CTX_GEN_STATUS_current_valid]; omega)] at invalid
  have srv := unloadRest_srv v c
  generalize unloadRest c v = w at invalid srv
  obtain ⟨hstate, hctxs, hsrv⟩ := unloadEnd_spec w c
  rw [State.gen, ← srv, ← hsrv] at gen0 gen1
  rw [← unloadEnd_valid w c] at invalid
  refine ⟨hstate, ?_, gen0, gen1, hctxs⟩
  rw [State.curGen, State.flag, invalid]
  rfl

end Unload

/-! ### PROMOTE, DEMOTE and PREEMPT (R290, R291, R294) -/

section Slow
variable (s : State) (c : Nat)

theorem State.mapWeights_resState (d : Nat) (k : Nat → Nat → Nat) : (mapWeights c k s).resState d = s.resState d :=
  s.mapWeights_fld c k F.RES_CTX_STATE_state _ (by simp only [F.RES_CTX_STATE_state]; omega)

/-- One page of a promotion's copy, read without poison. -/
theorem copyPage_good (p : Nat) (h : s.mem.poisoned 2 (s.imageBase c + 65536 * p) 65536 = false) :
    copyPage c s p = (s.tread 2 (s.imageBase c + 65536 * p) 65536).twrite 1 (s.shareBase c + 65536 * p)
      (s.mem.read 2 (s.imageBase c + 65536 * p) 65536) := by
  simp [copyPage, h]

/-- The next page of a promotion. -/
theorem promoteFront_one (hc : c < 16) (h2 : s.resState c = 2) {f : Nat} (hf : s.fld F.RES_CTX_FRONT_pages (0x80 * c) = f)
    (hlt : f < s.weightPages c) (hl : s.loadHeld 2 (s.imageBase c + 65536 * f) 65536 = false) :
    promoteFront c 1 s = (copyPage c s f).setFld F.RES_CTX_FRONT_pages (f + 1) (0x80 * c) := by
  have one : min 1 (s.weightPages c - f) = 1 := by omega
  simp [promoteFront, hf, one, hc, h2, hl]

theorem promoteFront_spec (hc : c < 16) (h2 : s.resState c = 2) {f : Nat} (hf : s.fld F.RES_CTX_FRONT_pages (0x80 * c) = f)
    (hlt : f < s.weightPages c) (hl : s.loadHeld 2 (s.imageBase c + 65536 * f) 65536 = false)
    (hp : s.mem.poisoned 2 (s.imageBase c + 65536 * f) 65536 = false) :
    (promoteFront c 1 s).fld F.RES_CTX_FRONT_pages (0x80 * c) = f + 1 ∧ (promoteFront c 1 s).resState c = 2 ∧
      (promoteFront c 1 s).mem = s.mem.write 1 (s.shareBase c + 65536 * f) (s.mem.read 2 (s.imageBase c + 65536 * f) 65536) := by
  have bound : f + 1 < 2 ^ 26 := Nat.lt_of_le_of_lt hlt (bits_lt _ _ _)
  rw [promoteFront_one s c hc h2 hf hlt hl, copyPage_good s c f hp]
  refine ⟨?_, ?_, ?_⟩
  · exact (State.fld_setFld_same _ F.RES_CTX_FRONT_pages _ _ (by decide) (by decide)).trans (Nat.mod_eq_of_lt bound)
  · have hg : Bystander (·.rd (F.RES_CTX_STATE_state.off + 0x80 * c)) := bystander_rd (by simp only [F.RES_CTX_STATE_state]; omega)
    rw [State.resState_setFld _ _ _ _ (by decide), ← h2]
    exact State.fld_of_rd F.RES_CTX_STATE_state _ ((hg.twrite _ _ _ _ _).trans (hg.tread s _ _ _))
  · rw [State.setFld_mem, State.twrite_mem, State.tread_mem]

theorem sharedSettled_fld (o : CmdOrigin) (op : Nat) (k : ResCtx → ResCtx) (r : FieldRef) (di : Nat) (h : (r.off + di) % 32 ≠ 16) :
    (((mapToShare c s).modRes c k).settle o op).fld r di = s.fld r di := by
  have mapped := State.mapWeights_fld s c (fun p _ => s.weightLeaf 1 (s.shareBase c) p) r di h
  rw [← mapped]
  exact State.fld_congr _ _ (State.settle_regs _ o op) r di

theorem sharedSettled_resCtx (o : CmdOrigin) (op : Nat) (k : ResCtx → ResCtx) :
    (((mapToShare c s).modRes c k).settle o op).resCtx c = k (s.resCtx c) := by
  rw [State.resCtx_congr c (congrArg Res.ctxs (State.settle_res _ _ _)), State.resCtx_modRes_same, mapToShare, State.mapWeights_resCtx]

/-- A PROMOTE's context is PROMOTING with its front at the first page. -/
theorem promoting_spec : ((s.setRes c 2).setFld F.RES_CTX_FRONT_pages 0 (0x80 * c)).resState c = 2 ∧
    ((s.setRes c 2).setFld F.RES_CTX_FRONT_pages 0 (0x80 * c)).fld F.RES_CTX_FRONT_pages (0x80 * c) = 0 ∧
    ((s.setRes c 2).setFld F.RES_CTX_FRONT_pages 0 (0x80 * c)).resCtx c = s.resCtx c :=
  ⟨(State.resState_setFld _ c _ _ (by decide)).trans (State.resState_setRes s c 2 (by decide)),
    State.fld_setFld_same _ F.RES_CTX_FRONT_pages _ _ (by decide) (by decide), rfl⟩

/-- A DEMOTE maps its weights to the image and waits. -/
theorem demoteEffect_spec (o : CmdOrigin) (k : ResCtx → ResCtx) :
    ((mapToImage c (s.modRes c k)).settle o 0x33).resState c = s.resState c ∧
      ((mapToImage c (s.modRes c k)).settle o 0x33).resCtx c = k (s.resCtx c) := by
  constructor
  · exact (State.fld_congr _ _ (State.settle_regs _ _ _) _ _).trans (State.mapWeights_resState _ c c _)
  · rw [State.resCtx_congr c (congrArg Res.ctxs (State.settle_res _ _ _)), mapToImage, State.mapWeights_resCtx, State.resCtx_modRes_same]

/-- A PREEMPT stops its context: its record stays as the command made it, and its run is over. -/
theorem preemptEffect_spec (o : CmdOrigin) (st : Nat) (k : ResCtx → ResCtx) :
    ((dropWaiters c (stopContext c st false true (s.modRes c k))).settle o 0x34).resCtx c = k (s.resCtx c) ∧
      ((dropWaiters c (stopContext c st false true (s.modRes c k))).settle o 0x34).runs c = false := by
  have stopped : ∀ {α : Type} (g : State → α), Bystander g →
      g ((dropWaiters c (stopContext c st false true (s.modRes c k))).settle o 0x34) =
        g ((s.modRes c k).setFld F.SEQ_CTX_CTRL_run 0 (0x40 * c)) := fun g hg =>
    (hg.settle _ _ _).trans ((hg.dropWaiters _ c).trans (hg.stopContext _ c st false true))
  have beside := stopped State.mc bystander_mc
  have run := stopped (·.rd (F.SEQ_CTX_CTRL_run.off + 0x40 * c)) (bystander_rd (by simp only [F.SEQ_CTX_CTRL_run]; omega))
  generalize (dropWaiters c (stopContext c st false true (s.modRes c k))).settle o 0x34 = t at beside run
  constructor
  · exact (State.resCtx_congr c (Prod.mk.inj beside).1).trans (s.resCtx_modRes_same c k)
  · rw [State.runs, State.flag, State.fld_of_rd F.SEQ_CTX_CTRL_run _ run,
      State.fld_setFld_same _ F.SEQ_CTX_CTRL_run _ _ (by decide) (by decide)]
    rfl

/-- The end of a PREEMPT, whose launches and steps have ended. -/
theorem preemptEnd_spec (o : CmdOrigin) (st : Nat) (k : ResCtx → ResCtx) (hk : ∀ r, (k r).preempt = none) :
    let t := (((endContext c st s).modRes c k).bump C.RES_PREEMPTS).complete o 0x34 St.done
    (t.resCtx c).preempt = none ∧ t.res.queue = s.res.queue ∧
      t.counter C.RES_PREEMPTS = min (2 ^ 48 - 1) (s.counter C.RES_PREEMPTS + 1) := by
  intro t
  obtain ⟨-, rest⟩ := Prod.mk.inj (bystander_mc.endContext (fun _ _ => rfl) s c st)
  obtain ⟨queue, count⟩ := Prod.mk.inj rest
  refine ⟨?_, ?_, ?_⟩
  · rw [State.resCtx_complete, State.resCtx_congr c (congrArg Res.ctxs (State.bump_res _ _ _)), State.resCtx_modRes_same, hk]
  · refine (congrArg Res.queue ((State.complete_res _ _ _ _ _ _).trans (State.bump_res _ _ _))).trans ?_
    exact queue
  · rw [State.complete_counter _ _ (by decide), State.bump_counter_same _ _ _ (by decide)]
    exact congrArg (fun n => min (2 ^ 48 - 1) (n + 1)) count

end Slow

end Sys2Proof.Machine
end

section
/-!
O47: the residency commands (R287 to R294), handled at once or in their turn, and the ends of the slow ones.
-/
namespace Sys2Proof.Machine

section Refusals
variable {s : State} {o : CmdOrigin} {c : Nat} (hc : c < 16)
include hc

theorem unloadCtx_runs (h : s.resident c = true) (hr : s.runs c = false) (hn : s.noSteps c = true) (hl : s.loading c = false) :
    unloadCtx o c false s = (unloadEffect c s).complete o 0x31 St.done := by
  simp [unloadCtx, orElse, firstOf, Nat.not_le.2 hc, h, hr, hn, hl]

theorem unloadCtx_refused (h : s.resident c = false ∨ s.runs c = true) : unloadCtx o c false s = s.complete o 0x31 St.state := by
  have bad : (!s.resident c || s.runs c || !s.noSteps c || s.loading c) = true := by
    rcases h with h | h
    · simp [h]
    · simp [h]
  simp [unloadCtx, orElse, firstOf, Nat.not_le.2 hc, bad]

theorem promote_runs (h : s.resState c = 1) (hl : s.loading c = false) (ht : s.shareTaken c = false) : promote o c false s =
    ((mapToShare c ((s.setRes c 2).setFld F.RES_CTX_FRONT_pages 0 (0x80 * c))).modRes c
      fun r => { r with promote := some o, copyPoison := false }).settle o 0x32 := by
  simp [promote, orElse, firstOf, Nat.not_le.2 hc, h, hl, ht]

theorem promote_refused (h : s.resState c ≠ 1) : promote o c false s = s.complete o 0x32 St.state := by
  simp [promote, orElse, firstOf, Nat.not_le.2 hc, h]

theorem demote_runs (h : s.resState c = 3) (h2 : s.fld F.RES_CTX_STATE_home (0x80 * c) = 2) : demote o c false s =
    (mapToImage c (s.modRes c fun r => { r with demote := some o })).settle o 0x33 := by
  simp [demote, orElse, firstOf, Nat.not_le.2 hc, h, h2]

theorem demote_refused (h : s.resState c ≠ 3) : demote o c false s = s.complete o 0x33 St.state := by
  simp [demote, orElse, firstOf, Nat.not_le.2 hc, h]

theorem preempt_runs (h : s.resident c = true) : preempt o c false s = (dropWaiters c (stopContext c St.preempt false true (s.modRes c
    fun r => { r with preempt := some o, preemptAt := if r.preemptAt.isNone then some s.us else r.preemptAt }))).settle o 0x34 := by
  simp [preempt, orElse, firstOf, Nat.not_le.2 hc, h]

theorem preempt_refused (h : s.resident c = false) : preempt o c false s = s.complete o 0x34 St.state := by
  simp [preempt, orElse, firstOf, Nat.not_le.2 hc, h]

end Refusals

/-- A context that LOAD_CTX leaves with its answer: its state and home, its generation current and alone, not running. -/
theorem loadCtx_loads (s : State) (o : CmdOrigin) (r : GenRec) (h : s.loadCtxRefusal r = none) (hgen : r.generation < 2 ^ 16) :
    ∃ t, loadCtx o r s = t ∧ t.resState r.ctx = (if r.home = 1 then 3 else 1) ∧ t.fld F.RES_CTX_STATE_home (0x80 * r.ctx) = r.home ∧
      t.curGen r.ctx = some r.generation ∧ (t.gen r.ctx 0).map (·.num) = some r.generation ∧ t.gen r.ctx 1 = none ∧
      t.runs r.ctx = false := by
  obtain ⟨hstate, hhome⟩ := loadCtxEffect_state s r
  obtain ⟨hgen0, hgen1⟩ := loadCtxEffect_gen s r
  have small : r.home % 4 = r.home := by
    rcases home_of_loadCtxRefusal s r h with h | h
    · rw [h]
    · rw [h]
  refine ⟨(loadCtxEffect r s).complete o 0x30 St.done, ?_, ?_, ?_, ?_, ?_, ?_, ?_⟩
  · rw [loadCtx, h]
    rfl
  · rw [State.resState_complete, hstate]
  · rw [State.complete_fld _ _ _ _ _ _ _ _ (by simp only [F.RES_CTX_STATE_home]; omega), hhome, small]
  · rw [State.complete_curGen, loadCtxEffect_curGen s r hgen]
  · rw [State.complete_gen, hgen0]
    rfl
  · rw [State.complete_gen, hgen1]
  · rw [State.runs, State.flag, State.complete_fld _ _ _ _ _ _ _ _ (by simp only [F.SEQ_CTX_CTRL_run]; omega)]
    exact loadCtxEffect_runs s r

/-! ### The ends of the slow commands -/

section Ends
variable {s : State} {c : Nat}

theorem promoteFront_idle (p : Nat) (h : s.resState c ≠ 2) : promoteFront c p s = s := by simp [promoteFront, h]

theorem promoteCopyDone_copying (h : s.fld F.RES_CTX_FRONT_pages (0x80 * c) < s.weightPages c) : promoteCopyDone c s = s := by
  unfold promoteCopyDone
  dsimp only
  split
  · rfl
  · rw [if_pos h]

/-- A copy that has reached the end of the range makes its context PROMOTED. -/
theorem promoteCopyDone_spec {q : CmdOrigin} (hq : (s.resCtx c).promote = some q)
    (h : s.weightPages c ≤ s.fld F.RES_CTX_FRONT_pages (0x80 * c)) : (promoteCopyDone c s).resState c = 3 ∧
      ((promoteCopyDone c s).resCtx c).promote = none ∧
      (promoteCopyDone c s).counter C.RES_PROMOTIONS = min (2 ^ 48 - 1) (s.counter C.RES_PROMOTIONS + 1) := by
  simp only [promoteCopyDone, hq, if_neg (Nat.not_lt.2 h)]
  refine ⟨?_, ?_, ?_⟩
  · rw [State.resState_complete, State.resState, State.bump_fld]
    exact State.resState_setRes _ c 3 (by decide)
  · rw [State.resCtx_complete, State.resCtx_congr c (congrArg Res.ctxs (State.bump_res _ _ _)), State.resCtx_setRes,
      State.resCtx_modRes_same]
  · rw [State.complete_counter _ _ (by decide), State.bump_counter_same _ _ _ (by decide)]
    rfl

theorem demoteComplete_building (h : s.noSteps c = false) : demoteComplete c s = s := by
  unfold demoteComplete
  split
  · rfl
  · rw [h]
    rfl

/-- A DEMOTE whose steps have committed leaves its context RESIDENT. -/
theorem demoteComplete_spec {q : CmdOrigin} (hq : (s.resCtx c).demote = some q) (h : s.noSteps c = true) (hw : s.res.queue = []) :
    (demoteComplete c s).resState c = 1 ∧ ((demoteComplete c s).resCtx c).demote = none := by
  have queue : ∀ k, ((((s.modRes c k).setRes c 1).complete q 0x33 St.done).res.queue) = [] := fun k =>
    (congrArg Res.queue (State.complete_res _ _ _ _ _ _)).trans hw
  simp only [demoteComplete, hq, h, Bool.not_true, Bool.false_eq_true, if_false, queue, List.length_nil, drainRes]
  rw [State.resState_complete, State.resState_setRes _ _ _ (by decide), State.resCtx_complete, State.resCtx_setRes,
    State.resCtx_modRes_same]
  exact ⟨rfl, rfl⟩

theorem preemptComplete_running (h : s.launchesQuiet c = false) : preemptComplete c s = s := by
  unfold preemptComplete
  split
  · rfl
  · rw [h]
    rfl

/-- A PREEMPT whose launches are over and whose steps no mirror peer holds completes. -/
theorem preemptComplete_eq {q : CmdOrigin} (hq : (s.resCtx c).preempt = some q) (hl : s.launchesQuiet c = true)
    (hm : s.mirrorHeld c = false) (hw : s.res.queue = []) : preemptComplete c s =
      (((endContext c St.preempt s).modRes c fun r => { r with preempt := none }).bump C.RES_PREEMPTS).complete q 0x34 St.done := by
  obtain ⟨-, queue, -⟩ := preemptEnd_spec s c q St.preempt (fun r => { r with preempt := none }) fun _ => rfl
  simp only [preemptComplete, hq, hl, hm, Bool.not_true, Bool.or_self, Bool.false_eq_true, if_false]
  rw [queue, hw]
  rfl

end Ends

/-! ### The statement -/

/-- Settles O47: the commands that wait, each command with its refusals and effect, and the ends of the slow ones. -/
theorem residencyCommandsRun : Obligations.ResidencyCommandsRun := by
  unfold Obligations.ResidencyCommandsRun
  intro s o c ht hc
  have hp : s.power = .running := ht.1
  refine ⟨fun i x r hi hb => ?_, fun hb hq => ?_, fun h2 hlt => ?_, fun p h2 => ?_, fun q hq hle => ?_, fun hlt => ?_,
    fun q hq hn hw => ?_, fun hn => ?_, fun q hq hl hm hw => ?_, fun hl => ?_⟩
  · have waits : ∀ y, (∀ c v, y ≠ .preempt c v) → exec i s = .next (s.on (resCmd o y)) →
        exec i s = .next { s with res := { s.res with queue := s.res.queue ++ [(o, y)] } } := fun y hy hi =>
      (exec_running _ hi hp).trans (congrArg _ (resCmd_waits ht y hy hb))
    simp only [List.mem_cons, Prod.mk.injEq, List.not_mem_nil, or_false] at hi
    obtain ⟨rfl, rfl⟩ | ⟨rfl, rfl⟩ | ⟨rfl, rfl⟩ | ⟨rfl, rfl⟩ | ⟨rfl, rfl⟩ | ⟨rfl, rfl⟩ := hi
    · exact waits (.load r) nofun rfl
    · exact waits (.unload c false) nofun rfl
    · exact waits (.promote c false) nofun rfl
    · exact waits (.demote c false) nofun rfl
    · exact waits (.acquire c 0 true false) nofun rfl
    · exact waits (.release c 0 false) nofun rfl
  · have loads : ∀ r, exec (.loadCtx o r) s = .next (loadCtx o r s) := fun r => exec_resHandled ht (x := .load r) rfl hb hq
    have unloads : exec (.unloadCtx o c false) s = .next (unloadCtx o c false s) := exec_resHandled ht (x := .unload c false) rfl hb hq
    have promotes : exec (.promote o c false) s = .next (promote o c false s) := exec_resHandled ht (x := .promote c false) rfl hb hq
    have demotes : exec (.demote o c false) s = .next (demote o c false s) := exec_resHandled ht (x := .demote c false) rfl hb hq
    have preempts : exec (.preempt o c false) s = .next (preempt o c false s) := exec_resHandled ht (x := .preempt c false) rfl hb hq
    refine ⟨fun r hr => ⟨fun st hst => ?_, fun hst hgen => ?_⟩, fun h1 h2 h3 h4 => ?_, fun h => ?_, fun h1 h2 h3 => ?_, fun h => ?_,
      fun h1 h2 => ?_, fun h => ?_, fun h => ?_, fun h => ?_⟩
    · rw [loads, loadCtx, hst]
      rfl
    · subst hr
      obtain ⟨t, eq, loaded⟩ := loadCtx_loads s o r hst hgen
      exact ⟨t, (loads r).trans (congrArg _ eq), loaded⟩
    · obtain ⟨hstate, hcur, hgen0, hgen1, hctxs⟩ := unloadEffect_spec s c
      refine ⟨_, unloads.trans (congrArg _ (unloadCtx_runs hc h1 h2 h3 h4)), ?_, ?_, ?_, ?_, ?_⟩
      · rw [State.resState_complete, hstate]
      · rw [State.complete_curGen, hcur]
      · rw [State.complete_gen, hgen0]
      · rw [State.complete_gen, hgen1]
      · rw [State.complete_res, hctxs]
    · exact unloads.trans (congrArg _ (unloadCtx_refused hc h))
    · obtain ⟨hstate, hfront, hctx⟩ := promoting_spec s c
      refine ⟨_, promotes.trans (congrArg _ (promote_runs hc h1 h2 h3)), ?_, ?_, ?_⟩
      · rw [State.resState, sharedSettled_fld _ _ _ _ _ _ _ (by simp only [F.RES_CTX_STATE_state]; omega)]
        exact hstate
      · rw [sharedSettled_fld _ _ _ _ _ _ _ (by simp only [F.RES_CTX_FRONT_pages]; omega), hfront]
      · rw [sharedSettled_resCtx, hctx]
    · exact promotes.trans (congrArg _ (promote_refused hc h))
    · obtain ⟨hstate, hctx⟩ := demoteEffect_spec s c o fun r => { r with demote := some o }
      exact ⟨_, demotes.trans (congrArg _ (demote_runs hc h1 h2)), hstate.trans h1, hctx⟩
    · exact demotes.trans (congrArg _ (demote_refused hc h))
    · obtain ⟨hctx, hruns⟩ := preemptEffect_spec s c o St.preempt fun r =>
        { r with preempt := some o, preemptAt := if r.preemptAt.isNone then some s.us else r.preemptAt }
      refine ⟨_, preempts.trans (congrArg _ (preempt_runs hc h)), ?_, ?_, hruns⟩
      · rw [hctx]
      · rw [hctx]
        cases hat : (s.resCtx c).preemptAt with
        | none => rfl
        | some us => rfl
    · exact preempts.trans (congrArg _ (preempt_refused hc h))
  · intro f hl hpois
    exact ⟨_, exec_running (promoteFront c 1) rfl hp, promoteFront_spec s c hc h2 rfl hlt hl hpois⟩
  · rw [exec_running (promoteFront c p) rfl hp, promoteFront_idle p h2]
  · exact ⟨_, (exec_running _ rfl hp).trans (congrArg _ (if_pos hc)), promoteCopyDone_spec hq hle⟩
  · rw [exec_running _ rfl hp, if_pos hc, promoteCopyDone_copying hlt]
  · exact ⟨_, (exec_running _ rfl hp).trans (congrArg _ (if_pos hc)), demoteComplete_spec hq hn hw⟩
  · rw [exec_running _ rfl hp, if_pos hc, demoteComplete_building hn]
  · obtain ⟨hctx, -, hcount⟩ := preemptEnd_spec s c q St.preempt (fun r => { r with preempt := none }) fun _ => rfl
    have done := preemptComplete_eq hq hl hm hw
    exact ⟨_, (exec_running _ rfl hp).trans (congrArg _ ((if_pos hc).trans done)), hctx, hcount⟩
  · rw [exec_running _ rfl hp, if_pos hc, preemptComplete_running hl]

end Sys2Proof.Machine
end

section
/-!
SUPPORT. Shard loads: entries of the shard table, and a load that is alone in progress, its reads and its payload.
-/
namespace Sys2Proof.Machine

/-! ### Bytes written, whatever the memory held

Only a byte that is written as zero needs a canonical memory to read back. The bytes of an entry that say its state and its
place are not zero, so O19 can speak of them without that premise. -/

/-- A byte other than the default reads as written, in a canonical memory or not. -/
theorem cellGet_cellSet_of_ne {d b : Byte} (m : List Host.Cell) (a : Nat) (hb : b ≠ d) : cellGet d (cellSet d m a b) a = b := by
  induction m with
  | nil => simp [cellSet, cellGet, hb]
  | cons e m ih =>
    obtain ⟨j, c⟩ := e
    rcases Nat.lt_trichotomy a j with h | rfl | h
    · simp [cellSet, cellGet, h, hb]
    · simp [cellSet, cellGet, hb]
    · simp [cellSet, cellGet, Nat.lt_asymm h, Nat.ne_of_gt h, Nat.ne_of_lt h, ih]

/-- A write above a byte other than the default leaves it, in a canonical memory or not. -/
theorem cellGet_cellSet_above {d : Byte} (m : List Host.Cell) {a x : Nat} (b : Byte) (hx : x < a) (hd : cellGet d m x ≠ d) :
    cellGet d (cellSet d m a b) x = cellGet d m x := by
  induction m with
  | nil => exact absurd rfl hd
  | cons e m ih =>
    obtain ⟨j, c⟩ := e
    have hj : j ≤ x := Nat.le_of_not_lt fun hj => hd (by simp only [cellGet, if_neg (Nat.ne_of_gt hj), if_pos hj])
    rcases Nat.lt_or_eq_of_le hj with h | rfl
    · have hm : cellGet d m x ≠ d := by simpa [cellGet, Nat.ne_of_lt h, Nat.lt_asymm h] using hd
      simp [cellSet, cellGet, show ¬ a < j by omega, show a ≠ j by omega, Nat.ne_of_lt h, Nat.lt_asymm h, ih hm]
    · simp [cellSet, cellGet, Nat.lt_asymm hx, Nat.ne_of_gt hx]

theorem cellGet_cellsWrite_above {d : Byte} (m : List Host.Cell) {a x : Nat} (l : List Byte) (hx : x < a) (hd : cellGet d m x ≠ d) :
    cellGet d (cellsWrite d m a l) x = cellGet d m x := by
  induction l generalizing m a with
  | nil => rfl
  | cons b l ih =>
    have hb := cellGet_cellSet_above m b hx hd
    exact (ih _ (Nat.lt_succ_of_lt hx) (hb ▸ hd)).trans hb

/-- A byte written reads back where it is not the default, in a canonical memory or not. -/
theorem cellGet_cellsWrite_of_ne {d : Byte} (m : List Host.Cell) (a i : Nat) (l : List Byte) (hd : l.getD i d ≠ d) :
    cellGet d (cellsWrite d m a l) (a + i) = l.getD i d := by
  induction l generalizing m a i with
  | nil => exact absurd rfl hd
  | cons b l ih =>
    cases i with
    | zero =>
      have hb := cellGet_cellSet_of_ne m a hd
      exact (cellGet_cellsWrite_above _ l (Nat.lt_succ_self a) (hb.symm ▸ hd)).trans hb
    | succ i =>
      rw [show a + (i + 1) = a + 1 + i by omega]
      exact ih _ _ i hd

theorem ofBytes_cellsRead_one (m : List Host.Cell) (a : Nat) : ofBytes (cellsRead 0 m a 1) = (cellGet 0 m a).toNat := by
  simp [cellsRead, ofBytes]

/-- A write of tier 1 leaves every byte beside it. -/
theorem Mem.read_write_beside (m : Mem) (off a : Nat) (bs : List Byte) (h : m.wf = true) (ha : a < off ∨ off + bs.length ≤ a) :
    (m.write 1 off bs).read 1 a 1 = m.read 1 a 1 := by
  rw [Mem.read, Mem.cells_write]
  exact cellsRead_congr 0 _ _ a 1 fun i hi => cellGet_cellsWrite_out 0 _ off _ bs (Mem.wf_cells m 1 h) (by omega)

theorem Mem.write_one_host (m : Mem) (off : Nat) (bs : List Byte) : (m.write 1 off bs).host = m.host := by
  unfold Mem.write
  split <;> rfl

/-! ### Entries of the shard table (R308, R309) -/

theorem State.shdGet_congr {s t : State} (hm : t.mem = s.mem) (hr : t.regs = s.regs) (i k n : Nat) : t.shdGet i k n = s.shdGet i k n := by
  simp only [State.shdGet, State.shdBase, State.fld64, State.fld_congr _ _ hr, hm]

/-- A byte of an entry reads as written where it is not zero. -/
theorem State.shdGet_shdPut (s : State) (i k : Nat) (bs : List Byte) (h : bs.getD k 0 ≠ 0) :
    (s.shdPut i 0 bs).shdGet i k 1 = (bs.getD k 0).toNat := by
  have base : (s.shdPut i 0 bs).shdBase = s.shdBase := rfl
  rw [State.shdGet, base, State.shdPut, Mem.le, Mem.read, Mem.cells_write, Nat.add_zero, ofBytes_cellsRead_one,
    cellGet_cellsWrite_of_ne _ _ k bs h]

/-- The bytes of the entry that LOAD_SHARD writes from the manifest entry `e`: in LOADING, with its context and tier. -/
def loadingEntry (r : ShardRec) (e : List Byte) : List Byte :=
  slice e 0 112 ++ toBytes 1 1 ++ toBytes 1 (r.ctx + 16 * r.tier) ++ List.replicate 14 0

section Entry
variable {r : ShardRec} {e : List Byte} (he : e.length = 128)
include he

theorem loadingEntry_state : (loadingEntry r e).getD 112 0 = 1 := by
  simp [loadingEntry, slice, toBytes, he]

theorem loadingEntry_place : (loadingEntry r e).getD 113 0 = BitVec.ofNat 8 (r.ctx + 16 * r.tier) := by
  simp [loadingEntry, slice, toBytes, he]

end Entry

/-! ### One load in progress -/

section Single
variable {s : State} {l : Load} (hl : s.shd.loads = [l])
include hl

theorem State.modLoad_single (g : Load → Load) : s.modLoad l.id g = { s with shd := { s.shd with loads := [g l] } } := by
  simp [State.modLoad, hl]

theorem State.failLoad_single : s.failLoad l.id = { s with shd := { s.shd with loads := [{ l with failed := true }] } } := by
  simp [State.failLoad, hl]

/-- A load alone is the first of its queue pair. -/
theorem State.loadActive_single : s.loadActive l = true := by
  unfold State.loadActive
  split
  · rfl
  · rename_i q hq
    simp [hl, hq]

theorem pumpLoads_single : pumpLoads s = pumpLoad s l := by simp [pumpLoads, hl]

theorem pumpLoads_failed (h : l.failed = true) : pumpLoads s = s := by simp [pumpLoads_single hl, pumpLoad, h]

theorem State.qpLoad_single {p q key : Nat} (h : l.src = .storage p q key) : s.qpLoad p q = some l := by
  simp [State.qpLoad, hl, Load_qp, LoadSource_qp, h]

/-- READs ask for 1 MiB each, up to the end of the payload. -/
theorem rdmaReads_single (p q key n : Nat) (hle : l.asked ≤ l.len) : ∃ out, rdmaReads p q key l.id n s =
    { s with out := out, shd := { s.shd with loads := [{ l with asked := min l.len (l.asked + n * 0x100000) }] } } := by
  induction n generalizing s l with
  | zero =>
    have stays : min l.len (l.asked + 0 * 0x100000) = l.asked := by omega
    exact ⟨s.out, by rw [rdmaReads, stays, ← hl]⟩
  | succ n ih =>
    have hf : s.shd.loads.find? (fun x => x.id = l.id) = some l := by simp [hl]
    simp only [rdmaReads, hf]
    split
    · have stays : min l.len (l.asked + (n + 1) * 0x100000) = l.asked := by omega
      exact ⟨s.out, by rw [stays, ← hl]⟩
    · generalize hk : min 0x100000 (l.len - l.asked) = k
      have asks := State.modLoad_single (s := s.emit (.rdma p q 0 [l.addr + l.asked, k, key])) hl fun x => { x with asked := x.asked + k }
      obtain ⟨out, e⟩ := ih (congrArg (·.shd.loads) asks) (by dsimp only; omega)
      have next : min l.len (l.asked + k + n * 0x100000) = min l.len (l.asked + (n + 1) * 0x100000) := by omega
      refine ⟨out, e.trans ?_⟩
      rw [asks]
      dsimp only
      rw [next]
      rfl

/-- A load on an unpaused queue pair in RTS fills its sixteen READs. -/
theorem pumpLoads_storage {p q key : Nat} (hsrc : l.src = .storage p q key) (hfail : l.failed = false) (hqp : s.qpState p q = 1)
    (hpause : (s.ethPort p).paused = false) (hle : l.asked ≤ l.len) : ∃ out, pumpLoads s =
    { s with out := out, shd := { s.shd with loads :=
      [{ l with asked := min l.len (l.asked + (16 - ceilDiv (l.asked - l.landed) 0x100000) * 0x100000) }] } } := by
  have pumps : pumpLoads s = rdmaReads p q key l.id (16 - ceilDiv (l.asked - l.landed) 0x100000) s := by
    simp [pumpLoads_single hl, pumpLoad, State.loadActive_single hl, hsrc, hfail, hqp, hpause]
  rw [pumps]
  exact rdmaReads_single hl p q key _ hle

end Single

/-- `t` holds the memories and registers of `s`, whose only load is `l`, and that load but for what it has asked for and whether
it failed. -/
structure State.Asked (s : State) (l : Load) (t : State) : Prop where
  loads : ∃ a b, t.shd.loads = [{ l with asked := a, failed := b }]
  mem : t.mem = s.mem
  regs : t.regs = s.regs

/-- The BULK_READ of a load changes no load, memory or register. -/
theorem State.Asked.newReq {s t : State} {l : Load} {r : FabReq} {id off : Nat} (h : s.Asked l t) (hr : r.use = .load id off) :
    s.Asked l (t.newReq r) := by
  simp only [State.newReq, State.issueReq, kget_kset_same, hr]
  obtain ⟨_, _, _, _, _, _, e⟩ := State.post_frame _ _ _
  rw [e]
  exact ⟨h.loads, h.mem, h.regs⟩

/-- A load alone asks for what it may. -/
theorem pumpLoads_asked {s : State} {l : Load} (hl : s.shd.loads = [l]) (hle : l.asked ≤ l.len) : s.Asked l (pumpLoads s) := by
  have still : s.Asked l s := ⟨⟨l.asked, l.failed, hl⟩, rfl, rfl⟩
  rw [pumpLoads_single hl, pumpLoad]
  split
  · exact still
  · split
    · split
      · rw [State.failLoad_single hl]
        exact ⟨⟨l.asked, true, rfl⟩, rfl, rfl⟩
      · split
        · exact still
        · obtain ⟨out, e⟩ := rdmaReads_single hl _ _ _ _ hle
          rw [e]
          exact ⟨⟨_, l.failed, rfl⟩, rfl, rfl⟩
    · split
      · exact still
      · exact State.Asked.newReq ⟨⟨_, l.failed, congrArg (·.shd.loads) (State.modLoad_single hl _)⟩, rfl, rfl⟩ rfl
    · rw [State.modLoad_single hl]
      exact ⟨⟨l.len, l.failed, rfl⟩, rfl, rfl⟩

end Sys2Proof.Machine
end

section
/-!
O19: LOAD_SHARD and FETCH begin their loads (R308, R309, R314), and READs bring their payload (R306, R311).
-/
namespace Sys2Proof.Machine

/-! ### LOAD_SHARD and FETCH (R308, R309, R314) -/

section Begins
variable {s : State} {o : CmdOrigin}

/-- An engine that takes its command runs it. -/
theorem exec_taken {i : Instr} {op : Nat} (k : State → State) (ht : s.takes o) (hi : exec i s = .next (s.on fun s => s.engine o op k)) :
    exec i s = .next (k s) := by
  obtain ⟨hp, hw, hq⟩ := ht
  rw [exec_running _ hi hp, s.engine_runs o op k hw hq]

variable {r : ShardRec} {e : List Byte} {f : FetchRec} {st : Nat}

theorem loadShard_refused (h : s.shardEarly r = some st) : loadShard o r s = s.complete o 0x40 st := by
  rw [loadShard, h, orElse]

/-- An entry in host memory is asked for. -/
theorem loadShard_asks (h : s.shardEarly r = none) (hhost : r.entryAddr / 2 ^ 63 ≠ 1) : loadShard o r s =
    { s with shd := { s.shd with next := s.shd.next + 1, asks := kset s.shd.asks s.shd.next (o, r) } } := by
  rw [loadShard, h, orElse, if_neg hhost]

/-- An entry in tier 1 is read at once. -/
theorem loadShard_reads (h : s.shardEarly r = none) (htier : r.entryAddr / 2 ^ 63 = 1)
    (hgood : s.mem.poisoned 1 (r.entryAddr % 2 ^ 48) 128 = false) : loadShard o r s =
    shardEntry o r (s.mem.read 1 (r.entryAddr % 2 ^ 48) 128) (s.tread 1 (r.entryAddr % 2 ^ 48) 128) := by
  rw [loadShard, h, orElse, if_pos htier]
  dsimp only
  rw [State.tread_mem, hgood]
  exact if_neg Bool.false_ne_true

theorem shardEntry_refused (h : s.shardRefusal r (bindOf e) = some st) : shardEntry o r e s = s.complete o 0x40 st := by
  rw [shardEntry, h, orElse]

theorem shardEntry_empty (h : s.shardRefusal r (bindOf e) = none) (hz : (bindOf e).length = 0) :
    shardEntry o r e s = s.complete o 0x40 St.done := by
  rw [shardEntry, h, orElse, if_pos hz]

theorem shardEntry_accepts (h : s.shardRefusal r (bindOf e) = none) (hnz : (bindOf e).length ≠ 0) :
    shardEntry o r e s = acceptShard o r e s := by
  rw [shardEntry, h, orElse, if_neg hnz]

theorem fetch_refused (h : s.fetchRefusal f = some st) : fetch o f s = s.complete o 0x42 st := by
  rw [fetch, h, orElse]

theorem fetch_empty (h : s.fetchRefusal f = none) (hz : f.length = 0) : fetch o f s = s.complete o 0x42 St.done := by
  rw [fetch, h, orElse, if_pos hz]

end Begins

/-- A LOAD_SHARD that its record passes names tier 1 or tier 2. -/
theorem State.tier_of_shardEarly {s : State} {r : ShardRec} (h : s.shardEarly r = none) : r.tier = 1 ∨ r.tier = 2 := by
  have hf := firstOf_eq_none h (_, St.format) (List.mem_cons_of_mem _ (List.mem_cons_self ..))
  simp only [Bool.or_eq_false_iff, Bool.not_eq_false', Bool.or_eq_true, decide_eq_true_eq] at hf
  exact hf.1.2

/-- A LOAD_SHARD that its entry passes names a context. -/
theorem State.ctx_of_shardRefusal {s : State} {r : ShardRec} {b : ShardBind} (h : s.shardRefusal r b = none) : r.ctx < 16 := by
  have hf := firstOf_eq_none h (_, St.range) (List.mem_cons_of_mem _ (List.mem_cons_self ..))
  simp only [Bool.or_eq_false_iff, decide_eq_false_iff_not] at hf
  omega

/-- The load an accepted LOAD_SHARD begins, into entry `i` of the shard table. -/
def shardLoad (o : CmdOrigin) (r : ShardRec) (b : ShardBind) (i : Nat) (s : State) : Load :=
  ⟨s.shd.next, o, 0x40, r.ctx, r.tier, s.shardDst r.ctx r.tier b.offset, b.length, i, 0, r.source, r.srcAddr, decide (b.format = 2), 0, 0, [], [],
    false, 0⟩

/-- The load an accepted FETCH begins. -/
def fetchLoad (o : CmdOrigin) (r : FetchRec) (s : State) : Load :=
  ⟨s.shd.next, o, 0x42, 16, 1, r.dst, r.length, 0, r.digestAddr, r.source, r.srcAddr, true, 0, 0, [], [], false, 0⟩

/-- A command's load begins: it is in the list, the command settled, its first reads asked for. -/
def beginLoad (o : CmdOrigin) (op : Nat) (l : Load) (s : State) : State :=
  pumpLoads (({ s with shd := { s.shd with next := s.shd.next + 1, loads := s.shd.loads ++ [l] } } : State).settle o op)

theorem beginLoad_asked {s : State} (o : CmdOrigin) (op : Nat) {l : Load} (h : s.shd.loads = []) (hl : l.asked ≤ l.len) :
    s.Asked l (beginLoad o op l s) := by
  have a := pumpLoads_asked (s := ({ s with shd := { s.shd with next := s.shd.next + 1, loads := s.shd.loads ++ [l] } } : State).settle o op)
    (l := l) (by simp [h]) hl
  exact ⟨a.loads, a.mem.trans (State.settle_mem _ _ _), a.regs.trans (State.settle_regs _ _ _)⟩

theorem fetch_begins {s : State} {o : CmdOrigin} {r : FetchRec} (h : s.fetchRefusal r = none) (hnz : r.length ≠ 0) :
    fetch o r s = beginLoad o 0x42 (fetchLoad o r s) s := by
  rw [fetch, h, orElse, if_neg hnz]
  rfl

/-- An accepted LOAD_SHARD writes its entry, in LOADING, and begins its load. -/
theorem acceptShard_eq (o : CmdOrigin) (r : ShardRec) (e : List Byte) (s : State) : ∃ (i : Nat) (u : State), u.shd = s.shd ∧
    acceptShard o r e s = beginLoad o 0x40 (shardLoad o r (bindOf e) i (u.shdPut i 0 (loadingEntry r e))) (u.shdPut i 0 (loadingEntry r e)) :=
  ⟨_, _, shdPuts_keeps State.shd (fun _ _ => rfl) _ s, rfl⟩

theorem acceptShard_spec {o : CmdOrigin} {r : ShardRec} {e : List Byte} {s : State} (h : s.shd.loads = []) (he : e.length = 128)
    (hc : r.ctx < 16) (ht : r.tier = 1 ∨ r.tier = 2) : ∃ l, (acceptShard o r e s).shd.loads = [l] ∧ l.org = o ∧ l.op = 0x40 ∧
      l.ctx = r.ctx ∧ l.tier = r.tier ∧ l.len = (bindOf e).length ∧ l.landed = 0 ∧ (acceptShard o r e s).shdGet l.entry 112 1 = 1 ∧
      (acceptShard o r e s).shdGet l.entry 113 1 = (r.ctx + 16 * r.tier) % 256 := by
  obtain ⟨i, u, hshd, accepts⟩ := acceptShard_eq o r e s
  obtain ⟨⟨a, b, hload⟩, hmem, hregs⟩ := beginLoad_asked (s := u.shdPut i 0 (loadingEntry r e)) o 0x40
    (l := shardLoad o r (bindOf e) i (u.shdPut i 0 (loadingEntry r e))) (hshd ▸ h) (Nat.zero_le _)
  have place : ((loadingEntry r e).getD 113 0).toNat = (r.ctx + 16 * r.tier) % 256 :=
    (congrArg BitVec.toNat (loadingEntry_place he)).trans (BitVec.toNat_ofNat _ _)
  rw [accepts]
  refine ⟨_, hload, rfl, rfl, rfl, rfl, rfl, rfl, (State.shdGet_congr hmem hregs _ _ _).trans ?_,
    (State.shdGet_congr hmem hregs _ _ _).trans ((u.shdGet_shdPut i 113 _ fun hz => ?_).trans place)⟩
  · have state := loadingEntry_state (r := r) he
    exact (u.shdGet_shdPut i 112 _ (by rw [state]; decide)).trans (congrArg BitVec.toNat state)
  · have zero : 0 = (r.ctx + 16 * r.tier) % 256 := (congrArg BitVec.toNat hz).symm.trans place
    omega

/-! ### What a READ brings, and what it leaves out (R306, R311) -/

/-- A load after bytes of its payload landed. -/
def Load.land (l : Load) (bs : List Byte) : Load := { l with landed := l.landed + bs.length, buf := l.buf ++ bs, retry := 0 }

section Transport
variable {s : State} {l : Load} (hl : s.shd.loads = [l])
include hl

theorem State.landed_single (bs : List Byte) : (s.landed l.id bs).shd.loads = [l.land bs] ∧ (s.landed l.id bs).mem = s.mem := by
  unfold State.landed
  dsimp only
  split <;> simp [hl, Load.land]

/-- Bytes that were asked for land whole, in order. -/
theorem landBytes_single {bs : List Byte} (hn : bs.length ≤ l.asked - l.landed) : (landBytes l bs s).shd.loads = [l.land bs] ∧
    (landBytes l bs s).mem = s.mem.write l.tier (l.dst + l.landed) bs := by
  have hw : (s.twrite l.tier (l.dst + l.landed) bs).shd.loads = [l] := by simpa using hl
  obtain ⟨hland, hmem⟩ := State.landed_single hw bs
  rw [landBytes, List.take_of_length_le hn]
  exact ⟨hland, hmem.trans (s.twrite_mem _ _ _ _)⟩

variable {p q key : Nat} (hsrc : l.src = .storage p q key)
include hsrc

/-- A good response lands its bytes and counts them. -/
theorem rdmaResponse_lands {r : RdmaResp} (hp : r.port = p) (hq : r.qp = q) (hcrc : r.icrcOk = true) (hnak : r.nak = false)
    (hce : r.ecnCe = false) (hqp : s.qpState p q = 1) (hfail : l.failed = false) (hask : l.landed < l.asked) :
    rdmaResponse r s = pumpLoads (landBytes l r.data (s.bump (C.ETH_P_RX_PAYLOAD + 0x10000 * p) (r.data.length / 256))) := by
  subst hp hq
  simp [rdmaResponse, State.qpLoad_single hl hsrc, hcrc, hnak, hce, hqp, hfail, Nat.not_le.2 hask]

variable (hfail : l.failed = false) (hask : l.landed < l.asked)
include hfail hask

/-- READs not answered are asked for again while retries are left. -/
theorem rdmaAckTimeout_retries (hr : l.retry < bits (s.rd (qpOff p q 0)) 13 11) : rdmaAckTimeout p q s =
    pumpLoads { s with shd := { s.shd with loads := [{ l with asked := l.landed, retry := l.retry + 1 }] } } := by
  simp [rdmaAckTimeout, State.qpLoad_single hl hsrc, hfail, Nat.not_le.2 hask, hr, State.modLoad_single hl]

/-- After the last retry the load fails and its queue pair enters ERROR. -/
theorem rdmaAckTimeout_fails (hr : bits (s.rd (qpOff p q 0)) 13 11 ≤ l.retry) : rdmaAckTimeout p q s =
    ({ s with shd := { s.shd with loads := [{ l with failed := true }] } } : State).setQpState p q 2 := by
  have fails : rdmaAckTimeout p q s = transportFail p q l s := by
    simp [rdmaAckTimeout, State.qpLoad_single hl hsrc, hfail, Nat.not_le.2 hask, Nat.not_lt.2 hr]
  rw [fails, transportFail, State.failLoad_single hl]
  exact pumpLoads_failed rfl rfl

end Transport

theorem State.qpState_setQpState (s : State) (p q st : Nat) : (s.setQpState p q st).qpState p q = st % 4 := by
  rw [State.qpState, State.setQpState, State.rd_wr_same, bits_mod_word _ 1 0 (by decide) (by decide)]
  exact bits_setBits_same _ 1 0 st (by decide)

/-- A chunk of a native load whose bytes have landed is hashed. -/
theorem chunkHashDone_single {s : State} {l : Load} {n : Nat} (hl : s.shd.loads = [l]) (hop : l.op = 0x40) (hnat : l.native = true)
    (hn : n = min chunkBytes (l.len - chunkBytes * l.sums.length)) (h0 : n ≠ 0) (hb : n ≤ l.buf.length) :
    chunkHashDone l.id s = { s with shd := { s.shd with
      loads := [{ l with sums := l.sums ++ [Config.sha384 (l.buf.take n)], buf := l.buf.drop n }] } } := by
  have hf : s.shd.loads.find? (fun x => x.id = l.id) = some l := by simp [hl]
  simp only [chunkHashDone, hf, ← hn]
  rw [if_pos ⟨hop, hnat, h0, hb⟩, State.modLoad_single hl]

/-! ### The statement -/

/-- Settles O19: loads begin as their records and entries ask, and their payload lands in order or fails. -/
theorem shardLoadsBeginAndLand : Obligations.ShardLoadsBeginAndLand := by
  unfold Obligations.ShardLoadsBeginAndLand
  refine ⟨fun o s ht => ?_, fun s l p q key hp hw hl hsrc hfail hqp hpause hlanded hasked => ⟨?_, ?_, ?_, ?_⟩⟩
  · have loads := fun r : ShardRec => exec_taken (i := .loadShard o r) (loadShard o r) ht rfl
    have fetches := fun r : FetchRec => exec_taken (i := .fetch o r) (fetch o r) ht rfl
    refine ⟨fun r st h => (loads r).trans (congrArg _ (loadShard_refused h)),
      fun r h hhost => (loads r).trans (congrArg _ (loadShard_asks h (by omega))), fun r hr htier hgood => ?_,
      fun r st h => (fetches r).trans (congrArg _ (fetch_refused h)),
      fun r h hz => (fetches r).trans (congrArg _ (fetch_empty h hz)), fun r h hnz hnone => ?_⟩
    · intro e u
      have reads : exec (.loadShard o r) s = .next (shardEntry o r e u) := (loads r).trans (congrArg _ (loadShard_reads hr htier hgood))
      refine ⟨fun st h => reads.trans (congrArg _ (shardEntry_refused h)),
        fun h hz => reads.trans (congrArg _ (shardEntry_empty h hz)), fun h hnz hnone => ?_⟩
      obtain ⟨l, spec⟩ := acceptShard_spec (o := o) (r := r) (e := e) (s := u) ((congrArg Shd.loads (s.tread_shd _ _ _)).trans hnone)
        (cellsRead_length ..) (State.ctx_of_shardRefusal h) (State.tier_of_shardEarly hr)
      exact ⟨_, l, reads.trans (congrArg _ (shardEntry_accepts h hnz)), spec⟩
    · obtain ⟨⟨a, b, hload⟩, hmem, -⟩ := beginLoad_asked o 0x42 (l := fetchLoad o r s) hnone (Nat.zero_le _)
      exact ⟨_, _, (fetches r).trans (congrArg _ (fetch_begins h hnz)), hload, rfl, rfl, rfl, rfl, rfl, rfl, congrArg Mem.t1 hmem⟩
  · intro r hrp hrq hcrc hnak hce hask hn htier
    obtain ⟨hland, hmem⟩ := landBytes_single (s := s.bump (C.ETH_P_RX_PAYLOAD + 0x10000 * p) (r.data.length / 256)) (by simpa using hl) hn
    obtain ⟨⟨a, b, hload⟩, hmem', -⟩ := pumpLoads_asked hland hasked
    have written := hmem'.trans hmem
    rw [State.bump_mem, htier] at written
    refine ⟨_, _, (exec_running _ rfl hp).trans (congrArg _ (rdmaResponse_lands hl hsrc hrp hrq hcrc hnak hce hqp hfail hask)), hload, rfl,
      ?_, fun x hx => ?_, ?_, ?_⟩
    · rw [written, Mem.read_write _ _ _ _ _ hw]
    · rw [written, Mem.read_write_beside _ _ _ _ hw hx]
    · rw [written, (Mem.write_one_others _ _ _).2]
    · rw [written, Mem.write_one_host]
  · intro hask hr
    obtain ⟨out, pumps⟩ := pumpLoads_storage
      (s := { s with shd := { s.shd with loads := [{ l with asked := l.landed, retry := l.retry + 1 }] } }) rfl hsrc hfail hqp hpause
      (Nat.le_trans hlanded hasked)
    have sixteen : 16 - ceilDiv (l.landed - l.landed) 0x100000 = 16 := by simp [ceilDiv]
    refine ⟨_, _, (exec_running _ rfl hp).trans (congrArg _ ((rdmaAckTimeout_retries hl hsrc hfail hask hr).trans pumps)), rfl, rfl, rfl,
      ?_, hfail, rfl, rfl⟩
    dsimp only
    rw [sixteen]
  · intro hask hr
    exact ⟨_, _, (exec_running _ rfl hp).trans (congrArg _ (rdmaAckTimeout_fails hl hsrc hfail hask hr)), rfl, rfl,
      State.qpState_setQpState _ p q 2, rfl⟩
  · intro n hop hnat hn h0 hb
    exact (exec_running _ rfl hp).trans (congrArg _ (chunkHashDone_single hl hop hnat hn h0 hb))

end Sys2Proof.Machine
end
